-- ==== Sys2Proof/Word.lean ====
section
/-! DEFINITION. The word types of the device: registers are 32 bits wide (R14). -/

namespace Sys2Proof

/-- A register or a 32-bit word of memory (R14). -/
abbrev Word := BitVec 32

/-- One byte. -/
abbrev Byte := BitVec 8

/-- The 64-bit Local Timebase value (R55). -/
abbrev Ticks := BitVec 64

end Sys2Proof
end

