-- ==== Sys2Proof/Syntax.lean ====
section
/-! DEFINITION. The commands of the device: one constructor of `Instr` per row of spec/opcode_table.json. Operands name
the unit (axis, channel, port, entry) and carry what the event brings from outside the device: the value written and
the initiator that writes it, a converted code, a received word or frame, a test's result. -/

namespace Sys2Proof

/-- Who makes an access: the initiators of R393, and the two on-chip writers that use dedicated paths (EVS actions and
the output release of engine `n`). -/
inductive Initiator where
  | px0 | px1 | px2 | pxs | sis | fcr | csq | cea | cte | jrn | trc | eth0 | eth1 | can | fls | jtag
  | evs
  | engine (n : Fin 5)
  deriving DecidableEq, Repr

/-- The shadowed PWM registers: values of one period (R220, R221, R224) and the settings of R530. -/
inductive PwmShadow where
  | cfg (leg : Fin 32) | duty (leg : Fin 32) | cmp0 (leg : Fin 32) | cmp1 (leg : Fin 32)
  | dt (leg : Fin 32) | minpw (leg : Fin 32) | boot (leg : Fin 32)
  | groupCfg (group : Fin 8) | period (group : Fin 8) | lead (group : Fin 8) | ss (group : Fin 8)
  deriving DecidableEq, Repr

/-- What acts on a leg's trip input (R228): a fast comparator, a TRIP pin, or a report of the leg's own drivers. -/
inductive TripSource where
  | fcmp (k : Fin 32) | pin (k : Fin 8) | driver
  deriving DecidableEq, Repr

/-- Which of the two safe-state commanders of GLK gives a command (R261). -/
inductive SafeOrigin where
  | sis | psp
  deriving DecidableEq, Repr

/-- The kinds of FCR self fault (R349). -/
inductive SelfFault where
  | parity | copy | logic
  deriving DecidableEq, Repr

/-- Access width on the interconnect. -/
inductive Width where
  | w8 | w16 | w32
  deriving DecidableEq, Repr

/-- The network sender of a datagram: IPv4 address, UDP port, MAC address. -/
structure Sender where
  ip : Word
  port : BitVec 16
  mac : BitVec 48
  deriving DecidableEq, Repr

/-- How a CAN transmission attempt ends (R477). -/
inductive CanResult where
  | sent | arbitrationLost | error
  deriving DecidableEq, Repr

/-- A CAN frame on the bus (R471). -/
structure CanFrame where
  ide : Bool
  id : BitVec 29
  fdf : Bool
  brs : Bool
  rtr : Bool
  esi : Bool
  dlc : BitVec 4
  data : List Byte
  deriving DecidableEq, Repr

/-- A unit of the logic self-test (R490): an engine or a processor pair. -/
inductive TestUnit where
  | engine (n : Fin 5) | pair (n : Fin 4)
  deriving DecidableEq, Repr

/-- The result of one copy's key test (R498). -/
inductive CopyResult where
  | pass | fail | incomplete
  deriving DecidableEq, Repr

/-- The commands, in the order of spec/opcode_table.json. -/
inductive Instr where
  /-- POWER_ON_RESET_RELEASE (R37): Power-on reset is released once every supply domain is in range (or PORST_N rises), and start-up begins. -/
  | powerOnResetRelease (porst : Bool) (domain : Fin 6) (testMode : Bool)
  /-- SIS_ROM_START (R37): SIS executes its first ROM instruction on its own oscillator. -/
  | sisRomStart
  /-- STRAP_SAMPLING (R309): SIS samples SCFG0-SCFG7 eight times within the sampling window and decodes the safety configuration code. -/
  | strapSampling (readings : List (List Nat))
  /-- FORMER_CHECK_DONE (R31): CFG finishes checking both Former copies and selects one, or enters a Configuration Hold state. -/
  | formerCheckDone
  /-- STRUCTURE_PROGRAMMED (R37): CFG finishes programming the structure and maps, the overlay is replayed, the seal is checked, and the processor pairs are released. -/
  | structureProgrammed (former : List (Nat × Word))
  /-- FIRMWARE_VERIFIED (R37): The boot ROM finishes verifying the firmware from the BOOT_SRC source and enters it. -/
  | firmwareVerified
  /-- WARM_RESET (R39): A warm reset is released and repeats start-up steps 4-7, keeping SIS, the always-on domain and the retention SRAM. -/
  | warmReset (pin : Bool)
  /-- SYS_RST_CTRL_WARM (R524): A write to SYS_RST_CTRL with the correct KEY and WARM requests a warm reset; a wrong KEY gets an error response. -/
  | sysRstCtrlWarm (by_ : Initiator) (value : Word)
  /-- CFG_UPD_CTRL_WRITE (R50): A write to CFG_UPD_CTRL unlocks the copy region that is not in use, or is ignored and flags a violation. -/
  | cfgUpdCtrlWrite (by_ : Initiator) (value : Word)
  /-- CFG_RES_QUERY_WRITE (R50): A write to CFG_RES_QUERY looks up a resource owner, or is refused when the index is out of range. -/
  | cfgResQueryWrite (by_ : Initiator) (value : Word)
  /-- CFG_DRVFEAT_WRITE (R52): A write to CFG_DRVFEAT stores accepted bits and returns a FAILED negotiation to OPEN. -/
  | cfgDrvfeatWrite (by_ : Initiator) (k : Fin 8) (value : Word)
  /-- FEATURE_COMMIT (R43): Writing CFG_FEAT_COMMIT.GO commits the accepted feature bits, or fails with UNOFFERED or ALREADY. -/
  | featureCommit (by_ : Initiator) (value : Word)
  /-- DEBUG_TOKEN (R46): A complete 160-byte token written over JTAG opens debug with its permissions, or is refused and journalled. -/
  | debugToken (token : List Byte)
  /-- DEBUG_CLOSE (R49): Writing CFG_DBG_CLOSE.CLOSE closes debug access until the next reset. -/
  | debugClose (by_ : Initiator) (value : Word)
  /-- ATB_LTB_LO_READ (R56): A read of ATB_LTB_LO latches LTB bits 63:32 for the reading initiator. -/
  | atbLtbLoRead (by_ : Initiator)
  /-- ATB_ANG_LO_READ (R81): A read of ATB_AXn_ANG_LO latches angle bits 39:32 for the reading initiator. -/
  | atbAngLoRead (by_ : Initiator) (axis : Fin 4)
  /-- ANGLE_INTERPOLATION (R57): On each LTB tick every axis ATB adds its speed to its 56-bit accumulator and recomputes the electrical angle. -/
  | angleInterpolation
  /-- ATB_POSITION_UPDATE (R59): A PFC position update sets the accumulator and filters the speed estimate. -/
  | atbPositionUpdate (axis : Fin 4) (theta : BitVec 40) (tk : Nat)
  /-- ATB_SETPOS (R60): A write to ATB_AXn_SETPOS sets the angle fraction at the next tick, or is refused while SRC is not CE. -/
  | atbSetpos (by_ : Initiator) (axis : Fin 4) (value : Word)
  /-- ATB_SETSPD (R60): A write to ATB_AXn_SETSPD sets the speed at the next tick, or is refused while SRC is not CE. -/
  | atbSetspd (by_ : Initiator) (axis : Fin 4) (value : Word)
  /-- ATB_STALE_TIMEOUT (R61): No position update arrives for TIMEOUT ticks; STALE is set and ATB_STALE is raised. -/
  | atbStaleTimeout (axis : Fin 4)
  /-- ATB_CMP_MISMATCH (R62): The two ATB copies disagree, and ATB_CMP is raised. -/
  | atbCmpMismatch (detail : Fin 5)
  /-- EVS_CMP_MISMATCH (R62): The two EVS copies disagree, and EVS_CMP is raised. -/
  | evsCmpMismatch
  /-- EVS_ARM (R64): A write of word 2 with ARM = 1 arms an entry after the arming checks, or records an ARM_ERR. -/
  | evsArm (by_ : Initiator) (entry : Fin 4096) (value : Word)
  /-- EVS_DISARM (R65): A write of word 2 with ARM = 0 disarms an entry and cancels its remaining repeats. -/
  | evsDisarm (by_ : Initiator) (entry : Fin 4096) (value : Word)
  /-- EVS_ENTRY_WORD_WRITE (R65): A write to word 0, 1 or 3 of an entry is stored, or is discarded with WR_ARMED while the entry is armed. -/
  | evsEntryWordWrite (by_ : Initiator) (entry : Fin 4096) (word : Fin 4) (value : Word)
  /-- EVS_TRIGGER (R68): The trigger instant of a DELAY, TIME or CARRIER entry is reached; the entry becomes due and its next target is set. -/
  | evsTrigger (entry : Fin 4096)
  /-- EVS_TABLE_SCAN (R77): Every 25 ns the scan merges one armed entry from the table into the window. -/
  | evsTableScan
  /-- EVS_DISPATCH (R78): On an action clock a due window entry moves into the dispatch queue. -/
  | evsDispatch
  /-- EVS_ACTION_DELIVERY (R72): The dispatch queue delivers an entry's DATA to its schedulable register on the event bus. -/
  | evsActionDelivery
  /-- EVS_ENABLE (R83): EVS_CTRL.EN returns to 1, and triggers that passed while EN was 0 fire late. -/
  | evsEnable (by_ : Initiator) (value : Word)
  /-- EVS_LATELOG_POP (R85): A read of EVS_LATELOG1 pops the oldest late record. -/
  | evsLatelogPop (by_ : Initiator)
  /-- PFC_LINE_TRANSITION (R88): A filtered position line changes level; the Carding filter refuses the previous transition if it is within MINGAP. -/
  | pfcLineTransition (ch : Fin 8) (line : Fin 3) (level : Bool)
  /-- PFC_TRANSITION_ACCEPTED (R88): A transition is passed on MINGAP ticks after it appeared at the ball and acts on the channel. -/
  | pfcTransitionAccepted (ch : Fin 8)
  /-- PFC_CARD_DECAY (R90): Every 2^(k+9) ticks the Carding count decrements. -/
  | pfcCardDecay (ch : Fin 8)
  /-- PFC_REQUEST (R101): A write to PFC_PFn_REQ latches a count, starts a serial frame, or re-delivers a resolver angle. -/
  | pfcRequest (by_ : Initiator) (ch : Fin 8) (value : Word)
  /-- PFC_FRAME_PERIOD (R101): The frame period PER expires and a serial frame starts, or the start is refused as busy. -/
  | pfcFramePeriod (ch : Fin 8)
  /-- PFC_FRAME_DECODE (R99): A serial frame is complete; it is decoded and checked, and a measurement is delivered. -/
  | pfcFrameDecode (ch : Fin 8) (frame : BitVec 64) (lineDelay : Nat) (idleHigh : Bool)
  /-- PFC_SER_TIMEOUT (R100): A serial frame times out (no Start, excess line delay, or data line not idle) and raises PFC_SER_TO. -/
  | pfcSerTimeout (ch : Fin 8) (lineDelay : Nat)
  /-- EXC_ZERO_CROSSING (R102): An excitation sine passes a positive-going zero crossing; T0 updates and a pending PER takes effect. -/
  | excZeroCrossing (exc : Fin 4)
  /-- PFC_OBS_WRITE (R106): The engine writes the observer angle and validity into PFC_AXa_OBS for the vote. -/
  | pfcObsWrite (by_ : Initiator) (axis : Fin 4) (value : Word)
  /-- PFC_SOURCE_TIMEOUT (R106): A vote source has delivered nothing within the timeout and becomes invalid. -/
  | pfcSourceTimeout (axis : Fin 4) (source : Fin 3)
  /-- PFC_VOTE_READMIT (R109): A write to PFC_AXa_VOTE_READMIT returns an excluded sensor to the vote. -/
  | pfcVoteReadmit (by_ : Initiator) (axis : Fin 4) (value : Word)
  /-- PFC_CNTCLR (R112): A write to PFC_PFn_CNTCLR clears the selected counters. -/
  | pfcCntclr (by_ : Initiator) (ch : Fin 8) (value : Word)
  /-- EEM_OUTPUT_STEP (R110): After GAP ticks the emulation output steps one count toward its target. -/
  | eemOutputStep (em : Fin 4)
  /-- EEM_ENABLE (R110): EN is set on an emulation output; the output count is set to the target, or restarts after OVR. -/
  | eemEnable (by_ : Initiator) (em : Fin 4) (value : Word)
  /-- ADS_START (R122): A write to ADS_Pp_START queues a conversion request, or is refused. -/
  | adsStart (by_ : Initiator) (pair : Fin 8) (value : Word)
  /-- ADS_ACQUISITION_START (R124): A free half takes the next request in priority order and begins acquisition. -/
  | adsAcquisitionStart (pair : Fin 8) (half : Bool)
  /-- ADS_CONVERSION_DONE (R126): A conversion completes; the result is calibrated and written to the result register and the routed CE input. -/
  | adsConversionDone (pair : Fin 8) (half : Bool) (code : BitVec 14)
  /-- ADS_REF_READY (R120): The reference settling time elapses with the monitor in range, and REF_RDY sets. -/
  | adsRefReady (pair : Fin 8)
  /-- ADS_REF_EXCURSION (R120): The reference monitor leaves its range; REF_RDY clears and ADS_REF is raised. -/
  | adsRefExcursion (pair : Fin 8)
  /-- ADS_CAL_REQUEST (R128): A write to ADS_Pp_CAL.REQ requests calibration, merging with one that is pending. -/
  | adsCalRequest (by_ : Initiator) (pair : Fin 8) (value : Word)
  /-- ADS_CAL_START (R128): Calibration starts once the injected queue is empty. -/
  | adsCalStart (pair : Fin 8)
  /-- ADS_CAL_HALF_DONE (R130): Calibration of one half completes and its new coefficients take effect between conversions. -/
  | adsCalHalfDone (pair : Fin 8) (coef : Word)
  /-- ADS_CAL_LATE (R130): No calibration of a half has completed for 4 s; LATE is set and ADS_CAL_LATE is raised. -/
  | adsCalLate (pair : Fin 8) (half : Bool)
  /-- ADS_RES_READ (R127): A read of ADS_AINnn_RES latches the timestamp for the reading initiator. -/
  | adsResRead (by_ : Initiator) (ain : Fin 64)
  /-- SDM_MAIN_OUTPUT (R132): The main decimator emits an output every MOSR modulator clocks. -/
  | sdmMainOutput (ch : Fin 24) (bits : List Bool) (ts : Nat)
  /-- SDM_WINDOW_OPEN (R133): A write to SDM_SDnn_WIN opens a capture, optionally rephasing, or is refused as busy. -/
  | sdmWindowOpen (by_ : Initiator) (ch : Fin 24) (value : Word)
  /-- SDM_RES_READ (R147): A read of SDM_SDnn_RES latches the timestamp for the reading initiator. -/
  | sdmResRead (by_ : Initiator) (ch : Fin 24)
  /-- SDM_CLOCK_LOSS (R134): No clock edge or transition for 4 bit periods; CLK_LOSS is set and the channel becomes invalid. -/
  | sdmClockLoss (ch : Fin 24)
  /-- SDM_STUCK_BITS (R134): 64 identical consecutive bits set STUCK and invalidate the channel. -/
  | sdmStuckBits (ch : Fin 24)
  /-- SDM_MANCHESTER_ERROR (R134): A Manchester bit period without a mid-bit transition sets MAN_ERR and invalidates the channel. -/
  | sdmManchesterError (ch : Fin 24)
  /-- SDM_VALID_RESTORE (R134): The fault condition has been absent for 64 clocks and the channel becomes valid again. -/
  | sdmValidRestore (ch : Fin 24)
  /-- FCMP_ASSERT (R135): A comparator input stays outside its window past the filter; the output asserts, TRIP is set and FCMP_TRIP is raised. -/
  | fcmpAssert (cmp : Fin 32) (input : BitVec 16) (lasting : Nat)
  /-- FCMP_DEASSERT (R135): A comparator input returns inside its window and the output deasserts. -/
  | fcmpDeassert (cmp : Fin 32) (input : BitVec 16)
  /-- FCMP_SELF_TEST (R137): A write to FCMP_CMPkk_TEST starts a comparator self-test, or records TEST_SKIP. -/
  | fcmpSelfTest (by_ : Initiator) (cmp : Fin 32) (value : Word)
  /-- FCMP_TEST_RESULT (R137): The self-test ends with TEST_PASS or TEST_FAIL, and the output hold ends. -/
  | fcmpTestResult (cmp : Fin 32) (asserted : Bool)
  /-- RS_PERIOD_END (R140): A carrier period ends without a reconstruction; the last values are held and NOREC or NRLIM is set. -/
  | rsPeriodEnd (axis : Fin 4)
  /-- MADC_SAMPLE (R141): A SIS monitor converter completes a scan sample of a MAIN input. -/
  | madcSample (main : Fin 8) (code : BitVec 12)
  /-- CE_SAMPLE_START (R165): A write to CEA_AXa_START starts a sample on the serving engine, ending any previous sample. -/
  | ceSampleStart (by_ : Initiator) (axis : Fin 4) (value : Word)
  /-- CE_EXECUTION_DONE (R165): The last instance completes; the flow signature is checked, state is committed and the staged writes are released. -/
  | ceExecutionDone (engine : Fin 5) (cycles : Nat) (flowsig : Word)
  /-- CE_RELEASE_COMPLETE (R165): The sample's last write is delivered and the sample completes. -/
  | ceReleaseComplete (engine : Fin 5)
  /-- FR_ASC_HOLD_END (R202): TASC elapses, and SIS opens the freewheel window with every switch of the axis off. -/
  | frAscHoldEnd (axis : Fin 4)
  /-- FR_WINDOW_END (R202): WIN ends without lock; SIS reapplies ASC, sets FR_FAIL and raises CEA_FLYRES_FAIL. -/
  | frWindowEnd (axis : Fin 4)
  /-- CE_DEADLINE (R166): A sample reaches its DEADLINE without completing and is abandoned. -/
  | ceDeadline (axis : Fin 4)
  /-- CE_CHECKPOINT_ARRIVE (R170): A whole checkpoint with a good CRC arrives in the spare, which switches buffers. -/
  | ceCheckpointArrive (axis : Fin 4) (crcGood : Bool)
  /-- CE_RESIDUE_ERROR (R169): A mod-3 residue check fails in an engine, and CEA_RESIDUE is raised. -/
  | ceResidueError (engine : Fin 5)
  /-- CE_HANG_TIMEOUT (R169): No instance completes for 2,000 ticks during a sample; CEA_HANG is raised. -/
  | ceHangTimeout (engine : Fin 5)
  /-- CE_ECC_ERROR (R169): An uncorrectable engine memory error during a sample raises CEA_ECC. -/
  | ceEccError (engine : Fin 5)
  /-- CE_TAKEOVER_SELECTED (R172): The spare has selected the active variant and the checkpoint in force, and SIS issues the release. -/
  | ceTakeoverSelected (axis : Fin 4)
  /-- CE_OUT_OF_CYCLE_START (R354): Once GLK has accepted the release, the spare runs an out-of-cycle sample from the present input bank. -/
  | ceOutOfCycleStart (axis : Fin 4)
  /-- CE_HANDOVER_REQUEST (R171): A write to CEA_HANDOVER requests a planned handover to the spare, or is refused. -/
  | ceHandoverRequest (by_ : Initiator) (value : Word)
  /-- CE_READMIT (R173): A write to CEA_READMIT returns a tested engine as the spare. -/
  | ceReadmit (by_ : Initiator) (value : Word)
  /-- CE_FLAG_CLEAR (R164): A write to CEA_CEn_FLAGCLR clears instance SAT and OVF flags. -/
  | ceFlagClear (by_ : Initiator) (engine : Fin 5) (value : Word)
  /-- PWM_STAGE_COPY (R220): At L - 16 each leg copies its shadows into a staged copy and computes the period's edges. -/
  | pwmStageCopy (group : Fin 8)
  /-- PWM_LOAD_INSTANT (R220): At the Load Instant the staged values become live and the period's edges go to GLK. -/
  | pwmLoadInstant (group : Fin 8)
  /-- PWM_PERIOD_START (R214): A carrier period starts; a stopping group or leg issues its OFF edges there. -/
  | pwmPeriodStart (group : Fin 8)
  /-- PWM_SHADOW_WRITE (R221): A value written to a PWM shadow register is scheduled for a Load Instant, setting LATE_UPD inside the lock window. -/
  | pwmShadowWrite (by_ : Initiator) (reg : PwmShadow) (value : Word)
  /-- PWM_TRIP (R229): A selected trip source acts; OFF_NOW is sent for both switches and the leg enters TRIPPED. -/
  | pwmTrip (leg : Fin 32) (source : TripSource)
  /-- PWM_BLANK_END (R228): A leg's blanking ends, and a source still asserted or a held driver report acts. -/
  | pwmBlankEnd (leg : Fin 32)
  /-- PWM_LATCH_CLEAR (R231): Writing 1 to LATCH clears it in HIZ or with the group stopped, and is refused otherwise. -/
  | pwmLatchClear (by_ : Initiator) (leg : Fin 32) (value : Word)
  /-- PWM_CMP_MISMATCH (R350): The two PWM copies disagree; CMP is set and PWM_CMP is raised. -/
  | pwmCmpMismatch
  /-- GLK_WORD_SCHEDULE (R258): At the end of a word the port scheduler picks the next downlink word by priority. -/
  | glkWordSchedule (port : Fin 64)
  /-- NOP (R244): A NOP downlink word keeps the link and sequence alive. -/
  | nop (port : Fin 64) (seq : BitVec 4)
  /-- EDGE_ON (R257): The driver checks an EDGE_ON word and holds it or refuses it. -/
  | edgeOn (port : Fin 64) (seq : BitVec 4) (time : BitVec 24) (linkTime : BitVec 24)
  /-- EDGE_OFF (R257): The driver checks an EDGE_OFF word and holds it or refuses it. -/
  | edgeOff (port : Fin 64) (seq : BitVec 4) (time : BitVec 24) (linkTime : BitVec 24)
  /-- OFF_NOW (R260): The driver turns its switch off at once and discards every held edge. -/
  | offNow (port : Fin 64) (seq : BitVec 4)
  /-- TIME_SYNC (R251): The driver measures its link-time error and disciplines its copy, setting or clearing LOCK. -/
  | timeSync (port : Fin 64) (seq : BitVec 4) (arg : BitVec 24) (linkTime : BitVec 24)
  /-- CFG_WRITE (R271): The driver writes a register and answers with READ_DATA. -/
  | cfgWrite (port : Fin 64) (seq : BitVec 4) (addr : Byte) (data : BitVec 16)
  /-- CFG_READ (R271): The driver answers with READ_DATA carrying the register value. -/
  | cfgRead (port : Fin 64) (seq : BitVec 4) (addr : Byte)
  /-- ECHO_REQ (R253): The driver answers a valid echo request with ECHO carrying its turnaround. -/
  | echoReq (port : Fin 64) (seq : BitVec 4) (turn : Nat)
  /-- SELFTEST (R269): The driver starts a comparator self-test while its switch is off, or answers REFUSED. -/
  | selftest (port : Fin 64) (seq : BitVec 4) (item : Fin 5)
  /-- MEAS (R269): The driver measures the named voltage and answers with VGE. -/
  | meas (port : Fin 64) (seq : BitVec 4) (kind : Fin 3) (millivolts : BitVec 16)
  /-- ACK_FAULT (R267): The driver acknowledges the latched fault bits named in MASK. -/
  | ackFault (port : Fin 64) (seq : BitVec 4) (mask : Byte)
  /-- SAFE_PREF_PROGRAM (R263): The driver stores its loss-of-link level PREF. -/
  | safePrefProgram (port : Fin 64) (seq : BitVec 4) (level : Bool)
  /-- SAFE_PREF_APPLY (R260): The driver enters SAFE at the given level and discards held edges. -/
  | safePrefApply (port : Fin 64) (seq : BitVec 4) (level : Bool)
  /-- HALT (R260): A received Halt set turns the driver's switch off and puts it in mode HALT. -/
  | halt (port : Fin 64)
  /-- RELEASE (R260): A received Release set returns the driver to RUN, keeping its level, or is counted as stray. -/
  | release (port : Fin 64)
  /-- STATUS (R264): GLK receives a STATUS, updates the port state, detects LOL entry and handles the reported event. -/
  | status (port : Fin 64) (seq : BitVec 4) (arg : BitVec 24)
  /-- FAULT (R268): GLK receives a FAULT, finds the newly latched bits and passes them to the trip inputs and PSP. -/
  | fault (port : Fin 64) (seq : BitVec 4) (arg : BitVec 24)
  /-- READ_DATA (R271): GLK receives a register or self-test answer and stores it in CFGRES or DIAG_RES. -/
  | readData (port : Fin 64) (seq : BitVec 4) (addr : Byte) (data : BitVec 16)
  /-- TEMP (R271): GLK receives a temperature report and stores it in GLK_GLnn_TEMP. -/
  | temp (port : Fin 64) (seq : BitVec 4) (die : Bool) (value : BitVec 16)
  /-- VGE (R269): GLK receives a voltage measurement answer. -/
  | vge (port : Fin 64) (seq : BitVec 4) (kind : Byte) (value : BitVec 16)
  /-- ECHO (R253): GLK timestamps an echo and computes one loop-delay value. -/
  | echo (port : Fin 64) (seq : BitVec 4) (rseq : BitVec 4) (turn : Nat) (arrival : Nat)
  /-- GLK_CALIBRATION_DONE (R253): A calibration of 16 echoes ends and is applied, held back as DLY_JUMP, or discarded. -/
  | glkCalibrationDone (port : Fin 64)
  /-- GLK_DLY_ACCEPT (R254): A write to GLK_GLnn_DLYACC.ACCEPT applies the held calibration result. -/
  | glkDlyAccept (by_ : Initiator) (port : Fin 64) (value : Word)
  /-- GLK_UPLINK_TIMEOUT (R264): A READY port receives no valid uplink word for 2 us. -/
  | glkUplinkTimeout (port : Fin 64)
  /-- GLK_UPLINK_MALFORMED (R275): A malformed uplink word is discarded and counted, and UP_ERR is raised at 16 within 1 ms. -/
  | glkUplinkMalformed (port : Fin 64)
  /-- GLK_PORT_LIMIT_TIMEOUT (R276): A bring-up state exceeds its limit; the port returns to TRAIN and raises GLK_LINK_DOWN. -/
  | glkPortLimitTimeout (port : Fin 64)
  /-- SAFE_STATE_HALT (R261): GLK accepts a HALT command from SIS or PSP, takes the port and sends Halt. -/
  | safeStateHalt (origin : SafeOrigin) (port : Fin 64)
  /-- SAFE_STATE_HOLD_OFF (R261): GLK accepts HOLD_OFF and sends SAFE_PREF APPLY with LEVEL 0. -/
  | safeStateHoldOff (origin : SafeOrigin) (port : Fin 64)
  /-- SAFE_STATE_HOLD_ON (R262): GLK accepts HOLD_ON, and the word waits until the partner has been off for GLK_SAFE_DT. -/
  | safeStateHoldOn (origin : SafeOrigin) (port : Fin 64)
  /-- GLK_HOLD_ON_SEND (R262): The partner has been off for GLK_SAFE_DT, and the held HOLD_ON is sent. -/
  | glkHoldOnSend (port : Fin 64)
  /-- SAFE_STATE_RELEASE (R261): GLK accepts a RELEASE from SIS for handback, or refuses it under REL_BLOCK. -/
  | safeStateRelease (port : Fin 64)
  /-- GLK_FACK (R268): A write to GLK_GLnn_FACK sends ACK_FAULT, or is refused while PWM owns the port. -/
  | glkFack (by_ : Initiator) (port : Fin 64) (value : Word)
  /-- GLK_DIAG_SLOT (R270): A write to GLK_GLnn_DIAG_SLOT queues a DIAG word, or is refused as DIAG_BUSY. -/
  | glkDiagSlot (by_ : Initiator) (port : Fin 64) (value : Word)
  /-- GLK_DIAG_TIMEOUT (R270): No self-test answer arrives within 25 us; DIAG_FAIL is set and GLK_DIAG_FAIL is raised. -/
  | glkDiagTimeout (port : Fin 64)
  /-- GLK_CFG_READ_REQUEST (R271): A write to GLK_GLnn_CFGACC with RD = 1 queues a CFG_READ. -/
  | glkCfgReadRequest (by_ : Initiator) (port : Fin 64) (value : Word)
  /-- GLK_CFG_WRITE_REQUEST (R271): A write to GLK_GLnn_CFGACC with RD = 0 queues a CFG_WRITE, or is refused while PWM runs the port. -/
  | glkCfgWriteRequest (by_ : Initiator) (port : Fin 64) (value : Word)
  /-- GLK_CMP_MISMATCH (R279): The two GLK core copies disagree and GLK_CMP is raised. -/
  | glkCmpMismatch
  /-- DRIVER_LOSS_OF_LINK (R263): The driver sees no valid word for 1.9-2.0 us, enters LOL, turns off and reports it. -/
  | driverLossOfLink (port : Fin 64)
  /-- DRIVER_PREF_ON (R263): With PREF = 1 the driver turns its switch on 1.0-1.1 us after entering LOL. -/
  | driverPrefOn (port : Fin 64)
  /-- DRIVER_EDGE_EXECUTE (R257): The driver executes a held edge at its commanded link time. -/
  | driverEdgeExecute (port : Fin 64)
  /-- DRIVER_FAULT_DETECT (R266): The driver latches a fault condition, turns off and sends FAULT. -/
  | driverFaultDetect (port : Fin 64) (conditions : Byte)
  /-- DRIVER_FAULT_REPEAT (R266): The driver resends FAULT every 10 us while UNACK is not 0. -/
  | driverFaultRepeat (port : Fin 64) (active : Byte)
  /-- DRIVER_TEMP_REPORT (R271): The driver sends a TEMP word for each sensor about every 1 ms. -/
  | driverTempReport (port : Fin 64) (die : Bool) (value : BitVec 16)
  /-- DRIVER_SYNC_TIMEOUT (R251): 40 us without a TIME_SYNC clears the driver's LOCK and latches fault SYNC. -/
  | driverSyncTimeout (port : Fin 64)
  /-- DRIVER_SELFTEST_DONE (R269): The driver's self-test ends and it answers READ_DATA with the result. -/
  | driverSelftestDone (port : Fin 64) (pass : Bool)
  /-- PSP_DCOC_BLANK_END (R291): The DC-link comparator blanking ends and an asserted comparator acts. -/
  | pspDcocBlankEnd (axis : Fin 4)
  /-- PSP_ID_WINDOW_EXPIRE (R294): 10 us pass after an overcurrent without an identified switch, and the axis goes to a FIXED OFF. -/
  | pspIdWindowExpire (axis : Fin 4)
  /-- PSP_SPEED_EVALUATE (R288): Every 800 ticks PSP reads each axis speed and moves between ASC and OFF. -/
  | pspSpeedEvaluate
  /-- PSP_UDC_STALE_TIMEOUT (R296): No usable Udc result arrives for TSTALE; UDC_STALE is set and PSP_UDC_STALE is raised. -/
  | pspUdcStaleTimeout (link : Fin 4)
  /-- PSP_CHOPPER_CHECK (R297): TRESP after the chopper's first ON edge the current rise is checked, and a failed chopper is held off. -/
  | pspChopperCheck (link : Fin 4)
  /-- PSP_DISCHARGE_START (R298): SIS starts a resistor discharge of a link and PSP turns the DS switch on. -/
  | pspDischargeStart (link : Fin 4)
  /-- PSP_DCURVE_MISSED (R298): A discharge checkpoint is missed; the resistor discharge fails and winding discharge may follow. -/
  | pspDcurveMissed (link : Fin 4)
  /-- PSP_DISCHARGE_TIMEOUT (R298): TMAX passes without DONE; the discharge ports go off and PSP_DIS_FAIL is raised. -/
  | pspDischargeTimeout (link : Fin 4)
  /-- SIS_LOCKSTEP_MISMATCH (R306): The SIS cores disagree; the hardware halts every port, drops the contactors and restarts SIS in Lockout. -/
  | sisLockstepMismatch
  /-- SIS_HEARTBEAT_CHECK (R308): Every 100 us SIS checks the core heartbeat and enters Lockout after 1 ms of loss. -/
  | sisHeartbeatCheck (beat : Bool)
  /-- SYS_SIS_HEARTBEAT_CHECK (R308): SYS checks the SIS heartbeat and applies ALL_SAFE after 1 ms of loss. -/
  | sysSisHeartbeatCheck (beat : Bool)
  /-- SIS_CLOCK_CHECK (R516): SIS counts the reference against its oscillator and treats the core as lost on a deviation above 3% for 1 ms. -/
  | sisClockCheck (deviation : Int)
  /-- SIS_STRAP_RECHECK (R313): Every 100 ms SIS re-reads the straps and enters Lockout on a change. -/
  | sisStrapRecheck (readings : List (List Nat))
  /-- ENABLE (R319): The mailbox command ENABLE checks the conditions in order and grants drive enable with a release of the ports. -/
  | enable (by_ : Initiator) (tag : Byte) (arg : Word)
  /-- DISABLE (R320): The mailbox command DISABLE drops drive enable and applies the speed-selected state. -/
  | disable (by_ : Initiator) (tag : Byte) (arg : Word)
  /-- PRECHARGE (R317): The mailbox command PRECHARGE starts the contactor and precharge sequence on a link, or is refused. -/
  | precharge (by_ : Initiator) (tag : Byte) (arg : Word)
  /-- OPEN (R318): The mailbox command OPEN opens MAIN_POS and then MAIN_NEG of a link. -/
  | open_ (by_ : Initiator) (tag : Byte) (arg : Word)
  /-- DISCHARGE (R318): The mailbox command DISCHARGE starts a link discharge once the contactors read open. -/
  | discharge (by_ : Initiator) (tag : Byte) (arg : Word)
  /-- UNLOCK (R331): The mailbox command UNLOCK checks the key; the second correct one leaves Lockout. -/
  | unlock (by_ : Initiator) (tag : Byte) (arg : Word)
  /-- SEAL (R312): The mailbox command SEAL programs the seal fuses with the sampled code and the digest. -/
  | seal (by_ : Initiator) (tag : Byte) (arg : Word)
  /-- CLEAR (R315): The mailbox command CLEAR clears SIS_FAULT bits whose cause is gone. -/
  | clear (by_ : Initiator) (tag : Byte) (arg : Word)
  /-- CONTACTOR_FEEDBACK (R316): A CFB input changes; SIS confirms a commanded state or flags a contradiction. -/
  | contactorFeedback (ct : Fin 6) (level : Bool)
  /-- CONTACTOR_FB_TIMEOUT (R316): Feedback does not follow a command within TFB; the contactor is late or welded and Lockout follows. -/
  | contactorFbTimeout (ct : Fin 6)
  /-- PRECHARGE_VOLTAGE_TIMEOUT (R317): Udc misses ULO within T1 or its end value within TMAX; the link opens and PCH_FAIL is set. -/
  | prechargeVoltageTimeout (link : Fin 4)
  /-- PRECHARGE_RETRY_END (R317): The RETRY interval after a precharge failure ends and PRECHARGE is accepted again. -/
  | prechargeRetryEnd (link : Fin 4)
  /-- STO_INPUT_EDGE (R321): STO_A_N or STO_B_N changes level and its filter starts. -/
  | stoInputEdge (inputB : Bool) (level : Bool)
  /-- STO_DEMAND (R322): A low lasts past FILT and acts on the AXES axes as STO or SS1. -/
  | stoDemand
  /-- STO_DISCREPANCY (R321): The two STO inputs disagree for longer than DISC; STO_DISC is set and Lockout follows. -/
  | stoDiscrepancy
  /-- STO_END (R322): Both inputs have been high for FILT; STO ends and the axes take the state of R307. -/
  | stoEnd
  /-- SS1_SUPERVISE (R322): SIS checks each SS1 axis speed against the envelope and applies STO at rest or on a breach. -/
  | ss1Supervise (axis : Fin 4)
  /-- SS1_TIMEOUT (R322): SS1TMAX elapses and SIS applies STO. -/
  | ss1Timeout
  /-- SIS_TORQUE_EVALUATE (R327): Every 100 us SIS estimates each axis torque, checks it against the band and acts after TTIME outside it. -/
  | sisTorqueEvaluate
  /-- LOCK_RST_RELEASE (R331): LOCK_RST_N rises after a valid pulse and, with all causes cleared, starts the SIS self-check. -/
  | lockRstRelease (lowTicks : Nat)
  /-- SIS_SELFCHECK_DONE (R331): The SIS self-check ends; it passes to WAIT_KEY or records a new cause. -/
  | sisSelfcheckDone (pass : Bool) (madcPass : Bool)
  /-- UNLOCK_WINDOW_EXPIRE (R331): 10 s pass without two correct UNLOCK commands and PHASE returns to WAIT_PULSE. -/
  | unlockWindowExpire
  /-- FCR_SOURCE_RAISE (R340): A unit raises a source; FCR records it and applies the class reaction. -/
  | fcrSourceRaise (source : Fin 1024) (detail : Byte)
  /-- FCR_FORCE (R345): A write to FCR_SRCkkkk_FORCE raises the source as forced, or is refused. -/
  | fcrForce (by_ : Initiator) (source : Fin 1024) (value : Word)
  /-- FCR_STATUS_CLEAR (R346): Writing 1 to ST clears the status and FORCED, and undoes a LIMIT factor. -/
  | fcrStatusClear (by_ : Initiator) (source : Fin 1024) (value : Word)
  /-- FCR_SELF_FAULT (R349): A parity error or copy mismatch in FCR drives every axis safe and FAULT_N low. -/
  | fcrSelfFault (kind : SelfFault)
  /-- FCR_LO_READ (R360): A read of a FIRST_LO or LAST_LO register latches its HI register. -/
  | fcrLoRead (by_ : Initiator) (source : Fin 1024) (last : Bool)
  /-- THM_STEP (R363): Every 1 ms THM reads the temperatures, updates the models, runs the checks and publishes the factors. -/
  | thmStep (sensors : List Int) (powers : List Nat)
  /-- CPX_LOCKSTEP_MISMATCH (R387): A serving processor pair diverges; it is halted and the spare takes over its task set. -/
  | cpxLockstepMismatch (pair : Fin 4)
  /-- SPARE_HANDOVER_ENTRY (R387): The reset spare enters the handover vector; the ROM checks the header and jumps to RESUME or the cold entry. -/
  | spareHandoverEntry
  /-- MHOSTATUS_RESUMED (R387): The firmware writes mhostatus.RESUMED, ending the takeover. -/
  | mhostatusResumed (pair : Fin 4) (value : Word)
  /-- CPX_HO_SLOW (R387): RESUMED is not written within 200 us of detection and CPX_HO_SLOW is raised. -/
  | cpxHoSlow
  /-- MHOYIELD (R388): A write of mhoyield.YIELD after a yield request hands the task set to the spare. -/
  | mhoyield (pair : Fin 4) (value : Word)
  /-- YIELD_WITHDRAW (R388): An unanswered yield request is withdrawn after 10 ms and counted. -/
  | yieldWithdraw
  /-- MCPXREADMIT (R389): A write to mcpxreadmit returns a passing pair as the spare. -/
  | mcpxreadmit (pair : Fin 4) (value : Word)
  /-- L1_UE (R385): An uncorrectable L1 error invalidates the line, refetches it and raises CPX_L1_UE. -/
  | l1Ue (pair : Fin 4) (addr : Word)
  /-- SRAM_UE (R391): An SRAM read with an uncorrectable error returns a bus error and raises ICF_ECC_UE. -/
  | sramUe (by_ : Initiator) (addr : Word)
  /-- ICF_VLOG_POP (R406): A read of ICF_VLOG2 pops the oldest violation record. -/
  | icfVlogPop (by_ : Initiator)
  /-- ICF_LOCK (R398): Writing ICF_CTRL.LOCK makes the region registers read-only until reset. -/
  | icfLock (by_ : Initiator) (value : Word)
  /-- ICF_SHARE_WINDOW (R395): Each 100 us window resets the FLS and BST bandwidth share, releasing held accesses. -/
  | icfShareWindow (share : BitVec 16) (held : Nat)
  /-- ICF_CMP_MISMATCH (R399): The two ICF copies disagree and ICF_CMP is raised. -/
  | icfCmpMismatch
  /-- REGISTER_WRITE (R15): A write to a register with no row of its own is checked and takes effect under its access code. -/
  | registerWrite (by_ : Initiator) (addr : Word) (width : Width) (value : Word) (latency : Nat)
  /-- AXIS_COMMAND (R414): CSQ takes an Axis Command record and logs, applies, holds or refuses it, and answers. -/
  | axisCommand (path : Fin 6) (sender : Sender) (record : List Byte)
  /-- CSQ_DATAGRAM (R409): A UDP datagram to port 47860 is split into records, or refused as a whole with LENGTH. -/
  | csqDatagram (eth : Fin 2) (sender : Sender) (payload : List Byte)
  /-- CSQ_ACK_BATCH_TIMEOUT (R413): BATCHT after the first batched number, the pending batch ACK is sent. -/
  | csqAckBatchTimeout (slot : Fin 16) (path : Fin 6)
  /-- CSQ_GAP_STALL (R415): Records have been held for GAPTIME without an application and CSQ_GAP_STALL is raised. -/
  | csqGapStall (slot : Fin 16)
  /-- CSQ_SET_LAST (R414): A write to CSQ_SRCs_LAST sets LAST and the state SYNC, or is refused in SYNC. -/
  | csqSetLast (by_ : Initiator) (slot : Fin 16) (value : Word)
  /-- PWRFAIL_FALL (R514): A filtered fall of PWRFAIL_N stops acknowledgements and starts the flush. -/
  | pwrfailFall
  /-- FLUSH_COMPLETE (R418): The flush image is written with its COMPLETE word. -/
  | flushComplete
  /-- PWRFAIL_RISE (R514): PWRFAIL_N rises again and acknowledgement resumes after the flush. -/
  | pwrfailRise
  /-- CMD_STEP (R420): Every 1 ms CMD reads CMD_IN, maps it to a setpoint, and checks loss and plausibility. -/
  | cmdStep (x : Nat) (inRange : Bool)
  /-- CSQ_CMD_TIMEOUT (R421): No record has been applied to an axis for TIMEOUT; CSQ_CMD_TIMEOUT is raised. -/
  | csqCmdTimeout (axis : Fin 4)
  /-- CTE_BEGIN (R422): Writing CTE_BEGIN.GO opens a transaction with a token, or fails. -/
  | cteBegin (by_ : Initiator) (value : Word)
  /-- CTE_SHADOW_WRITE (R423): A write to an RWT location inside a transaction goes to the shadow store, or fails FULL. -/
  | cteShadowWrite (by_ : Initiator) (addr : Word) (value : Word)
  /-- CTE_OWNSET (R424): A write to CTE_OWNSET in a transaction requests an ownership change. -/
  | cteOwnset (by_ : Initiator) (value : Word)
  /-- CTE_COMMIT_IMMEDIATE (R425): A commit of KIND IMMEDIATE is submitted, with its boundary at the end of validation. -/
  | cteCommitImmediate (by_ : Initiator)
  /-- CTE_COMMIT_LOAD_INSTANT (R425): A commit of KIND LOAD_INSTANT is submitted for the named carrier groups. -/
  | cteCommitLoadInstant (by_ : Initiator)
  /-- CTE_COMMIT_TIME (R425): A commit of KIND TIME is submitted for a given LTB tick. -/
  | cteCommitTime (by_ : Initiator)
  /-- CTE_COMMIT_ANGLE (R425): A commit of KIND ANGLE is submitted for an angle crossing of an axis. -/
  | cteCommitAngle (by_ : Initiator)
  /-- CTE_VALIDATION_DONE (R425): Validation ends and the transaction becomes PENDING with a boundary, or FAILED. -/
  | cteValidationDone (by_ : Initiator)
  /-- CTE_BOUNDARY_APPLY (R425): At the boundary CTE applies every entry in one tick and records the entries in the overlay. -/
  | cteBoundaryApply (by_ : Initiator)
  /-- CTE_ROLLBACK (R426): Writing CTE_ROLLBACK.GO discards a transaction, is held during validation, or is refused. -/
  | cteRollback (by_ : Initiator) (value : Word)
  /-- CTE_TX_TIMEOUT (R426): An open transaction sees no write for TXTIME and is rolled back. -/
  | cteTxTimeout (by_ : Initiator)
  /-- JRN_FW_WRITE (R432): A write of JRN_FW_WRITE submits a firmware record, or fails with BUSY, TYPE or FLOOD. -/
  | jrnFwWrite (by_ : Initiator) (value : Word)
  /-- JRN_ADMIT (R430): A record's last byte is written to MRAM and the record is admitted as accepted work. -/
  | jrnAdmit
  /-- JRN_SEQ_QUERY (R434): A write to JRN_SEQ_Q copies the record with that JSEQ into the window, or reports GONE. -/
  | jrnSeqQuery (by_ : Initiator) (value : Word)
  /-- ETH_FRAME_RECEIVE (R442): A received frame is dropped, sent to a hardware path, or placed in the firmware ring. -/
  | ethFrameReceive (eth : Fin 2) (frame : List Byte) (fcsGood : Bool) (sfd : Nat)
  /-- ETH_TX_TAIL_WRITE (R444): Firmware advances ETHn_TXR_TAIL to hand filled slots to the transmitter. -/
  | ethTxTailWrite (by_ : Initiator) (eth : Fin 2) (value : Word)
  /-- ETH_FRAME_SENT (R444): A frame finishes transmission and hardware clears the slot's OWN. -/
  | ethFrameSent (eth : Fin 2) (sfd : Nat)
  /-- ETH_MDIO_READ (R467): Writing ETHn_MDIO.GO with RD = 1 starts a clause-22 MDIO read. -/
  | ethMdioRead (by_ : Initiator) (eth : Fin 2) (value : Word)
  /-- ETH_MDIO_WRITE (R467): Writing ETHn_MDIO.GO with RD = 0 starts a clause-22 MDIO write. -/
  | ethMdioWrite (by_ : Initiator) (eth : Fin 2) (value : Word)
  /-- ETH_MDIO_DONE (R467): An MDIO transaction completes and BUSY clears. -/
  | ethMdioDone (eth : Fin 2) (data : BitVec 16)
  /-- ETH_LINK_LOST (R466): A MAC loses its link; LINK_LOST is set and ETH_LINK_LOST is raised. -/
  | ethLinkLost (eth : Fin 2)
  /-- NTU_WRAP (R448): The NTU counter wraps; a matching shadow epoch is taken, or the epoch goes stale. -/
  | ntuWrap
  /-- NTU_SHADOW_ARM (R447): A write of NTU_SHD_CTRL with VALID = 1 arms the shadow epoch for a given wrap. -/
  | ntuShadowArm (by_ : Initiator) (value : Word)
  /-- NTU_SHADOW_NOW (R448): A write of NTU_SHD_CTRL with NOW = 1 makes the shadow active at once while STALE. -/
  | ntuShadowNow (by_ : Initiator) (value : Word)
  /-- NTU_STEP (R449): A write to NTU_STEP adds a step to the counter, or is refused. -/
  | ntuStep (by_ : Initiator) (value : Word)
  /-- NTU_STEP_ARM (R449): Writing NTU_STEP_AUTH.ARM authorises one large step or SET. -/
  | ntuStepArm (by_ : Initiator) (value : Word)
  /-- NTU_SET (R450): A write to NTU_SET_GO loads the counter and the epoch, or is refused without ARM. -/
  | ntuSet (by_ : Initiator) (value : Word)
  /-- NTU_RATE_WRITE (R451): A write to NTU_RATE sets the rate at the next tick, or is refused in HOLDOVER. -/
  | ntuRateWrite (by_ : Initiator) (value : Word)
  /-- NTU_HOLD_CLEAR (R452): A write to NTU_HOLD_CLR ends HOLDOVER. -/
  | ntuHoldClear (by_ : Initiator) (value : Word)
  /-- NTU_SYNC_TIMEOUT (R452): No Sync arrives within SYNC_TO; NTU enters HOLDOVER with SYNC_LOSS. -/
  | ntuSyncTimeout
  /-- NTU_TS_POP (R455): A read of word 3 of a timestamp FIFO pops the entry. -/
  | ntuTsPop (by_ : Initiator) (port : Fin 2) (tx : Bool)
  /-- NTU_CROSS_STAMP (R456): A write to NTU_XS_REQ captures the counter, the LTB and the wrap count in one tick. -/
  | ntuCrossStamp (by_ : Initiator) (value : Word)
  /-- SUBSCRIBE (R458): An MTS SUBSCRIBE is answered with ACCEPT or REFUSE, replacing any earlier subscription of the sender. -/
  | subscribe (eth : Fin 2) (sender : Sender) (payload : List Byte)
  /-- GRANT (R460): An MTS GRANT raises LIMIT and renews the lease, or is dropped. -/
  | grant (eth : Fin 2) (sender : Sender) (payload : List Byte)
  /-- UNSUBSCRIBE (R459): An MTS UNSUBSCRIBE ends the subscription with END CLIENT, or is dropped. -/
  | unsubscribe (eth : Fin 2) (sender : Sender) (payload : List Byte)
  /-- DATA (R462): TRC sends a DATA datagram of whole records once the credit allows it. -/
  | data (sub : Fin 32)
  /-- LEASE_EXPIRE (R459): A lease runs out 2 s after the last GRANT; END LEASE is sent and the buffer is freed. -/
  | leaseExpire (sub : Fin 32)
  /-- TRC_SUB_END (R459): A write to TRC_SUBs_END ends the subscription with END DISABLED. -/
  | trcSubEnd (by_ : Initiator) (sub : Fin 32) (value : Word)
  /-- TRC_MARK (R461): A write to TRC_MARKn records a marker at its delivery tick. -/
  | trcMark (by_ : Initiator) (marker : Fin 4) (value : Word)
  /-- TRC_FWREC (R461): A write to TRC_FWREC records a firmware record, or gets an error response. -/
  | trcFwrec (by_ : Initiator) (value : Word)
  /-- TRC_STAGING_DRAIN (R174): TRC drains CE trace staging into the subscriber buffers and the local ring. -/
  | trcStagingDrain (engine : Fin 5)
  /-- TRC_GAP_INSERT (R464): Room returns in a buffer and a GAP record carrying the shed count is inserted. -/
  | trcGapInsert (sub : Fin 32)
  /-- CAN_TX_REQUEST (R475): Writing CAN_TXBb_REQ.GO makes a buffer PENDING, or is refused. -/
  | canTxRequest (by_ : Initiator) (can : Fin 4) (buf : Fin 3) (value : Word)
  /-- CAN_TX_CANCEL (R478): Writing CAN_TXBb_REQ.CANCEL cancels a buffer according to its state. -/
  | canTxCancel (by_ : Initiator) (can : Fin 4) (buf : Fin 3) (value : Word)
  /-- CAN_ARBITRATION (R476): The bus becomes free and the controller enters the highest-priority candidate frame. -/
  | canArbitration (can : Fin 4)
  /-- CAN_ATTEMPT_END (R477): A transmission attempt succeeds or fails, updating the buffer state and the error counters. -/
  | canAttemptEnd (can : Fin 4) (result : CanResult) (tec : Nat) (rec_ : Nat) (delay : Nat)
  /-- CAN_FRAME_RECEIVE (R482): A received frame is filtered and stored in the FIFO, passed to CSQ, or discarded. -/
  | canFrameReceive (can : Fin 4) (frame : CanFrame) (sof : Nat) (tec : Nat) (rec_ : Nat)
  /-- CAN_BUSOFF_RECOVERY_REQUEST (R480): A write to CAN_BO_RECOV.GO starts bus-off recovery. -/
  | canBusoffRecoveryRequest (by_ : Initiator) (can : Fin 4) (value : Word)
  /-- CAN_BUSOFF_RECOVERED (R480): 128 runs of 11 recessive bits end recovery and the controller becomes error active. -/
  | canBusoffRecovered (can : Fin 4)
  /-- CAN_RX_POP (R484): A write to CAN_RXF_POP frees the slot at GET, or gets an error response. -/
  | canRxPop (by_ : Initiator) (can : Fin 4) (value : Word)
  /-- CAN_DISABLE (R481): EN = 0 takes effect at the end of the frame in progress and flushes pending buffers. -/
  | canDisable (can : Fin 4)
  /-- CAN_BUS_JOIN (R481): After EN = 1 the controller joins the bus following 11 recessive bits. -/
  | canBusJoin (can : Fin 4)
  /-- SCRUB (R500): The SCRUB task reads every SRAM word and corrects or reports errors. -/
  | scrub (corrected : Nat) (failing : List Word)
  /-- MRAMREF (R500): The MRAMREF task reads all MRAM and rewrites corrected words. -/
  | mramref (corrected : Nat) (failing : List Word)
  /-- ADCCAL (R500): The ADCCAL task sends a calibration request to each converter pair. -/
  | adccal
  /-- LINKCAL (R500): The LINKCAL task starts a loop-delay calibration of every READY port. -/
  | linkcal
  /-- CEROT (R500): The CEROT task tests the spare engine and then hands an axis to it. -/
  | cerot
  /-- PPROT (R500): The PPROT task tests the spare pair and then requests a yield. -/
  | pprot
  /-- DRVTEST (R502): The DRVTEST task arms an EVS entry to run a driver comparator self-test in an off-interval. -/
  | drvtest
  /-- THMCHK (R500): The THMCHK task runs the sensor-to-model comparison. -/
  | thmchk
  /-- WEAR (R500): The WEAR task reads both wrap-counter copies and applies the wear rules. -/
  | wear
  /-- LEASE (R500): The LEASE task returns the buffers of ended subscriptions to TRC. -/
  | lease
  /-- MBIST (R500): The MBIST task tests one SRAM block with March C- and restores it. -/
  | mbist (failing : Option Word) (bufferBad : Bool)
  /-- FLS_TASK_DONE (R501): A task run ends; a run that ends more than a period late raises FLS_TASK_LATE. -/
  | flsTaskDone (task : Fin 11)
  /-- BST_SLICE_START (R491): BST checks the preconditions and starts a logic slice on an out-of-service unit, or defers it. -/
  | bstSliceStart (unit : TestUnit) (supplyGood : Bool) (clocksGood : Bool)
  /-- BST_DEFER_RETRY (R491): 100 us after a deferral BST checks the slice preconditions again. -/
  | bstDeferRetry (supplyGood : Bool) (clocksGood : Bool)
  /-- BST_SLICE_DONE (R492): A slice ends and is judged PASS, FAIL or INCOMPLETE. -/
  | bstSliceDone (applied : Nat) (held : Bool) (signatureGood : Bool)
  /-- BST_SLICE_ABORT (R494): A slice is cut short and the unit's saved state is restored. -/
  | bstSliceAbort
  /-- BST_KEY_ON (R498): A write to BST_KEY with KIND ON starts a key test of the always-in-service units, or is refused. -/
  | bstKeyOn (by_ : Initiator) (value : Word)
  /-- BST_KEY_OFF (R498): A write to BST_KEY with KIND OFF starts a key test before power-down, or is refused. -/
  | bstKeyOff (by_ : Initiator) (value : Word)
  /-- BST_KEY_DONE (R499): A key test ends, recording PASS, FAIL or INCOMPLETE per copy and setting KEYFAIL on failure. -/
  | bstKeyDone (results : List CopyResult)
  /-- SUPPLY_UNDERVOLTAGE (R513): A supply monitor trips for undervoltage and applies its domain's effect. -/
  | supplyUndervoltage (domain : Fin 6)
  /-- SUPPLY_OVERVOLTAGE (R513): A supply monitor trips for overvoltage and raises SYS_VMON_OV. -/
  | supplyOvervoltage (domain : Fin 6)
  /-- REFERENCE_LOSS (R516): No reference edge is seen for 400 ns, and SYS_CLK_REF is raised. -/
  | referenceLoss
  /-- REFERENCE_DEVIATION (R516): SYS counts a reference deviation above 3% and raises SYS_CLK_REF. -/
  | referenceDeviation (deviation : Int)
  /-- PLL_FAULT (R516): The PLL loses lock or deviates above 0.5%, raising SYS_PLL. -/
  | pllFault
  /-- CLOCK_FAULT_RESET (R516): A clock fault lasting 20 us asserts a warm reset. -/
  | clockFaultReset
  /-- CLOCK_RECOVERED (R516): The reference is back and the PLL has been locked for 100 us, so the clock-fault reset is released. -/
  | clockRecovered
  /-- TRIP_PIN_EDGE (R228): A TRIP pin changes level, and after the FILT filter the level trip source asserts or deasserts for the legs that select it and for PSP. -/
  | tripPinEdge (pin : Fin 8) (level : Bool)
  /-- GLK_CFG_REQUEST_TIMEOUT (R274): A CFG_READ or CFG_WRITE request whose READ_DATA answer never arrives times out. -/
  | glkCfgRequestTimeout (port : Fin 64)
  /-- DRIVER_MALFORMED_WORD (R272): A conforming driver discards a downlink word with a code error, a foreign control group, a bad CRC, an unlisted TYPE or a breach of R248, and counts it at address 0x04. -/
  | driverMalformedWord (port : Fin 64)
  /-- SUPPLY_RETURN (R513): A supply that tripped its UV or OV monitor without a power-on reset, such as VDD_LINK or VDDA, returns within range and its live SYS_VMON bit clears. -/
  | supplyReturn (domain : Fin 6)
  /-- ETH_LINK_UP (R467): A MAC's link comes up, and LINK and SPEED_ACT are set, with SPEED 3 following the in-band SGMII link word. -/
  | ethLinkUp (eth : Fin 2) (speed : BitVec 2)
  deriving DecidableEq, Repr

end Sys2Proof
end

