-- ==== Sys2Proof/Decode.lean ====
section
/-! DEFINITION. The device is a block: its commands come from outside, and spec/opcode_table.json gives no row any bits,
so no word spells a command. -/

namespace Sys2Proof

/-- The command that a word of `nbits` bits spells: none, for every word. -/
def decodeTableWord (_nbits _w : Nat) : Option Instr := none

end Sys2Proof
end

