-- ==== Sys2Proof/Machine/Bits.lean ====
section
/-! DEFINITION. Bit fields of a 32-bit word, signed readings, saturating counters and rounding (R14, R18). -/

namespace Sys2Proof.Machine

/-- The unsigned value of bits `hi` to `lo` of `w`. -/
def bits (w : Word) (hi lo : Nat) : Nat := (w.toNat >>> lo) % 2 ^ (hi - lo + 1)

/-- Bit `i` of `w`. -/
def bit (w : Word) (i : Nat) : Bool := w.getLsbD i

/-- The mask of bits `hi` to `lo`. -/
def maskOf (hi lo : Nat) : Word := BitVec.ofNat 32 ((2 ^ (hi - lo + 1) - 1) <<< lo)

/-- `w` with bits `hi` to `lo` set to `v` (taken modulo the width of the field). -/
def setBits (w : Word) (hi lo v : Nat) : Word :=
  (w &&& ~~~ maskOf hi lo) ||| BitVec.ofNat 32 ((v % 2 ^ (hi - lo + 1)) <<< lo)

/-- `w` with bit `i` set to `b`. -/
def setBit (w : Word) (i : Nat) (b : Bool) : Word := setBits w i i (if b then 1 else 0)

/-- A Bool as the bit it stands for. -/
def b2n (b : Bool) : Nat := if b then 1 else 0

/-- The two's complement reading of an `n`-bit value. -/
def signed (n v : Nat) : Int :=
  let u := v % 2 ^ n
  if u < 2 ^ (n - 1) then (u : Int) else (u : Int) - (2 ^ n : Nat)

/-- The signed value of bits `hi` to `lo` of `w`. -/
def sbits (w : Word) (hi lo : Nat) : Int := signed (hi - lo + 1) (bits w hi lo)

/-- The `n`-bit two's complement code of `i`. -/
def unsigned (n : Nat) (i : Int) : Nat := (i % ((2 ^ n : Nat) : Int)).toNat

/-- A Nat as a register value. -/
def wordOf (n : Nat) : Word := BitVec.ofNat 32 n

/-- A signed number as a register value. -/
def wordOfInt (i : Int) : Word := BitVec.ofInt 32 i

/-- Clamp to a range. -/
def clampInt (lo hi i : Int) : Int := if i < lo then lo else if hi < i then hi else i

/-- Saturate to Q15 (R18): the range −32,768 to 32,767. -/
def satQ15 (i : Int) : Int := clampInt (-32768) 32767 i

/-- A count one higher, saturating at `max`. -/
def satInc (max n : Nat) : Nat := if n < max then n + 1 else max

/-- Integer division rounded to nearest, ties away from zero (R18). `den` is positive. -/
def roundDiv (num den : Int) : Int :=
  if 0 ≤ num then (2 * num + den) / (2 * den) else -((2 * (-num) + den) / (2 * den))

/-- The value 2^-n times `num`, rounded to nearest with ties away from zero. -/
def roundShift (num : Int) (n : Nat) : Int := roundDiv num ((2 ^ n : Nat) : Int)

/-- The element of a list at an index, or a default. -/
def listGet {α : Type} (dflt : α) : List α → Nat → α
  | [], _ => dflt
  | x :: _, 0 => x
  | _ :: xs, n + 1 => listGet dflt xs n

/-- The list with the element at an index replaced; unchanged where the list is too short. -/
def listSet {α : Type} : List α → Nat → α → List α
  | [], _, _ => []
  | _ :: xs, 0, y => y :: xs
  | x :: xs, n + 1, y => x :: listSet xs n y

/-- The last `n` elements of a list. -/
def lastN {α : Type} (n : Nat) (l : List α) : List α := l.drop (l.length - n)

/-- Element `i` of a vector; a default outside. -/
def vget {α : Type} {n : Nat} [Inhabited α] (v : Vector α n) (i : Nat) : α :=
  if h : i < n then v[i] else default

/-- The vector with element `i` replaced; unchanged outside. -/
def vset {α : Type} {n : Nat} (v : Vector α n) (i : Nat) (x : α) : Vector α n :=
  if h : i < n then v.set i x h else v

/-- The unsigned 16-bit field `k` (0 the low half) of little-endian bytes from offset `o`. -/
def le16 (l : List Byte) (o : Nat) : Nat := (listGet 0 l o).toNat + 256 * (listGet 0 l (o + 1)).toNat

/-- The little-endian 32-bit value at byte offset `o`. -/
def le32 (l : List Byte) (o : Nat) : Nat := le16 l o + 65536 * le16 l (o + 2)

/-- The big-endian 16-bit value at byte offset `o`. -/
def be16 (l : List Byte) (o : Nat) : Nat := 256 * (listGet 0 l o).toNat + (listGet 0 l (o + 1)).toNat

/-- The big-endian 32-bit value at byte offset `o`. -/
def be32 (l : List Byte) (o : Nat) : Nat := 65536 * be16 l o + be16 l (o + 2)

/-- The byte at offset `o`, as a number. -/
def byteAt (l : List Byte) (o : Nat) : Nat := (listGet 0 l o).toNat

/-- The `n` bytes from offset `o`. -/
def slice (l : List Byte) (o n : Nat) : List Byte := (l.drop o).take n

/-- Sixteen bits as two bytes, most significant first. -/
def toBe16 (v : Nat) : List Byte := [BitVec.ofNat 8 (v / 256), BitVec.ofNat 8 v]

/-- Thirty-two bits as four bytes, most significant first. -/
def toBe32 (v : Nat) : List Byte := toBe16 (v / 65536) ++ toBe16 (v % 65536)

/-- Sixteen bits as two bytes, least significant first. -/
def toLe16 (v : Nat) : List Byte := [BitVec.ofNat 8 v, BitVec.ofNat 8 (v / 256)]

/-- Thirty-two bits as four bytes, least significant first. -/
def toLe32 (v : Nat) : List Byte := toLe16 (v % 65536) ++ toLe16 (v / 65536)

/-- Sixty-four bits as eight bytes, least significant first. -/
def toLe64 (v : Nat) : List Byte := toLe32 (v % 4294967296) ++ toLe32 (v / 4294967296)

/-- The numbers from 0 below `n` that satisfy `p`, ascending. -/
def idxWhere (n : Nat) (p : Nat → Bool) : List Nat := (List.range n).filter p

/-- Apply `f` for each number in a list, in order. -/
def forEach {σ : Type} (l : List Nat) (f : Nat → σ → σ) (s : σ) : σ := l.foldl (fun acc i => f i acc) s

end Sys2Proof.Machine
end

