-- ==== Sys2Proof/Machine/Sources.lean ====
section
/-! DEFINITION. The numbers of the fault sources of FCR (R337, R378, R403, R435, R503, R523, and the source lists of
chapters 15 and 16). -/

namespace Sys2Proof.Machine.Src

/-- Source 0. -/
def SYS_VMON_LINK : Nat := 0
/-- Source 1. -/
def SYS_VMON_A : Nat := 1
/-- Source 2. -/
def SYS_VMON_OV : Nat := 2
/-- Source 3. -/
def SYS_CLK_REF : Nat := 3
/-- Source 4. -/
def SYS_PLL : Nat := 4
/-- Source 5. -/
def SYS_PWRFAIL : Nat := 5
/-- Source 64. -/
def CPX_LOCKSTEP : Nat := 64
/-- Source 65. -/
def CPX_NOSPARE : Nat := 65
/-- Source 66. -/
def CPX_L1_UE : Nat := 66
/-- Source 67. -/
def CPX_HO_SLOW : Nat := 67
/-- Source 72. -/
def ICF_VIOLATION : Nat := 72
/-- Source 73. -/
def ICF_CMP : Nat := 73
/-- Source 74. -/
def ICF_ECC_UE : Nat := 74
/-- Source 75. -/
def ICF_URG_LATE : Nat := 75
/-- Source 128. -/
def CSQ_CRC : Nat := 128
/-- Source 129. -/
def CSQ_CONFLICT : Nat := 129
/-- Source 130. -/
def CSQ_GAP_STALL : Nat := 130
/-- Source 131. -/
def CSQ_LOG_ECC : Nat := 131
/-- Source 132. -/
def CSQ_LOG_MISMATCH : Nat := 132
/-- Source 133. -/
def CSQ_FLUSH_STALE : Nat := 133
/-- Source 134. -/
def CSQ_CMD_TIMEOUT : Nat := 134
/-- Source 144. -/
def CTE_FAIL : Nat := 144
/-- Source 145. -/
def CTE_OVERLAY : Nat := 145
/-- Source 160. -/
def JRN_ECC : Nat := 160
/-- Source 161. -/
def JRN_META : Nat := 161
/-- Source 162. -/
def JRN_WEAR : Nat := 162
/-- Source 176. -/
def CMD_LOSS : Nat := 176
/-- Source 177. -/
def CMD_LOSS_ACTIVE : Nat := 177
/-- Source 178. -/
def CMD_PLAUS : Nat := 178
/-- Source 179. -/
def CMD_LIMP : Nat := 179
/-- Source 192. -/
def FLS_TASK_LATE : Nat := 192
/-- Source 193. -/
def FLS_SCRUB_UE : Nat := 193
/-- Source 194. -/
def FLS_MRAM_UE : Nat := 194
/-- Source 208. -/
def BST_SIG_FAIL : Nat := 208
/-- Source 209. -/
def BST_STARVED : Nat := 209
/-- Source 210. -/
def BST_MBIST_FAIL : Nat := 210
/-- Source 211. -/
def BST_KEY_FAIL : Nat := 211
/-- Source 256. -/
def ATB_JUMP : Nat := 256
/-- Source 257. -/
def ATB_STALE : Nat := 257
/-- Source 258. -/
def ATB_CMP : Nat := 258
/-- Source 259. -/
def EVS_CMP : Nat := 259
/-- Source 260. -/
def EVS_ARM_ERR : Nat := 260
/-- Source 261. -/
def EVS_ANGLE_STEP : Nat := 261
/-- Source 262. -/
def EVS_SKIP : Nat := 262
/-- Source 263. -/
def EVS_CHAIN_BUSY : Nat := 263
/-- Source 264. -/
def EVS_LATE : Nat := 264
/-- Source 320. -/
def PFC_CARD : Nat := 320
/-- Source 321. -/
def PFC_SKIP : Nat := 321
/-- Source 322. -/
def PFC_IDX_ERR : Nat := 322
/-- Source 323. -/
def PFC_HALL_STATE : Nat := 323
/-- Source 324. -/
def PFC_SER_CRC : Nat := 324
/-- Source 325. -/
def PFC_SER_ERRBIT : Nat := 325
/-- Source 326. -/
def PFC_SER_TO : Nat := 326
/-- Source 327. -/
def PFC_RES_TIMING : Nat := 327
/-- Source 328. -/
def PFC_RES_AMP : Nat := 328
/-- Source 329. -/
def PFC_VOTE_OUT : Nat := 329
/-- Source 330. -/
def PFC_VOTE_NONE : Nat := 330
/-- Source 331. -/
def PFC_VOTE_SINGLE : Nat := 331
/-- Source 332. -/
def PFC_VOTE_2DIS : Nat := 332
/-- Source 336. -/
def EEM_LAG : Nat := 336
/-- Source 337. -/
def EEM_OVR : Nat := 337
/-- Source 384. -/
def ADS_FLUSH : Nat := 384
/-- Source 385. -/
def ADS_REF : Nat := 385
/-- Source 386. -/
def ADS_START_ERR : Nat := 386
/-- Source 387. -/
def ADS_QOVF : Nat := 387
/-- Source 388. -/
def ADS_CAL_LATE : Nat := 388
/-- Source 389. -/
def ADS_RS_NOREC : Nat := 389
/-- Source 400. -/
def SDM_CLK_LOSS : Nat := 400
/-- Source 401. -/
def SDM_STUCK : Nat := 401
/-- Source 402. -/
def SDM_MAN_ERR : Nat := 402
/-- Source 416. -/
def FCMP_TRIP : Nat := 416
/-- Source 417. -/
def FCMP_TEST_FAIL : Nat := 417
/-- Source 448. -/
def CEA_RESIDUE : Nat := 448
/-- Source 449. -/
def CEA_FLOW : Nat := 449
/-- Source 450. -/
def CEA_HANG : Nat := 450
/-- Source 451. -/
def CEA_ECC : Nat := 451
/-- Source 452. -/
def CEA_SHADOW : Nat := 452
/-- Source 453. -/
def CEA_NOSPARE : Nat := 453
/-- Source 454. -/
def CEA_OVERRUN : Nat := 454
/-- Source 455. -/
def CEA_OVR_LIMIT : Nat := 455
/-- Source 456. -/
def CEA_PLAUS : Nat := 456
/-- Source 457. -/
def CEA_OBS_LOST : Nat := 457
/-- Source 458. -/
def CEA_OBS_SUSPECT : Nat := 458
/-- Source 459. -/
def CEA_FLYRES_FAIL : Nat := 459
/-- Source 460. -/
def CEA_ROLLBACK : Nat := 460
/-- Source 461. -/
def CEA_REVERSE : Nat := 461
/-- Source 512. -/
def PWM_CMP : Nat := 512
/-- Source 513. -/
def PWM_LATE : Nat := 513
/-- Source 514. -/
def PWM_SPLIT : Nat := 514
/-- Source 515. -/
def PWM_SS_NOWIN : Nat := 515
/-- Source 516. -/
def PWM_BOOT_UV : Nat := 516
/-- Source 576. -/
def GLK_LINK_DOWN : Nat := 576
/-- Source 577. -/
def GLK_EDGE_LOST : Nat := 577
/-- Source 578. -/
def GLK_EDGE_REFUSED : Nat := 578
/-- Source 579. -/
def GLK_UP_ERR : Nat := 579
/-- Source 580. -/
def GLK_DLY_JUMP : Nat := 580
/-- Source 581. -/
def GLK_SAFE_CONFLICT : Nat := 581
/-- Source 582. -/
def GLK_DIAG_FAIL : Nat := 582
/-- Source 583. -/
def GLK_CMP : Nat := 583
/-- Source 640. -/
def PSP_DCOC : Nat := 640
/-- Source 641. -/
def PSP_SWID : Nat := 641
/-- Source 642. -/
def PSP_LEG : Nat := 642
/-- Source 643. -/
def PSP_NOID : Nat := 643
/-- Source 644. -/
def PSP_DOUBLE : Nat := 644
/-- Source 645. -/
def PSP_OV2 : Nat := 645
/-- Source 646. -/
def PSP_OV3 : Nat := 646
/-- Source 647. -/
def PSP_CH_FAIL : Nat := 647
/-- Source 648. -/
def PSP_UDC_STALE : Nat := 648
/-- Source 649. -/
def PSP_DS_FAIL : Nat := 649
/-- Source 650. -/
def PSP_DIS_FAIL : Nat := 650
/-- Source 704. -/
def SIS_SEAL : Nat := 704
/-- Source 705. -/
def SIS_TRQ : Nat := 705
/-- Source 706. -/
def SIS_POS : Nat := 706
/-- Source 707. -/
def SIS_STO_DISC : Nat := 707
/-- Source 708. -/
def SIS_SS1 : Nat := 708
/-- Source 709. -/
def SIS_SS1_FAIL : Nat := 709
/-- Source 710. -/
def SIS_CT_LATE : Nat := 710
/-- Source 711. -/
def SIS_CT_WELD : Nat := 711
/-- Source 712. -/
def SIS_CT_CONTRA : Nat := 712
/-- Source 713. -/
def SIS_PCH_FAIL : Nat := 713
/-- Source 714. -/
def SIS_UDC_PLAUS : Nat := 714
/-- Source 768. -/
def THM_DIE_WARN : Nat := 768
/-- Source 769. -/
def THM_DIE_TRIP : Nat := 769
/-- Source 770. -/
def THM_DIE_RATE : Nat := 770
/-- Source 771. -/
def THM_SENS_BROKEN : Nat := 771
/-- Source 772. -/
def THM_MODEL_DEV : Nat := 772
/-- Source 773. -/
def THM_SW_WARN : Nat := 773
/-- Source 774. -/
def THM_SW_TRIP : Nat := 774
/-- Source 775. -/
def THM_SW_RATE : Nat := 775
/-- Source 776. -/
def THM_NTC_LOST : Nat := 776
/-- Source 777. -/
def THM_NTC_PLAUS : Nat := 777
/-- Source 832. -/
def ETH_LINK_LOST : Nat := 832
/-- Source 833. -/
def ETH_RXOVF : Nat := 833
/-- Source 848. -/
def NTU_EPOCH_STALE : Nat := 848
/-- Source 849. -/
def NTU_STEP_REFUSED : Nat := 849
/-- Source 850. -/
def NTU_HOLDOVER : Nat := 850
/-- Source 851. -/
def NTU_TS_LOST : Nat := 851
/-- Source 864. -/
def TRC_SHED : Nat := 864
/-- Source 865. -/
def TRC_RING_FULL : Nat := 865
/-- Source 896. -/
def CAN_BUSOFF : Nat := 896
/-- Source 897. -/
def CAN_ERR_PASSIVE : Nat := 897
/-- Source 898. -/
def CAN_RXOVF : Nat := 898
/-- Source 899. -/
def CAN_TX_FAIL : Nat := 899
/-- Source 900. -/
def CAN_CSQ_DROP : Nat := 900
/-- Source 901. -/
def CAN_ACK_DROP : Nat := 901
/-- Source 960. -/
def FCR_SELF : Nat := 960
/-- Source 961. -/
def FCR_STAGE_HIGH : Nat := 961

/-- Every source number that a chapter assigns to a unit, ascending; SW00–SW31 (992–1023) belong to the firmware. -/
def assigned : List Nat := [
  0, 1, 2, 3, 4, 5, 64, 65, 66, 67, 72, 73, 74, 75, 128, 129,
  130, 131, 132, 133, 134, 144, 145, 160, 161, 162, 176, 177, 178, 179, 192, 193,
  194, 208, 209, 210, 211, 256, 257, 258, 259, 260, 261, 262, 263, 264, 320, 321,
  322, 323, 324, 325, 326, 327, 328, 329, 330, 331, 332, 336, 337, 384, 385, 386,
  387, 388, 389, 400, 401, 402, 416, 417, 448, 449, 450, 451, 452, 453, 454, 455,
  456, 457, 458, 459, 460, 461, 512, 513, 514, 515, 516, 576, 577, 578, 579, 580,
  581, 582, 583, 640, 641, 642, 643, 644, 645, 646, 647, 648, 649, 650, 704, 705,
  706, 707, 708, 709, 710, 711, 712, 713, 714, 768, 769, 770, 771, 772, 773, 774,
  775, 776, 777, 832, 833, 848, 849, 850, 851, 864, 865, 896, 897, 898, 899, 900,
  901, 960, 961]

end Sys2Proof.Machine.Src
end

