-- ==== Sys2Proof/Config.lean ====
section
/-! DEFINITION. What one part or one stepping fixes, and the free values: constants with no body, so that no proof
can lean on a value of them. -/

namespace Sys2Proof.Config

/-- The stepping code of the part (R54): this edition of the manual describes stepping A0 (R45). -/
def stepping : BitVec 8 := 0x00

/-- `CFG_DEVID`: the part code with the stepping (R54). -/
def devId : Word := (0x4D4600 : BitVec 24) ++ stepping

/-- `CFG_UID0`, fused (R50). -/
opaque uid0 : Word

/-- `CFG_UID1`, fused (R50). -/
opaque uid1 : Word

/-- `SIS_ID`: the SIS ROM version (R335). -/
opaque sisRomVersion : Word

/-- `CFG_DEVFEAT0`–`CFG_DEVFEAT7`: stepping A0 offers bits 0 to 3 and nothing else (R45). -/
def devFeat (k : Nat) : Word := if k = 0 then 0xF else 0

/-- The bytes of the boot ROM (R390). -/
opaque bootRom : Nat → Byte

/-- The bytes that the external xSPI flash holds before anything is written there (R390). -/
opaque xspiFlash : Nat → Byte

/-- Random draws of the part (the debug nonce of R47, the Lockout challenge of R329), by draw number. -/
opaque random : Nat → Word

/-- Is the ECDSA P-256 signature `sig` over digest `digest` good under the public key in key slot data `key`?
The curve arithmetic itself is FIPS 186-4's, which the spec only names (R24, R48). -/
opaque ecdsaP256 : (key digest sig : List Byte) → Bool

/-- The rounded quotient by 0 that the modulation blocks could form under a negative MMAX: the spec states none (R187). -/
opaque openQuotient : Int → Int

/-- Identity, capabilities, data and unwritten settings of the driver at port `p`, by register address: they are its
maker's (R271). -/
opaque driverRegister : (p addr : Nat) → BitVec 16

/-- The levels that stand from outside at the GPIO balls at a tick (R524). -/
opaque gpioLevels : (tick : Nat) → Word

/-- What `SYS_VMEAS0` to `SYS_VMEAS2` show at a tick: the measured supply voltages in mV (R524). -/
opaque supplyMillivolts : (tick k : Nat) → Word

/-- A free value for what the spec leaves open, by draw number. -/
opaque freeValue : Nat → Word

end Sys2Proof.Config
end

