-- ==== Sys2Proof/Machine/Regs.lean ====
section
/-! DEFINITION. The register map: the address of every register of the register tables of chapters 01 to 18
(rules R50 to R524), and for each its access code (R15), reset value, writable bits and stated field ranges.
Generated by hand-checked transcription of the spec's register tables; names are the spec's own. -/

namespace Sys2Proof.Machine

/-- The access codes of R15. -/
inductive Access where
  | rw | ro | wo | w1c | w1s | rwt | rwl | mixed
  deriving DecidableEq, Repr

/-- One field with a stated range: bits `hi` to `lo` hold a value from `min` to `max` (two's complement when
`signed`), or 0 as well when `zeroOk`. -/
structure FieldRange where
  hi : Nat
  lo : Nat
  min : Int
  max : Int
  signed : Bool
  zeroOk : Bool
  deriving DecidableEq, Repr

/-- One row of a register table. `dims` lists (stride, count) of each index, `rw` the bits a plain write sets,
`w1c` the bits that a written 1 clears. -/
structure RegRow where
  base : Nat
  dims : List (Nat × Nat)
  acc : Access
  reset : Word
  rw : Word
  w1c : Word
  ranges : List FieldRange
  deriving DecidableEq, Repr

namespace Reg

/-- CFG_DEVID (R50, RO, reset 0x4D46_0000 + stepping code): part and stepping (R54). -/
def CFG_DEVID : Nat := 0x40010000
/-- CFG_UID0 (R50, RO, reset fused): unique id, low word. -/
def CFG_UID0 : Nat := 0x40010004
/-- CFG_UID1 (R50, RO, reset fused): unique id, high word. -/
def CFG_UID1 : Nat := 0x40010008
/-- CFG_STATUS (R50, RO, reset 0x0000_0000): load state and copy codes. -/
def CFG_STATUS : Nat := 0x40010010
/-- CFG_FMR_VERSION (R50, RO, reset 0x0000_0000): VERSION of the copy in use; 0 in Configuration Hold. -/
def CFG_FMR_VERSION : Nat := 0x40010014
/-- CFG_COPY0_VERSION (R50, RO, reset 0x0000_0000): header VERSION of copy 0, if the header was readable. -/
def CFG_COPY0_VERSION : Nat := 0x40010018
/-- CFG_COPY1_VERSION (R50, RO, reset 0x0000_0000): header VERSION of copy 1. -/
def CFG_COPY1_VERSION : Nat := 0x4001001c
/-- CFG_REJ0 (R50, RO, reset 0x0000_0000): SECT (31:24), OFFSET (23:0) of copy 0's failure. -/
def CFG_REJ0 : Nat := 0x40010020
/-- CFG_REJ1 (R50, RO, reset 0x0000_0000): the same for copy 1. -/
def CFG_REJ1 : Nat := 0x40010024
/-- CFG_SAFETY_HASH0 (R50, RO, reset 0x0000_0000): SHA-256 of the SAFETY section in use; register k holds the 32-bit big-endian word k of the digest as FIPS 180-4 defines it, that is digest bytes 4k to 4k + 3, with byte 4k in bits 31:24. -/
def CFG_SAFETY_HASH (i : Nat) : Nat := 0x40010030 + 0x4 * i
/-- CFG_UPD_CTRL (R50, RW, reset 0x0000_0000): bit 0 UNLOCK, bit 4 REGION (0 = copy 0, 1 = copy 1). -/
def CFG_UPD_CTRL : Nat := 0x40010050
/-- CFG_RES_QUERY (R50, RW, reset 0x0000_0000): resource id to look up. -/
def CFG_RES_QUERY : Nat := 0x40010060
/-- CFG_RES_OWNER (R50, RO, reset 0x0000_0000): owner code (7:0) and ADJ (8) after the last completed commit. -/
def CFG_RES_OWNER : Nat := 0x40010064
/-- CFG_DEVFEAT0 (R50, RO, reset per stepping): offered features. -/
def CFG_DEVFEAT (i : Nat) : Nat := 0x40010100 + 0x4 * i
/-- CFG_DRVFEAT0 (R50, RWL, reset 0x0000_0000): accepted features. -/
def CFG_DRVFEAT (i : Nat) : Nat := 0x40010120 + 0x4 * i
/-- CFG_FEAT_COMMIT (R50, WO, reset 0x0000_0000): bit 0 GO. -/
def CFG_FEAT_COMMIT : Nat := 0x40010140
/-- CFG_FEAT_STATUS (R50, RO, reset 0x0000_0000): negotiation result. -/
def CFG_FEAT_STATUS : Nat := 0x40010144
/-- CFG_DBG_NONCE0 (R50, RO, reset random): nonce, low word. -/
def CFG_DBG_NONCE0 : Nat := 0x40010200
/-- CFG_DBG_NONCE1 (R50, RO, reset random): nonce, high word. -/
def CFG_DBG_NONCE1 : Nat := 0x40010204
/-- CFG_DBG_STATUS (R50, RO, reset 0x0000_0000): debug state. -/
def CFG_DBG_STATUS : Nat := 0x40010208
/-- CFG_DBG_TOKEN (R50, WO, reset 0x0000_0000): token port, 40 consecutive word writes; JTAG only. -/
def CFG_DBG_TOKEN : Nat := 0x4001020c
/-- CFG_DBG_CLOSE (R50, W1S, reset 0x0000_0000): bit 0 CLOSE. -/
def CFG_DBG_CLOSE : Nat := 0x40010210
/-- ATB_LTB_LO (R81, RO, reset 0x0000_0000): LTB bits 31:0; latches bits 63:32 for this initiator. -/
def ATB_LTB_LO : Nat := 0x40100000
/-- ATB_LTB_HI (R81, RO, reset 0x0000_0000): latched LTB bits 63:32. -/
def ATB_LTB_HI : Nat := 0x40100004
/-- ATB_AXn_CFG (R81, RWT, reset from Former): source, filter, jump limit, pole pairs. -/
def ATB_AXn_CFG (n : Nat) : Nat := 0x40100100 + 0x40 * n
/-- ATB_AXn_ANG_LO (R81, RO, reset 0x0000_0000): angle bits 31:0; latches bits 39:32 for this initiator. -/
def ATB_AXn_ANG_LO (n : Nat) : Nat := 0x40100104 + 0x40 * n
/-- ATB_AXn_ANG_HI (R81, RO, reset 0x0000_0000): bits 7:0 hold latched angle bits 39:32. -/
def ATB_AXn_ANG_HI (n : Nat) : Nat := 0x40100108 + 0x40 * n
/-- ATB_AXn_ELEC (R81, RO, reset 0x0000_0000): bits 23:0 electrical angle (R58). -/
def ATB_AXn_ELEC (n : Nat) : Nat := 0x4010010c + 0x40 * n
/-- ATB_AXn_SPEED (R81, RO, reset 0x0000_0000): signed speed, 2⁻¹⁶ fraction LSB per tick. -/
def ATB_AXn_SPEED (n : Nat) : Nat := 0x40100110 + 0x40 * n
/-- ATB_AXn_SETPOS (R81, WO, reset 0x0000_0000): bits 23:0 fraction (R60). -/
def ATB_AXn_SETPOS (n : Nat) : Nat := 0x40100114 + 0x40 * n
/-- ATB_AXn_SETSPD (R81, WO, reset 0x0000_0000): signed speed (R60). -/
def ATB_AXn_SETSPD (n : Nat) : Nat := 0x40100118 + 0x40 * n
/-- ATB_AXn_STATUS (R81, W1C, reset 0x0000_0000): bit 0 TURN_WRAP, bit 1 JUMP, bit 2 STALE. -/
def ATB_AXn_STATUS (n : Nat) : Nat := 0x4010011c + 0x40 * n
/-- ATB_AXn_LASTERR (R81, RO, reset 0x0000_0000): signed correction e of the last update, saturated. -/
def ATB_AXn_LASTERR (n : Nat) : Nat := 0x40100120 + 0x40 * n
/-- ATB_AXn_TIMEOUT (R81, RWT, reset 0x0004_E200): stale timeout, 800–0x00FF_FFFF ticks; default 320,000 (400 µs). -/
def ATB_AXn_TIMEOUT (n : Nat) : Nat := 0x40100124 + 0x40 * n
/-- EVS_CTRL (R83, RWT, reset 0x0020_0001): bit 0 EN; bits 31:16 LATE_THR, 2–65,535 ticks. -/
def EVS_CTRL : Nat := 0x40110000
/-- EVS_STATUS (R83, W1C, reset 0x0000_0000): sticky condition flags. -/
def EVS_STATUS : Nat := 0x40110004
/-- EVS_ARMED (R83, RO, reset 0x0000_0000): bits 12:0 armed entries, 0–4,096; bits 24:16 WIN, window occupancy, 0–256. -/
def EVS_ARMED : Nat := 0x40110008
/-- EVS_ARM_ERR (R83, RO, reset 0x0000_0000): bits 19:16 code (R64), bits 11:0 index of the last failure. -/
def EVS_ARM_ERR : Nat := 0x4011000c
/-- EVS_LATE_CNT (R83, RO, reset 0x0000_0000): late dispatches; saturates at 0xFFFF_FFFF. -/
def EVS_LATE_CNT : Nat := 0x40110010
/-- EVS_SKIP_CNT (R83, RO, reset 0x0000_0000): targets skipped under R75; saturates. -/
def EVS_SKIP_CNT : Nat := 0x40110014
/-- EVS_LATELOG0 (R83, RO, reset 0x0000_0000): oldest late record, first word. -/
def EVS_LATELOG0 : Nat := 0x40110020
/-- EVS_LATELOG1 (R83, RO, reset 0x0000_0000): trigger instant, LTB bits 31:0; reading pops the record. -/
def EVS_LATELOG1 : Nat := 0x40110024
/-- EVS_CG0_START (R83, RO, reset 0x0000_0000): carrier group g: LTB bits 31:0 of the start of the current period. -/
def EVS_CGg_START (g : Nat) : Nat := 0x40110040 + 0x8 * g
/-- EVS_CG0_PERIOD (R83, RO, reset 0x0000_0000): carrier group g: period in whole ticks; 0 while stopped. -/
def EVS_CGg_PERIOD (g : Nat) : Nat := 0x40110044 + 0x8 * g
/-- PFC_PFn_CFG (R112, RWT, reset from Former): mode and options. -/
def PFC_PFn_CFG (n : Nat) : Nat := 0x40200000 + 0x1000 * n
/-- PFC_PFn_CARD (R112, RWT, reset 0x0010_0050): THR (31:20), 1–4,095; MINGAP (16:0), 20–80,000 ticks. -/
def PFC_PFn_CARD (n : Nat) : Nat := 0x40200004 + 0x1000 * n
/-- PFC_PFn_CPR (R112, RWT, reset 0x0000_1000): QUAD: CPR (24:0); HALL: HOFS (23:0). -/
def PFC_PFn_CPR (n : Nat) : Nat := 0x40200008 + 0x1000 * n
/-- PFC_PFn_IDX (R112, RWT, reset 0x0400_0000): IDX_TOL (31:24), counts; IDX_REF (23:0), below CPR. -/
def PFC_PFn_IDX (n : Nat) : Nat := 0x4020000c + 0x1000 * n
/-- PFC_PFn_SER (R112, RWT, reset 0x0000_0000): frame layout. -/
def PFC_PFn_SER (n : Nat) : Nat := 0x40200010 + 0x1000 * n
/-- PFC_PFn_SER2 (R112, RWT, reset 0x0000_0000): check and length. -/
def PFC_PFn_SER2 (n : Nat) : Nat := 0x40200014 + 0x1000 * n
/-- PFC_PFn_SERCLK (R112, RWT, reset 0x1400_0050): ACKMAX (31:24), 1–255; HALFPER (11:0), 40–4,000 ticks. -/
def PFC_PFn_SERCLK (n : Nat) : Nat := 0x40200018 + 0x1000 * n
/-- PFC_PFn_TIMING (R112, RWT, reset 0x3E80_0000): IDLE (31:16), 16–65,535 ticks; LATCH_OFS (15:0), signed ticks. -/
def PFC_PFn_TIMING (n : Nat) : Nat := 0x4020001c + 0x1000 * n
/-- PFC_PFn_FRAME (R112, RWT, reset 0x0000_0000): PER (23:0), ticks; 0 = requests only. -/
def PFC_PFn_FRAME (n : Nat) : Nat := 0x40200020 + 0x1000 * n
/-- PFC_PFn_RES (R112, RWT, reset 0x0000_0000): resolver options. -/
def PFC_PFn_RES (n : Nat) : Nat := 0x40200024 + 0x1000 * n
/-- PFC_PFn_RESLIM (R112, RWT, reset 0x1D4C_0BB8): AMP_HI (31:16), AMP_LO (15:0), codes; LO < HI. -/
def PFC_PFn_RESLIM (n : Nat) : Nat := 0x40200028 + 0x1000 * n
/-- PFC_PFn_REQ (R112, WO, reset 0x0000_0000): bit 0 REQ (R101); schedulable. -/
def PFC_PFn_REQ (n : Nat) : Nat := 0x4020002c + 0x1000 * n
/-- PFC_PFn_COUNT (R112, RO, reset 0x0000_0000): count (24:0). -/
def PFC_PFn_COUNT (n : Nat) : Nat := 0x40200030 + 0x1000 * n
/-- PFC_PFn_POS (R112, RO, reset 0x0000_0000): turn count (31:24, low 8 bits), fraction (23:0) of last delivery. -/
def PFC_PFn_POS (n : Nat) : Nat := 0x40200034 + 0x1000 * n
/-- PFC_PFn_TSTAMP (R112, RO, reset 0x0000_0000): tk of last delivery, LTB bits 31:0. -/
def PFC_PFn_TSTAMP (n : Nat) : Nat := 0x40200038 + 0x1000 * n
/-- PFC_PFn_STATUS (R112, mixed, reset 0x0000_0000): state and sticky flags. -/
def PFC_PFn_STATUS (n : Nat) : Nat := 0x4020003c + 0x1000 * n
/-- PFC_PFn_CARD_CNT (R112, RO, reset 0x0000_0000): refused transitions (15:0). -/
def PFC_PFn_CARD_CNT (n : Nat) : Nat := 0x40200040 + 0x1000 * n
/-- PFC_PFn_SKIP_CNT (R112, RO, reset 0x0000_0000): skip errors (15:0), saturating. -/
def PFC_PFn_SKIP_CNT (n : Nat) : Nat := 0x40200044 + 0x1000 * n
/-- PFC_PFn_REQBUSY_CNT (R112, RO, reset 0x0000_0000): refused requests (15:0), saturating. -/
def PFC_PFn_REQBUSY_CNT (n : Nat) : Nat := 0x40200048 + 0x1000 * n
/-- PFC_PFn_IDX_CORR (R112, RO, reset 0x0000_0000): signed correction of last accepted index or Hall resync. -/
def PFC_PFn_IDX_CORR (n : Nat) : Nat := 0x4020004c + 0x1000 * n
/-- PFC_PFn_UNC (R112, RO, reset 0x0000_0000): uncertainty (7:0), counts. -/
def PFC_PFn_UNC (n : Nat) : Nat := 0x40200050 + 0x1000 * n
/-- PFC_PFn_RAW0 (R112, RO, reset 0x0000_0000): last frame bits 31:0, bit 0 = last bit received. -/
def PFC_PFn_RAW0 (n : Nat) : Nat := 0x40200054 + 0x1000 * n
/-- PFC_PFn_RAW1 (R112, RO, reset 0x0000_0000): last frame bits 63:32. -/
def PFC_PFn_RAW1 (n : Nat) : Nat := 0x40200058 + 0x1000 * n
/-- PFC_PFn_MT (R112, RO, reset 0x0000_0000): multi-turn value (15:0). -/
def PFC_PFn_MT (n : Nat) : Nat := 0x4020005c + 0x1000 * n
/-- PFC_PFn_LINEDLY (R112, RW, reset 0x0000_0000): line delay (12:0), ticks; measured in BISSC, written in SSI. -/
def PFC_PFn_LINEDLY (n : Nat) : Nat := 0x40200060 + 0x1000 * n
/-- PFC_PFn_RESAMP (R112, RO, reset 0x0000_0000): amplitude m (15:0) of last resolver sample. -/
def PFC_PFn_RESAMP (n : Nat) : Nat := 0x40200064 + 0x1000 * n
/-- PFC_PFn_CNTCLR (R112, WO, reset 0x0000_0000): bit 0 CARD_CNT, bit 1 SKIP_CNT, bit 2 REQBUSY_CNT. -/
def PFC_PFn_CNTCLR (n : Nat) : Nat := 0x40200070 + 0x1000 * n
/-- PFC_AXa_VOTE_CFG (R112, RWT, reset 0x0400_05B0): N (31:24), 1–255; TOL (15:0), 64 electrical LSB (0x05B0 ≈ 2.0 °e). -/
def PFC_AXa_VOTE_CFG (a : Nat) : Nat := 0x40208000 + 0x100 * a
/-- PFC_AXa_OBS_T (R112, WO, reset 0x0000_0000): observer tick, LTB bits 31:0. -/
def PFC_AXa_OBS_T (a : Nat) : Nat := 0x40208004 + 0x100 * a
/-- PFC_AXa_OBS (R112, WO, reset 0x0000_0000): VALID (31), electrical angle (23:0). -/
def PFC_AXa_OBS (a : Nat) : Nat := 0x40208008 + 0x100 * a
/-- PFC_AXa_VOTE_STATUS (R112, RO, reset 0x0000_0007): DELIVERED (2:0): 0 main, 1 second, 2 observer, 7 none; MAIN_EXCL (4); SECOND_EXCL (5); OBS_VALID (6). -/
def PFC_AXa_VOTE_STATUS (a : Nat) : Nat := 0x4020800c + 0x100 * a
/-- PFC_AXa_VOTE_READMIT (R112, WO, reset 0x0000_0000): bit 0 MAIN, bit 1 SECOND. -/
def PFC_AXa_VOTE_READMIT (a : Nat) : Nat := 0x40208010 + 0x100 * a
/-- PFC_EXCe_CFG (R112, RWT, reset 0x0000_0000): EN (31), AMP (27:16). -/
def PFC_EXCe_CFG (e : Nat) : Nat := 0x40209000 + 0x40 * e
/-- PFC_EXCe_PER (R112, RWT, reset 0x0001_3880): period (18:0), ticks (R102). -/
def PFC_EXCe_PER (e : Nat) : Nat := 0x40209004 + 0x40 * e
/-- PFC_EXCe_T0 (R112, RO, reset 0x0000_0000): last positive zero crossing, LTB bits 31:0. -/
def PFC_EXCe_T0 (e : Nat) : Nat := 0x40209008 + 0x40 * e
/-- EEM_EMn_CFG (R116, RWT, reset 0x0000_5000): output options. -/
def EEM_EMn_CFG (n : Nat) : Nat := 0x40210000 + 0x100 * n
/-- EEM_EMn_LINES (R116, RWT, reset 0x0000_0400): lines (16:0), 1–65,536. -/
def EEM_EMn_LINES (n : Nat) : Nat := 0x40210004 + 0x100 * n
/-- EEM_EMn_LAGTHR (R116, RWT, reset 0x0000_0100): lag threshold (23:0), counts, below 2 × LINES. -/
def EEM_EMn_LAGTHR (n : Nat) : Nat := 0x40210008 + 0x100 * n
/-- EEM_EMn_LAG (R116, RO, reset 0x0000_0000): signed lag, counts. -/
def EEM_EMn_LAG (n : Nat) : Nat := 0x4021000c + 0x100 * n
/-- EEM_EMn_STATUS (R116, mixed, reset 0x0000_0000): bit 0 LAG (W1C), bit 1 OVR (W1C), bit 2 RUN (RO). -/
def EEM_EMn_STATUS (n : Nat) : Nat := 0x40210010 + 0x100 * n
/-- ADS_Pp_CFG (R143, RWT, reset from Former): mode, reference, acquisition. -/
def ADS_Pp_CFG (p : Nat) : Nat := 0x40300000 + 0x100 * p
/-- ADS_Pp_START (R143, WO, reset 0x0000_0000): start (R122); schedulable. -/
def ADS_Pp_START (p : Nat) : Nat := 0x40300004 + 0x100 * p
/-- ADS_Pp_STATUS (R143, mixed, reset 0x0000_0000): state and sticky flags. -/
def ADS_Pp_STATUS (p : Nat) : Nat := 0x40300008 + 0x100 * p
/-- ADS_Pp_QLEVEL (R143, RO, reset 0x0000_0000): INJ (2:0), 0–4; REG (11:8), 0–8. -/
def ADS_Pp_QLEVEL (p : Nat) : Nat := 0x4030000c + 0x100 * p
/-- ADS_Pp_CAL (R143, WO, reset 0x0000_0000): bit 0 REQ. -/
def ADS_Pp_CAL (p : Nat) : Nat := 0x40300010 + 0x100 * p
/-- ADS_Pp_CAL_STATUS (R143, mixed, reset 0x0000_0000): DEFER_CNT (15:0, RO, saturating); RUNNING (16, RO); HALF (17, RO, 0 = A); LATE (24, W1C). -/
def ADS_Pp_CAL_STATUS (p : Nat) : Nat := 0x40300014 + 0x100 * p
/-- ADS_Pp_COEF_A (R143, RO, reset 0x4000_0000): half A gain (31:16, unsigned, 0x4000 = 1.0); offset (15:0, signed codes). -/
def ADS_Pp_COEF_A (p : Nat) : Nat := 0x40300018 + 0x100 * p
/-- ADS_Pp_COEF_B (R143, RO, reset 0x4000_0000): the same for half B. -/
def ADS_Pp_COEF_B (p : Nat) : Nat := 0x4030001c + 0x100 * p
/-- ADS_Pp_QOVF_CNT (R143, RO, reset 0x0000_0000): refused requests (15:0), saturating. -/
def ADS_Pp_QOVF_CNT (p : Nat) : Nat := 0x40300020 + 0x100 * p
/-- ADS_AINnn_CFG (R143, RWT, reset 0x0000_2000): ROUTE (31); SHIFT (25:24), 0–2; CEIN (21:16), 0–63; MID (13:0). -/
def ADS_AINnn_CFG (nn : Nat) : Nat := 0x40301000 + 0x10 * nn
/-- ADS_AINnn_RES (R143, RO, reset 0x0000_0000): last result; latches TS. -/
def ADS_AINnn_RES (nn : Nat) : Nat := 0x40301004 + 0x10 * nn
/-- ADS_AINnn_TS (R143, RO, reset 0x0000_0000): ts, LTB bits 31:0. -/
def ADS_AINnn_TS (nn : Nat) : Nat := 0x40301008 + 0x10 * nn
/-- ADS_RSa_CFG (R143, RWT, reset 0x0008_0000): EN (31); CG (30:28); NRMAX (23:16), 1–255; CEIN (13:8), 0–62; AIN (5:0). -/
def ADS_RSa_CFG (a : Nat) : Nat := 0x40302000 + 0x40 * a
/-- ADS_RSa_ENT (R143, RWT, reset 0x0000_0000): ENT0 (11:0), even, 0–4,094. -/
def ADS_RSa_ENT (a : Nat) : Nat := 0x40302004 + 0x40 * a
/-- ADS_RSa_SETTLE (R143, RWT, reset 0x0000_04B0): settle (15:0), 0–16,000 ticks. -/
def ADS_RSa_SETTLE (a : Nat) : Nat := 0x40302008 + 0x40 * a
/-- ADS_RSa_IU (R143, RO, reset 0x0000_0000): IU (15:0); HELD (16); RU (17). -/
def ADS_RSa_IU (a : Nat) : Nat := 0x4030200c + 0x40 * a
/-- ADS_RSa_IV (R143, RO, reset 0x0000_0000): IV (15:0); HELD (16); RU (17). -/
def ADS_RSa_IV (a : Nat) : Nat := 0x40302010 + 0x40 * a
/-- ADS_RSa_TS (R143, RO, reset 0x0000_0000): ts of the reconstruction in use. -/
def ADS_RSa_TS (a : Nat) : Nat := 0x40302014 + 0x40 * a
/-- ADS_RSa_STATUS (R143, W1C, reset 0x0000_0000): bit 0 NOREC, bit 1 NRLIM. -/
def ADS_RSa_STATUS (a : Nat) : Nat := 0x40302018 + 0x40 * a
/-- ADS_RSa_NOREC_CNT (R143, RO, reset 0x0000_0000): no-reconstruction periods (15:0), saturating. -/
def ADS_RSa_NOREC_CNT (a : Nat) : Nat := 0x4030201c + 0x40 * a
/-- ADS_RSa_EXTRA_CNT (R143, RO, reset 0x0000_0000): unused samples (15:0), saturating. -/
def ADS_RSa_EXTRA_CNT (a : Nat) : Nat := 0x40302020 + 0x40 * a
/-- SDM_SDnn_CFG (R147, RWT, reset 0x0000_0028): input and clock. -/
def SDM_SDnn_CFG (nn : Nat) : Nat := 0x40310000 + 0x40 * nn
/-- SDM_SDnn_FILT (R147, RWT, reset 0x8010_0340): filters. -/
def SDM_SDnn_FILT (nn : Nat) : Nat := 0x40310004 + 0x40 * nn
/-- SDM_SDnn_WIN (R147, WO, reset 0x0000_0000): GO (0); AVG (1); RESYNC (2); LEN (23:16), 1–255 when AVG = 1; schedulable. -/
def SDM_SDnn_WIN (nn : Nat) : Nat := 0x40310008 + 0x40 * nn
/-- SDM_SDnn_RES (R147, RO, reset 0x0000_0000): VALUE (15:0); OVR (16); latches TS. -/
def SDM_SDnn_RES (nn : Nat) : Nat := 0x4031000c + 0x40 * nn
/-- SDM_SDnn_TS (R147, RO, reset 0x0000_0000): ts, LTB bits 31:0. -/
def SDM_SDnn_TS (nn : Nat) : Nat := 0x40310010 + 0x40 * nn
/-- SDM_SDnn_FAST (R147, RO, reset 0x0000_0000): present fast output (15:0). -/
def SDM_SDnn_FAST (nn : Nat) : Nat := 0x40310014 + 0x40 * nn
/-- SDM_SDnn_STATUS (R147, mixed, reset 0x0000_0000): CLK_LOSS (0), STUCK (1), MAN_ERR (2), WIN_BUSY (3), all W1C; VALID (8, RO); CAPT (9, RO, capture open). -/
def SDM_SDnn_STATUS (nn : Nat) : Nat := 0x40310018 + 0x40 * nn
/-- SDM_SDnn_ROUTE (R147, RWT, reset 0x0000_0000): ROUTE (31); CEIN (5:0), 0–63. -/
def SDM_SDnn_ROUTE (nn : Nat) : Nat := 0x4031001c + 0x40 * nn
/-- SDM_SDnn_BUSY_CNT (R147, RO, reset 0x0000_0000): refused WIN writes (15:0), saturating. -/
def SDM_SDnn_BUSY_CNT (nn : Nat) : Nat := 0x40310020 + 0x40 * nn
/-- FCMP_CMPkk_CFG (R149, RWT, reset 0x4000_0100): source and filter. -/
def FCMP_CMPkk_CFG (kk : Nat) : Nat := 0x40320000 + 0x20 * kk
/-- FCMP_CMPkk_THR (R149, RWT, reset 0x7FFF_8000): HI (31:16), LO (15:0), signed Q15; LO < HI. -/
def FCMP_CMPkk_THR (kk : Nat) : Nat := 0x40320004 + 0x20 * kk
/-- FCMP_CMPkk_TEST (R149, WO, reset 0x0000_0000): bit 0 GO (R137); schedulable. -/
def FCMP_CMPkk_TEST (kk : Nat) : Nat := 0x40320008 + 0x20 * kk
/-- FCMP_CMPkk_STATUS (R149, mixed, reset 0x0000_0000): OUT (0, RO); TRIP (1), TEST_PASS (2), TEST_FAIL (3), TEST_SKIP (4), all W1C. -/
def FCMP_CMPkk_STATUS (kk : Nat) : Nat := 0x4032000c + 0x20 * kk
/-- FCMP_CMPkk_TRIPCNT (R149, RO, reset 0x0000_0000): assertions (15:0), saturating. -/
def FCMP_CMPkk_TRIPCNT (kk : Nat) : Nat := 0x40320010 + 0x20 * kk
/-- FCMP_CMPkk_SKIPCNT (R149, RO, reset 0x0000_0000): skipped tests (15:0), saturating. -/
def FCMP_CMPkk_SKIPCNT (kk : Nat) : Nat := 0x40320014 + 0x20 * kk
/-- CEA_CEn_STATE (R175, RO, reset from Former): role and axis. -/
def CEA_CEn_STATE (n : Nat) : Nat := 0x40400000 + 0x10000 * n
/-- CEA_CEn_STICKY (R175, mixed, reset 0x0000_0000): SAT (0, W1C), OVF (1, W1C): OR of instance flags; FIRST (25:16, RO), index of the first instance flagged since the last clear. -/
def CEA_CEn_STICKY (n : Nat) : Nat := 0x40400004 + 0x10000 * n
/-- CEA_CEn_FAULT (R175, W1C, reset 0x0000_0000): RESIDUE (0), FLOW (1), HANG (2), ECC (3), SHADOW (4). -/
def CEA_CEn_FAULT (n : Nat) : Nat := 0x40400008 + 0x10000 * n
/-- CEA_CEn_FLOWSIG (R175, RO, reset 0x0000_0000): signature of the last sample. -/
def CEA_CEn_FLOWSIG (n : Nat) : Nat := 0x4040000c + 0x10000 * n
/-- CEA_CEn_CYCLES (R175, RO, reset 0x0000_0000): CE cycles of the last completed sample (23:0). -/
def CEA_CEn_CYCLES (n : Nat) : Nat := 0x40400010 + 0x10000 * n
/-- CEA_CEn_CYCLES_MAX (R175, RW, reset 0x0000_0000): largest CYCLES since written 0 (23:0). -/
def CEA_CEn_CYCLES_MAX (n : Nat) : Nat := 0x40400014 + 0x10000 * n
/-- CEA_CEn_ECC_CNT (R175, RO, reset 0x0000_0000): corrected errors (15:0), saturating. -/
def CEA_CEn_ECC_CNT (n : Nat) : Nat := 0x40400018 + 0x10000 * n
/-- CEA_CEn_FLAGCLR (R175, WO, reset 0x0000_0000): ALL (31); INST (9:0), clears that instance's SAT and OVF. -/
def CEA_CEn_FLAGCLR (n : Nat) : Nat := 0x4040001c + 0x10000 * n
/-- CEA_CEn_INa_kk (R175, RO, reset 0x0000_0000): VALUE (15:0), NEW (16), RU (17), HELD (18), HALF (19), OVR (20). -/
def CEA_CEn_INa_kk (n : Nat) (a : Nat) (kk : Nat) : Nat := 0x40401000 + 0x10000 * n + 0x100 * a + 0x4 * kk
/-- CEA_CEn_IFLAG00 (R175, W1C, reset 0x0000_0000): bits 2j SAT and 2j + 1 OVF of instance 16w + j. -/
def CEA_CEn_IFLAG (n : Nat) (w : Nat) : Nat := 0x40402000 + 0x10000 * n + 0x4 * w
/-- CEA_AXa_START (R175, WO, reset 0x0000_0000): bit 0 GO; schedulable. -/
def CEA_AXa_START (a : Nat) : Nat := 0x40480000 + 0x100 * a
/-- CEA_AXa_CFG (R175, RWT, reset 0x0000_0300): NOVR (12:8), 1–16, with 0 and 17–31 refused; VARIANT (2:0), 0–7, must exist. -/
def CEA_AXa_CFG (a : Nat) : Nat := 0x40480004 + 0x100 * a
/-- CEA_AXa_DEADLINE (R175, RWT, reset 0x0000_0000): ticks (19:0); 0 = next start; else 400–800,000. -/
def CEA_AXa_DEADLINE (a : Nat) : Nat := 0x40480008 + 0x100 * a
/-- CEA_AXa_STATUS (R175, mixed, reset 0x0000_0000): state and sticky flags. -/
def CEA_AXa_STATUS (a : Nat) : Nat := 0x4048000c + 0x100 * a
/-- CEA_AXa_OVR_CNT (R175, RO, reset 0x0000_0000): TOTAL (15:0), saturating; CONSEC (23:16). -/
def CEA_AXa_OVR_CNT (a : Nat) : Nat := 0x40480010 + 0x100 * a
/-- CEA_AXa_SAMPLE_CNT (R175, RO, reset 0x0000_0000): completed samples. -/
def CEA_AXa_SAMPLE_CNT (a : Nat) : Nat := 0x40480014 + 0x100 * a
/-- CEA_AXa_T_START (R175, RO, reset 0x0000_0000): last start tick, LTB bits 31:0. -/
def CEA_AXa_T_START (a : Nat) : Nat := 0x40480018 + 0x100 * a
/-- CEA_AXa_T_REL (R175, RO, reset 0x0000_0000): last release completion, LTB bits 31:0. -/
def CEA_AXa_T_REL (a : Nat) : Nat := 0x4048001c + 0x100 * a
/-- CEA_AXa_CKPT_SEQ (R175, RO, reset 0x0000_0000): sample number of checkpoint in force. -/
def CEA_AXa_CKPT_SEQ (a : Nat) : Nat := 0x40480020 + 0x100 * a
/-- CEA_AXa_PROBE0 (R175, RWT, reset 0x0000_0000): EN (31); DELTA (30); SIG (15:0), an index of R154. -/
def CEA_AXa_PROBE (a : Nat) (k : Nat) : Nat := 0x40480040 + 0x100 * a + 0x4 * k
/-- CEA_HANDOVER (R175, WO, reset 0x0000_0000): GO (31); ENGINE (6:4); AXIS (1:0). -/
def CEA_HANDOVER : Nat := 0x40481000
/-- CEA_HANDOVER_STATUS (R175, RO, reset 0x0000_0000): STATE (1:0): 0 idle, 1 waiting, 2 shadow; SHADOW_N (6:4), 0–4; RESULT (10:8): 0 none, 1 DONE, 2 BUSY, 3 NOT_SPARE, 4 MISMATCH, 5 FAULT, 6 PREEMPTED (R171). -/
def CEA_HANDOVER_STATUS : Nat := 0x40481004
/-- CEA_SPARE (R175, RO, reset from Former): ENGINE (2:0); 7 = none. -/
def CEA_SPARE : Nat := 0x40481008
/-- CEA_READMIT (R175, WO, reset 0x0000_0000): bits 4:0, one per engine (R173). -/
def CEA_READMIT : Nat := 0x4048100c
/-- CEA_AXa_FC_CFG (R209, mixed, reset from Former): speed source and Former flags. -/
def CEA_AXa_FC_CFG (a : Nat) : Nat := 0x40480080 + 0x100 * a
/-- CEA_AXa_RV_THR (R209, RWT, reset 0x0000_0148): RVTHR (15:0), 1–32,767, pu of N_BASE. -/
def CEA_AXa_RV_THR (a : Nat) : Nat := 0x40480084 + 0x100 * a
/-- CEA_AXa_FR_TIME (R209, RWT, reset 0x0032_00C8): TASC (31:16), 10–500 × 0.1 ms; WIN (15:0), 50–1,000 × 10 µs. -/
def CEA_AXa_FR_TIME (a : Nat) : Nat := 0x40480088 + 0x100 * a
/-- CEA_AXa_FC_STATUS (R209, mixed, reset 0x0000_0077): limits, ceiling, restart, reverse, degraded. -/
def CEA_AXa_FC_STATUS (a : Nat) : Nat := 0x4048008c + 0x100 * a
/-- PWM_PLnn_CFG (R238, RWT, reset from Former): enable, group, source, kind. -/
def PWM_PLnn_CFG (n : Nat) : Nat := 0x40500000 + 0x100 * n
/-- PWM_PLnn_PORT (R238, RO, reset from Former): HPORT (13:8), LPORT (5:0), 0–63. -/
def PWM_PLnn_PORT (n : Nat) : Nat := 0x40500004 + 0x100 * n
/-- PWM_PLnn_DUTY (R238, RWT, reset 0x0000_0000): duty (15:0), signed Q15. -/
def PWM_PLnn_DUTY (n : Nat) : Nat := 0x40500008 + 0x100 * n
/-- PWM_PLnn_CMP0 (R238, RWT, reset 0x0000_0000): A: TICK (22:3), NAP (2:0). -/
def PWM_PLnn_CMP0 (n : Nat) : Nat := 0x4050000c + 0x100 * n
/-- PWM_PLnn_CMP1 (R238, RWT, reset 0x0000_0000): B: TICK (22:3), NAP (2:0). -/
def PWM_PLnn_CMP1 (n : Nat) : Nat := 0x40500010 + 0x100 * n
/-- PWM_PLnn_DT (R238, RWT, reset 0x0A00_0A00): DTOFF (31:16), DTON (15:0), NAP, 0–51,200. -/
def PWM_PLnn_DT (n : Nat) : Nat := 0x40500014 + 0x100 * n
/-- PWM_PLnn_MINPW (R238, RWT, reset 0x8000_0050): MODE (31:30), 3 refused; MINPW (12:0), 0–4,000 ticks. -/
def PWM_PLnn_MINPW (n : Nat) : Nat := 0x40500018 + 0x100 * n
/-- PWM_PLnn_TRIPSEL0 (R238, RWT, reset 0x0000_0000): bit k selects FCMPkk. -/
def PWM_PLnn_TRIPSEL0 (n : Nat) : Nat := 0x4050001c + 0x100 * n
/-- PWM_PLnn_TRIPSEL1 (R238, RWT, reset 0x0000_0000): DRV (8); TRIP pins (7:0). -/
def PWM_PLnn_TRIPSEL1 (n : Nat) : Nat := 0x40500020 + 0x100 * n
/-- PWM_PLnn_BLANK (R238, RWT, reset 0x0003_0320): TRIPN (23:16), 1–255; BLANK (12:0), 0–8,000 ticks. -/
def PWM_PLnn_BLANK (n : Nat) : Nat := 0x40500024 + 0x100 * n
/-- PWM_PLnn_BOOT (R238, RWT, reset 0x0008_0190): EN (31); K (23:16), 1–255; MINOFF (12:0), ticks. -/
def PWM_PLnn_BOOT (n : Nat) : Nat := 0x40500028 + 0x100 * n
/-- PWM_PLnn_STATUS (R238, mixed, reset 0x0000_0000): state and sticky flags. -/
def PWM_PLnn_STATUS (n : Nat) : Nat := 0x4050002c + 0x100 * n
/-- PWM_PLnn_LIVE0 (R238, RO, reset 0x0000_0000): live A after conversion and shifting, in the CMP format. -/
def PWM_PLnn_LIVE0 (n : Nat) : Nat := 0x40500030 + 0x100 * n
/-- PWM_PLnn_LIVE1 (R238, RO, reset 0x0000_0000): live B. -/
def PWM_PLnn_LIVE1 (n : Nat) : Nat := 0x40500034 + 0x100 * n
/-- PWM_PLnn_TRIP_CNT (R238, RO, reset 0x0000_0000): trips (15:0), saturating. -/
def PWM_PLnn_TRIP_CNT (n : Nat) : Nat := 0x40500038 + 0x100 * n
/-- PWM_PLnn_FILT_CNT (R238, RO, reset 0x0000_0000): STRETCH (31:16), DROP (15:0), saturating. -/
def PWM_PLnn_FILT_CNT (n : Nat) : Nat := 0x4050003c + 0x100 * n
/-- PWM_CGg_CFG (R238, RWT, reset from Former): enable, pairing, alignment. -/
def PWM_CGg_CFG (g : Nat) : Nat := 0x40504000 + 0x40 * g
/-- PWM_CGg_PERIOD (R238, RWT, reset from Former): P (19:0), 16,000–800,000 ticks. -/
def PWM_CGg_PERIOD (g : Nat) : Nat := 0x40504004 + 0x40 * g
/-- PWM_CGg_LEAD (R238, RWT, reset 0x0000_0640): LEAD (13:0), 800–16,000 ticks. -/
def PWM_CGg_LEAD (g : Nat) : Nat := 0x40504008 + 0x40 * g
/-- PWM_CGg_SS (R238, RWT, reset 0x0000_0000): EN1 (17), EN0 (16), WMIN (15:0), 1–32,767 phase units. -/
def PWM_CGg_SS (g : Nat) : Nat := 0x4050400c + 0x40 * g
/-- PWM_CGg_STATUS (R238, mixed, reset 0x0000_0000): state and sticky flags. -/
def PWM_CGg_STATUS (g : Nat) : Nat := 0x40504010 + 0x40 * g
/-- PWM_CGg_START (R238, RO, reset 0x0000_0000): start of live period, LTB bits 31:0. -/
def PWM_CGg_START (g : Nat) : Nat := 0x40504014 + 0x40 * g
/-- PWM_CGg_LIVEPER (R238, RO, reset 0x0000_0000): live P; 0 while stopped. -/
def PWM_CGg_LIVEPER (g : Nat) : Nat := 0x40504018 + 0x40 * g
/-- PWM_CGg_NEXT_LI (R238, RO, reset 0x0000_0000): next Load Instant, LTB bits 31:0. -/
def PWM_CGg_NEXT_LI (g : Nat) : Nat := 0x4050401c + 0x40 * g
/-- PWM_CGg_NOWIN_CNT (R238, RO, reset 0x0000_0000): no-reconstruction periods (15:0), saturating. -/
def PWM_CGg_NOWIN_CNT (g : Nat) : Nat := 0x40504020 + 0x40 * g
/-- PWM_TRIP_CFG (R238, RWT, reset 0x0000_0000): FILT (23:16), 0–255 ticks; POL (7:0), 1 = active high. -/
def PWM_TRIP_CFG : Nat := 0x40505000
/-- GLK_GLnn_CFG (R281, mixed, reset from Former): enable, mirror, PREF. -/
def GLK_GLnn_CFG (nn : Nat) : Nat := 0x40600000 + 0x100 * nn
/-- GLK_GLnn_STATE (R281, RO, reset 0x0000_1000): port state, owner, driver state. -/
def GLK_GLnn_STATE (nn : Nat) : Nat := 0x40600004 + 0x100 * nn
/-- GLK_GLnn_STATUS (R281, W1C, reset 0x0000_0000): sticky flags. -/
def GLK_GLnn_STATUS (nn : Nat) : Nat := 0x40600008 + 0x100 * nn
/-- GLK_GLnn_DLY (R281, RO, reset 0x0000_0000): LOOP (31:16), DLY_DN (15:0), NAP. -/
def GLK_GLnn_DLY (nn : Nat) : Nat := 0x4060000c + 0x100 * nn
/-- GLK_GLnn_ASYM (R281, RWT, reset 0x0000_0000): signed NAP (9:0), −512–511. -/
def GLK_GLnn_ASYM (nn : Nat) : Nat := 0x40600010 + 0x100 * nn
/-- GLK_GLnn_DLYCAND (R281, RO, reset 0x0000_0000): result refused under R254 (15:0). -/
def GLK_GLnn_DLYCAND (nn : Nat) : Nat := 0x40600014 + 0x100 * nn
/-- GLK_GLnn_DLYACC (R281, WO, reset 0x0000_0000): bit 0 ACCEPT. -/
def GLK_GLnn_DLYACC (nn : Nat) : Nat := 0x40600018 + 0x100 * nn
/-- GLK_GLnn_DIAG_SLOT (R281, WO, reset 0x0000_0000): GO (31); ARG (23:0), DIAG argument; schedulable. -/
def GLK_GLnn_DIAG_SLOT (nn : Nat) : Nat := 0x4060001c + 0x100 * nn
/-- GLK_GLnn_DIAG_RES (R281, RO, reset 0x0000_0000): DONE (31), TIMEOUT (30), ADDR or KIND (23:16), DATA (15:0). -/
def GLK_GLnn_DIAG_RES (nn : Nat) : Nat := 0x40600020 + 0x100 * nn
/-- GLK_GLnn_CFGACC (R281, WO, reset 0x0000_0000): GO (31), RD (30), ADDR (23:16), DATA (15:0). -/
def GLK_GLnn_CFGACC (nn : Nat) : Nat := 0x40600024 + 0x100 * nn
/-- GLK_GLnn_CFGRES (R281, RO, reset 0x0000_0000): DONE (31), ERR (30), ADDR (23:16), DATA (15:0). -/
def GLK_GLnn_CFGRES (nn : Nat) : Nat := 0x40600028 + 0x100 * nn
/-- GLK_GLnn_FACK (R281, WO, reset 0x0000_0000): MASK (7:0) (R268). -/
def GLK_GLnn_FACK (nn : Nat) : Nat := 0x4060002c + 0x100 * nn
/-- GLK_GLnn_FAULT (R281, RO, reset 0x0000_0000): argument of the last FAULT (23:0). -/
def GLK_GLnn_FAULT (nn : Nat) : Nat := 0x40600030 + 0x100 * nn
/-- GLK_GLnn_TEMP (R281, RO, reset 0x0000_0000): die (31:16), module NTC (15:0), 0.0625 °C. -/
def GLK_GLnn_TEMP (nn : Nat) : Nat := 0x40600034 + 0x100 * nn
/-- GLK_GLnn_ERR_CNT (R281, RO, reset 0x0000_0000): UP_ERR (31:16), DN_LOST (15:0), saturating. -/
def GLK_GLnn_ERR_CNT (nn : Nat) : Nat := 0x40600038 + 0x100 * nn
/-- GLK_GLnn_REFUSE_CNT (R281, RO, reset 0x0000_0000): RESENT (31:16), REFUSED (15:0), saturating. -/
def GLK_GLnn_REFUSE_CNT (nn : Nat) : Nat := 0x4060003c + 0x100 * nn
/-- GLK_GLnn_LASTREF (R281, RO, reset 0x0000_0000): CODE (26:24), edge time (23:0). -/
def GLK_GLnn_LASTREF (nn : Nat) : Nat := 0x40600040 + 0x100 * nn
/-- GLK_GLnn_CAL_CNT (R281, RO, reset 0x0000_0000): APPLIED (31:16), calibrations applied; DISCARDED (15:0), calibrations discarded under R253; both saturating. -/
def GLK_GLnn_CAL_CNT (nn : Nat) : Nat := 0x40600044 + 0x100 * nn
/-- GLK_CTRL (R281, RWT, reset 0x0000_0020): DLYLIM (15:0), 1–1,000 NAP. -/
def GLK_CTRL : Nat := 0x40604000
/-- GLK_SAFE_DT (R281, RWT, reset 0x0000_0320): ticks (12:0), 80–8,000. -/
def GLK_SAFE_DT : Nat := 0x40604004
/-- GLK_CMP_STATUS (R281, W1C, reset 0x0000_0000): bit 0 CMP. -/
def GLK_CMP_STATUS : Nat := 0x40604008
/-- GLK_READY0 (R281, RO, reset 0x0000_0000): bit k: port k READY, ports 0–31. -/
def GLK_READY0 : Nat := 0x4060400c
/-- GLK_READY1 (R281, RO, reset 0x0000_0000): the same for ports 32–63. -/
def GLK_READY1 : Nat := 0x40604010
/-- PSP_AXa_SEL (R301, RO, reset from Former): safe-state selection. -/
def PSP_AXa_SEL (a : Nat) : Nat := 0x40700000 + 0x100 * a
/-- PSP_AXa_OFFSPD (R301, RO, reset from Former): HYST (31:16), 0–OFFSPD; OFFSPD (15:0), 1–32,767, pu of N_BASE. -/
def PSP_AXa_OFFSPD (a : Nat) : Nat := 0x40700004 + 0x100 * a
/-- PSP_AXa_DCOC (R301, RO, reset from Former): EN (31); BLANK (22:16), 0–127 ticks; CMP (4:0), FCMP index. -/
def PSP_AXa_DCOC (a : Nat) : Nat := 0x40700008 + 0x100 * a
/-- PSP_AXa_STATE (R301, RO, reset 0x0000_0000): state, cause, blocks. -/
def PSP_AXa_STATE (a : Nat) : Nat := 0x4070000c + 0x100 * a
/-- PSP_AXa_STATUS (R301, W1C, reset 0x0000_0000): sticky flags. -/
def PSP_AXa_STATUS (a : Nat) : Nat := 0x40700010 + 0x100 * a
/-- PSP_AXa_FAULTSW (R301, RO, reset 0x0000_0000): FIRST (15:8), SECOND (7:0): VALID (7), HIGH (6), leg channel (4:0). -/
def PSP_AXa_FAULTSW (a : Nat) : Nat := 0x40700014 + 0x100 * a
/-- PSP_AXa_T_DET (R301, RO, reset 0x0000_0000): detection tick, LTB bits 31:0. -/
def PSP_AXa_T_DET (a : Nat) : Nat := 0x40700018 + 0x100 * a
/-- PSP_AXa_T_HALT (R301, RO, reset 0x0000_0000): first acceptance tick, LTB bits 31:0. -/
def PSP_AXa_T_HALT (a : Nat) : Nat := 0x4070001c + 0x100 * a
/-- PSP_AXa_SPEED (R301, RO, reset 0x0001_0000): UNK (16); speed (15:0) of the last evaluation. -/
def PSP_AXa_SPEED (a : Nat) : Nat := 0x40700020 + 0x100 * a
/-- PSP_AXa_LATER_CNT (R301, RO, reset 0x0000_0000): later reports (15:0), saturating. -/
def PSP_AXa_LATER_CNT (a : Nat) : Nat := 0x40700024 + 0x100 * a
/-- PSP_LKl_UDC (R301, RO, reset from Former): EN (31); SRCTYPE (30), 0 AIN, 1 SDM; TSTALE (23:16), 1–255 µs; SRC (5:0). -/
def PSP_LKl_UDC (l : Nat) : Nat := 0x40700800 + 0x80 * l
/-- PSP_LKl_IDC (R301, RO, reset from Former): SRCTYPE (30); SRC (5:0), chopper current input. -/
def PSP_LKl_IDC (l : Nat) : Nat := 0x40700804 + 0x80 * l
/-- PSP_LKl_CHTHR (R301, RO, reset from Former): CH_ON (31:16), CH_OFF (15:0), signed input units; CH_OFF < CH_ON. -/
def PSP_LKl_CHTHR (l : Nat) : Nat := 0x40700808 + 0x80 * l
/-- PSP_LKl_CH (R301, RO, reset from Former): EN (31); CH (25:24), CH0–CH3; DUTY (15:0), 1–32,767. -/
def PSP_LKl_CH (l : Nat) : Nat := 0x4070080c + 0x80 * l
/-- PSP_LKl_CHCHK (R301, RO, reset from Former): DI (31:16), input units; TRESP (15:0), 80–65,535 ticks. -/
def PSP_LKl_CHCHK (l : Nat) : Nat := 0x40700810 + 0x80 * l
/-- PSP_LKl_OV (R301, RO, reset from Former): OV2 (31:16), above CH_ON; OV2N (15:8), 1–255; OV3EN (7); OV3CMP (4:0). -/
def PSP_LKl_OV (l : Nat) : Nat := 0x40700814 + 0x80 * l
/-- PSP_LKl_DIS (R301, RO, reset from Former): EN (31); WDIS (30); WAXIS (29:28); DS (25:24), DS0–DS3; TMAX (15:0), 1–65,535 ms. -/
def PSP_LKl_DIS (l : Nat) : Nat := 0x40700818 + 0x80 * l
/-- PSP_LKl_USAFE (R301, RO, reset from Former): USAFE (15:0), input units. -/
def PSP_LKl_USAFE (l : Nat) : Nat := 0x4070081c + 0x80 * l
/-- PSP_LKl_DCURVE0 (R301, RO, reset from Former): T (31:16), ms, 0 = unused, rising with k; UMAX (15:0). -/
def PSP_LKl_DCURVE (l : Nat) (k : Nat) : Nat := 0x40700820 + 0x80 * l + 0x4 * k
/-- PSP_LKl_STATUS (R301, mixed, reset 0x0000_0000): chopper, overvoltage, discharge. -/
def PSP_LKl_STATUS (l : Nat) : Nat := 0x40700840 + 0x80 * l
/-- PSP_LKl_U0 (R301, RO, reset 0x0000_0000): U0 of the last discharge (15:0). -/
def PSP_LKl_U0 (l : Nat) : Nat := 0x40700844 + 0x80 * l
/-- PSP_LKl_DIS_T0 (R301, RO, reset 0x0000_0000): T0, LTB bits 31:0. -/
def PSP_LKl_DIS_T0 (l : Nat) : Nat := 0x40700848 + 0x80 * l
/-- SIS_ID (R335, RO, reset ROM version): SIS ROM version. -/
def SIS_ID : Nat := 0x50000000
/-- SIS_STATE (R335, RO, reset 0x0000_0000): SIS state and axis grants. -/
def SIS_STATE : Nat := 0x50000004
/-- SIS_STRAP (R335, RO, reset 0x0000_0000): STRAP (17:16): 0 not read, 1 valid, 2 INVALID; CODE (15:0). -/
def SIS_STRAP : Nat := 0x50000008
/-- SIS_SEAL (R335, RO, reset 0x0000_0000): SEALED (8); RESULT (2:0) (R311). -/
def SIS_SEAL : Nat := 0x5000000c
/-- SIS_STO (R335, RO, reset 0x0000_0000): A (0), B (1), filtered levels; DEMAND (2); SS1 (3); STO (4); STOMAP (9:8). -/
def SIS_STO : Nat := 0x50000010
/-- SIS_CT (R335, RO, reset 0x0000_0000): CFB (13:8); CT (5:0). -/
def SIS_CT : Nat := 0x50000014
/-- SIS_LINK (R335, RO, reset 0x0000_0000): 4 bits per link l at 4l: 0 OPEN, 1 PRECHARGING, 2 READY, 3 OPENING, 4 RETRY_WAIT. -/
def SIS_LINK : Nat := 0x50000018
/-- SIS_AXa_TRQ (R335, RO, reset 0x0000_0000): METHOD (17), 1 = power balance; INBAND (16); T̂ (15:0). -/
def SIS_AXa_TRQ (a : Nat) : Nat := 0x50000020 + 0x4 * a
/-- SIS_AXa_TBAND (R335, RO, reset 0x0000_0000): upper (31:16), lower (15:0). -/
def SIS_AXa_TBAND (a : Nat) : Nat := 0x50000030 + 0x4 * a
/-- SIS_MAIN0 (R335, RO, reset 0x0000_0000): converted value (15:0). -/
def SIS_MAIN (k : Nat) : Nat := 0x50000040 + 0x4 * k
/-- SIS_LOCK (R335, RO, reset 0x0000_0000): PHASE (2:0); CAUSE (31:16). -/
def SIS_LOCK : Nat := 0x50000060
/-- SIS_LOCK_CHAL (R335, RO, reset 0x0000_0000): challenge (R329). -/
def SIS_LOCK_CHAL : Nat := 0x50000064
/-- SIS_FAULT (R335, RO, reset 0x0000_0000): sticky faults; cleared by CLEAR. -/
def SIS_FAULT : Nat := 0x50000068
/-- SIS_MB_REQ0 (R335, RW, reset 0x0000_0000): per-initiator request copy (R314). -/
def SIS_MB_REQ (i : Nat) : Nat := 0x50000100 + 0x4 * i
/-- SIS_MB_DOOR (R335, W1S, reset 0x0000_0000): bit 0 RING. -/
def SIS_MB_DOOR : Nat := 0x50000110
/-- SIS_MB_STATUS (R335, RO, reset 0x0000_0000): BUSY (0); DONE (1); INITIATOR (15:8). -/
def SIS_MB_STATUS : Nat := 0x50000114
/-- SIS_MB_RESP0 (R335, RO, reset 0x0000_0000): CODE (7:0), TAG (15:8); RESP1–3 command data. -/
def SIS_MB_RESP (i : Nat) : Nat := 0x50000118 + 0x4 * i
/-- FCR_CTRL (R360, RWT, reset 0x0000_0000): FORCE_EN (0). -/
def FCR_CTRL : Nat := 0x40800000
/-- FCR_STATUS (R360, RO, reset 0x0000_0000): SAFE_N (17), FAULT_N (16), pin levels; NSET (10:0), sources with status set, 0–1,024. -/
def FCR_STATUS : Nat := 0x40800004
/-- FCR_SELF_STATUS (R360, RO, reset 0x0000_0000): LOGIC (2), COPY (1), PARITY (0). -/
def FCR_SELF_STATUS : Nat := 0x40800008
/-- FCR_FIRST_SET (R360, RO, reset 0x0000_0000): VALID (31); SRC (9:0), lowest source with status set. -/
def FCR_FIRST_SET : Nat := 0x4080000c
/-- FCR_STAGE (R360, RO, reset 0x0000_0000): PEAK (29:16), LEVEL (13:0), 0–8,192. -/
def FCR_STAGE : Nat := 0x40800010
/-- FCR_COALESCE_CNT (R360, RO, reset 0x0000_0000): coalesced raisings, saturating. -/
def FCR_COALESCE_CNT : Nat := 0x40800014
/-- FCR_SET00 (R360, RO, reset 0x0000_0000): bit j: status of source 32w + j. -/
def FCR_SET (w : Nat) : Nat := 0x40800100 + 0x4 * w
/-- FCR_SRCkkkk_CFG (R360, RWT, reset from Former): configuration (R361). -/
def FCR_SRCkkkk_CFG (k : Nat) : Nat := 0x40801000 + 0x20 * k
/-- FCR_SRCkkkk_STATUS (R360, mixed, reset 0x0000_0000): status (R362). -/
def FCR_SRCkkkk_STATUS (k : Nat) : Nat := 0x40801004 + 0x20 * k
/-- FCR_SRCkkkk_FORCE (R360, W1S, reset 0x0000_0000): bit 0 FORCE (R345). -/
def FCR_SRCkkkk_FORCE (k : Nat) : Nat := 0x40801008 + 0x20 * k
/-- FCR_SRCkkkk_COUNT (R360, RO, reset 0x0000_0000): raisings since the last clear (15:0), saturating. -/
def FCR_SRCkkkk_COUNT (k : Nat) : Nat := 0x4080100c + 0x20 * k
/-- FCR_SRCkkkk_FIRST_LO (R360, RO, reset 0x0000_0000): FIRST, LTB bits 31:0; latches FIRST_HI. -/
def FCR_SRCkkkk_FIRST_LO (k : Nat) : Nat := 0x40801010 + 0x20 * k
/-- FCR_SRCkkkk_FIRST_HI (R360, RO, reset 0x0000_0000): FIRST, LTB bits 63:32. -/
def FCR_SRCkkkk_FIRST_HI (k : Nat) : Nat := 0x40801014 + 0x20 * k
/-- FCR_SRCkkkk_LAST_LO (R360, RO, reset 0x0000_0000): LAST, LTB bits 31:0; latches LAST_HI. -/
def FCR_SRCkkkk_LAST_LO (k : Nat) : Nat := 0x40801018 + 0x20 * k
/-- FCR_SRCkkkk_LAST_HI (R360, RO, reset 0x0000_0000): LAST, LTB bits 63:32. -/
def FCR_SRCkkkk_LAST_HI (k : Nat) : Nat := 0x4080101c + 0x20 * k
/-- THM_STATUS (R380, RO, reset 0x0000_0000): state. -/
def THM_STATUS : Nat := 0x40900000
/-- THM_DIE_MAX (R380, RO, reset 0x0000_0000): REGION (19:16); hottest temperature in use (15:0). -/
def THM_DIE_MAX : Nat := 0x40900004
/-- THM_BROKEN (R380, RO, reset 0x0000_0000): CHK_SUSP (24:16), BROKEN (8:0), one bit per region. -/
def THM_BROKEN : Nat := 0x40900008
/-- THM_TREF (R380, RO, reset 0x0000_0000): TREF (15:0). -/
def THM_TREF : Nat := 0x4090000c
/-- THM_Rr_SENS (R380, RO, reset 0x0000_0000): COUNT (22:16), R366; sensor (15:0). -/
def THM_Rr_SENS (r : Nat) : Nat := 0x40900040 + 0x8 * r
/-- THM_Rr_MODEL (R380, RO, reset 0x0000_0000): model temperature (15:0). -/
def THM_Rr_MODEL (r : Nat) : Nat := 0x40900044 + 0x8 * r
/-- THM_PDOM0 (R380, RO, reset 0x0000_0000): domain power, mW (15:0). -/
def THM_PDOM (d : Nat) : Nat := 0x40900090 + 0x4 * d
/-- THM_DIE_STAGE0 (R380, RWT, reset from Former): R (31:16), 1–65,535; ALPHA (15:0), 1–65,535. -/
def THM_DIE_STAGE (i : Nat) : Nat := 0x40900100 + 0x4 * i
/-- THM_DIE_THR0 (R380, RWT, reset from Former): WARN (31:16), TRIP (15:0). -/
def THM_DIE_THR0 : Nat := 0x40900110
/-- THM_DIE_THR1 (R380, RWT, reset from Former): TD0 (31:16), TD1 (15:0). -/
def THM_DIE_THR1 : Nat := 0x40900114
/-- THM_DIE_THR2 (R380, RWT, reset from Former): FMIN (31:16), 0–32,767; HYST (15:0), 0–1,600. -/
def THM_DIE_THR2 : Nat := 0x40900118
/-- THM_DIE_RATE (R380, RWT, reset from Former): N (23:16), 1–64; RISE (15:0), 1–32,767. -/
def THM_DIE_RATE : Nat := 0x4090011c
/-- THM_CHK (R380, RWT, reset from Former): XTOL (31:16), 16–1,600, default 240; XTIME (15:0), 10–10,000 ms, default 100. -/
def THM_CHK : Nat := 0x40900120
/-- THM_CHK2 (R380, RWT, reset from Former): MODTOL (31:16), 16–1,600; TREF_DEF (15:0). -/
def THM_CHK2 : Nat := 0x40900124
/-- THM_SETm_STAGE0 (R380, RWT, reset from Former): as the die stages. -/
def THM_SETm_STAGE (m : Nat) (i : Nat) : Nat := 0x40900140 + 0x40 * m + 0x4 * i
/-- THM_SETm_THR0 (R380, RWT, reset from Former): as the die thresholds, at 0x150, 0x154 and 0x158. -/
def THM_SETm_THR (m : Nat) (i : Nat) : Nat := 0x40900150 + 0x40 * m + 0x4 * i
/-- THM_SETm_RATE (R380, RWT, reset from Former): as THM_DIE_RATE. -/
def THM_SETm_RATE (m : Nat) : Nat := 0x4090015c + 0x40 * m
/-- THM_SETm_PLAUS (R380, RWT, reset from Former): MTOL (31:16), 16–1,600; MTIME (15:0), 1–10,000 ms. -/
def THM_SETm_PLAUS (m : Nat) : Nat := 0x40900160 + 0x40 * m
/-- THM_SETm_PBASE (R380, RWT, reset from Former): PBASE (15:0), 1–65,535 W. -/
def THM_SETm_PBASE (m : Nat) : Nat := 0x40900164 + 0x40 * m
/-- THM_W00 (R380, RO, reset from Former): entry 9r + d of W: register ⌊(9r + d)/2⌋, bits 15:0 if even, 31:16 if odd. -/
def THM_W (j : Nat) : Nat := 0x40900240 + 0x4 * j
/-- THM_SWkk_CFG (R380, RWT, reset from Former): EN (31); SET (25:24); COOL (21:20); SIG (15:0). -/
def THM_SWkk_CFG (kk : Nat) : Nat := 0x40900300 + 0x4 * kk
/-- THM_COOL0 (R380, RW, reset from Former): coolant temperature (15:0). -/
def THM_COOL (c : Nat) : Nat := 0x40900400 + 0x4 * c
/-- THM_SWkk_TJ (R380, RO, reset 0x0000_0000): TJ (15:0). -/
def THM_SWkk_TJ (kk : Nat) : Nat := 0x40900800 + 0x10 * kk
/-- THM_SWkk_NTC (R380, RO, reset 0x0000_0000): model NTC (31:16); NTC_USED (15:0). -/
def THM_SWkk_NTC (kk : Nat) : Nat := 0x40900804 + 0x10 * kk
/-- THM_SWkk_STATUS (R380, mixed, reset 0x0000_0000): channel flags. -/
def THM_SWkk_STATUS (kk : Nat) : Nat := 0x40900808 + 0x10 * kk
/-- THM_AXa_FACTOR (R380, RO, reset 0x00FF_7FFF): SRC (23:16): region 0–8, 0x40 + port, 0xFF none; FACTOR (15:0). -/
def THM_AXa_FACTOR (a : Nat) : Nat := 0x40901000 + 0x4 * a
/-- ICF_CTRL (R406, RWL, reset 0x0000_0000): bit 0 LOCK. -/
def ICF_CTRL : Nat := 0x40070000
/-- ICF_DEFAULT (R406, RWL, reset 0x0000_0077): W (n), R (4 + n) for PXn; execute follows R. -/
def ICF_DEFAULT : Nat := 0x40070004
/-- ICF_STATUS (R406, W1C, reset 0x0000_0000): CMP (0), URG_LATE (1), ECC_UE (2). -/
def ICF_STATUS : Nat := 0x40070008
/-- ICF_VCNT (R406, RO, reset 0x0000_0000): violations (15:0), saturating. -/
def ICF_VCNT : Nat := 0x4007000c
/-- ICF_VLOG0 (R406, RO, reset 0x0000_0000): oldest record, first word. -/
def ICF_VLOG0 : Nat := 0x40070010
/-- ICF_VLOG1 (R406, RO, reset 0x0000_0000): address. -/
def ICF_VLOG1 : Nat := 0x40070014
/-- ICF_VLOG2 (R406, RO, reset 0x0000_0000): LTB bits 31:0; reading pops the record. -/
def ICF_VLOG2 : Nat := 0x40070018
/-- ICF_FLS_SHARE (R406, RO, reset 0x0000_0000): HELD (31:16), accesses held back, saturating; SHARE (15:0), last window, 1/65,536. -/
def ICF_FLS_SHARE : Nat := 0x40070020
/-- ICF_ECC_CNT (R406, RO, reset 0x0000_0000): UE (31:16), CORR (15:0), saturating. -/
def ICF_ECC_CNT : Nat := 0x40070024
/-- ICF_URG_MAX (R406, RW, reset 0x0000_0000): longest Urgent access, ticks (15:0); write 0 to restart. -/
def ICF_URG_MAX : Nat := 0x40070028
/-- ICF_RGNn_BASE (R406, RWL, reset 0x0000_0000): BASE (31:12); EN (0). -/
def ICF_RGNn_BASE (n : Nat) : Nat := 0x40070100 + 0x10 * n
/-- ICF_RGNn_SIZE (R406, RWL, reset 0x0000_0000): size in 4 KiB units minus 1 (19:0); must not pass 0xFFFF_FFFF. -/
def ICF_RGNn_SIZE (n : Nat) : Nat := 0x40070104 + 0x10 * n
/-- ICF_RGNn_PERM (R406, RWL, reset 0x0000_0000): W (n), R (4 + n), X (8 + n) for PXn; JTAG R (12), W (13). -/
def ICF_RGNn_PERM (n : Nat) : Nat := 0x40070108 + 0x10 * n
/-- CSQ_CTRL (R437, RWT, reset 0x0064_0032): GAPTIME (31:16), 1–10,000 ms; BATCHT (9:0), 1–1,000 µs. -/
def CSQ_CTRL : Nat := 0x40030000
/-- CSQ_STATUS (R437, RO, reset 0x0000_0000): PWRFAIL (8); RESTORE (2:0): 0 NEW, 1 RETAINED, 2 FLUSH, 3 STALE. -/
def CSQ_STATUS : Nat := 0x40030004
/-- CSQ_CRC_CNT (R437, RO, reset 0x0000_0000): bad CRC (15:0), saturating. -/
def CSQ_CRC_CNT : Nat := 0x40030008
/-- CSQ_DUP_CNT (R437, RO, reset 0x0000_0000): duplicates (15:0), saturating. -/
def CSQ_DUP_CNT : Nat := 0x4003000c
/-- CSQ_REFUSE_CNT (R437, RO, reset 0x0000_0000): GAP (31:16), other refusals (15:0), saturating. -/
def CSQ_REFUSE_CNT : Nat := 0x40030010
/-- CSQ_LEN_CNT (R437, RO, reset 0x0000_0000): refused datagrams (15:0), saturating. -/
def CSQ_LEN_CNT : Nat := 0x40030014
/-- CSQ_LOG_HEAD (R437, RO, reset 0x0000_0000): next log index (12:0), 0–7,167. -/
def CSQ_LOG_HEAD : Nat := 0x40030018
/-- CSQ_SRCs_CFG (R437, RWT, reset from Former): EN (31); PATHS (13:8): CAN0–3, ETH0, ETH1; ID (7:0). -/
def CSQ_SRCs_CFG (s : Nat) : Nat := 0x40030100 + 0x10 * s
/-- CSQ_SRCs_LAST (R437, mixed, reset 0x0000_0000): LAST; writable only outside SYNC (R414). -/
def CSQ_SRCs_LAST (s : Nat) : Nat := 0x40030104 + 0x10 * s
/-- CSQ_SRCs_STATE (R437, RO, reset 0x0000_0000): HELD (11:8), 0–7; STATE (1:0): 0 NEW, 1 SYNC, 2 RESYNC. -/
def CSQ_SRCs_STATE (s : Nat) : Nat := 0x40030108 + 0x10 * s
/-- CSQ_AXa_SRC (R437, RWT, reset from Former): SEL (31), 0 bus, 1 CMD; LIMP (30); TIMEOUT (23:8), 0–60,000 ms, 0 = none; SLOT (3:0). -/
def CSQ_AXa_SRC (a : Nat) : Nat := 0x40030200 + 0x20 * a
/-- CSQ_AXa_LIMP0 (R437, RWT, reset 0x0000_0000): MODE (19:16), 0–2; RAMP (15:0), 0–32,767. -/
def CSQ_AXa_LIMP0 (a : Nat) : Nat := 0x40030204 + 0x20 * a
/-- CSQ_AXa_LIMP1 (R437, RWT, reset 0x0000_0000): POSLIM (31:16), 0–32,767; NEGLIM (15:0), −32,768–0. -/
def CSQ_AXa_LIMP1 (a : Nat) : Nat := 0x40030208 + 0x20 * a
/-- CSQ_AXa_LAST (R437, RO, reset 0x0000_0000): SEQ of the record applied last. -/
def CSQ_AXa_LAST (a : Nat) : Nat := 0x4003020c + 0x20 * a
/-- CMD_CFG (R438, RWT, reset 0x0000_0000): EN (31); AXES (11:8); MODE (1:0), 3 refused. -/
def CMD_CFG : Nat := 0x40c00000
/-- CMD_XLO (R438, RWT, reset 0x0000_0000): XLO (19:0), below XHI. -/
def CMD_XLO : Nat := 0x40c00004
/-- CMD_XHI (R438, RWT, reset 0x0000_0BB8): XHI (19:0). -/
def CMD_XHI : Nat := 0x40c00008
/-- CMD_OUT (R438, RWT, reset 0x7FFF_0000): OUT_HI (31:16), OUT_LO (15:0), signed Q15. -/
def CMD_OUT : Nat := 0x40c0000c
/-- CMD_LOSSLO (R438, RWT, reset 0x0000_0064): LOSS_LO (19:0). -/
def CMD_LOSSLO : Nat := 0x40c00010
/-- CMD_LOSSHI (R438, RWT, reset 0x0000_0B54): LOSS_HI (19:0). -/
def CMD_LOSSHI : Nat := 0x40c00014
/-- CMD_TIME (R438, RWT, reset 0x0064_0014): PTIME (31:16), 1–5,000; LOSSTIME (15:0), 1–5,000 steps. -/
def CMD_TIME : Nat := 0x40c00018
/-- CMD_PTOL (R438, RWT, reset 0x0000_0666): PTOL (15:0), 1–32,767. -/
def CMD_PTOL : Nat := 0x40c0001c
/-- CMD_X (R438, RO, reset 0x0000_0000): VALID (31); X (19:0). -/
def CMD_X : Nat := 0x40c00020
/-- CMD_SP (R438, RO, reset 0x0000_0000): SP (15:0). -/
def CMD_SP : Nat := 0x40c00024
/-- CMD_STATUS (R438, W1C, reset 0x0000_0000): LOSS (0), PLAUS (1), LIMP (2). -/
def CMD_STATUS : Nat := 0x40c00028
/-- CTE_BEGIN (R439, WO, reset 0x0000_0000): bit 0 GO. -/
def CTE_BEGIN : Nat := 0x40020000
/-- CTE_COMMIT (R439, WO, reset 0x0000_0000): GO (31); KIND (1:0). -/
def CTE_COMMIT : Nat := 0x40020004
/-- CTE_COMMIT_ARG (R439, RW, reset 0x0000_0000): boundary argument (R425). -/
def CTE_COMMIT_ARG : Nat := 0x40020008
/-- CTE_ROLLBACK (R439, WO, reset 0x0000_0000): bit 0 GO. -/
def CTE_ROLLBACK : Nat := 0x4002000c
/-- CTE_TX (R439, RO, reset 0x0000_0000): TOKEN (31:16); ERR (15:8); STATE (2:0): 0 NONE, 1 OPEN, 2 VALIDATING, 3 PENDING, 4 DONE, 5 FAILED. -/
def CTE_TX : Nat := 0x40020010
/-- CTE_TX_WRITES (R439, RO, reset 0x0000_0000): entries (10:0), 0–1,024. -/
def CTE_TX_WRITES : Nat := 0x40020014
/-- CTE_ERR_ADDR (R439, RO, reset 0x0000_0000): address of the failing entry. -/
def CTE_ERR_ADDR : Nat := 0x40020018
/-- CTE_ERR_RES (R439, RO, reset 0x0000_0000): resource id in conflict. -/
def CTE_ERR_RES : Nat := 0x4002001c
/-- CTE_ERR_OWNER (R439, RO, reset 0x0000_0000): TOKEN (31:16) of the requester; REQUESTED (15:8); CURRENT (7:0). -/
def CTE_ERR_OWNER : Nat := 0x40020020
/-- CTE_BOUNDARY (R439, RO, reset 0x0000_0000): LTB bits 31:0 of the boundary applied. -/
def CTE_BOUNDARY : Nat := 0x40020024
/-- CTE_CTRL (R439, RWT, reset 0x0000_03E8): TXTIME (13:0), 1–10,000 ms. -/
def CTE_CTRL : Nat := 0x40020100
/-- CTE_OPEN (R439, RO, reset 0x0000_0000): SHADOW (26:16), entries in use; COUNT (2:0), 0–4. -/
def CTE_OPEN : Nat := 0x40020104
/-- CTE_OVL (R439, RO, reset 0x0000_0000): OVL_LOST (31), OVL_DISCARD (30); ENTRIES (10:0), 0–1,536. -/
def CTE_OVL : Nat := 0x40020108
/-- CTE_FAIL_CNT (R439, RO, reset 0x0000_0000): failed commits (15:0), saturating. -/
def CTE_FAIL_CNT : Nat := 0x4002010c
/-- CTE_OWNSET (R439, RWT, reset 0x0000_0000): ownership change (R424). -/
def CTE_OWNSET : Nat := 0x40020110
/-- JRN_STATUS (R440, RO, reset 0x0000_0000): META (2), WEAR (1), RUN (0). -/
def JRN_STATUS : Nat := 0x40040000
/-- JRN_HEAD_SEQ (R440, RO, reset 0x0000_0000): JSEQ of the next record. -/
def JRN_HEAD_SEQ : Nat := 0x40040004
/-- JRN_OLDEST_SEQ (R440, RO, reset 0x0000_0000): JSEQ of the oldest record held. -/
def JRN_OLDEST_SEQ : Nat := 0x40040008
/-- JRN_RATE (R440, RO, reset 0x0000_0000): records admitted in the last second (19:0). -/
def JRN_RATE : Nat := 0x4004000c
/-- JRN_WRAPS (R440, RO, reset from MRAM): ring wraps since manufacture. -/
def JRN_WRAPS : Nat := 0x40040010
/-- JRN_ECC_CNT (R440, RO, reset 0x0000_0000): UE (31:16), CORR (15:0), saturating. -/
def JRN_ECC_CNT : Nat := 0x40040014
/-- JRN_FW_WRITE (R440, WO, reset 0x0000_0000): GO (31); TYPE (7:0). -/
def JRN_FW_WRITE : Nat := 0x40040020
/-- JRN_FW_STATUS (R440, RO, reset 0x0000_0000): DONE (31); ERR (30:28): 0 none, 1 BUSY, 2 TYPE, 3 FLOOD. -/
def JRN_FW_STATUS : Nat := 0x40040024
/-- JRN_FW_SEQ (R440, RO, reset 0x0000_0000): JSEQ assigned. -/
def JRN_FW_SEQ : Nat := 0x40040028
/-- JRN_FW_DATA0 (R440, RW, reset 0x0000_0000): payload bytes 16–59. -/
def JRN_FW_DATA (i : Nat) : Nat := 0x4004002c + 0x4 * i
/-- JRN_SEQ_Q (R440, WO, reset 0x0000_0000): JSEQ to copy (R434). -/
def JRN_SEQ_Q : Nat := 0x40040080
/-- JRN_SEQ_RES (R440, RO, reset 0x0000_0000): DONE (31); RESULT (1:0): 1 FOUND, 2 GONE. -/
def JRN_SEQ_RES : Nat := 0x40040084
/-- JRN_SEQ_WIN0 (R440, RO, reset 0x0000_0000): copied record, word 0 first. -/
def JRN_SEQ_WIN (i : Nat) : Nat := 0x400400c0 + 0x4 * i
/-- ETHn_CFG (R467, RWT, reset from Former): EN (31); IF (25:24), 0 RGMII, 1 SGMII, 2–3 refused; SPEED (17:16), 0 10, 1 100, 2 1000, 3 in-band (SGMII only); ONESTEP (9); PTP (8). -/
def ETHn_CFG (n : Nat) : Nat := 0x40a00000 + 0x10000 * n
/-- ETHn_STATUS (R467, mixed, reset 0x0000_0000): LINK (0, RO); SPEED_ACT (2:1, RO); LINK_LOST (8, W1C); RXOVF (9, W1C). -/
def ETHn_STATUS (n : Nat) : Nat := 0x40a00004 + 0x10000 * n
/-- ETHn_MAC_LO (R467, RWT, reset from Former): address bytes 0–3, byte 0 in bits 7:0. -/
def ETHn_MAC_LO (n : Nat) : Nat := 0x40a00008 + 0x10000 * n
/-- ETHn_MAC_HI (R467, RWT, reset from Former): address bytes 4–5 (15:0). -/
def ETHn_MAC_HI (n : Nat) : Nat := 0x40a0000c + 0x10000 * n
/-- ETHn_IPADDR (R467, RWT, reset from Former): first octet in bits 31:24. -/
def ETHn_IPADDR (n : Nat) : Nat := 0x40a00010 + 0x10000 * n
/-- ETHn_VLAN (R467, RWT, reset 0x0000_0700): TAG (31); VID (27:16), 1–4,094; CSQ_PCP (10:8). -/
def ETHn_VLAN (n : Nat) : Nat := 0x40a00014 + 0x10000 * n
/-- ETHn_TSLAT (R467, RWT, reset 0x0000_0000): TX (31:16), RX (15:0), signed, 1/16 ns. -/
def ETHn_TSLAT (n : Nat) : Nat := 0x40a00018 + 0x10000 * n
/-- ETHn_MDIO (R467, mixed, reset 0x0000_0000): GO (31, W1S); RD (30); PHY (25:21); REG (20:16); DATA (15:0); BUSY (29, RO). -/
def ETHn_MDIO (n : Nat) : Nat := 0x40a0001c + 0x10000 * n
/-- ETHn_RXR_BASE (R467, RWT, reset 0x0000_0000): ring base in system SRAM, 2 KiB aligned. -/
def ETHn_RXR_BASE (n : Nat) : Nat := 0x40a00020 + 0x10000 * n
/-- ETHn_RXR_LEN (R467, RWT, reset 0x0000_0001): slots (10:0), 1–1,024. -/
def ETHn_RXR_LEN (n : Nat) : Nat := 0x40a00024 + 0x10000 * n
/-- ETHn_RXR_HEAD (R467, RO, reset 0x0000_0000): next slot hardware fills. -/
def ETHn_RXR_HEAD (n : Nat) : Nat := 0x40a00028 + 0x10000 * n
/-- ETHn_TXR_BASE (R467, RWT, reset 0x0000_0000): as RXR_BASE. -/
def ETHn_TXR_BASE (n : Nat) : Nat := 0x40a0002c + 0x10000 * n
/-- ETHn_TXR_LEN (R467, RWT, reset 0x0000_0001): slots (10:0), 1–1,024. -/
def ETHn_TXR_LEN (n : Nat) : Nat := 0x40a00030 + 0x10000 * n
/-- ETHn_TXR_TAIL (R467, RW, reset 0x0000_0000): slot after the last one firmware has filled. -/
def ETHn_TXR_TAIL (n : Nat) : Nat := 0x40a00034 + 0x10000 * n
/-- ETHn_TXR_HEAD (R467, RO, reset 0x0000_0000): next slot hardware sends. -/
def ETHn_TXR_HEAD (n : Nat) : Nat := 0x40a00038 + 0x10000 * n
/-- ETHn_RXCNT (R467, RO, reset 0x0000_0000): good frames, saturating. -/
def ETHn_RXCNT (n : Nat) : Nat := 0x40a00040 + 0x10000 * n
/-- ETHn_ERRCNT (R467, RO, reset 0x0000_0000): FCS (31:16), LEN (15:0), saturating. -/
def ETHn_ERRCNT (n : Nat) : Nat := 0x40a00044 + 0x10000 * n
/-- ETHn_HWDROP (R467, RO, reset 0x0000_0000): hardware-path drops (15:0), saturating. -/
def ETHn_HWDROP (n : Nat) : Nat := 0x40a00048 + 0x10000 * n
/-- ETHn_RXOVF_CNT (R467, RO, reset 0x0000_0000): frames without a slot (15:0), saturating. -/
def ETHn_RXOVF_CNT (n : Nat) : Nat := 0x40a0004c + 0x10000 * n
/-- NTU_CTRL (R468, RWT, reset 0x8000_0177): EN (31); SYNC_TO (15:0), 1–10,000 ms. -/
def NTU_CTRL : Nat := 0x40a20000
/-- NTU_STATUS (R468, mixed, reset 0x0000_0000): R469. -/
def NTU_STATUS : Nat := 0x40a20004
/-- NTU_CNT (R468, RO, reset 0x0000_0000): counter, ns. -/
def NTU_CNT : Nat := 0x40a20008
/-- NTU_RATE (R468, RWT, reset 0x0000_0000): signed, 2⁻⁴⁰. -/
def NTU_RATE : Nat := 0x40a2000c
/-- NTU_WRAPCNT (R468, RO, reset 0x0000_0000): wraps since power-on. -/
def NTU_WRAPCNT : Nat := 0x40a20010
/-- NTU_EP_SEC_LO (R468, RO, reset 0x0000_0000): active epoch: seconds 31:0, 47:32 (15:0), ns (29:0). -/
def NTU_EP_SEC_LO : Nat := 0x40a20014
/-- NTU_EP_SEC_HI (R468, RO, reset 0x0000_0000): active epoch: seconds 31:0, 47:32 (15:0), ns (29:0). -/
def NTU_EP_SEC_HI : Nat := 0x40a20018
/-- NTU_EP_NS (R468, RO, reset 0x0000_0000): active epoch: seconds 31:0, 47:32 (15:0), ns (29:0). -/
def NTU_EP_NS : Nat := 0x40a2001c
/-- NTU_SHD_SEC_LO (R468, RW, reset 0x0000_0000): shadow epoch, same layout. -/
def NTU_SHD_SEC_LO : Nat := 0x40a20020
/-- NTU_SHD_SEC_HI (R468, RW, reset 0x0000_0000): shadow epoch, same layout. -/
def NTU_SHD_SEC_HI : Nat := 0x40a20024
/-- NTU_SHD_NS (R468, RW, reset 0x0000_0000): shadow epoch, same layout. -/
def NTU_SHD_NS : Nat := 0x40a20028
/-- NTU_SHD_CTRL (R468, mixed, reset 0x0000_0000): VALID (31, RW); NOW (30, WO); WRAP (15:0, RW). -/
def NTU_SHD_CTRL : Nat := 0x40a2002c
/-- NTU_STEP (R468, WO, reset 0x0000_0000): signed ns (R449). -/
def NTU_STEP : Nat := 0x40a20030
/-- NTU_STEP_LIMIT (R468, RWT, reset 0x0000_03E8): 1–2³⁰ ns. -/
def NTU_STEP_LIMIT : Nat := 0x40a20034
/-- NTU_STEP_AUTH (R468, W1S, reset 0x0000_0000): bit 0 ARM. -/
def NTU_STEP_AUTH : Nat := 0x40a20038
/-- NTU_SET_CNT (R468, RW, reset 0x0000_0000): values for SET. -/
def NTU_SET_CNT : Nat := 0x40a20040
/-- NTU_SET_SEC_LO (R468, RW, reset 0x0000_0000): values for SET. -/
def NTU_SET_SEC_LO : Nat := 0x40a20044
/-- NTU_SET_SEC_HI (R468, RW, reset 0x0000_0000): values for SET. -/
def NTU_SET_SEC_HI : Nat := 0x40a20048
/-- NTU_SET_NS (R468, RW, reset 0x0000_0000): values for SET. -/
def NTU_SET_NS : Nat := 0x40a2004c
/-- NTU_SET_GO (R468, WO, reset 0x0000_0000): bit 0 GO (R450). -/
def NTU_SET_GO : Nat := 0x40a20050
/-- NTU_GM_ID_LO (R468, RW, reset 0x0000_0000): clockIdentity octets 4–7, octet 7 in bits 7:0. -/
def NTU_GM_ID_LO : Nat := 0x40a20060
/-- NTU_GM_ID_HI (R468, RW, reset 0x0000_0000): octets 0–3. -/
def NTU_GM_ID_HI : Nat := 0x40a20064
/-- NTU_HOLD_CLR (R468, WO, reset 0x0000_0000): bit 0 CLR. -/
def NTU_HOLD_CLR : Nat := 0x40a20068
/-- NTU_XS_REQ (R468, WO, reset 0x0000_0000): bit 0 GO. -/
def NTU_XS_REQ : Nat := 0x40a20070
/-- NTU_XS_CNT (R468, RO, reset 0x0000_0000): cross-stamp (R456). -/
def NTU_XS_CNT : Nat := 0x40a20074
/-- NTU_XS_LTB_LO (R468, RO, reset 0x0000_0000): cross-stamp (R456). -/
def NTU_XS_LTB_LO : Nat := 0x40a20078
/-- NTU_XS_LTB_HI (R468, RO, reset 0x0000_0000): cross-stamp (R456). -/
def NTU_XS_LTB_HI : Nat := 0x40a2007c
/-- NTU_XS_WRAP (R468, RO, reset 0x0000_0000): cross-stamp (R456). -/
def NTU_XS_WRAP : Nat := 0x40a20080
/-- NTU_Pp_RX0 (R468, RO, reset 0x0000_0000): receive FIFO head (R455); RX3 pops. -/
def NTU_Pp_RX (p : Nat) (i : Nat) : Nat := 0x40a20100 + 0x40 * p + 0x4 * i
/-- NTU_Pp_TX0 (R468, RO, reset 0x0000_0000): transmit FIFO head; TX3 pops. -/
def NTU_Pp_TX (p : Nat) (i : Nat) : Nat := 0x40a20110 + 0x40 * p + 0x4 * i
/-- TRC_CFG (R470, RWT, reset 0x0000_BAF5): EN (31); PCP (18:16); PORT (15:0), 1,024–65,535, not 47860. -/
def TRC_CFG : Nat := 0x40d00000
/-- TRC_STATUS (R470, mixed, reset 0x0000_0000): ACTIVE (5:0, RO), 0–32; SHED (8, W1C); RING_FULL (9, W1C). -/
def TRC_STATUS : Nat := 0x40d00004
/-- TRC_ALLOW_NET (R470, RWT, reset 0x0000_0000): permitted subscriber network. -/
def TRC_ALLOW_NET : Nat := 0x40d00008
/-- TRC_ALLOW_MASK (R470, RWT, reset 0xFFFF_FFFF): mask applied to NET and sender address. -/
def TRC_ALLOW_MASK : Nat := 0x40d0000c
/-- TRC_DROP_CNT (R470, RO, reset 0x0000_0000): dropped MTS datagrams (15:0), saturating. -/
def TRC_DROP_CNT : Nat := 0x40d00010
/-- TRC_STAGE_SHED (R470, RO, reset 0x0000_0000): CE staging shed records, saturating. -/
def TRC_STAGE_SHED : Nat := 0x40d00014
/-- TRC_MARK0 (R470, WO, reset 0x0000_0000): VALUE (15:0); schedulable. -/
def TRC_MARK (n : Nat) : Nat := 0x40d00020 + 0x4 * n
/-- TRC_FWREC (R470, WO, reset 0x0000_0000): ID (23:16), 0x80–0xEF; VALUE (15:0). -/
def TRC_FWREC : Nat := 0x40d00030
/-- TRC_RING_CFG (R470, RWT, reset 0x0000_0000): EN (31); STOP (30); STREAMS (5:0). -/
def TRC_RING_CFG : Nat := 0x40d00040
/-- TRC_RING_HEAD (R470, RO, reset 0x0000_0000): WRAPPED (31); next entry (17:0). -/
def TRC_RING_HEAD : Nat := 0x40d00044
/-- TRC_SUBs_STATE (R470, RO, reset 0x0000_0000): ACTIVE (31); ETH (30), MAC in use; STREAMS (5:0). -/
def TRC_SUBs_STATE (s : Nat) : Nat := 0x40d00100 + 0x20 * s
/-- TRC_SUBs_IP (R470, RO, reset 0x0000_0000): subscriber address. -/
def TRC_SUBs_IP (s : Nat) : Nat := 0x40d00104 + 0x20 * s
/-- TRC_SUBs_PORT (R470, RO, reset 0x0000_0000): subscriber port (15:0). -/
def TRC_SUBs_PORT (s : Nat) : Nat := 0x40d00108 + 0x20 * s
/-- TRC_SUBs_SENT (R470, RO, reset 0x0000_0000): SENT (R460). -/
def TRC_SUBs_SENT (s : Nat) : Nat := 0x40d0010c + 0x20 * s
/-- TRC_SUBs_LIMIT (R470, RO, reset 0x0000_0000): LIMIT. -/
def TRC_SUBs_LIMIT (s : Nat) : Nat := 0x40d00110 + 0x20 * s
/-- TRC_SUBs_SHED (R470, RO, reset 0x0000_0000): records shed, saturating. -/
def TRC_SUBs_SHED (s : Nat) : Nat := 0x40d00114 + 0x20 * s
/-- TRC_SUBs_LEASE (R470, RO, reset 0x0000_0000): lease remaining (11:0), ms. -/
def TRC_SUBs_LEASE (s : Nat) : Nat := 0x40d00118 + 0x20 * s
/-- TRC_SUBs_END (R470, WO, reset 0x0000_0000): bit 0 END (R459). -/
def TRC_SUBs_END (s : Nat) : Nat := 0x40d0011c + 0x20 * s
/-- CAN_CTRL (R488, RWT, reset from Former): mode and options. -/
def CAN_CTRL (c : Nat) : Nat := 0x40b00000 + 0x10000 * c
/-- CAN_NBT (R488, RWT, reset from Former): BRP−1 (31:23), TSEG1−1 (22:15), TSEG2−1 (14:8), SJW−1 (6:0). -/
def CAN_NBT (c : Nat) : Nat := 0x40b00004 + 0x10000 * c
/-- CAN_DBT (R488, RWT, reset from Former): BRP−1 (28:24), TSEG1−1 (20:16), TSEG2−1 (11:8), SJW−1 (3:0). -/
def CAN_DBT (c : Nat) : Nat := 0x40b00008 + 0x10000 * c
/-- CAN_TDC (R488, RWT, reset 0x0000_0000): EN (31); MEAS (22:16, RO), last delay; OFS (7:0), 0–127. -/
def CAN_TDC (c : Nat) : Nat := 0x40b0000c + 0x10000 * c
/-- CAN_STATUS (R488, mixed, reset 0x0000_0000): state and flags. -/
def CAN_STATUS (c : Nat) : Nat := 0x40b00010 + 0x10000 * c
/-- CAN_ERRCNT (R488, RO, reset 0x0000_0000): REC (23:16), TEC (8:0). -/
def CAN_ERRCNT (c : Nat) : Nat := 0x40b00014 + 0x10000 * c
/-- CAN_BO_RECOV (R488, WO, reset 0x0000_0000): bit 0 GO (R480). -/
def CAN_BO_RECOV (c : Nat) : Nat := 0x40b00018 + 0x10000 * c
/-- CAN_CSQACK (R488, RWT, reset from Former): EN (31); IDE (30); BRS (29); ID (28:0). -/
def CAN_CSQACK (c : Nat) : Nat := 0x40b0001c + 0x10000 * c
/-- CAN_CSQ_DROP (R488, RO, reset 0x0000_0000): ACK (31:16), frames (15:0), saturating. -/
def CAN_CSQ_DROP (c : Nat) : Nat := 0x40b00020 + 0x10000 * c
/-- CAN_TXBb_ID (R488, RW, reset 0x0000_0000): IDE (31); ID (28:0). -/
def CAN_TXBb_ID (c : Nat) (b : Nat) : Nat := 0x40b00100 + 0x10000 * c + 0x60 * b
/-- CAN_TXBb_CTRL (R488, RW, reset 0x0000_0000): FDF (10), BRS (11), RTR (9), DLC (3:0). -/
def CAN_TXBb_CTRL (c : Nat) (b : Nat) : Nat := 0x40b00104 + 0x10000 * c + 0x60 * b
/-- CAN_TXBb_REQ (R488, WO, reset 0x0000_0000): CANCEL (1), GO (0). -/
def CAN_TXBb_REQ (c : Nat) (b : Nat) : Nat := 0x40b00108 + 0x10000 * c + 0x60 * b
/-- CAN_TXBb_STATUS (R488, RO, reset 0x0000_0000): ATTEMPTS (11:8); STATE (2:0). -/
def CAN_TXBb_STATUS (c : Nat) (b : Nat) : Nat := 0x40b0010c + 0x10000 * c + 0x60 * b
/-- CAN_TXBb_DATA0 (R488, RW, reset 0x0000_0000): payload, byte 0 in bits 7:0 of DATA0. -/
def CAN_TXBb_DATA (c : Nat) (b : Nat) (i : Nat) : Nat := 0x40b00120 + 0x10000 * c + 0x60 * b + 0x4 * i
/-- CAN_RXF_CFG (R488, RWT, reset 0x0000_0000): OVWR (1), NOMATCH (0). -/
def CAN_RXF_CFG (c : Nat) : Nat := 0x40b00800 + 0x10000 * c
/-- CAN_RXF_STATUS (R488, RO, reset 0x0000_0000): OVFCNT (31:24), saturating; GET (21:16); FILL (6:0), 0–64. -/
def CAN_RXF_STATUS (c : Nat) : Nat := 0x40b00804 + 0x10000 * c
/-- CAN_RXF_POP (R488, WO, reset 0x0000_0000): INDEX (5:0) (R484). -/
def CAN_RXF_POP (c : Nat) : Nat := 0x40b00808 + 0x10000 * c
/-- CAN_RXs_CTRL (R488, RO, reset 0x0000_0000): NEW (31); WCNT (30:28); FILTER (22:16); ESI (12), BRS (11), FDF (10), RTR (9); DLC (3:0). -/
def CAN_RXs_CTRL (c : Nat) (s : Nat) : Nat := 0x40b01000 + 0x10000 * c + 0x50 * s
/-- CAN_RXs_ID (R488, RO, reset 0x0000_0000): IDE (31); ID (28:0). -/
def CAN_RXs_ID (c : Nat) (s : Nat) : Nat := 0x40b01004 + 0x10000 * c + 0x50 * s
/-- CAN_RXs_TS_LO (R488, RO, reset 0x0000_0000): LTB bits 31:0. -/
def CAN_RXs_TS_LO (c : Nat) (s : Nat) : Nat := 0x40b01008 + 0x10000 * c + 0x50 * s
/-- CAN_RXs_TS_HI (R488, RO, reset 0x0000_0000): LTB bits 63:32, with CAN_TS64. -/
def CAN_RXs_TS_HI (c : Nat) (s : Nat) : Nat := 0x40b0100c + 0x10000 * c + 0x50 * s
/-- CAN_RXs_DATA0 (R488, RO, reset 0x0000_0000): payload. -/
def CAN_RXs_DATA (c : Nat) (s : Nat) (i : Nat) : Nat := 0x40b01010 + 0x10000 * c + 0x50 * s + 0x4 * i
/-- CAN_FLTf_ID (R488, RWT, reset from Former): EN (31); IDE (30); ID (28:0). -/
def CAN_FLTf_ID (c : Nat) (f : Nat) : Nat := 0x40b03000 + 0x10000 * c + 0x8 * f
/-- CAN_FLTf_MASK (R488, RWT, reset from Former): ACTION (31:30); MASK (28:0). -/
def CAN_FLTf_MASK (c : Nat) (f : Nat) : Nat := 0x40b03004 + 0x10000 * c + 0x8 * f
/-- BST_CTRL (R505, RWT, reset 0x0000_0001): EN (0). -/
def BST_CTRL : Nat := 0x40060000
/-- BST_CFG (R505, RO, reset from Former): KEYREQ (0). -/
def BST_CFG : Nat := 0x40060004
/-- BST_STATUS (R505, RO, reset 0x0000_0000): SLICE (28:24), slice running; UNIT (19:16); BUSY (0). -/
def BST_STATUS : Nat := 0x40060008
/-- BST_DEFER_CNT (R505, RO, reset 0x0000_0000): deferred slices (15:0), saturating. -/
def BST_DEFER_CNT : Nat := 0x4006000c
/-- BST_INC_CNT (R505, RO, reset 0x0000_0000): incomplete slices (15:0), saturating. -/
def BST_INC_CNT : Nat := 0x40060010
/-- BST_UT_CNT (R505, RO, reset 0x0000_0000): UNDER_TEST responses (15:0), saturating. -/
def BST_UT_CNT : Nat := 0x40060014
/-- BST_UT_LAST (R505, RO, reset 0x0000_0000): INIT (28:24); address bits 23:0. -/
def BST_UT_LAST : Nat := 0x40060018
/-- BST_MB_YIELD (R505, RO, reset 0x0000_0000): Urgent accesses served from the block buffer (15:0), saturating. -/
def BST_MB_YIELD : Nat := 0x4006001c
/-- BST_MB_FAIL (R505, RO, reset 0x0000_0000): address of the last failing word. -/
def BST_MB_FAIL : Nat := 0x40060020
/-- BST_MB_POS (R505, RO, reset 0x0000_0000): MEM (31:29), R391 DETAIL; next block (23:0). -/
def BST_MB_POS : Nat := 0x40060024
/-- BST_KEY (R505, WO, reset 0x0000_0000): GO (31); KIND (0): 0 ON, 1 OFF. -/
def BST_KEY : Nat := 0x40060040
/-- BST_KEY_STATUS (R505, RO, reset 0x0000_0000): DONE (31); KEYFAIL (30); ONPASS (29); ERR (2:0): 0 none, 1 ENABLED, 2 RUNNING, 3 BUSY. -/
def BST_KEY_STATUS : Nat := 0x40060044
/-- BST_KEY_RESULT (R505, RO, reset 0x0000_0000): 2 bits per copy, ICF-A at 1:0 through GLK-B at 23:22: 0 not run, 1 PASS, 2 FAIL, 3 INCOMPLETE. -/
def BST_KEY_RESULT : Nat := 0x40060048
/-- BST_UNITu_STATUS (R505, RO, reset 0x0000_0000): PASSCNT (31:16), saturating; LAST (9:8): 0 none, 1 PASS, 2 FAIL; FAILSLICE (4:0). -/
def BST_UNITu_STATUS (u : Nat) : Nat := 0x40060100 + 0x4 * u
/-- FLS_CTRL (R506, RWT, reset 0x0000_0001): EN (0). -/
def FLS_CTRL : Nat := 0x40050000
/-- FLS_CFG (R506, RWT, reset from Former): EVSBLK (5:0), an EVS block owned by SYS. -/
def FLS_CFG : Nat := 0x40050004
/-- FLS_STATUS (R506, RO, reset 0x0000_0000): RUNNING (10:0), one bit per task. -/
def FLS_STATUS : Nat := 0x40050008
/-- FLS_TASKt_CFG (R506, RWT, reset per R500): EN (31); PERIOD (23:0), in the task's unit, within its range. -/
def FLS_TASKt_CFG (t : Nat) : Nat := 0x40050100 + 0x10 * t
/-- FLS_TASKt_STAT (R506, RO, reset 0x0000_0000): LATE (31:16), RUNS (15:0), saturating. -/
def FLS_TASKt_STAT (t : Nat) : Nat := 0x40050104 + 0x10 * t
/-- FLS_TASKt_LAST (R506, RO, reset 0x0000_0000): start of the last run, LTB bits 31:0. -/
def FLS_TASKt_LAST (t : Nat) : Nat := 0x40050108 + 0x10 * t
/-- SYS_RST_CAUSE (R524, RO, reset per reset): cause of the last reset. -/
def SYS_RST_CAUSE : Nat := 0x40000000
/-- SYS_RST_CTRL (R524, WO, reset 0x0000_0000): KEY (31:16), must be 0x6D54; WARM (0); a wrong KEY gets an error response. -/
def SYS_RST_CTRL : Nat := 0x40000004
/-- SYS_VMON (R524, RO, reset 0x0000_0000): UV of domain d at bit d; OV of domain d at bit 8 + d. -/
def SYS_VMON : Nat := 0x40000008
/-- SYS_VMON_STICKY (R524, W1C, reset 0x0000_0000): the same bits, sticky. -/
def SYS_VMON_STICKY : Nat := 0x4000000c
/-- SYS_VMEAS0 (R524, RO, reset 0x0000_0000): VDD_SIS (31:16), VDD_CORE (15:0), mV. -/
def SYS_VMEAS0 : Nat := 0x40000010
/-- SYS_VMEAS1 (R524, RO, reset 0x0000_0000): VDDA (31:16), VDD_LINK (15:0), mV. -/
def SYS_VMEAS1 : Nat := 0x40000014
/-- SYS_VMEAS2 (R524, RO, reset 0x0000_0000): VDDIO18 (31:16), VDDIO33 (15:0), mV. -/
def SYS_VMEAS2 : Nat := 0x40000018
/-- SYS_CLK_STATUS (R524, mixed, reset 0x0000_0000): PLL_LOCK (0, RO); REF_OK (1, RO); REF_FAIL (8, W1C); PLL_FAIL (9, W1C). -/
def SYS_CLK_STATUS : Nat := 0x40000020
/-- SYS_CLK_MEAS (R524, RO, reset 0x0000_0000): REFDEV (15:0), signed, reference against SIS oscillator, units of 10 ppm. -/
def SYS_CLK_MEAS : Nat := 0x40000024
/-- SYS_PWRFAIL (R524, mixed, reset 0x0000_0000): FALLS (31:16, RO), saturating; FELL (1, W1C); LEVEL (0, RO). -/
def SYS_PWRFAIL : Nat := 0x40000028
/-- SYS_STRAP (R524, RO, reset 0x0000_0000): copy of SIS_STRAP. -/
def SYS_STRAP : Nat := 0x4000002c
/-- SYS_GPIO_IN (R524, RO, reset 0x0000_0000): input levels (15:0). -/
def SYS_GPIO_IN : Nat := 0x40000030
/-- SYS_GPIO_OUT (R524, RW, reset 0x0000_0000): output levels (15:0). -/
def SYS_GPIO_OUT : Nat := 0x40000034
/-- SYS_GPIO_OE (R524, RW, reset 0x0000_0000): output enables (15:0). -/
def SYS_GPIO_OE : Nat := 0x40000038

end Reg

open Reg

/-- Rows of the CFG register table. -/
def rowsCFG : List RegRow := [
  ⟨CFG_DEVID, [], .ro, Config.devId, 0x0, 0x0, []⟩,
  ⟨CFG_UID0, [], .ro, Config.uid0, 0x0, 0x0, []⟩,
  ⟨CFG_UID1, [], .ro, Config.uid1, 0x0, 0x0, []⟩,
  ⟨CFG_STATUS, [], .ro, 0, 0x0, 0x0, []⟩,
  ⟨CFG_FMR_VERSION, [], .ro, 0, 0x0, 0x0, []⟩,
  ⟨CFG_COPY0_VERSION, [], .ro, 0, 0x0, 0x0, []⟩,
  ⟨CFG_COPY1_VERSION, [], .ro, 0, 0x0, 0x0, []⟩,
  ⟨CFG_REJ0, [], .ro, 0, 0x0, 0x0, []⟩,
  ⟨CFG_REJ1, [], .ro, 0, 0x0, 0x0, []⟩,
  ⟨CFG_SAFETY_HASH 0, [(0x4, 8)], .ro, 0, 0x0, 0x0, []⟩,
  ⟨CFG_UPD_CTRL, [], .rw, 0, 0x11, 0x0, []⟩,
  ⟨CFG_RES_QUERY, [], .rw, 0, 0xffffffff, 0x0, []⟩,
  ⟨CFG_RES_OWNER, [], .ro, 0, 0x0, 0x0, []⟩,
  ⟨CFG_DEVFEAT 0, [(0x4, 8)], .ro, 0, 0x0, 0x0, []⟩,
  ⟨CFG_DRVFEAT 0, [(0x4, 8)], .rwl, 0, 0xffffffff, 0x0, []⟩,
  ⟨CFG_FEAT_COMMIT, [], .wo, 0, 0x0, 0x0, []⟩,
  ⟨CFG_FEAT_STATUS, [], .ro, 0, 0x0, 0x0, []⟩,
  ⟨CFG_DBG_NONCE0, [], .ro, 0, 0x0, 0x0, []⟩,
  ⟨CFG_DBG_NONCE1, [], .ro, 0, 0x0, 0x0, []⟩,
  ⟨CFG_DBG_STATUS, [], .ro, 0, 0x0, 0x0, []⟩,
  ⟨CFG_DBG_TOKEN, [], .wo, 0, 0x0, 0x0, []⟩,
  ⟨CFG_DBG_CLOSE, [], .w1s, 0, 0x0, 0x0, []⟩]

/-- Rows of the ATB register table. -/
def rowsATB : List RegRow := [
  ⟨ATB_LTB_LO, [], .ro, 0, 0x0, 0x0, []⟩,
  ⟨ATB_LTB_HI, [], .ro, 0, 0x0, 0x0, []⟩,
  ⟨ATB_AXn_CFG 0, [(0x40, 4)], .rwt, 0x2040000, 0x37ffff00, 0x0, [⟨29, 28, 0, 2, false, false⟩]⟩,
  ⟨ATB_AXn_ANG_LO 0, [(0x40, 4)], .ro, 0, 0x0, 0x0, []⟩,
  ⟨ATB_AXn_ANG_HI 0, [(0x40, 4)], .ro, 0, 0x0, 0x0, []⟩,
  ⟨ATB_AXn_ELEC 0, [(0x40, 4)], .ro, 0, 0x0, 0x0, []⟩,
  ⟨ATB_AXn_SPEED 0, [(0x40, 4)], .ro, 0, 0x0, 0x0, []⟩,
  ⟨ATB_AXn_SETPOS 0, [(0x40, 4)], .wo, 0, 0x0, 0x0, []⟩,
  ⟨ATB_AXn_SETSPD 0, [(0x40, 4)], .wo, 0, 0x0, 0x0, []⟩,
  ⟨ATB_AXn_STATUS 0, [(0x40, 4)], .w1c, 0, 0x0, 0x7, []⟩,
  ⟨ATB_AXn_LASTERR 0, [(0x40, 4)], .ro, 0, 0x0, 0x0, []⟩,
  ⟨ATB_AXn_TIMEOUT 0, [(0x40, 4)], .rwt, 0x4e200, 0xffffffff, 0x0, [⟨31, 0, 800, 16777215, false, false⟩]⟩]

/-- Rows of the EVS register table. -/
def rowsEVS : List RegRow := [
  ⟨EVS_CTRL, [], .rwt, 0x200001, 0xffff0001, 0x0, [⟨31, 16, 2, 65535, false, false⟩]⟩,
  ⟨EVS_STATUS, [], .w1c, 0, 0x0, 0x7f, []⟩,
  ⟨EVS_ARMED, [], .ro, 0, 0x0, 0x0, []⟩,
  ⟨EVS_ARM_ERR, [], .ro, 0, 0x0, 0x0, []⟩,
  ⟨EVS_LATE_CNT, [], .ro, 0, 0x0, 0x0, []⟩,
  ⟨EVS_SKIP_CNT, [], .ro, 0, 0x0, 0x0, []⟩,
  ⟨EVS_LATELOG0, [], .ro, 0, 0x0, 0x0, []⟩,
  ⟨EVS_LATELOG1, [], .ro, 0, 0x0, 0x0, []⟩,
  ⟨EVS_CGg_START 0, [(0x8, 8)], .ro, 0, 0x0, 0x0, []⟩,
  ⟨EVS_CGg_PERIOD 0, [(0x8, 8)], .ro, 0, 0x0, 0x0, []⟩]

/-- Rows of the PFC register table. -/
def rowsPFC : List RegRow := [
  ⟨PFC_PFn_CFG 0, [(0x1000, 8)], .rwt, 0, 0x2f0f000f, 0x0, [⟨25, 24, 0, 1, false, false⟩, ⟨3, 0, 0, 5, false, false⟩]⟩,
  ⟨PFC_PFn_CARD 0, [(0x1000, 8)], .rwt, 0x100050, 0xfff1ffff, 0x0, [⟨31, 20, 1, 4095, false, false⟩, ⟨16, 0, 20, 80000, false, false⟩]⟩,
  ⟨PFC_PFn_CPR 0, [(0x1000, 8)], .rwt, 0x1000, 0x1ffffff, 0x0, []⟩,
  ⟨PFC_PFn_IDX 0, [(0x1000, 8)], .rwt, 0x4000000, 0xffffffff, 0x0, []⟩,
  ⟨PFC_PFn_SER 0, [(0x1000, 8)], .rwt, 0, 0xffffbf3f, 0x0, [⟨13, 8, 0, 16, false, false⟩, ⟨5, 0, 1, 40, false, false⟩]⟩,
  ⟨PFC_PFn_SER2 0, [(0x1000, 8)], .rwt, 0, 0xffff9f7f, 0x0, [⟨12, 8, 0, 16, false, false⟩, ⟨6, 0, 1, 64, false, false⟩]⟩,
  ⟨PFC_PFn_SERCLK 0, [(0x1000, 8)], .rwt, 0x14000050, 0xff000fff, 0x0, [⟨31, 24, 1, 255, false, false⟩, ⟨11, 0, 40, 4000, false, false⟩]⟩,
  ⟨PFC_PFn_TIMING 0, [(0x1000, 8)], .rwt, 0x3e800000, 0xffffffff, 0x0, [⟨31, 16, 16, 65535, false, false⟩]⟩,
  ⟨PFC_PFn_FRAME 0, [(0x1000, 8)], .rwt, 0, 0xffffff, 0x0, []⟩,
  ⟨PFC_PFn_RES 0, [(0x1000, 8)], .rwt, 0xc8100000, 0xfffcffff, 0x0, [⟨23, 20, 1, 8, false, false⟩]⟩,
  ⟨PFC_PFn_RESLIM 0, [(0x1000, 8)], .rwt, 0x1d4c0bb8, 0xffffffff, 0x0, []⟩,
  ⟨PFC_PFn_REQ 0, [(0x1000, 8)], .wo, 0, 0x0, 0x0, []⟩,
  ⟨PFC_PFn_COUNT 0, [(0x1000, 8)], .ro, 0, 0x0, 0x0, []⟩,
  ⟨PFC_PFn_POS 0, [(0x1000, 8)], .ro, 0, 0x0, 0x0, []⟩,
  ⟨PFC_PFn_TSTAMP 0, [(0x1000, 8)], .ro, 0, 0x0, 0x0, []⟩,
  ⟨PFC_PFn_STATUS 0, [(0x1000, 8)], .mixed, 0, 0x0, 0x7ff, []⟩,
  ⟨PFC_PFn_CARD_CNT 0, [(0x1000, 8)], .ro, 0, 0x0, 0x0, []⟩,
  ⟨PFC_PFn_SKIP_CNT 0, [(0x1000, 8)], .ro, 0, 0x0, 0x0, []⟩,
  ⟨PFC_PFn_REQBUSY_CNT 0, [(0x1000, 8)], .ro, 0, 0x0, 0x0, []⟩,
  ⟨PFC_PFn_IDX_CORR 0, [(0x1000, 8)], .ro, 0, 0x0, 0x0, []⟩,
  ⟨PFC_PFn_UNC 0, [(0x1000, 8)], .ro, 0, 0x0, 0x0, []⟩,
  ⟨PFC_PFn_RAW0 0, [(0x1000, 8)], .ro, 0, 0x0, 0x0, []⟩,
  ⟨PFC_PFn_RAW1 0, [(0x1000, 8)], .ro, 0, 0x0, 0x0, []⟩,
  ⟨PFC_PFn_MT 0, [(0x1000, 8)], .ro, 0, 0x0, 0x0, []⟩,
  ⟨PFC_PFn_LINEDLY 0, [(0x1000, 8)], .rw, 0, 0x1fff, 0x0, []⟩,
  ⟨PFC_PFn_RESAMP 0, [(0x1000, 8)], .ro, 0, 0x0, 0x0, []⟩,
  ⟨PFC_PFn_CNTCLR 0, [(0x1000, 8)], .wo, 0, 0x0, 0x0, []⟩,
  ⟨PFC_AXa_VOTE_CFG 0, [(0x100, 4)], .rwt, 0x40005b0, 0xff00ffff, 0x0, [⟨31, 24, 1, 255, false, false⟩]⟩,
  ⟨PFC_AXa_OBS_T 0, [(0x100, 4)], .wo, 0, 0x0, 0x0, []⟩,
  ⟨PFC_AXa_OBS 0, [(0x100, 4)], .wo, 0, 0x0, 0x0, []⟩,
  ⟨PFC_AXa_VOTE_STATUS 0, [(0x100, 4)], .ro, 0x7, 0x0, 0x0, []⟩,
  ⟨PFC_AXa_VOTE_READMIT 0, [(0x100, 4)], .wo, 0, 0x0, 0x0, []⟩,
  ⟨PFC_EXCe_CFG 0, [(0x40, 4)], .rwt, 0, 0x8fff0000, 0x0, []⟩,
  ⟨PFC_EXCe_PER 0, [(0x40, 4)], .rwt, 0x13880, 0x7ffff, 0x0, []⟩,
  ⟨PFC_EXCe_T0 0, [(0x40, 4)], .ro, 0, 0x0, 0x0, []⟩]

/-- Rows of the EEM register table. -/
def rowsEEM : List RegRow := [
  ⟨EEM_EMn_CFG 0, [(0x100, 4)], .rwt, 0x5000, 0x80ffff0f, 0x0, [⟨23, 8, 80, 65535, false, false⟩]⟩,
  ⟨EEM_EMn_LINES 0, [(0x100, 4)], .rwt, 0x400, 0x1ffff, 0x0, [⟨16, 0, 1, 65536, false, false⟩]⟩,
  ⟨EEM_EMn_LAGTHR 0, [(0x100, 4)], .rwt, 0x100, 0xffffff, 0x0, []⟩,
  ⟨EEM_EMn_LAG 0, [(0x100, 4)], .ro, 0, 0x0, 0x0, []⟩,
  ⟨EEM_EMn_STATUS 0, [(0x100, 4)], .mixed, 0, 0x0, 0x3, []⟩]

/-- Rows of the ADS register table. -/
def rowsADS : List RegRow := [
  ⟨ADS_Pp_CFG 0, [(0x100, 8)], .rwt, 0x280000, 0x3ff0033, 0x0, [⟨25, 16, 40, 1000, false, false⟩, ⟨5, 4, 0, 2, false, false⟩]⟩,
  ⟨ADS_Pp_START 0, [(0x100, 8)], .wo, 0, 0x0, 0x0, []⟩,
  ⟨ADS_Pp_STATUS 0, [(0x100, 8)], .mixed, 0, 0x0, 0xe0, []⟩,
  ⟨ADS_Pp_QLEVEL 0, [(0x100, 8)], .ro, 0, 0x0, 0x0, []⟩,
  ⟨ADS_Pp_CAL 0, [(0x100, 8)], .wo, 0, 0x0, 0x0, []⟩,
  ⟨ADS_Pp_CAL_STATUS 0, [(0x100, 8)], .mixed, 0, 0x0, 0x1000000, []⟩,
  ⟨ADS_Pp_COEF_A 0, [(0x100, 8)], .ro, 0x40000000, 0x0, 0x0, []⟩,
  ⟨ADS_Pp_COEF_B 0, [(0x100, 8)], .ro, 0x40000000, 0x0, 0x0, []⟩,
  ⟨ADS_Pp_QOVF_CNT 0, [(0x100, 8)], .ro, 0, 0x0, 0x0, []⟩,
  ⟨ADS_AINnn_CFG 0, [(0x10, 64)], .rwt, 0x2000, 0x833f3fff, 0x0, [⟨25, 24, 0, 2, false, false⟩]⟩,
  ⟨ADS_AINnn_RES 0, [(0x10, 64)], .ro, 0, 0x0, 0x0, []⟩,
  ⟨ADS_AINnn_TS 0, [(0x10, 64)], .ro, 0, 0x0, 0x0, []⟩,
  ⟨ADS_RSa_CFG 0, [(0x40, 4)], .rwt, 0x80000, 0xf0ff3f3f, 0x0, [⟨23, 16, 1, 255, false, false⟩, ⟨13, 8, 0, 62, false, false⟩]⟩,
  ⟨ADS_RSa_ENT 0, [(0x40, 4)], .rwt, 0, 0xfff, 0x0, []⟩,
  ⟨ADS_RSa_SETTLE 0, [(0x40, 4)], .rwt, 0x4b0, 0xffff, 0x0, [⟨15, 0, 0, 16000, false, false⟩]⟩,
  ⟨ADS_RSa_IU 0, [(0x40, 4)], .ro, 0, 0x0, 0x0, []⟩,
  ⟨ADS_RSa_IV 0, [(0x40, 4)], .ro, 0, 0x0, 0x0, []⟩,
  ⟨ADS_RSa_TS 0, [(0x40, 4)], .ro, 0, 0x0, 0x0, []⟩,
  ⟨ADS_RSa_STATUS 0, [(0x40, 4)], .w1c, 0, 0x0, 0x3, []⟩,
  ⟨ADS_RSa_NOREC_CNT 0, [(0x40, 4)], .ro, 0, 0x0, 0x0, []⟩,
  ⟨ADS_RSa_EXTRA_CNT 0, [(0x40, 4)], .ro, 0, 0x0, 0x0, []⟩]

/-- Rows of the SDM register table. -/
def rowsSDM : List RegRow := [
  ⟨SDM_SDnn_CFG 0, [(0x40, 24)], .rwt, 0x28, 0xf0001fff, 0x0, [⟨29, 28, 0, 2, false, false⟩, ⟨7, 0, 32, 160, false, false⟩]⟩,
  ⟨SDM_SDnn_FILT 0, [(0x40, 24)], .rwt, 0x80100340, 0xc07f03ff, 0x0, [⟨31, 30, 1, 3, false, false⟩, ⟨22, 16, 4, 64, false, false⟩, ⟨9, 8, 1, 3, false, false⟩, ⟨7, 0, 4, 255, false, true⟩]⟩,
  ⟨SDM_SDnn_WIN 0, [(0x40, 24)], .wo, 0, 0x0, 0x0, []⟩,
  ⟨SDM_SDnn_RES 0, [(0x40, 24)], .ro, 0, 0x0, 0x0, []⟩,
  ⟨SDM_SDnn_TS 0, [(0x40, 24)], .ro, 0, 0x0, 0x0, []⟩,
  ⟨SDM_SDnn_FAST 0, [(0x40, 24)], .ro, 0, 0x0, 0x0, []⟩,
  ⟨SDM_SDnn_STATUS 0, [(0x40, 24)], .mixed, 0, 0x0, 0xf, []⟩,
  ⟨SDM_SDnn_ROUTE 0, [(0x40, 24)], .rwt, 0, 0x8000003f, 0x0, []⟩,
  ⟨SDM_SDnn_BUSY_CNT 0, [(0x40, 24)], .ro, 0, 0x0, 0x0, []⟩]

/-- Rows of the FCMP register table. -/
def rowsFCMP : List RegRow := [
  ⟨FCMP_CMPkk_CFG 0, [(0x20, 32)], .rwt, 0x40000100, 0xc0ffff3f, 0x0, [⟨15, 8, 1, 255, false, false⟩]⟩,
  ⟨FCMP_CMPkk_THR 0, [(0x20, 32)], .rwt, 0x7fff8000, 0xffffffff, 0x0, []⟩,
  ⟨FCMP_CMPkk_TEST 0, [(0x20, 32)], .wo, 0, 0x0, 0x0, []⟩,
  ⟨FCMP_CMPkk_STATUS 0, [(0x20, 32)], .mixed, 0, 0x0, 0x1e, []⟩,
  ⟨FCMP_CMPkk_TRIPCNT 0, [(0x20, 32)], .ro, 0, 0x0, 0x0, []⟩,
  ⟨FCMP_CMPkk_SKIPCNT 0, [(0x20, 32)], .ro, 0, 0x0, 0x0, []⟩]

/-- Rows of the CEA register table. -/
def rowsCEA : List RegRow := [
  ⟨CEA_CEn_STATE 0, [(0x10000, 5)], .ro, 0, 0x0, 0x0, []⟩,
  ⟨CEA_CEn_STICKY 0, [(0x10000, 5)], .mixed, 0, 0x0, 0x3, []⟩,
  ⟨CEA_CEn_FAULT 0, [(0x10000, 5)], .w1c, 0, 0x0, 0x1f, []⟩,
  ⟨CEA_CEn_FLOWSIG 0, [(0x10000, 5)], .ro, 0, 0x0, 0x0, []⟩,
  ⟨CEA_CEn_CYCLES 0, [(0x10000, 5)], .ro, 0, 0x0, 0x0, []⟩,
  ⟨CEA_CEn_CYCLES_MAX 0, [(0x10000, 5)], .rw, 0, 0xffffff, 0x0, []⟩,
  ⟨CEA_CEn_ECC_CNT 0, [(0x10000, 5)], .ro, 0, 0x0, 0x0, []⟩,
  ⟨CEA_CEn_FLAGCLR 0, [(0x10000, 5)], .wo, 0, 0x0, 0x0, []⟩,
  ⟨CEA_CEn_INa_kk 0 0 0, [(0x10000, 5), (0x100, 4), (0x4, 64)], .ro, 0, 0x0, 0x0, []⟩,
  ⟨CEA_CEn_IFLAG 0 0, [(0x10000, 5), (0x4, 64)], .w1c, 0, 0x0, 0xffffffff, []⟩,
  ⟨CEA_AXa_START 0, [(0x100, 4)], .wo, 0, 0x0, 0x0, []⟩,
  ⟨CEA_AXa_CFG 0, [(0x100, 4)], .rwt, 0x300, 0x1f07, 0x0, [⟨12, 8, 1, 16, false, false⟩]⟩,
  ⟨CEA_AXa_DEADLINE 0, [(0x100, 4)], .rwt, 0, 0xfffff, 0x0, [⟨19, 0, 400, 800000, false, true⟩]⟩,
  ⟨CEA_AXa_STATUS 0, [(0x100, 4)], .mixed, 0, 0x0, 0xf0000, []⟩,
  ⟨CEA_AXa_OVR_CNT 0, [(0x100, 4)], .ro, 0, 0x0, 0x0, []⟩,
  ⟨CEA_AXa_SAMPLE_CNT 0, [(0x100, 4)], .ro, 0, 0x0, 0x0, []⟩,
  ⟨CEA_AXa_T_START 0, [(0x100, 4)], .ro, 0, 0x0, 0x0, []⟩,
  ⟨CEA_AXa_T_REL 0, [(0x100, 4)], .ro, 0, 0x0, 0x0, []⟩,
  ⟨CEA_AXa_CKPT_SEQ 0, [(0x100, 4)], .ro, 0, 0x0, 0x0, []⟩,
  ⟨CEA_AXa_PROBE 0 0, [(0x100, 4), (0x4, 16)], .rwt, 0, 0xc000ffff, 0x0, []⟩,
  ⟨CEA_HANDOVER, [], .wo, 0, 0x0, 0x0, []⟩,
  ⟨CEA_HANDOVER_STATUS, [], .ro, 0, 0x0, 0x0, []⟩,
  ⟨CEA_SPARE, [], .ro, 0, 0x0, 0x0, []⟩,
  ⟨CEA_READMIT, [], .wo, 0, 0x0, 0x0, []⟩,
  ⟨CEA_AXa_FC_CFG 0, [(0x100, 4)], .mixed, 0, 0x3, 0x0, [⟨1, 0, 0, 2, false, false⟩]⟩,
  ⟨CEA_AXa_RV_THR 0, [(0x100, 4)], .rwt, 0x148, 0xffff, 0x0, [⟨15, 0, 1, 32767, false, false⟩]⟩,
  ⟨CEA_AXa_FR_TIME 0, [(0x100, 4)], .rwt, 0x3200c8, 0xffffffff, 0x0, [⟨31, 16, 10, 500, false, false⟩, ⟨15, 0, 50, 1000, false, false⟩]⟩,
  ⟨CEA_AXa_FC_STATUS 0, [(0x100, 4)], .mixed, 0x77, 0x0, 0x1fe00000, []⟩]

/-- Rows of the PWM register table. -/
def rowsPWM : List RegRow := [
  ⟨PWM_PLnn_CFG 0, [(0x100, 32)], .rwt, 0, 0xf1000000, 0x0, []⟩,
  ⟨PWM_PLnn_PORT 0, [(0x100, 32)], .ro, 0, 0x0, 0x0, []⟩,
  ⟨PWM_PLnn_DUTY 0, [(0x100, 32)], .rwt, 0, 0xffff, 0x0, []⟩,
  ⟨PWM_PLnn_CMP0 0, [(0x100, 32)], .rwt, 0, 0x7fffff, 0x0, []⟩,
  ⟨PWM_PLnn_CMP1 0, [(0x100, 32)], .rwt, 0, 0x7fffff, 0x0, []⟩,
  ⟨PWM_PLnn_DT 0, [(0x100, 32)], .rwt, 0xa000a00, 0xffffffff, 0x0, [⟨31, 16, 0, 51200, false, false⟩, ⟨15, 0, 0, 51200, false, false⟩]⟩,
  ⟨PWM_PLnn_MINPW 0, [(0x100, 32)], .rwt, 0x80000050, 0xc0001fff, 0x0, [⟨31, 30, 0, 2, false, false⟩, ⟨12, 0, 0, 4000, false, false⟩]⟩,
  ⟨PWM_PLnn_TRIPSEL0 0, [(0x100, 32)], .rwt, 0, 0xffffffff, 0x0, []⟩,
  ⟨PWM_PLnn_TRIPSEL1 0, [(0x100, 32)], .rwt, 0, 0x1ff, 0x0, []⟩,
  ⟨PWM_PLnn_BLANK 0, [(0x100, 32)], .rwt, 0x30320, 0xff1fff, 0x0, [⟨23, 16, 1, 255, false, false⟩, ⟨12, 0, 0, 8000, false, false⟩]⟩,
  ⟨PWM_PLnn_BOOT 0, [(0x100, 32)], .rwt, 0x80190, 0x80ff1fff, 0x0, [⟨23, 16, 1, 255, false, false⟩]⟩,
  ⟨PWM_PLnn_STATUS 0, [(0x100, 32)], .mixed, 0, 0x0, 0xfe0, []⟩,
  ⟨PWM_PLnn_LIVE0 0, [(0x100, 32)], .ro, 0, 0x0, 0x0, []⟩,
  ⟨PWM_PLnn_LIVE1 0, [(0x100, 32)], .ro, 0, 0x0, 0x0, []⟩,
  ⟨PWM_PLnn_TRIP_CNT 0, [(0x100, 32)], .ro, 0, 0x0, 0x0, []⟩,
  ⟨PWM_PLnn_FILT_CNT 0, [(0x100, 32)], .ro, 0, 0x0, 0x0, []⟩,
  ⟨PWM_CGg_CFG 0, [(0x40, 8)], .rwt, 0, 0xc0000003, 0x0, [⟨1, 0, 0, 2, false, false⟩]⟩,
  ⟨PWM_CGg_PERIOD 0, [(0x40, 8)], .rwt, 0, 0xfffff, 0x0, [⟨19, 0, 16000, 800000, false, false⟩]⟩,
  ⟨PWM_CGg_LEAD 0, [(0x40, 8)], .rwt, 0x640, 0x3fff, 0x0, [⟨13, 0, 800, 16000, false, false⟩]⟩,
  ⟨PWM_CGg_SS 0, [(0x40, 8)], .rwt, 0, 0x3ffff, 0x0, [⟨15, 0, 1, 32767, false, false⟩]⟩,
  ⟨PWM_CGg_STATUS 0, [(0x40, 8)], .mixed, 0, 0x0, 0x1f0, []⟩,
  ⟨PWM_CGg_START 0, [(0x40, 8)], .ro, 0, 0x0, 0x0, []⟩,
  ⟨PWM_CGg_LIVEPER 0, [(0x40, 8)], .ro, 0, 0x0, 0x0, []⟩,
  ⟨PWM_CGg_NEXT_LI 0, [(0x40, 8)], .ro, 0, 0x0, 0x0, []⟩,
  ⟨PWM_CGg_NOWIN_CNT 0, [(0x40, 8)], .ro, 0, 0x0, 0x0, []⟩,
  ⟨PWM_TRIP_CFG, [], .rwt, 0, 0xff00ff, 0x0, []⟩]

/-- Rows of the GLK register table. -/
def rowsGLK : List RegRow := [
  ⟨GLK_GLnn_CFG 0, [(0x100, 64)], .mixed, 0, 0x80000000, 0x0, []⟩,
  ⟨GLK_GLnn_STATE 0, [(0x100, 64)], .ro, 0x1000, 0x0, 0x0, []⟩,
  ⟨GLK_GLnn_STATUS 0, [(0x100, 64)], .w1c, 0, 0x0, 0x1ff, []⟩,
  ⟨GLK_GLnn_DLY 0, [(0x100, 64)], .ro, 0, 0x0, 0x0, []⟩,
  ⟨GLK_GLnn_ASYM 0, [(0x100, 64)], .rwt, 0, 0x3ff, 0x0, []⟩,
  ⟨GLK_GLnn_DLYCAND 0, [(0x100, 64)], .ro, 0, 0x0, 0x0, []⟩,
  ⟨GLK_GLnn_DLYACC 0, [(0x100, 64)], .wo, 0, 0x0, 0x0, []⟩,
  ⟨GLK_GLnn_DIAG_SLOT 0, [(0x100, 64)], .wo, 0, 0x0, 0x0, []⟩,
  ⟨GLK_GLnn_DIAG_RES 0, [(0x100, 64)], .ro, 0, 0x0, 0x0, []⟩,
  ⟨GLK_GLnn_CFGACC 0, [(0x100, 64)], .wo, 0, 0x0, 0x0, []⟩,
  ⟨GLK_GLnn_CFGRES 0, [(0x100, 64)], .ro, 0, 0x0, 0x0, []⟩,
  ⟨GLK_GLnn_FACK 0, [(0x100, 64)], .wo, 0, 0x0, 0x0, []⟩,
  ⟨GLK_GLnn_FAULT 0, [(0x100, 64)], .ro, 0, 0x0, 0x0, []⟩,
  ⟨GLK_GLnn_TEMP 0, [(0x100, 64)], .ro, 0, 0x0, 0x0, []⟩,
  ⟨GLK_GLnn_ERR_CNT 0, [(0x100, 64)], .ro, 0, 0x0, 0x0, []⟩,
  ⟨GLK_GLnn_REFUSE_CNT 0, [(0x100, 64)], .ro, 0, 0x0, 0x0, []⟩,
  ⟨GLK_GLnn_LASTREF 0, [(0x100, 64)], .ro, 0, 0x0, 0x0, []⟩,
  ⟨GLK_GLnn_CAL_CNT 0, [(0x100, 64)], .ro, 0, 0x0, 0x0, []⟩,
  ⟨GLK_CTRL, [], .rwt, 0x20, 0xffff, 0x0, [⟨15, 0, 1, 1000, false, false⟩]⟩,
  ⟨GLK_SAFE_DT, [], .rwt, 0x320, 0x1fff, 0x0, [⟨12, 0, 80, 8000, false, false⟩]⟩,
  ⟨GLK_CMP_STATUS, [], .w1c, 0, 0x0, 0x1, []⟩,
  ⟨GLK_READY0, [], .ro, 0, 0x0, 0x0, []⟩,
  ⟨GLK_READY1, [], .ro, 0, 0x0, 0x0, []⟩]

/-- Rows of the PSP register table. -/
def rowsPSP : List RegRow := [
  ⟨PSP_AXa_SEL 0, [(0x100, 4)], .ro, 0, 0x0, 0x0, []⟩,
  ⟨PSP_AXa_OFFSPD 0, [(0x100, 4)], .ro, 0, 0x0, 0x0, []⟩,
  ⟨PSP_AXa_DCOC 0, [(0x100, 4)], .ro, 0, 0x0, 0x0, []⟩,
  ⟨PSP_AXa_STATE 0, [(0x100, 4)], .ro, 0, 0x0, 0x0, []⟩,
  ⟨PSP_AXa_STATUS 0, [(0x100, 4)], .w1c, 0, 0x0, 0xff, []⟩,
  ⟨PSP_AXa_FAULTSW 0, [(0x100, 4)], .ro, 0, 0x0, 0x0, []⟩,
  ⟨PSP_AXa_T_DET 0, [(0x100, 4)], .ro, 0, 0x0, 0x0, []⟩,
  ⟨PSP_AXa_T_HALT 0, [(0x100, 4)], .ro, 0, 0x0, 0x0, []⟩,
  ⟨PSP_AXa_SPEED 0, [(0x100, 4)], .ro, 0x10000, 0x0, 0x0, []⟩,
  ⟨PSP_AXa_LATER_CNT 0, [(0x100, 4)], .ro, 0, 0x0, 0x0, []⟩,
  ⟨PSP_LKl_UDC 0, [(0x80, 4)], .ro, 0, 0x0, 0x0, []⟩,
  ⟨PSP_LKl_IDC 0, [(0x80, 4)], .ro, 0, 0x0, 0x0, []⟩,
  ⟨PSP_LKl_CHTHR 0, [(0x80, 4)], .ro, 0, 0x0, 0x0, []⟩,
  ⟨PSP_LKl_CH 0, [(0x80, 4)], .ro, 0, 0x0, 0x0, []⟩,
  ⟨PSP_LKl_CHCHK 0, [(0x80, 4)], .ro, 0, 0x0, 0x0, []⟩,
  ⟨PSP_LKl_OV 0, [(0x80, 4)], .ro, 0, 0x0, 0x0, []⟩,
  ⟨PSP_LKl_DIS 0, [(0x80, 4)], .ro, 0, 0x0, 0x0, []⟩,
  ⟨PSP_LKl_USAFE 0, [(0x80, 4)], .ro, 0, 0x0, 0x0, []⟩,
  ⟨PSP_LKl_DCURVE 0 0, [(0x80, 4), (0x4, 8)], .ro, 0, 0x0, 0x0, []⟩,
  ⟨PSP_LKl_STATUS 0, [(0x80, 4)], .mixed, 0, 0x0, 0x11c, []⟩,
  ⟨PSP_LKl_U0 0, [(0x80, 4)], .ro, 0, 0x0, 0x0, []⟩,
  ⟨PSP_LKl_DIS_T0 0, [(0x80, 4)], .ro, 0, 0x0, 0x0, []⟩]

/-- Rows of the SIS register table. -/
def rowsSIS : List RegRow := [
  ⟨SIS_ID, [], .ro, Config.sisRomVersion, 0x0, 0x0, []⟩,
  ⟨SIS_STATE, [], .ro, 0, 0x0, 0x0, []⟩,
  ⟨SIS_STRAP, [], .ro, 0, 0x0, 0x0, []⟩,
  ⟨SIS_SEAL, [], .ro, 0, 0x0, 0x0, []⟩,
  ⟨SIS_STO, [], .ro, 0, 0x0, 0x0, []⟩,
  ⟨SIS_CT, [], .ro, 0, 0x0, 0x0, []⟩,
  ⟨SIS_LINK, [], .ro, 0, 0x0, 0x0, []⟩,
  ⟨SIS_AXa_TRQ 0, [(0x4, 4)], .ro, 0, 0x0, 0x0, []⟩,
  ⟨SIS_AXa_TBAND 0, [(0x4, 4)], .ro, 0, 0x0, 0x0, []⟩,
  ⟨SIS_MAIN 0, [(0x4, 8)], .ro, 0, 0x0, 0x0, []⟩,
  ⟨SIS_LOCK, [], .ro, 0, 0x0, 0x0, []⟩,
  ⟨SIS_LOCK_CHAL, [], .ro, 0, 0x0, 0x0, []⟩,
  ⟨SIS_FAULT, [], .ro, 0, 0x0, 0x0, []⟩,
  ⟨SIS_MB_REQ 0, [(0x4, 4)], .rw, 0, 0xffffffff, 0x0, []⟩,
  ⟨SIS_MB_DOOR, [], .w1s, 0, 0x0, 0x0, []⟩,
  ⟨SIS_MB_STATUS, [], .ro, 0, 0x0, 0x0, []⟩,
  ⟨SIS_MB_RESP 0, [(0x4, 4)], .ro, 0, 0x0, 0x0, []⟩]

/-- Rows of the FCR register table. -/
def rowsFCR : List RegRow := [
  ⟨FCR_CTRL, [], .rwt, 0, 0x1, 0x0, []⟩,
  ⟨FCR_STATUS, [], .ro, 0, 0x0, 0x0, []⟩,
  ⟨FCR_SELF_STATUS, [], .ro, 0, 0x0, 0x0, []⟩,
  ⟨FCR_FIRST_SET, [], .ro, 0, 0x0, 0x0, []⟩,
  ⟨FCR_STAGE, [], .ro, 0, 0x0, 0x0, []⟩,
  ⟨FCR_COALESCE_CNT, [], .ro, 0, 0x0, 0x0, []⟩,
  ⟨FCR_SET 0, [(0x4, 32)], .ro, 0, 0x0, 0x0, []⟩,
  ⟨FCR_SRCkkkk_CFG 0, [(0x20, 1024)], .rwt, 0, 0xc0ffff07, 0x0, [⟨23, 8, 0, 32767, false, false⟩]⟩,
  ⟨FCR_SRCkkkk_STATUS 0, [(0x20, 1024)], .mixed, 0, 0x0, 0x1, []⟩,
  ⟨FCR_SRCkkkk_FORCE 0, [(0x20, 1024)], .w1s, 0, 0x0, 0x0, []⟩,
  ⟨FCR_SRCkkkk_COUNT 0, [(0x20, 1024)], .ro, 0, 0x0, 0x0, []⟩,
  ⟨FCR_SRCkkkk_FIRST_LO 0, [(0x20, 1024)], .ro, 0, 0x0, 0x0, []⟩,
  ⟨FCR_SRCkkkk_FIRST_HI 0, [(0x20, 1024)], .ro, 0, 0x0, 0x0, []⟩,
  ⟨FCR_SRCkkkk_LAST_LO 0, [(0x20, 1024)], .ro, 0, 0x0, 0x0, []⟩,
  ⟨FCR_SRCkkkk_LAST_HI 0, [(0x20, 1024)], .ro, 0, 0x0, 0x0, []⟩]

/-- Rows of the THM register table. -/
def rowsTHM : List RegRow := [
  ⟨THM_STATUS, [], .ro, 0, 0x0, 0x0, []⟩,
  ⟨THM_DIE_MAX, [], .ro, 0, 0x0, 0x0, []⟩,
  ⟨THM_BROKEN, [], .ro, 0, 0x0, 0x0, []⟩,
  ⟨THM_TREF, [], .ro, 0, 0x0, 0x0, []⟩,
  ⟨THM_Rr_SENS 0, [(0x8, 9)], .ro, 0, 0x0, 0x0, []⟩,
  ⟨THM_Rr_MODEL 0, [(0x8, 9)], .ro, 0, 0x0, 0x0, []⟩,
  ⟨THM_PDOM 0, [(0x4, 9)], .ro, 0, 0x0, 0x0, []⟩,
  ⟨THM_DIE_STAGE 0, [(0x4, 4)], .rwt, 0, 0xffffffff, 0x0, [⟨31, 16, 1, 65535, false, false⟩, ⟨15, 0, 1, 65535, false, false⟩]⟩,
  ⟨THM_DIE_THR0, [], .rwt, 0, 0xffffffff, 0x0, []⟩,
  ⟨THM_DIE_THR1, [], .rwt, 0, 0xffffffff, 0x0, []⟩,
  ⟨THM_DIE_THR2, [], .rwt, 0, 0xffffffff, 0x0, [⟨31, 16, 0, 32767, false, false⟩, ⟨15, 0, 0, 1600, false, false⟩]⟩,
  ⟨THM_DIE_RATE, [], .rwt, 0, 0xffffff, 0x0, [⟨23, 16, 1, 64, false, false⟩, ⟨15, 0, 1, 32767, false, false⟩]⟩,
  ⟨THM_CHK, [], .rwt, 0, 0xffffffff, 0x0, [⟨31, 16, 16, 1600, false, false⟩, ⟨15, 0, 10, 10000, false, false⟩]⟩,
  ⟨THM_CHK2, [], .rwt, 0, 0xffffffff, 0x0, [⟨31, 16, 16, 1600, false, false⟩]⟩,
  ⟨THM_SETm_STAGE 0 0, [(0x40, 4), (0x4, 4)], .rwt, 0, 0xffffffff, 0x0, [⟨31, 16, 1, 65535, false, false⟩, ⟨15, 0, 1, 65535, false, false⟩]⟩,
  ⟨THM_SETm_THR 0 0, [(0x40, 4), (0x4, 3)], .rwt, 0, 0xffffffff, 0x0, []⟩,
  ⟨THM_SETm_RATE 0, [(0x40, 4)], .rwt, 0, 0xffffff, 0x0, [⟨23, 16, 1, 64, false, false⟩, ⟨15, 0, 1, 32767, false, false⟩]⟩,
  ⟨THM_SETm_PLAUS 0, [(0x40, 4)], .rwt, 0, 0xffffffff, 0x0, [⟨31, 16, 16, 1600, false, false⟩, ⟨15, 0, 1, 10000, false, false⟩]⟩,
  ⟨THM_SETm_PBASE 0, [(0x40, 4)], .rwt, 0, 0xffff, 0x0, [⟨15, 0, 1, 65535, false, false⟩]⟩,
  ⟨THM_W 0, [(0x4, 41)], .ro, 0, 0x0, 0x0, []⟩,
  ⟨THM_SWkk_CFG 0, [(0x4, 64)], .rwt, 0, 0x8330ffff, 0x0, []⟩,
  ⟨THM_COOL 0, [(0x4, 4)], .rw, 0, 0xffff, 0x0, []⟩,
  ⟨THM_SWkk_TJ 0, [(0x10, 64)], .ro, 0, 0x0, 0x0, []⟩,
  ⟨THM_SWkk_NTC 0, [(0x10, 64)], .ro, 0, 0x0, 0x0, []⟩,
  ⟨THM_SWkk_STATUS 0, [(0x10, 64)], .mixed, 0, 0x0, 0x1, []⟩,
  ⟨THM_AXa_FACTOR 0, [(0x4, 4)], .ro, 0xff7fff, 0x0, 0x0, []⟩]

/-- Rows of the ICF register table. -/
def rowsICF : List RegRow := [
  ⟨ICF_CTRL, [], .rwl, 0, 0x1, 0x0, []⟩,
  ⟨ICF_DEFAULT, [], .rwl, 0x77, 0x77, 0x0, []⟩,
  ⟨ICF_STATUS, [], .w1c, 0, 0x0, 0x7, []⟩,
  ⟨ICF_VCNT, [], .ro, 0, 0x0, 0x0, []⟩,
  ⟨ICF_VLOG0, [], .ro, 0, 0x0, 0x0, []⟩,
  ⟨ICF_VLOG1, [], .ro, 0, 0x0, 0x0, []⟩,
  ⟨ICF_VLOG2, [], .ro, 0, 0x0, 0x0, []⟩,
  ⟨ICF_FLS_SHARE, [], .ro, 0, 0x0, 0x0, []⟩,
  ⟨ICF_ECC_CNT, [], .ro, 0, 0x0, 0x0, []⟩,
  ⟨ICF_URG_MAX, [], .rw, 0, 0xffff, 0x0, []⟩,
  ⟨ICF_RGNn_BASE 0, [(0x10, 32)], .rwl, 0, 0xfffff001, 0x0, []⟩,
  ⟨ICF_RGNn_SIZE 0, [(0x10, 32)], .rwl, 0, 0xfffff, 0x0, []⟩,
  ⟨ICF_RGNn_PERM 0, [(0x10, 32)], .rwl, 0, 0x3777, 0x0, []⟩]

/-- Rows of the CSQ register table. -/
def rowsCSQ : List RegRow := [
  ⟨CSQ_CTRL, [], .rwt, 0x640032, 0xffff03ff, 0x0, [⟨31, 16, 1, 10000, false, false⟩, ⟨9, 0, 1, 1000, false, false⟩]⟩,
  ⟨CSQ_STATUS, [], .ro, 0, 0x0, 0x0, []⟩,
  ⟨CSQ_CRC_CNT, [], .ro, 0, 0x0, 0x0, []⟩,
  ⟨CSQ_DUP_CNT, [], .ro, 0, 0x0, 0x0, []⟩,
  ⟨CSQ_REFUSE_CNT, [], .ro, 0, 0x0, 0x0, []⟩,
  ⟨CSQ_LEN_CNT, [], .ro, 0, 0x0, 0x0, []⟩,
  ⟨CSQ_LOG_HEAD, [], .ro, 0, 0x0, 0x0, []⟩,
  ⟨CSQ_SRCs_CFG 0, [(0x10, 16)], .rwt, 0, 0x80003fff, 0x0, []⟩,
  ⟨CSQ_SRCs_LAST 0, [(0x10, 16)], .mixed, 0, 0x0, 0x0, []⟩,
  ⟨CSQ_SRCs_STATE 0, [(0x10, 16)], .ro, 0, 0x0, 0x0, []⟩,
  ⟨CSQ_AXa_SRC 0, [(0x20, 4)], .rwt, 0, 0xc0ffff0f, 0x0, [⟨23, 8, 0, 60000, false, false⟩]⟩,
  ⟨CSQ_AXa_LIMP0 0, [(0x20, 4)], .rwt, 0, 0xfffff, 0x0, [⟨19, 16, 0, 2, false, false⟩, ⟨15, 0, 0, 32767, false, false⟩]⟩,
  ⟨CSQ_AXa_LIMP1 0, [(0x20, 4)], .rwt, 0, 0xffffffff, 0x0, [⟨31, 16, 0, 32767, false, false⟩, ⟨15, 0, -32768, 0, true, false⟩]⟩,
  ⟨CSQ_AXa_LAST 0, [(0x20, 4)], .ro, 0, 0x0, 0x0, []⟩]

/-- Rows of the CMD register table. -/
def rowsCMD : List RegRow := [
  ⟨CMD_CFG, [], .rwt, 0, 0x80000f03, 0x0, [⟨1, 0, 0, 2, false, false⟩]⟩,
  ⟨CMD_XLO, [], .rwt, 0, 0xfffff, 0x0, []⟩,
  ⟨CMD_XHI, [], .rwt, 0xbb8, 0xfffff, 0x0, []⟩,
  ⟨CMD_OUT, [], .rwt, 0x7fff0000, 0xffffffff, 0x0, []⟩,
  ⟨CMD_LOSSLO, [], .rwt, 0x64, 0xfffff, 0x0, []⟩,
  ⟨CMD_LOSSHI, [], .rwt, 0xb54, 0xfffff, 0x0, []⟩,
  ⟨CMD_TIME, [], .rwt, 0x640014, 0xffffffff, 0x0, [⟨31, 16, 1, 5000, false, false⟩, ⟨15, 0, 1, 5000, false, false⟩]⟩,
  ⟨CMD_PTOL, [], .rwt, 0x666, 0xffff, 0x0, [⟨15, 0, 1, 32767, false, false⟩]⟩,
  ⟨CMD_X, [], .ro, 0, 0x0, 0x0, []⟩,
  ⟨CMD_SP, [], .ro, 0, 0x0, 0x0, []⟩,
  ⟨CMD_STATUS, [], .w1c, 0, 0x0, 0x7, []⟩]

/-- Rows of the CTE register table. -/
def rowsCTE : List RegRow := [
  ⟨CTE_BEGIN, [], .wo, 0, 0x0, 0x0, []⟩,
  ⟨CTE_COMMIT, [], .wo, 0, 0x0, 0x0, []⟩,
  ⟨CTE_COMMIT_ARG, [], .rw, 0, 0xffffffff, 0x0, []⟩,
  ⟨CTE_ROLLBACK, [], .wo, 0, 0x0, 0x0, []⟩,
  ⟨CTE_TX, [], .ro, 0, 0x0, 0x0, []⟩,
  ⟨CTE_TX_WRITES, [], .ro, 0, 0x0, 0x0, []⟩,
  ⟨CTE_ERR_ADDR, [], .ro, 0, 0x0, 0x0, []⟩,
  ⟨CTE_ERR_RES, [], .ro, 0, 0x0, 0x0, []⟩,
  ⟨CTE_ERR_OWNER, [], .ro, 0, 0x0, 0x0, []⟩,
  ⟨CTE_BOUNDARY, [], .ro, 0, 0x0, 0x0, []⟩,
  ⟨CTE_CTRL, [], .rwt, 0x3e8, 0x3fff, 0x0, [⟨13, 0, 1, 10000, false, false⟩]⟩,
  ⟨CTE_OPEN, [], .ro, 0, 0x0, 0x0, []⟩,
  ⟨CTE_OVL, [], .ro, 0, 0x0, 0x0, []⟩,
  ⟨CTE_FAIL_CNT, [], .ro, 0, 0x0, 0x0, []⟩,
  ⟨CTE_OWNSET, [], .rwt, 0, 0xffffffff, 0x0, []⟩]

/-- Rows of the JRN register table. -/
def rowsJRN : List RegRow := [
  ⟨JRN_STATUS, [], .ro, 0, 0x0, 0x0, []⟩,
  ⟨JRN_HEAD_SEQ, [], .ro, 0, 0x0, 0x0, []⟩,
  ⟨JRN_OLDEST_SEQ, [], .ro, 0, 0x0, 0x0, []⟩,
  ⟨JRN_RATE, [], .ro, 0, 0x0, 0x0, []⟩,
  ⟨JRN_WRAPS, [], .ro, 0, 0x0, 0x0, []⟩,
  ⟨JRN_ECC_CNT, [], .ro, 0, 0x0, 0x0, []⟩,
  ⟨JRN_FW_WRITE, [], .wo, 0, 0x0, 0x0, []⟩,
  ⟨JRN_FW_STATUS, [], .ro, 0, 0x0, 0x0, []⟩,
  ⟨JRN_FW_SEQ, [], .ro, 0, 0x0, 0x0, []⟩,
  ⟨JRN_FW_DATA 0, [(0x4, 11)], .rw, 0, 0xffffffff, 0x0, []⟩,
  ⟨JRN_SEQ_Q, [], .wo, 0, 0x0, 0x0, []⟩,
  ⟨JRN_SEQ_RES, [], .ro, 0, 0x0, 0x0, []⟩,
  ⟨JRN_SEQ_WIN 0, [(0x4, 16)], .ro, 0, 0x0, 0x0, []⟩]

/-- Rows of the ETH register table. -/
def rowsETH : List RegRow := [
  ⟨ETHn_CFG 0, [(0x10000, 2)], .rwt, 0, 0x83030300, 0x0, [⟨25, 24, 0, 1, false, false⟩]⟩,
  ⟨ETHn_STATUS 0, [(0x10000, 2)], .mixed, 0, 0x0, 0x300, []⟩,
  ⟨ETHn_MAC_LO 0, [(0x10000, 2)], .rwt, 0, 0xffffffff, 0x0, []⟩,
  ⟨ETHn_MAC_HI 0, [(0x10000, 2)], .rwt, 0, 0xffff, 0x0, []⟩,
  ⟨ETHn_IPADDR 0, [(0x10000, 2)], .rwt, 0, 0xffffffff, 0x0, []⟩,
  ⟨ETHn_VLAN 0, [(0x10000, 2)], .rwt, 0x700, 0x8fff0700, 0x0, [⟨27, 16, 1, 4094, false, false⟩]⟩,
  ⟨ETHn_TSLAT 0, [(0x10000, 2)], .rwt, 0, 0xffffffff, 0x0, []⟩,
  ⟨ETHn_MDIO 0, [(0x10000, 2)], .mixed, 0, 0x0, 0x0, []⟩,
  ⟨ETHn_RXR_BASE 0, [(0x10000, 2)], .rwt, 0, 0xffffffff, 0x0, []⟩,
  ⟨ETHn_RXR_LEN 0, [(0x10000, 2)], .rwt, 0x1, 0x7ff, 0x0, [⟨10, 0, 1, 1024, false, false⟩]⟩,
  ⟨ETHn_RXR_HEAD 0, [(0x10000, 2)], .ro, 0, 0x0, 0x0, []⟩,
  ⟨ETHn_TXR_BASE 0, [(0x10000, 2)], .rwt, 0, 0xffffffff, 0x0, []⟩,
  ⟨ETHn_TXR_LEN 0, [(0x10000, 2)], .rwt, 0x1, 0x7ff, 0x0, [⟨10, 0, 1, 1024, false, false⟩]⟩,
  ⟨ETHn_TXR_TAIL 0, [(0x10000, 2)], .rw, 0, 0x7ff, 0x0, []⟩,
  ⟨ETHn_TXR_HEAD 0, [(0x10000, 2)], .ro, 0, 0x0, 0x0, []⟩,
  ⟨ETHn_RXCNT 0, [(0x10000, 2)], .ro, 0, 0x0, 0x0, []⟩,
  ⟨ETHn_ERRCNT 0, [(0x10000, 2)], .ro, 0, 0x0, 0x0, []⟩,
  ⟨ETHn_HWDROP 0, [(0x10000, 2)], .ro, 0, 0x0, 0x0, []⟩,
  ⟨ETHn_RXOVF_CNT 0, [(0x10000, 2)], .ro, 0, 0x0, 0x0, []⟩]

/-- Rows of the NTU register table. -/
def rowsNTU : List RegRow := [
  ⟨NTU_CTRL, [], .rwt, 0x80000177, 0x8000ffff, 0x0, [⟨15, 0, 1, 10000, false, false⟩]⟩,
  ⟨NTU_STATUS, [], .mixed, 0, 0x0, 0x7f, []⟩,
  ⟨NTU_CNT, [], .ro, 0, 0x0, 0x0, []⟩,
  ⟨NTU_RATE, [], .rwt, 0, 0xffffffff, 0x0, []⟩,
  ⟨NTU_WRAPCNT, [], .ro, 0, 0x0, 0x0, []⟩,
  ⟨NTU_EP_SEC_LO, [], .ro, 0, 0x0, 0x0, []⟩,
  ⟨NTU_EP_SEC_HI, [], .ro, 0, 0x0, 0x0, []⟩,
  ⟨NTU_EP_NS, [], .ro, 0, 0x0, 0x0, []⟩,
  ⟨NTU_SHD_SEC_LO, [], .rw, 0, 0xffffffff, 0x0, []⟩,
  ⟨NTU_SHD_SEC_HI, [], .rw, 0, 0xffff, 0x0, []⟩,
  ⟨NTU_SHD_NS, [], .rw, 0, 0x3fffffff, 0x0, []⟩,
  ⟨NTU_SHD_CTRL, [], .mixed, 0, 0x8000ffff, 0x0, []⟩,
  ⟨NTU_STEP, [], .wo, 0, 0x0, 0x0, []⟩,
  ⟨NTU_STEP_LIMIT, [], .rwt, 0x3e8, 0xffffffff, 0x0, [⟨31, 0, 1, 1073741824, false, false⟩]⟩,
  ⟨NTU_STEP_AUTH, [], .w1s, 0, 0x0, 0x0, []⟩,
  ⟨NTU_SET_CNT, [], .rw, 0, 0xffffffff, 0x0, []⟩,
  ⟨NTU_SET_SEC_LO, [], .rw, 0, 0xffffffff, 0x0, []⟩,
  ⟨NTU_SET_SEC_HI, [], .rw, 0, 0xffff, 0x0, []⟩,
  ⟨NTU_SET_NS, [], .rw, 0, 0x3fffffff, 0x0, []⟩,
  ⟨NTU_SET_GO, [], .wo, 0, 0x0, 0x0, []⟩,
  ⟨NTU_GM_ID_LO, [], .rw, 0, 0xffffffff, 0x0, []⟩,
  ⟨NTU_GM_ID_HI, [], .rw, 0, 0xffffffff, 0x0, []⟩,
  ⟨NTU_HOLD_CLR, [], .wo, 0, 0x0, 0x0, []⟩,
  ⟨NTU_XS_REQ, [], .wo, 0, 0x0, 0x0, []⟩,
  ⟨NTU_XS_CNT, [], .ro, 0, 0x0, 0x0, []⟩,
  ⟨NTU_XS_LTB_LO, [], .ro, 0, 0x0, 0x0, []⟩,
  ⟨NTU_XS_LTB_HI, [], .ro, 0, 0x0, 0x0, []⟩,
  ⟨NTU_XS_WRAP, [], .ro, 0, 0x0, 0x0, []⟩,
  ⟨NTU_Pp_RX 0 0, [(0x40, 2), (0x4, 4)], .ro, 0, 0x0, 0x0, []⟩,
  ⟨NTU_Pp_TX 0 0, [(0x40, 2), (0x4, 4)], .ro, 0, 0x0, 0x0, []⟩]

/-- Rows of the TRC register table. -/
def rowsTRC : List RegRow := [
  ⟨TRC_CFG, [], .rwt, 0xbaf5, 0x8007ffff, 0x0, [⟨15, 0, 1024, 65535, false, false⟩]⟩,
  ⟨TRC_STATUS, [], .mixed, 0, 0x0, 0x300, []⟩,
  ⟨TRC_ALLOW_NET, [], .rwt, 0, 0xffffffff, 0x0, []⟩,
  ⟨TRC_ALLOW_MASK, [], .rwt, 0xffffffff, 0xffffffff, 0x0, []⟩,
  ⟨TRC_DROP_CNT, [], .ro, 0, 0x0, 0x0, []⟩,
  ⟨TRC_STAGE_SHED, [], .ro, 0, 0x0, 0x0, []⟩,
  ⟨TRC_MARK 0, [(0x4, 4)], .wo, 0, 0x0, 0x0, []⟩,
  ⟨TRC_FWREC, [], .wo, 0, 0x0, 0x0, []⟩,
  ⟨TRC_RING_CFG, [], .rwt, 0, 0xc000003f, 0x0, []⟩,
  ⟨TRC_RING_HEAD, [], .ro, 0, 0x0, 0x0, []⟩,
  ⟨TRC_SUBs_STATE 0, [(0x20, 32)], .ro, 0, 0x0, 0x0, []⟩,
  ⟨TRC_SUBs_IP 0, [(0x20, 32)], .ro, 0, 0x0, 0x0, []⟩,
  ⟨TRC_SUBs_PORT 0, [(0x20, 32)], .ro, 0, 0x0, 0x0, []⟩,
  ⟨TRC_SUBs_SENT 0, [(0x20, 32)], .ro, 0, 0x0, 0x0, []⟩,
  ⟨TRC_SUBs_LIMIT 0, [(0x20, 32)], .ro, 0, 0x0, 0x0, []⟩,
  ⟨TRC_SUBs_SHED 0, [(0x20, 32)], .ro, 0, 0x0, 0x0, []⟩,
  ⟨TRC_SUBs_LEASE 0, [(0x20, 32)], .ro, 0, 0x0, 0x0, []⟩,
  ⟨TRC_SUBs_END 0, [(0x20, 32)], .wo, 0, 0x0, 0x0, []⟩]

/-- Rows of the CAN register table. -/
def rowsCAN : List RegRow := [
  ⟨CAN_CTRL 0, [(0x10000, 4)], .rwt, 0x2, 0xf0001f07, 0x0, [⟨29, 28, 0, 2, false, false⟩]⟩,
  ⟨CAN_NBT 0, [(0x10000, 4)], .rwt, 0, 0xffffff7f, 0x0, []⟩,
  ⟨CAN_DBT 0, [(0x10000, 4)], .rwt, 0, 0x1f1f0f0f, 0x0, []⟩,
  ⟨CAN_TDC 0, [(0x10000, 4)], .rwt, 0, 0x800000ff, 0x0, [⟨7, 0, 0, 127, false, false⟩]⟩,
  ⟨CAN_STATUS 0, [(0x10000, 4)], .mixed, 0, 0x0, 0x300, []⟩,
  ⟨CAN_ERRCNT 0, [(0x10000, 4)], .ro, 0, 0x0, 0x0, []⟩,
  ⟨CAN_BO_RECOV 0, [(0x10000, 4)], .wo, 0, 0x0, 0x0, []⟩,
  ⟨CAN_CSQACK 0, [(0x10000, 4)], .rwt, 0, 0xffffffff, 0x0, []⟩,
  ⟨CAN_CSQ_DROP 0, [(0x10000, 4)], .ro, 0, 0x0, 0x0, []⟩,
  ⟨CAN_TXBb_ID 0 0, [(0x10000, 4), (0x60, 3)], .rw, 0, 0x9fffffff, 0x0, []⟩,
  ⟨CAN_TXBb_CTRL 0 0, [(0x10000, 4), (0x60, 3)], .rw, 0, 0xe0f, 0x0, []⟩,
  ⟨CAN_TXBb_REQ 0 0, [(0x10000, 4), (0x60, 3)], .wo, 0, 0x0, 0x0, []⟩,
  ⟨CAN_TXBb_STATUS 0 0, [(0x10000, 4), (0x60, 3)], .ro, 0, 0x0, 0x0, []⟩,
  ⟨CAN_TXBb_DATA 0 0 0, [(0x10000, 4), (0x60, 3), (0x4, 16)], .rw, 0, 0xffffffff, 0x0, []⟩,
  ⟨CAN_RXF_CFG 0, [(0x10000, 4)], .rwt, 0, 0x3, 0x0, []⟩,
  ⟨CAN_RXF_STATUS 0, [(0x10000, 4)], .ro, 0, 0x0, 0x0, []⟩,
  ⟨CAN_RXF_POP 0, [(0x10000, 4)], .wo, 0, 0x0, 0x0, []⟩,
  ⟨CAN_RXs_CTRL 0 0, [(0x10000, 4), (0x50, 64)], .ro, 0, 0x0, 0x0, []⟩,
  ⟨CAN_RXs_ID 0 0, [(0x10000, 4), (0x50, 64)], .ro, 0, 0x0, 0x0, []⟩,
  ⟨CAN_RXs_TS_LO 0 0, [(0x10000, 4), (0x50, 64)], .ro, 0, 0x0, 0x0, []⟩,
  ⟨CAN_RXs_TS_HI 0 0, [(0x10000, 4), (0x50, 64)], .ro, 0, 0x0, 0x0, []⟩,
  ⟨CAN_RXs_DATA 0 0 0, [(0x10000, 4), (0x50, 64), (0x4, 16)], .ro, 0, 0x0, 0x0, []⟩,
  ⟨CAN_FLTf_ID 0 0, [(0x10000, 4), (0x8, 128)], .rwt, 0, 0xdfffffff, 0x0, []⟩,
  ⟨CAN_FLTf_MASK 0 0, [(0x10000, 4), (0x8, 128)], .rwt, 0, 0xdfffffff, 0x0, []⟩]

/-- Rows of the BST register table. -/
def rowsBST : List RegRow := [
  ⟨BST_CTRL, [], .rwt, 0x1, 0x1, 0x0, []⟩,
  ⟨BST_CFG, [], .ro, 0, 0x0, 0x0, []⟩,
  ⟨BST_STATUS, [], .ro, 0, 0x0, 0x0, []⟩,
  ⟨BST_DEFER_CNT, [], .ro, 0, 0x0, 0x0, []⟩,
  ⟨BST_INC_CNT, [], .ro, 0, 0x0, 0x0, []⟩,
  ⟨BST_UT_CNT, [], .ro, 0, 0x0, 0x0, []⟩,
  ⟨BST_UT_LAST, [], .ro, 0, 0x0, 0x0, []⟩,
  ⟨BST_MB_YIELD, [], .ro, 0, 0x0, 0x0, []⟩,
  ⟨BST_MB_FAIL, [], .ro, 0, 0x0, 0x0, []⟩,
  ⟨BST_MB_POS, [], .ro, 0, 0x0, 0x0, []⟩,
  ⟨BST_KEY, [], .wo, 0, 0x0, 0x0, []⟩,
  ⟨BST_KEY_STATUS, [], .ro, 0, 0x0, 0x0, []⟩,
  ⟨BST_KEY_RESULT, [], .ro, 0, 0x0, 0x0, []⟩,
  ⟨BST_UNITu_STATUS 0, [(0x4, 9)], .ro, 0, 0x0, 0x0, []⟩]

/-- Rows of the FLS register table. -/
def rowsFLS : List RegRow := [
  ⟨FLS_CTRL, [], .rwt, 0x1, 0x1, 0x0, []⟩,
  ⟨FLS_CFG, [], .rwt, 0, 0x3f, 0x0, []⟩,
  ⟨FLS_STATUS, [], .ro, 0, 0x0, 0x0, []⟩,
  ⟨FLS_TASKt_CFG 0, [(0x10, 11)], .rwt, 0, 0x80ffffff, 0x0, []⟩,
  ⟨FLS_TASKt_STAT 0, [(0x10, 11)], .ro, 0, 0x0, 0x0, []⟩,
  ⟨FLS_TASKt_LAST 0, [(0x10, 11)], .ro, 0, 0x0, 0x0, []⟩]

/-- Rows of the SYS register table. -/
def rowsSYS : List RegRow := [
  ⟨SYS_RST_CAUSE, [], .ro, 0, 0x0, 0x0, []⟩,
  ⟨SYS_RST_CTRL, [], .wo, 0, 0x0, 0x0, []⟩,
  ⟨SYS_VMON, [], .ro, 0, 0x0, 0x0, []⟩,
  ⟨SYS_VMON_STICKY, [], .w1c, 0, 0x0, 0x3f3f, []⟩,
  ⟨SYS_VMEAS0, [], .ro, 0, 0x0, 0x0, []⟩,
  ⟨SYS_VMEAS1, [], .ro, 0, 0x0, 0x0, []⟩,
  ⟨SYS_VMEAS2, [], .ro, 0, 0x0, 0x0, []⟩,
  ⟨SYS_CLK_STATUS, [], .mixed, 0, 0x0, 0x300, []⟩,
  ⟨SYS_CLK_MEAS, [], .ro, 0, 0x0, 0x0, []⟩,
  ⟨SYS_PWRFAIL, [], .mixed, 0, 0x0, 0x2, []⟩,
  ⟨SYS_STRAP, [], .ro, 0, 0x0, 0x0, []⟩,
  ⟨SYS_GPIO_IN, [], .ro, 0, 0x0, 0x0, []⟩,
  ⟨SYS_GPIO_OUT, [], .rw, 0, 0xffff, 0x0, []⟩,
  ⟨SYS_GPIO_OE, [], .rw, 0, 0xffff, 0x0, []⟩]

/-- The register table of the window that holds address `a` (the subsystem table of chapter 00). -/
def rowsAt (a : Nat) : List RegRow :=
  let w := a / 0x10000
  if w = 0x4000 then rowsSYS
  else if w = 0x4001 then rowsCFG
  else if w = 0x4002 then rowsCTE
  else if w = 0x4003 then rowsCSQ
  else if w = 0x4004 then rowsJRN
  else if w = 0x4005 then rowsFLS
  else if w = 0x4006 then rowsBST
  else if w = 0x4007 then rowsICF
  else if w = 0x4010 then rowsATB
  else if w = 0x4011 then rowsEVS
  else if w = 0x4020 then rowsPFC
  else if w = 0x4021 then rowsEEM
  else if w = 0x4030 then rowsADS
  else if w = 0x4031 then rowsSDM
  else if w = 0x4032 then rowsFCMP
  else if w = 0x4050 then rowsPWM
  else if w = 0x4060 then rowsGLK
  else if w = 0x4070 then rowsPSP
  else if w = 0x4080 then rowsFCR
  else if w = 0x4090 then rowsTHM
  else if w = 0x40a2 then rowsNTU
  else if w = 0x40c0 then rowsCMD
  else if w = 0x40d0 then rowsTRC
  else if w = 0x5000 then rowsSIS
  else if 0x4040 ≤ w ∧ w ≤ 0x4048 then rowsCEA
  else if w = 0x40A0 ∨ w = 0x40A1 then rowsETH
  else if 0x40B0 ≤ w ∧ w ≤ 0x40B3 then rowsCAN
  else []

/-- Does offset `d` fall on an element of the array with these (stride, count) indexes? The indexes are peeled off
from the widest stride. -/
def inDims : List (Nat × Nat) → Nat → Bool
  | [], d => d == 0
  | (st, n) :: r, d => decide (d / st < n) && inDims r (d % st)

/-- Is address `a` one of the registers of the row? -/
def RegRow.covers (r : RegRow) (a : Nat) : Bool := decide (r.base ≤ a) && inDims r.dims (a - r.base)

/-- The row of the register at address `a`, if the spec has a register there. -/
def regRow? (a : Nat) : Option RegRow := (rowsAt a).find? (fun r => r.covers a)

/-- `FLS_TASKt_CFG` at reset (R500): EN and the default PERIOD in the task's unit. PPROT's default of 2.5 s has no whole
value in its unit: the field reads 2 (the model's choice, log entry 85). -/
def flsReset (t : Nat) : Word :=
  0x80000000 ||| (match t with
    | 0 => 10 | 1 => 24 | 2 => 2000 | 3 => 1000 | 4 => 200 | 5 => 2 | 6 => 2 | 7 => 1000 | 8 => 60 | 9 => 10 | _ => 10)

/-- The reset value of the register at address `a` (0 where no register stands, and for a register whose value comes
from the Former until the Former has been programmed). -/
def resetValue (a : Nat) : Word :=
  if Reg.FLS_TASKt_CFG 0 ≤ a ∧ a ≤ Reg.FLS_TASKt_CFG 10 ∧ a % 16 = 0 then flsReset ((a - Reg.FLS_TASKt_CFG 0) / 16)
  else match regRow? a with
  | some r => r.reset
  | none => 0

end Sys2Proof.Machine
end

