-- ==== Sys2Proof/Machine/State.lean ====
section
/-! DEFINITION. The state of the device as plain data. Architectural registers stand in one sparse register file; what
the spec gives a unit beside its registers (queues, counters that no register shows, work in progress) stands in one
structure per unit. -/

namespace Sys2Proof.Machine

/-- Why a step stops with a fault. -/
inductive Fault where
  /-- Raised by a command whose operand is not one that any sender can produce (`Instr.WellFormed` fails): a token that
  is not 160 bytes long, a record that is not 16 bytes long, a set of readings of the wrong size. Safe: the model stops
  where the hardware has no such event. -/
  | illFormed (mnemonic : String)
  deriving DecidableEq, Repr

/-- Why a command is refused. -/
inductive Refusal where
  /-- The command has no meaning in the model yet. Safe: nothing can be proved of its effect. -/
  | notModelled (mnemonic : String)
  deriving DecidableEq, Repr

/-! ## System control, Former loader -/

/-- Where the start-up sequence of R37 stands. -/
inductive Phase where
  | held        -- power-on reset held
  | released    -- step 1 done
  | sisUp       -- step 2 done: SIS runs from its ROM
  | strapped    -- step 3 done: straps and seal fuses read
  | checked     -- step 4, a copy is selected
  | programmed  -- step 4 ended and step 5 begun: PP0 to PP2 released
  | running     -- firmware entered
  | hold        -- Configuration Hold (R32)
  deriving DecidableEq, Repr, Inhabited

/-- One one-time-programmable key slot (R29). -/
structure KeySlot where
  provisioned : Bool := false
  revoked : Bool := false
  former : Bool := false
  firmware : Bool := false
  debug : Bool := false
  digest : List Byte := []
  deriving DecidableEq, Repr, Inhabited

/-- One axis record of STRUCTURE (R26). TOPOLOGY 0 is an axis not in use. -/
structure AxisRec where
  topology : Nat := 0
  polePairs : Nat := 0
  ce : Nat := 0
  flyingRestart : Bool := false
  rollbackCatch : Bool := false
  samplePeriod : Nat := 0
  carrierHz : Nat := 0
  iBase : Nat := 0
  uBase : Nat := 0
  nBase : Nat := 0
  tBase : Nat := 0
  pfMain : Nat := 0
  pfSecond : Option Nat := none
  deriving DecidableEq, Repr, Inhabited

/-- An entry of the resource map: the owner code and the adjustable mark (R34). -/
structure Owner where
  code : Nat := 0
  adj : Bool := true
  deriving DecidableEq, Repr, Inhabited

/-! ## PWM -/

/-- The settings of a leg that one period uses (R220, R530). -/
structure LegVals where
  src : Bool := false
  duty : Word := 0
  cmp0 : Word := 0
  cmp1 : Word := 0
  dt : Word := 0x0A000A00
  minpw : Word := 0x80000050
  boot : Word := 0x00080190
  deriving DecidableEq, Repr, Inhabited

/-- A timed edge of one switch: `high` the high-side switch, `on` the kind, `time` in NAP of link time. -/
structure Edge where
  high : Bool
  on : Bool
  time : Nat
  deriving DecidableEq, Repr, Inhabited

/-- One leg channel beside its registers (R216–R236). -/
structure Leg where
  staged : LegVals := {}
  live : LegVals := {}
  /-- The high side (of a single-switch channel: the switch) is commanded on at the end of the last period computed. -/
  highOn : Bool := false
  /-- First edge, in NAP of link time, of the on-interval (of a single-switch channel: on- or off-interval) that spans
  the next period boundary (R219). -/
  openEdge : Nat := 0
  /-- The leg has computed a period since it started. -/
  begun : Bool := false
  /-- High-side on-time (NAP) of the live period (R235). -/
  onTime : Nat := 0
  /-- The tick at which the sample started, or the initiator wrote, whose DUTY or CMP value is in the shadow, and of the
  value in the staged copy. -/
  valueBasis : Nat := 0
  stagedBasis : Nat := 0
  /-- DUTY or CMP written since the last stage copy; taken by the last stage copy. -/
  fresh : Bool := false
  stagedFresh : Bool := false
  /-- A trip in the live period; trips of consecutive periods (R231); the tick of the trip that entered TRIPPED. -/
  trippedNow : Bool := false
  tripRun : Nat := 0
  tripTick : Nat := 0
  /-- Times (NAP) of the edges handed to GLK that can still blank the trip input (R228). -/
  issued : List Nat := []
  /-- A report of the leg's drivers on its way to the trip input; one held because the leg was blanked (R228). -/
  report : Bool := false
  heldReport : Bool := false
  /-- Full-duty periods in a row, and a refresh pulse due (R234). -/
  bootRun : Nat := 0
  bootDue : Bool := false
  /-- The leg stops at the next period start of its group (R530). -/
  stopping : Bool := false
  /-- The group the leg leaves, whose next period start it waits for (R530). -/
  oldGroup : Option Nat := none
  deriving DecidableEq, Repr, Inhabited

/-- A PERIOD held pending under PAIRED = 1 (R223): its value, the Load Instants that have passed, the legs written
since. -/
structure PendingPeriod where
  value : Nat
  loads : Nat
  written : BitVec 32
  deriving DecidableEq, Repr, Inhabited

/-- One carrier group beside its registers (R213–R227). Instants are whole ticks of the LTB. -/
structure Group where
  running : Bool := false
  stopping : Bool := false
  /-- The live period, the period that was taken at the last Load Instant, and the start and Load Instant of the one
  after it. -/
  start : Nat := 0
  period : Nat := 0
  comingStart : Nat := 0
  comingPeriod : Nat := 0
  nextStart : Nat := 0
  nextLi : Nat := 0
  /-- A period has been taken and its start is still to come. -/
  loaded : Bool := false
  paired : Bool := false
  pending : Option PendingPeriod := none
  /-- PERIOD written since the last stage copy. -/
  freshPeriod : Bool := false
  /-- The staged copy: done for the coming Load Instant, its period, alignment, pairing and single-shunt settings, and
  what the Load Instant is to report (R223, R224). -/
  staged : Bool := false
  stagedPeriod : Nat := 0
  stagedAlign : Nat := 0
  stagedPaired : Bool := false
  stagedSs : Word := 0
  stagedSplit : Bool := false
  stagedTimeout : Bool := false
  deriving DecidableEq, Repr, Inhabited

/-- PWM beside its registers: legs, groups, the TRIP pins after their filter (R228). -/
structure PwmState where
  legs : Vector Leg 32 := Vector.replicate 32 {}
  groups : Vector Group 8 := Vector.replicate 8 {}
  pins : BitVec 8 := 0xFF
  deriving DecidableEq, Repr, Inhabited

/-! ## Shaore Link -/

/-- A downlink word or set (R245, R247, R248). -/
inductive LinkWord where
  | nop
  | edgeOn (time : BitVec 24)
  | edgeOff (time : BitVec 24)
  | offNow
  | timeSync (time : BitVec 24)
  | cfgWrite (addr : Byte) (data : BitVec 16)
  | cfgRead (addr : Byte)
  | echoReq
  | selftest (item : Nat)
  | meas (kind : Nat)
  | ackFault (mask : Byte)
  | prefProgram (level : Bool)
  | prefApply (level : Bool)
  | halt
  | release
  deriving DecidableEq, Repr, Inhabited

/-- A word that was sent, with its SEQ and, for an edge, the full link time of the edge (R274). -/
structure SentWord where
  seq : BitVec 4
  word : LinkWord
  edgeTime : Nat
  deriving DecidableEq, Repr, Inhabited

/-- A timed edge waiting in a port's downlink scheduler: `time` in NAP of link time (R258). -/
structure QueuedEdge where
  on : Bool
  time : Nat
  deriving DecidableEq, Repr, Inhabited

/-- A loop-delay calibration in progress (R253): requests sent, good echoes, the sum of their LOOP values, the departure
of the last request answered, and the requests on the way: SEQ and departure in NAP of link time. -/
structure Calibration where
  sent : Nat := 0
  good : Nat := 0
  sum : Int := 0
  lastDep : Option Nat := none
  waiting : List (BitVec 4 × Nat) := []
  deriving DecidableEq, Repr, Inhabited

/-- A SELFTEST or MEAS request whose answer is outstanding, with the tick at which its word was sent (R270). -/
structure DiagWait where
  selftest : Bool
  item : Nat
  sent : Option Nat := none
  deriving DecidableEq, Repr, Inhabited

/-- A register access whose answer is outstanding, with the tick at which its word was sent (R271). -/
structure CfgWait where
  write : Bool
  addr : Byte
  data : BitVec 16
  sent : Option Nat := none
  deriving DecidableEq, Repr, Inhabited

/-- The safe-state commands of R261. -/
inductive SafeCmd where
  | halt | holdOff | holdOn | release
  deriving DecidableEq, Repr, Inhabited

/-- A safe-state command that SIS or PSP has issued and GLK has not accepted yet. -/
structure SafeOrder where
  origin : SafeOrigin
  cmd : SafeCmd
  port : Nat
  deriving DecidableEq, Repr

/-- One Shaore Link port beside its registers (R242–R279). -/
structure Port where
  txSeq : BitVec 4 := 0
  rxSeq : Option (BitVec 4) := none
  /-- What the scheduler of R258 holds, by priority. -/
  haltDue : Bool := false
  offNowDue : Bool := false
  safeDue : List LinkWord := []
  edges : List QueuedEdge := []
  ackDue : List Byte := []
  lowDue : List LinkWord := []
  /-- The last 16 words sent (R274), newest last. -/
  sent : List SentWord := []
  /-- The word in transmission, none for an ordered set, and the end of the word or set (R245, R258). -/
  flying : Option SentWord := none
  busyUntil : Nat := 0
  /-- The tick at which the last TIME_SYNC started. -/
  lastSync : Option Nat := none
  /-- The tick of the last release by SIS that is pending (R233), with its GLK acceptance tick. -/
  released : Option Nat := none
  /-- A HOLD_ON waiting under R262, with its acceptance tick. -/
  holdOn : Option Nat := none
  /-- The tick at which the HOLD_ON in force was accepted, for R262's conflict rule. -/
  holdOnAt : Option Nat := none
  /-- The last safe-state command accepted and its tick (R292). -/
  lastAccept : Option (SafeCmd × Nat) := none
  /-- PSP commands issued in the tick of a standing release, whose acceptance does not cancel it (R354). -/
  keepRelease : Nat := 0
  /-- Commanded off by Halt, OFF_NOW or HOLD_OFF since this tick (R262). -/
  offSince : Option Nat := none
  /-- Edges sent, in time order: those still ahead and the last one whose time has passed (R262). -/
  flown : List QueuedEdge := []
  diag : Option DiagWait := none
  /-- DIAG writes refused while an answer was outstanding. -/
  diagRefused : Nat := 0
  cfg : List CfgWait := []
  cal : Option Calibration := none
  calApplied : Bool := false
  /-- LOOP of the result held back under R254. -/
  candidate : Option Nat := none
  /-- Tick of the last valid uplink word; valid uplink words in a row; tick of entry into the present port state. -/
  lastUp : Nat := 0
  upRow : Nat := 0
  entered : Nat := 0
  /-- Ticks of the last errors counted in UP_ERR, oldest first, at most 16 (R275). -/
  upErrs : List Nat := []
  /-- LATCHED of the last FAULT; 0 after a STATUS with LATCH = 0 (R268). -/
  latched : Byte := 0
  /-- Tick of the last module TEMP value (R372). -/
  ntcAt : Option Nat := none
  /-- A Halt or a Release outstanding under R264, as the MODE that ends it. -/
  outstanding : Option Nat := none
  /-- Register values read in PREP (R276): addresses 0x00–0x03 read so far, revision seen good. -/
  prepReads : Nat := 0
  revOk : Bool := false
  deriving DecidableEq, Repr, Inhabited

/-- MODE of a conforming driver (R260). -/
inductive DrvMode where
  | run | halt | safe | lol
  deriving DecidableEq, Repr, Inhabited

/-- The driver at the far end of one port: what a conforming driver must hold (R251–R273). -/
structure Driver where
  mode : DrvMode := .lol
  level : Bool := false
  pref : Bool := false
  lock : Bool := false
  active : Byte := 0
  latched : Byte := 0
  acked : Byte := 0
  /-- Held edges: kind and 24-bit time, in the order accepted (R257). -/
  held : List (Bool × BitVec 24) := []
  rxSeq : BitVec 4 := 0
  txSeq : BitVec 4 := 0
  goodSyncs : Nat := 0
  lastSync : Nat := 0
  lastValid : Nat := 0
  lolSince : Nat := 0
  selftest : Option Nat := none
  lastFault : Nat := 0
  malformed : Nat := 0
  stray : Nat := 0
  unreported : Nat := 0
  /-- Driver settings 0x10–0x7F and self-test results 0xF0–0xF4, where written. -/
  settings : List (Nat × Nat) := []
  /-- The uplink words the driver has queued to send, oldest first: TYPE, argument. -/
  uplink : List (Nat × Nat) := []
  deriving DecidableEq, Repr, Inhabited

/-- GLK and the drivers beyond. -/
structure GlkState where
  ports : Vector Port 64 := Vector.replicate 64 {}
  drivers : Vector Driver 64 := Vector.replicate 64 {}
  /-- Commands issued by SIS and PSP that GLK has not accepted yet, oldest first (R284, R300). -/
  orders : List SafeOrder := []
  deriving DecidableEq, Repr, Inhabited

/-! ## Power-stage protection -/

/-- An identified switch: leg channel, bank, tick of its report (R293). -/
structure FaultSwitch where
  leg : Nat
  high : Bool
  tick : Nat
  deriving DecidableEq, Repr, Inhabited

/-- One axis in PSP beside its registers. -/
structure PspAxis where
  /-- Switches identified, oldest first. -/
  switches : List FaultSwitch := []
  /-- The state of each set is FIXED. -/
  fixed1 : Bool := false
  fixed2 : Bool := false
  /-- Tick of the detection that opened the identification window. -/
  detect : Nat := 0
  /-- The state of each set is a speed-selected one, to which R288 keeps applying. -/
  speedSel1 : Bool := false
  speedSel2 : Bool := false
  /-- The first acceptance of a HALT after the detection is still to be recorded in T_HALT. -/
  awaitHalt : Bool := false
  /-- The DC-link comparator has asserted while blanked (R291). -/
  dcocHeld : Bool := false
  /-- A continuation on one winding set is authorised: the healthy set and the tick of the identification (R207). -/
  continuation : Option (Nat × Nat) := none
  /-- The standing release of R354 is given. -/
  standing : Bool := false
  deriving DecidableEq, Repr, Inhabited

/-- One DC link in PSP beside its registers. -/
structure PspLink where
  udc : Option Int := none
  udcTick : Nat := 0
  /-- UDC_STALE has been raised and no usable result has come since. -/
  stale : Bool := false
  idc : Int := 0
  ov2Run : Nat := 0
  ovState : Bool := false
  /-- TRESP check in progress: the chopper's first ON edge time (tick) and the current before it (R297). -/
  chCheck : Option (Nat × Int) := none
  chArmed : Bool := false
  /-- T0 as a full tick, and the checkpoints already judged (R298). -/
  disT0 : Option Nat := none
  disU0Taken : Bool := false
  disChecked : Nat := 0
  deriving DecidableEq, Repr, Inhabited

/-- PSP beside its registers. -/
structure PspState where
  axes : Vector PspAxis 4 := Vector.replicate 4 {}
  links : Vector PspLink 4 := Vector.replicate 4 {}
  /-- Tick of the last speed evaluation (R288). -/
  lastSpeed : Option Nat := none
  deriving DecidableEq, Repr, Inhabited

/-! ## Safety island -/

/-- One main contactor output and its feedback (R316). -/
structure Contactor where
  close : Bool := false
  cmdTick : Nat := 0
  /-- The feedback has confirmed the command, or the fault of the missed confirmation is recorded. -/
  settled : Bool := true
  /-- It has been commanded closed since power-on; its feedback has been read since. -/
  ever : Bool := false
  checked : Bool := false
  feedback : Bool := false
  deriving DecidableEq, Repr, Inhabited

/-- What SIS is doing on one link (R317, R318). -/
inductive LinkSeq where
  | idle                       -- open, or READY when `SIS_LINK` says so
  | pcOpenAll | pcNeg | pcPre (since : Nat) (path : Bool) | pcPos | pcPreOpen
  | openPos | openNeg
  | openAll
  deriving DecidableEq, Repr, Inhabited

/-- One DC link in SIS. -/
structure SisLink where
  seq : LinkSeq := .idle
  fails : Nat := 0
  retryFrom : Nat := 0
  /-- A discharge is to start once every main feedback reads open (R318). -/
  wantDischarge : Bool := false
  /-- Since when MADC and PSP voltage differ by more than UTOL (R328). -/
  differs : Option Nat := none
  deriving DecidableEq, Repr, Inhabited

/-- One applied command in SIS's copy (R326): tick, mode, setpoint or limits. -/
structure AppliedCmd where
  tick : Nat
  mode : Nat
  setpoint : Int
  posLim : Int
  negLim : Int
  deriving DecidableEq, Repr, Inhabited

/-- The torque monitor of one axis (R324–R327). -/
structure TrqMon where
  power : Bool := false
  /-- TRQ or POS was raised for this axis and `SIS_FAULT` has not been cleared since. -/
  tripped : Bool := false
  outRun : Nat := 0
  posRun : Nat := 0
  /-- SPF angle fractions of the last evaluations, newest first, at most 11 (1 ms). -/
  angles : List Nat := []
  cmds : List AppliedCmd := []
  deriving DecidableEq, Repr, Inhabited

/-- The seal fuses (R311). -/
structure SealFuses where
  isSealed : Bool := false
  code : Nat := 0
  digest : List Byte := []
  deriving DecidableEq, Repr, Inhabited

/-- SIS beside its window registers. -/
structure SisState where
  running : Bool := false
  /-- The SAFETY section of the selected copy, as SIS read it (R37 step 4); empty in Configuration Hold. -/
  safety : List Byte := []
  safetyDigest : List Byte := []
  straps : Option Nat := none
  /-- The last re-reading of the straps differed (R313). -/
  strapBad : Bool := false
  fuses : SealFuses := {}
  /-- Raw STO input levels (true = high), the tick of the last change of each, and the tick since which they differ. -/
  stoA : Bool := true
  stoB : Bool := true
  stoATick : Nat := 0
  stoBTick : Nat := 0
  stoDiffer : Option Nat := none
  /-- SS1: the tick of the demand and each axis's |speed| then (R322). -/
  ss1Since : Nat := 0
  ss1Speed : List Nat := []
  contactors : Vector Contactor 6 := Vector.replicate 6 {}
  links : Vector SisLink 4 := Vector.replicate 4 {}
  monitors : Vector TrqMon 4 := Vector.replicate 4 {}
  /-- MADC results of the present 100 µs period, per MAIN input (R324), as codes. -/
  madc : Vector (List Nat) 8 := Vector.replicate 8 []
  /-- Axes that have been enabled at least once (R319), and axes in use at the last enable. -/
  everEnabled : BitVec 4 := 0
  /-- The Lockout record in MRAM (R329): cause bits and time. -/
  lockRecord : Option (Nat × Nat) := none
  selfcheckFrom : Nat := 0
  keyFrom : Nat := 0
  /-- Tick of the last torque evaluation (R324). -/
  lastEval : Option Nat := none
  /-- Consecutive missing heartbeats of the core domain, and of SIS as SYS sees it (R308). -/
  coreMissed : Nat := 0
  sisMissed : Nat := 0
  deriving DecidableEq, Repr, Inhabited

/-! ## Fault collection -/

/-- An FCR record staged for the journal (R356). -/
structure FcrRec where
  source : Nat
  cls : Nat
  dfirst : Nat
  dlast : Nat
  first : Nat
  last : Nat
  count : Nat
  forced : Bool
  multi : Bool
  deriving DecidableEq, Repr, Inhabited

/-- FCR beside its registers: the staging buffer, oldest first, and the FCR interrupt pending at each PX. -/
structure FcrState where
  stage : List FcrRec := []
  interrupt : BitVec 4 := 0
  deriving DecidableEq, Repr, Inhabited

/-! ## Former loader state -/

/-- The Former loader beside its registers. -/
structure CfgState where
  /-- The four key slots of the fuses (R29). -/
  keys : Vector KeySlot 4 := Vector.replicate 4 {}
  /-- The axis records of the copy in use (R26). -/
  axes : Vector AxisRec 4 := Vector.replicate 4 {}
  /-- The resource map in force (R34–R36): resource id and owner, ids rising. An unlisted resource is free and ADJ. -/
  owners : List (Nat × Owner) := []
  /-- The PIN_MAP function of each ball of the copy in use. -/
  pinMap : List Nat := []
  bootXspi : Bool := false
  /-- Words received so far on the token port (R50). -/
  tokenWords : List Word := []
  /-- The nonce of this start has been used (R49). -/
  nonceUsed : Bool := false
  /-- Sources that a restore at start found before FCR was configured, with DETAIL; raised when step 4 has configured it
  (the model's choice, log entry 60). -/
  startRaise : List (Nat × Nat) := []
  /-- What the Former gave, for the overlay (R428): the register file, the resource map and the partitions of the engines
  as start-up step 4 left them before the replay. -/
  formerRegs : List (Nat × Word) := []
  formerOwners : List (Nat × Owner) := []
  formerParts : Vector (List (Nat × Nat)) 4 := Vector.replicate 4 []
  deriving DecidableEq, Repr, Inhabited

/-! ## Journal -/

/-- A journal record (R430): its TYPE, ORIGIN and payload, with the JSEQ and time it got on admission. -/
structure JrnRec where
  jseq : Nat := 0
  time : Nat := 0
  type : Nat := 0
  origin : Nat := 0x20
  payload : List Byte := []
  deriving DecidableEq, Repr, Inhabited

/-- JRN beside its registers. -/
structure JrnState where
  /-- Records that units and the firmware have offered and JRN has not admitted, oldest first; FCR's stand in FCR's own
  staging buffer. -/
  offered : List JrnRec := []
  /-- The ring in MRAM, oldest first, at most 65,536 records (R430). -/
  ring : List JrnRec := []
  /-- The two copies of the wrap counter in MRAM (R433); none where a copy is bad. -/
  wrapsA : Option Nat := some 0
  wrapsB : Option Nat := some 0
  /-- Ticks of the admissions of the last second, newest first, for `JRN_RATE`. -/
  admitted : List Nat := []
  deriving DecidableEq, Repr, Inhabited

/-! ## Processor complex, interconnect -/

/-- ROLE of a processor pair (R405). -/
inductive PairRole where
  | spare | serving | underTest | failed | handover
  deriving DecidableEq, Repr, Inhabited

/-- The counters of one hart (R382, R400, R401): cycles, instructions retired, the eight event counters with the event that
each selects, and the enables by counter number. -/
structure HartCounters where
  cycles : BitVec 64 := 0
  retired : BitVec 64 := 0
  events : Vector (BitVec 64) 8 := Vector.replicate 8 0
  select : Vector Word 8 := Vector.replicate 8 0
  mcountinhibit : Word := 0
  mcounteren : Word := 0
  scounteren : Word := 0
  deriving DecidableEq, Repr, Inhabited

/-- One processor pair (R382–R389), which presents one hart. -/
structure Pair where
  role : PairRole := .spare
  /-- The task set served, 3 as the spare. -/
  task : Nat := 3
  yieldReq : Bool := false
  yieldFrom : Nat := 0
  /-- `mhostatus.CAUSE`: 0 none, 1 takeover, 2 rotation; and RESUMED. -/
  cause : Nat := 0
  resumed : Bool := false
  hoFrom : Nat := 0
  /-- Where the pair entered at the handover: the address the boot ROM jumped to, and a1 (R387). -/
  entry : Nat := 0
  entryA1 : Nat := 0
  /-- The pair has left the boot ROM's handover vector; CPX_HO_SLOW has been raised for this takeover. -/
  entered : Bool := false
  slow : Bool := false
  tested : Bool := false
  testPass : Bool := false
  hart : HartCounters := {}
  deriving DecidableEq, Repr, Inhabited

/-- The processor complex. The CSR `mcpxstate` is the roles, `mtaskset` the tasks, `mpairid` the index. -/
structure CpxState where
  pairs : Vector Pair 4 := #v[{ role := .serving, task := 0 }, { role := .serving, task := 1 },
    { role := .serving, task := 2 }, {}]
  /-- Yield requests withdrawn unanswered (R388). -/
  withdrawn : Nat := 0
  deriving DecidableEq, Repr, Inhabited

/-- A record of the violation log (R396, R407). -/
structure VRec where
  kind : Nat
  access : Nat
  init : Nat
  addr : Nat
  time : Word
  deriving DecidableEq, Repr, Inhabited

/-- The interconnect beside its registers. -/
structure IcfState where
  vlog : List VRec := []
  vlost : Bool := false
  /-- ECC words (address / 8) of SRAM and MRAM that hold an uncorrectable error (R391). -/
  badWords : List Nat := []
  deriving DecidableEq, Repr, Inhabited

/-! ## Control engines -/

/-- An instance record of a program (R156). -/
structure CeInst where
  typ : Nat
  nin : Nat
  nout : Nat
  opt : Nat
  out : Nat
  param : Nat
  state : Nat
  ins : List Nat
  deriving DecidableEq, Repr, Inhabited

/-- A program of the engines' program memory: its directory entry and its instances (R160). -/
structure CeProg where
  axis : Nat := 0
  variant : Nat := 0
  wcet : Nat := 0
  flowsig : Word := 0
  stateOfs : Nat := 0
  stateLen : Nat := 0
  adjOfs : Nat := 0
  adjLen : Nat := 0
  insts : List CeInst := []
  deriving DecidableEq, Repr, Inhabited

/-- A staged OUTREG write (R200): the target and the value; with CGTIME, the carrier group and the input. -/
structure CeWrite where
  addr : Nat
  cg : Option Nat
  value : Nat
  deriving DecidableEq, Repr, Inhabited

/-- What a REPORT instance reports at the release of its sample (R180, R192, R196, R201). -/
inductive CeReport where
  | winHi (i : Nat) | winLo (i : Nat) | bind (s : Nat) | ceil (at_ : Bool)
  | obs (valid locked lostNow : Bool) (speed : Int)
  | plaus (slot : Nat) (failNow : Bool)
  deriving DecidableEq, Repr, Inhabited

/-- A sample whose instances have executed and whose flow signature was good (R165 step 4). -/
structure CeResult where
  cycles : Nat
  /-- The partition as it stood before, for a sample that is abandoned after all (R166). -/
  before : List (Nat × Nat)
  writes : List CeWrite
  reports : List CeReport
  /-- ANGTAB words written, word offset and value (R170). -/
  table : List (Nat × Nat)
  deriving DecidableEq, Repr, Inhabited

/-- A sample in progress on one engine. -/
structure CeRun where
  axis : Nat
  variant : Nat
  start : Nat
  /-- Signals 0x0000–0x008A as copied at the start (R155). -/
  frame : List Nat
  /-- WMIN of the axis's single-shunt group, read at sample start (R227). -/
  wmin : Nat
  outOfCycle : Bool := false
  result : Option CeResult := none
  deriving DecidableEq, Repr, Inhabited

/-- One record of trace staging (R174): probe id, value or difference, time, delta mark. -/
structure ProbeRec where
  id : Nat
  value : Int
  time : Nat
  delta : Bool
  deriving DecidableEq, Repr, Inhabited

/-- A content of trace staging: the records of one sample, or a gap marker with the number of records shed. -/
inductive StagingItem where
  | sample (recs : List ProbeRec)
  | gap (axis shed : Nat)
  deriving DecidableEq, Repr, Inhabited

/-- One engine beside its registers. -/
structure Engine where
  /-- Data memory: the words of each axis partition that are not 0, by word offset (R152). -/
  parts : Vector (List (Nat × Nat)) 4 := Vector.replicate 4 []
  run : Option CeRun := none
  staging : List StagingItem := []
  /-- Records shed since the last gap marker, and the axis they belong to. -/
  shed : Nat := 0
  shedAxis : Nat := 0
  /-- Index of the first instance flagged since the last clear is held in STICKY. -/
  flagged : Bool := false
  deriving DecidableEq, Repr, Inhabited

/-- A checkpoint on its way (R170). -/
structure Checkpoint where
  seq : Nat
  words : List (Nat × Nat)
  deriving DecidableEq, Repr, Inhabited

/-- Where an unplanned takeover stands (R172, R354). -/
inductive Takeover where
  | none | selecting | awaitRelease | running
  deriving DecidableEq, Repr, Inhabited

/-- One axis in CEA beside its registers. -/
structure CeAxis where
  takeover : Takeover := .none
  /-- A start held during the takeover (R172). -/
  held : Bool := false
  ckpt : Option Checkpoint := none
  /-- The three conditions of R204 held at the last sample. -/
  wasTorque : Bool := false
  /-- Writes to PWM registers are discarded (R205). -/
  discard : Bool := false
  /-- ω̂ of the REPORT observer of the last completed sample (R204). -/
  obsSpeed : Int := 0
  /-- A restart has run since drive enable last fell (R203), and the tick at which its step began. -/
  frUsed : Bool := false
  frSince : Nat := 0
  deriving DecidableEq, Repr, Inhabited

/-- The planned handover in progress (R171). -/
structure Handover where
  axis : Nat
  incoming : Nat
  incumbent : Nat
  /-- SHADOW has begun; before, a sample completed since the request. -/
  shadow : Bool := false
  completed : Bool := false
  deriving DecidableEq, Repr, Inhabited

/-- The Control Engine Array beside its registers. -/
structure CeaState where
  /-- Program memory, the same in all five engines (R152). -/
  progs : List CeProg := []
  engines : Vector Engine 5 := Vector.replicate 5 {}
  axes : Vector CeAxis 4 := Vector.replicate 4 {}
  handover : Option Handover := none
  /-- Results of the two engines of the sample being compared: writes and partition of the one that is done. -/
  compare : Option (Nat × List CeWrite × List (Nat × Nat)) := none
  /-- Adjustable words of a commit that wait for the next sample start of their axis (R161): axis, word offset, value. -/
  adjDue : List (Nat × Nat × Nat) := []
  deriving DecidableEq, Repr, Inhabited

/-! ## Command signals -/

/-- The command signals 0x0082 to 0x0087 of one axis (R154, R410). -/
structure AxisCmd where
  mode : Nat := 0
  setpoint : Int := 0
  posLim : Int := 0
  negLim : Int := 0
  ramp : Int := 0
  cmdIn : Bool := false
  deriving DecidableEq, Repr, Inhabited

/-! ## Angle Timebases, Event Scheduler -/

/-- One Angle Timebase beside its registers (R57–R61). -/
structure Atb where
  acc : BitVec 56 := 0
  /-- θ and tick of the last update; none before the first one. -/
  prev : Option (BitVec 40 × Nat) := none
  lastUpdate : Nat := 0
  /-- The stale condition of R61 has been reported and no update has come since. -/
  staleNow : Bool := false
  pendPos : Option (BitVec 24) := none
  pendSpd : Option Word := none
  deriving DecidableEq, Repr, Inhabited

/-- An armed entry (R67): its pending target (an LTB tick for DELAY and TIME, else an angle or a phase), the remaining
repeats, and for CARRIER the resolved trigger instant with the start and period it was resolved from. -/
structure EvsLive where
  entry : Nat
  target : Int
  rpt : Nat
  resolved : Option (Int × Nat × Nat) := none
  deriving DecidableEq, Repr, Inhabited

/-- A firing whose trigger instant has come and that has not entered the dispatch queue. -/
structure EvsDue where
  entry : Nat
  trig : Int
  sreg : Nat
  data : Word
  deriving DecidableEq, Repr, Inhabited

/-- A late record (R79). -/
structure EvsLate where
  index : Nat
  lateness : Nat
  trig : Word
  deriving DecidableEq, Repr, Inhabited

/-- EVS beside its registers and its table, whose words stand in the register file. -/
structure EvsState where
  live : List EvsLive := []
  due : List EvsDue := []
  /-- The entries in the window, at most 256. -/
  window : List Nat := []
  /-- The dispatch queue, oldest first, at most 16: register index and value. -/
  queue : List (Nat × Word) := []
  log : List EvsLate := []
  lost : Bool := false
  scan : Nat := 0
  /-- Start and period of the coming carrier period of each group, once its Load Instant has passed (R71). -/
  coming : Vector (Option (Nat × Nat)) 8 := Vector.replicate 8 none
  deriving DecidableEq, Repr, Inhabited

/-! ## Position feedback, encoder emulation -/

/-- One filtered line of a position channel (R88): level at the ball, level after the filter, a transition that waits. -/
structure PosLine where
  ball : Bool := false
  level : Bool := false
  wait : Option Nat := none
  deriving DecidableEq, Repr, Inhabited

/-- One position channel beside its registers. -/
structure PosChan where
  lines : Vector PosLine 3 := Vector.replicate 3 {}
  turn : Int := 0
  /-- The fraction of the last delivery, for the turn count of serial and resolver channels (R87). -/
  lastFrac : Option Nat := none
  /-- The last delivered measurement: angle and tick. -/
  last : Option (BitVec 40 × Nat) := none
  /-- The last frame or sample passed every check. -/
  good : Bool := false
  /-- The frame in progress: the tick of its first clock edge plus LATCH_OFS. -/
  frame : Option Int := none
  idleEnd : Nat := 0
  nextPer : Nat := 0
  /-- Resolver: segment count and last θr. -/
  seg : Nat := 0
  lastRes : Option Nat := none
  /-- Hall: the last valid sector, and a resync is due (R96). -/
  sector : Option Nat := none
  resync : Bool := true
  /-- The count is at or above THR since PFC_CARD was raised (R90). -/
  carded : Bool := false
  decayFrom : Nat := 0
  deriving DecidableEq, Repr, Inhabited

/-- One vote source: its angle (40 bits, or the observer's 24-bit electrical angle), the tick of the measurement and the
tick of the delivery. -/
structure VoteSrc where
  angle : Nat := 0
  tk : Int := 0
  at_ : Option Nat := none
  deriving DecidableEq, Repr, Inhabited

/-- An outcome of the vote (R108): the row, the delivered source, the lone or named source. -/
structure VoteOutcome where
  row : Nat
  delivered : Nat
  named : Nat
  deriving DecidableEq, Repr, Inhabited

/-- The vote of one axis. -/
structure Vote where
  srcs : Vector VoteSrc 3 := Vector.replicate 3 {}
  inForce : Option VoteOutcome := none
  candidate : Option VoteOutcome := none
  found : Nat := 0
  obsT : Word := 0
  deriving DecidableEq, Repr, Inhabited

/-- One excitation output beside its registers. -/
structure Exc where
  t0 : Nat := 0
  per : Nat := 80000
  deriving DecidableEq, Repr, Inhabited

/-- One emulation output beside its registers. -/
structure Eem where
  out : Int := 0
  lastEdge : Nat := 0
  a : Bool := false
  b : Bool := false
  z : Bool := false
  lagging : Bool := false
  deriving DecidableEq, Repr, Inhabited

/-- PFC and EEM beside their registers. -/
structure PfcState where
  chans : Vector PosChan 8 := Vector.replicate 8 {}
  votes : Vector Vote 4 := Vector.replicate 4 {}
  excs : Vector Exc 4 := Vector.replicate 4 {}
  eems : Vector Eem 4 := Vector.replicate 4 {}
  deriving DecidableEq, Repr, Inhabited

/-! ## Current and voltage sensing -/

/-- A conversion request that waits or is under way, with the conversions still to begin (R122, R123). -/
structure AdsReq where
  selA : Nat
  selB : Nat
  count : Nat
  rs : Bool
  rsPhase : Nat
  rsNeg : Bool
  deriving DecidableEq, Repr, Inhabited

/-- A conversion of one half: its input, what its result carries, and its sampling instant (R118, R121, R129). -/
structure AdsConv where
  input : Nat
  inj : Bool
  rs : Bool
  rsPhase : Nat
  rsNeg : Bool
  ru : Bool
  halfRate : Bool
  dual : Bool
  ts : Nat
  deriving DecidableEq, Repr, Inhabited

/-- One SAR converter pair beside its registers (R117–R130). -/
structure AdsPair where
  injCur : Option AdsReq := none
  injQueue : List AdsReq := []
  regCur : Option AdsReq := none
  regQueue : List AdsReq := []
  halves : Vector (Option AdsConv) 2 := Vector.replicate 2 none
  /-- Half A's result of a DUAL conversion of a resolver pair, until half B's comes: code and MID of its input. -/
  resA : Option (Nat × Nat) := none
  calPending : Bool := false
  /-- Tick of the last completed calibration of each half; LATE has been raised since. -/
  calDone : Vector Nat 2 := Vector.replicate 2 0
  calLate : Vector Bool 2 := Vector.replicate 2 false
  /-- The result of each of the eight inputs has not been read. -/
  unread : BitVec 8 := 0
  deriving DecidableEq, Repr, Inhabited

/-- One return shunt channel beside its registers (R138–R140). -/
structure RsChan where
  /-- Start of the carrier period whose samples it collects. -/
  start : Option Nat := none
  /-- The samples of the period: phase, value with its sign, RU. -/
  samples : List (Nat × Int × Bool) := []
  reconstructed : Bool := false
  /-- The coming period, or the present one, is marked to use no sample (R226). -/
  markComing : Bool := false
  marked : Bool := false
  /-- Consecutive no-reconstruction periods. -/
  run : Nat := 0
  deriving DecidableEq, Repr, Inhabited

/-- An open capture window (R133): the tick of the write, what it asks for, and the outputs taken so far. -/
structure SdmCapture where
  tick : Nat
  resync : Bool
  avg : Bool
  len : Nat
  taken : List (Int × Nat)
  deriving DecidableEq, Repr, Inhabited

/-- One sigma-delta channel beside its registers (R131–R134). -/
structure SdmChan where
  /-- The modulator bits that the filters hold, newest last. -/
  history : List Bool := []
  capture : Option SdmCapture := none
  unread : Bool := false
  deriving DecidableEq, Repr, Inhabited

/-- ADS, SDM, FCMP and the monitor converters beside their registers. -/
structure SenseState where
  pairs : Vector AdsPair 8 := Vector.replicate 8 {}
  rs : Vector RsChan 4 := Vector.replicate 4 {}
  sdm : Vector SdmChan 24 := Vector.replicate 24 {}
  /-- A comparator self-test is running (R137). -/
  testing : BitVec 32 := 0
  deriving DecidableEq, Repr, Inhabited

/-! ## Thermal management -/

/-- One switch channel of THM beside its registers (R371–R374). -/
structure ThmSwitch where
  /-- Stage states, in 2^-16 K. -/
  theta : List Int := [0, 0, 0, 0]
  /-- TJ at the last steps, newest first, at most 64. -/
  history : List Int := []
  /-- The rate source has been raised and is not re-armed; steps in a row beyond MTOL. -/
  rateHigh : Bool := false
  apart : Nat := 0
  deriving DecidableEq, Repr, Inhabited

/-- One die region of THM beside its registers (R365–R370, R374). -/
structure ThmRegion where
  theta : List Int := [0, 0, 0, 0]
  history : List Int := []
  /-- Steps in a row beyond XTOL. -/
  count : Nat := 0
  /-- The sources raised and not re-armed. -/
  warnHigh : Bool := false
  tripHigh : Bool := false
  rateHigh : Bool := false
  deriving DecidableEq, Repr, Inhabited

/-- THM beside its registers. -/
structure ThmState where
  /-- The last step, as a multiple of 1 ms. -/
  last : Option Nat := none
  regions : Vector ThmRegion 9 := Vector.replicate 9 {}
  switches : Vector ThmSwitch 64 := Vector.replicate 64 {}
  deriving DecidableEq, Repr, Inhabited

/-! ## Self-test, Fulling Scheduler -/

/-- A test of one unit in progress (R490–R493): the unit's DETAIL, the slice that runs or comes next, the ROLE code that
the unit had, deferrals and incomplete slices in a row, and the tick of a deferral. -/
structure UnitTest where
  unit : Nat
  slice : Nat := 0
  role : Nat
  waits : Nat := 0
  deferred : Option Nat := none
  deriving DecidableEq, Repr, Inhabited

/-- BST beside its registers. -/
structure BstState where
  tests : List UnitTest := []
  /-- The unit whose slice runs. -/
  running : Option Nat := none
  /-- A key test runs: is its KIND ON? -/
  key : Option Bool := none
  /-- First address of the memory block under test. -/
  block : Option Nat := none
  deriving DecidableEq, Repr, Inhabited

/-- FLS beside its registers. -/
structure FlsState where
  /-- Tick at which each task falls due next, and at which its last run started. -/
  due : Vector Nat 11 := Vector.replicate 11 0
  start : Vector Nat 11 := Vector.replicate 11 0
  /-- Next axis of CEROT, next task set of PPROT, next port and ITEM of DRVTEST. -/
  axis : Nat := 0
  task : Nat := 0
  port : Nat := 0
  item : Nat := 0
  /-- PPROT still has its default period of 2.5 s. -/
  ppDefault : Bool := true
  deriving DecidableEq, Repr, Inhabited

/-! ## Commands -/

/-- One source slot of CSQ beside its registers: the held records as they arrived, with their SEQ, rising distance; the
tick since which records have been held without any application; CSQ_GAP_STALL has been raised for it. -/
structure CsqSlot where
  held : List (Nat × List Byte) := []
  heldFrom : Nat := 0
  stalled : Bool := false
  deriving DecidableEq, Repr, Inhabited

/-- ACK results held back for one slot and path (R413): the highest SEQ, how many, since when, the sender. -/
structure AckBatch where
  slot : Nat
  path : Nat
  seq : Nat
  count : Nat
  since : Nat
  sender : Sender
  deriving DecidableEq, Repr

/-- A record of the command log (R416): index in the ring, slot, the 16 bytes. -/
structure LogRec where
  index : Nat
  slot : Nat
  bytes : List Byte
  deriving DecidableEq, Repr, Inhabited

/-- An entry of CTE's overlay (R428): the address, or for ownership the resource id, with the value. -/
structure OvlEntry where
  own : Bool
  key : Nat
  value : Word
  deriving DecidableEq, Repr, Inhabited

/-- A flush image (R418). -/
structure FlushImage where
  states : List Nat
  lasts : List Word
  slots : List CsqSlot
  applied : List (Option (List Byte))
  seqs : List Word
  overlay : List OvlEntry
  version : Word
  deriving DecidableEq, Repr, Inhabited

/-- One of the eight slots of the flush area (R418). -/
structure FlushSlot where
  epoch : Nat := 0
  started : Bool := false
  complete : Bool := false
  consumed : Bool := false
  image : FlushImage := default
  deriving DecidableEq, Repr, Inhabited

/-- CSQ and CMD beside their registers. -/
structure CsqState where
  slots : Vector CsqSlot 16 := Vector.replicate 16 {}
  /-- The command log, both copies alike, oldest first. Where a word of one copy can no longer be corrected stands in
  `IcfState.badWords`. -/
  log : List LogRec := []
  /-- The last applied record of each axis, and the tick of its application; a timeout has been raised since. -/
  applied : Vector (Option (List Byte)) 4 := Vector.replicate 4 none
  appliedAt : Vector Nat 4 := Vector.replicate 4 0
  late : BitVec 4 := 0
  batches : List AckBatch := []
  /-- The flush area, and the slot that a flush writes. -/
  flush : Vector FlushSlot 8 := Vector.replicate 8 {}
  flushing : Option Nat := none
  /-- CMD: steps in a row with X invalid, and with the difference of R420 above PTOL, per axis. -/
  lossRun : Nat := 0
  plausRun : Vector Nat 4 := Vector.replicate 4 0
  deriving DecidableEq, Repr, Inhabited

/-! ## Transactions -/

/-- An entry of the shadow store (R423): an address, or for `CTE_OWNSET` a resource request, and the value. -/
structure CteEntry where
  addr : Nat
  value : Word
  deriving DecidableEq, Repr, Inhabited

/-- Where a transaction stands (R425, R439). -/
inductive TxPhase where
  | opened | validating | pending
  deriving DecidableEq, Repr, Inhabited

/-- One transaction (R422–R426). -/
structure Tx where
  by_ : Initiator
  token : Nat
  phase : TxPhase := .opened
  entries : List CteEntry := []
  full : Bool := false
  lastWrite : Nat := 0
  kind : Nat := 0
  arg : Word := 0
  /-- Order of arrival among the commits; the boundary, once it is fixed. -/
  order : Nat := 0
  boundary : Option Nat := none
  rollback : Bool := false
  deriving DecidableEq, Repr

/-- CTE beside its registers. -/
structure CteState where
  txs : List Tx := []
  token : Nat := 0
  commits : Nat := 0
  /-- The overlay, both copies alike, in entry order, with the Former VERSION it was made against. -/
  overlay : List OvlEntry := []
  version : Word := 0
  deriving DecidableEq, Repr, Inhabited

/-! ## Ethernet, network time, telemetry -/

/-- A frame that waits for transmission or is on its way: its queue, and its bytes without FCS (a hardware frame), or
the ring slot that holds it (a firmware frame). -/
structure TxFrame where
  pcp : Nat
  slot : Option Nat
  bytes : List Byte
  stamp : Bool := false
  deriving DecidableEq, Repr, Inhabited

/-- One MAC beside its registers. -/
structure EthMac where
  queue : List TxFrame := []
  cur : Option TxFrame := none
  /-- The bytes of the last frame sent, without FCS. -/
  sent : List Byte := []
  /-- An MDIO transaction runs: is it a read? -/
  mdio : Option Bool := none
  /-- Slots of the transmit ring up to this one have entered the queues. -/
  taken : Nat := 0
  deriving DecidableEq, Repr, Inhabited

/-- A timestamp FIFO (R455): entries of four words, oldest first. -/
structure TsFifo where
  items : List (Word × Word × Word × Word) := []
  lost : Bool := false
  deriving DecidableEq, Repr, Inhabited

/-- NTU beside its registers: the 24-bit fraction, a step and a SET that act at the next tick, a wrap to be handled, the
tick of the last Sync, and the FIFOs: RX0, TX0, RX1, TX1. -/
structure NtuState where
  frac : Nat := 0
  step : Option Int := none
  set : Bool := false
  wrapDue : Bool := false
  lastSync : Nat := 0
  fifos : Vector TsFifo 4 := Vector.replicate 4 {}
  deriving DecidableEq, Repr, Inhabited

/-- A record of a telemetry stream (R461): ID, VALUE, its time as an LTB tick, DELTA. -/
structure TrcRec where
  id : Nat
  value : Int
  time : Nat
  delta : Bool := false
  deriving DecidableEq, Repr, Inhabited

/-- One subscription (R458–R464): NONCE and sender, tick of ACCEPT or the last GRANT, SEQ of the next DATA, the buffer as
groups of records that stay together, records shed since the last GAP, SHED raised since the last admission. -/
structure Subscription where
  nonce : Word := 0
  sender : Sender := { ip := 0, port := 0, mac := 0 }
  since : Nat := 0
  seq : Nat := 0
  buffer : List (List TrcRec) := []
  gap : Nat := 0
  shedding : Bool := false
  ended : Bool := false
  deriving DecidableEq, Repr

/-- TRC beside its registers. -/
structure TrcState where
  subs : Vector Subscription 32 := Vector.replicate 32 {}
  /-- The local ring is full and keeps its contents (R465). -/
  ringFull : Bool := false
  /-- Entries of the local ring on their way to trace SRAM in the present step: index and eight bytes (the model's own
  field: empty between steps). -/
  ringOut : List (Nat × List Byte) := []
  deriving DecidableEq, Repr

/-! ## CAN -/

/-- One transmit buffer beside its registers (R475–R478): attempts since GO, a cancel outstanding. -/
structure CanBuf where
  tried : Nat := 0
  cancel : Bool := false
  deriving DecidableEq, Repr, Inhabited

/-- One controller beside its registers: its buffers, the frame in an attempt (0–2 a buffer, 3 CSQ's slot), queued
acknowledgements, on the bus, EN = 0 pending, TEC and REC. -/
structure CanState where
  bufs : Vector CanBuf 3 := Vector.replicate 3 {}
  cur : Option Nat := none
  acks : List (List Byte) := []
  joined : Bool := false
  leaving : Bool := false
  /-- Tick of the SOF of the attempt. -/
  sof : Nat := 0
  deriving DecidableEq, Repr, Inhabited

/-! ## System control -/

/-- SYS beside its registers (R513–R518): since when the reference or the PLL has failed, whether the warm reset of R516
is asserted, the causes of a warm reset that waits for a flush, since when SIS sees the reference deviate. -/
structure SysState where
  refFrom : Option Nat := none
  pllFrom : Option Nat := none
  clockReset : Bool := false
  warmWaits : Option Word := none
  deviates : Option Nat := none
  /-- The level of PWRFAIL_N after its filter is low. -/
  pinLow : Bool := false
  deriving DecidableEq, Repr, Inhabited

/-! ## The whole device -/

/-- The response that the last bus access got (R15, R396): an error response, and the value a read returned. -/
structure Response where
  error : Bool := false
  data : Word := 0
  deriving DecidableEq, Repr, Inhabited

/-- A raising that FCR has not handled yet (R344). -/
structure Raising where
  source : Nat
  detail : Nat
  forced : Bool := false
  deriving DecidableEq, Repr, Inhabited

/-- Everything of the device but its addressed memories. -/
structure Dev where
  phase : Phase := .held
  /-- The Local Timebase (R55). -/
  ltb : Ticks := 0
  /-- The register file: address and value, addresses rising. An unlisted register holds its reset value. The copy of a
  per-initiator register stands at `bank`. -/
  regs : List (Nat × Word) := []
  /-- Raisings of the present step (the model's own field: empty between steps). -/
  raised : List Raising := []
  /-- The response to the last access (the model's own view of the bus). -/
  response : Response := {}
  /-- Draws made so far from the random source and from the free values (the model's own counter). -/
  draws : Nat := 0
  cfg : CfgState := {}
  pwm : PwmState := {}
  glk : GlkState := {}
  psp : PspState := {}
  sis : SisState := {}
  fcr : FcrState := {}
  jrn : JrnState := {}
  cpx : CpxState := {}
  icf : IcfState := {}
  cea : CeaState := {}
  atb : Vector Atb 4 := Vector.replicate 4 {}
  evs : EvsState := {}
  pfc : PfcState := {}
  sense : SenseState := {}
  thm : ThmState := {}
  sys : SysState := {}
  bst : BstState := {}
  fls : FlsState := {}
  csq : CsqState := {}
  cte : CteState := {}
  eth : Vector EthMac 2 := Vector.replicate 2 {}
  ntu : NtuState := {}
  trc : TrcState := {}
  can : Vector CanState 4 := Vector.replicate 4 {}
  /-- The command signals of the axes. -/
  cmds : Vector AxisCmd 4 := Vector.replicate 4 {}
  deriving DecidableEq, Repr, Inhabited

/-- The device with the commands that wait, first in, first out, and the addressed memories of R390: address and byte,
addresses rising, no byte equal to what an unlisted address reads as. -/
structure State where
  pending : List Instr := []
  mem : List Host.Cell := []
  dev : Dev := {}
  deriving DecidableEq, Repr

/-- The device right after reset: held in power-on reset with every register at its reset value (R37, R50 to R525), no
command waiting, and no memory byte that differs from what an unlisted address reads as. -/
def State.reset : State := {}

end Sys2Proof.Machine
end

