-- ==== Sys2Proof/Machine/Ops.lean ====
section
/-! DEFINITION. The named operations over registers and memory, time, raisings and free values, that every unit uses. -/

namespace Sys2Proof.Machine

/-! ## The register file -/

/-- The value held for key `a` in a register file; the reset value where the file lists none. -/
def regGet : List (Nat × Word) → Nat → Word
  | [], a => resetValue a
  | (k, v) :: r, a => if a = k then v else if a < k then resetValue a else regGet r a

/-- The register file with key `a` holding `v`. -/
def regSet : List (Nat × Word) → Nat → Word → List (Nat × Word)
  | [], a, v => [(a, v)]
  | (k, x) :: r, a, v => if a = k then (a, v) :: r else if a < k then (a, v) :: (k, x) :: r else (k, x) :: regSet r a v

/-- What the register at `a` holds. -/
def rd (d : Dev) (a : Nat) : Word := regGet d.regs a

/-- The device with the register at `a` holding `v`. -/
def wr (a : Nat) (v : Word) (d : Dev) : Dev := { d with regs := regSet d.regs a v }

/-- The numeric value of bits `hi` to `lo` of a register. -/
def fld (d : Dev) (a hi lo : Nat) : Nat := bits (rd d a) hi lo

/-- The signed value of bits `hi` to `lo` of a register. -/
def sfld (d : Dev) (a hi lo : Nat) : Int := sbits (rd d a) hi lo

/-- Bit `i` of a register. -/
def flag (d : Dev) (a i : Nat) : Bool := bit (rd d a) i

/-- Set bits `hi` to `lo` of a register to `v`. -/
def setFld (a hi lo v : Nat) (d : Dev) : Dev := wr a (setBits (rd d a) hi lo v) d

/-- Set bit `i` of a register to `b`. -/
def setFlag (a i : Nat) (b : Bool) (d : Dev) : Dev := wr a (setBit (rd d a) i b) d

/-- Count one up in bits `hi` to `lo` of a register, saturating. -/
def incFld (a hi lo : Nat) (d : Dev) : Dev := setFld a hi lo (satInc (2 ^ (hi - lo + 1) - 1) (fld d a hi lo)) d

/-- Add `n` in bits `hi` to `lo` of a register, saturating. -/
def addFld (a hi lo n : Nat) (d : Dev) : Dev :=
  setFld a hi lo (Nat.min (2 ^ (hi - lo + 1) - 1) (fld d a hi lo + n)) d

/-- Do `f` when `c` holds. -/
def whenD (c : Bool) (f : Dev → Dev) (d : Dev) : Dev := if c then f d else d

/-! ## Memory -/

/-- What a memory byte that nothing has written reads as: MRAM is shipped erased, bytes 0xFF (R19); retention SRAM is
zeroed at power-on (R391); the other SRAMs read 0 (a choice of the model, log entry 14); the boot ROM and the
external flash hold bytes the spec does not give. -/
def memDefault (a : Nat) : Byte :=
  if a < 0x10000 then Config.bootRom a
  else if 0x10000000 ≤ a ∧ a ≤ 0x10FFFFFF then 0xFF
  else if 0x30000000 ≤ a ∧ a ≤ 0x3FFFFFFF then Config.xspiFlash a
  else 0

/-- The byte at address `a`. -/
def Memory.read : List Host.Cell → Nat → Byte
  | [], a => memDefault a
  | (k, v) :: r, a => if k = a then v else Memory.read r a

/-- Insert a cell by rising address. -/
def Memory.insert : List Host.Cell → Nat → Byte → List Host.Cell
  | [], a, v => [(a, v)]
  | (k, x) :: r, a, v => if a < k then (a, v) :: (k, x) :: r else (k, x) :: Memory.insert r a v

/-- Drop the cell of address `a`. -/
def Memory.drop (m : List Host.Cell) (a : Nat) : List Host.Cell := m.filter (fun c => decide (c.1 ≠ a))

/-- The memory with byte `v` at address `a`, in canonical form. -/
def Memory.write (m : List Host.Cell) (a : Nat) (v : Byte) : List Host.Cell :=
  if v = memDefault a then Memory.drop m a else Memory.insert (Memory.drop m a) a v

/-- Addresses strictly rising. -/
def Memory.rising : List Host.Cell → Bool
  | [] => true
  | [_] => true
  | (a, _) :: (b, w) :: r => decide (a < b) && Memory.rising ((b, w) :: r)

/-- The canonical form of a memory: addresses strictly rising and no byte listed that an unlisted address reads as. -/
abbrev Memory.wf (m : List Host.Cell) : Prop := Memory.rising m = true ∧ ∀ c ∈ m, c.2 ≠ memDefault c.1

/-- Write bytes at rising addresses from `a`. -/
def Memory.writeBytes (m : List Host.Cell) (a : Nat) : List Byte → List Host.Cell
  | [] => m
  | b :: r => Memory.writeBytes (Memory.write m a b) (a + 1) r

/-- The `n` bytes from address `a`. -/
def Memory.readBytes (m : List Host.Cell) (a : Nat) : Nat → List Byte
  | 0 => []
  | n + 1 => Memory.read m a :: Memory.readBytes m (a + 1) n

/-- The little-endian word at address `a` (R14). -/
def Memory.readWord (m : List Host.Cell) (a : Nat) : Word := BitVec.ofNat 32 (le32 (Memory.readBytes m a 4) 0)

/-- The memory without the cells of addresses `lo` to `hi`: each reads as an unwritten byte again. -/
def Memory.clear (m : List Host.Cell) (lo hi : Nat) : List Host.Cell :=
  m.filter (fun c => decide (c.1 < lo ∨ hi < c.1))

/-! ## Time, raisings, free values, responses -/

/-- The LTB as a number of ticks (R55). -/
def now (d : Dev) : Nat := d.ltb.toNat

/-- LTB bits 31:0. -/
def nowLo (d : Dev) : Word := BitVec.ofNat 32 d.ltb.toNat

/-- Ticks per microsecond (R16). -/
def usTicks : Nat := 800

/-- Ticks per millisecond. -/
def msTicks : Nat := 800000

/-- Has `t` ticks passed since tick `from_`? -/
def elapsed (d : Dev) (from_ t : Nat) : Bool := decide (from_ + t ≤ now d)

/-- Raise source `src` with DETAIL `detail` (R338). FCR handles the raisings of a step at its end, in ascending source
number (R344). -/
def raise (src detail : Nat) (d : Dev) : Dev := { d with raised := d.raised ++ [⟨src, detail % 256, false⟩] }

/-- A forced raising (R345). -/
def raiseForced (src : Nat) (d : Dev) : Dev := { d with raised := d.raised ++ [⟨src, 0xFF, true⟩] }

/-- The normal response to a write. -/
def respOk (d : Dev) : Dev := { d with response := {} }

/-- The normal response to a read. -/
def respData (v : Word) (d : Dev) : Dev := { d with response := ⟨false, v⟩ }

/-- The error response (R396): a read returns 0. -/
def respErr (d : Dev) : Dev := { d with response := ⟨true, 0⟩ }

/-- A draw from the random source, and the device after it. -/
def drawRandom (d : Dev) : Word × Dev := (Config.random d.draws, { d with draws := d.draws + 1 })

/-- A free value, and the device after it. -/
def drawFree (d : Dev) : Word × Dev := (Config.freeValue d.draws, { d with draws := d.draws + 1 })

/-- A unit offers a journal record of a TYPE with a payload (R430); ORIGIN 0x20 for hardware units. -/
def journal (type origin : Nat) (payload : List Byte) (d : Dev) : Dev :=
  { d with jrn := { d.jrn with offered := d.jrn.offered ++ [{ type, origin, payload }] } }

/-! ## Initiators and per-initiator copies -/

/-- The identifier of an initiator (R393). EVS and the engines write on paths of their own and have none: 0x20, the
journal's code for hardware units (R430). -/
def initiatorId : Initiator → Nat
  | .px0 => 0x00 | .px1 => 0x01 | .px2 => 0x02 | .pxs => 0x03 | .sis => 0x08 | .fcr => 0x09 | .csq => 0x0A
  | .cea => 0x0B | .cte => 0x0C | .jrn => 0x0D | .trc => 0x0E | .eth0 => 0x0F | .eth1 => 0x10 | .can => 0x11
  | .fls => 0x12 | .jtag => 0x1F | .evs => 0x20 | .engine _ => 0x20

/-- The key under which the register file holds initiator `i`'s own copy of the register at `a`. -/
def bank (i : Initiator) (a : Nat) : Nat := (initiatorId i + 1) * 0x100000000 + a

/-! ## Axes and ownership -/

/-- Is axis `a` in use (R26)? -/
def axisInUse (d : Dev) (a : Nat) : Bool := decide ((vget d.cfg.axes a).topology ≠ 0)

/-- The axes in use. -/
def axesInUse (d : Dev) : List Nat := idxWhere 4 (axisInUse d)

/-- Does axis `a` have two winding sets (TOPOLOGY 2 or 3)? -/
def sixPhase (d : Dev) (a : Nat) : Bool := decide (2 ≤ (vget d.cfg.axes a).topology)

/-- The resource id of instance `i` of class `c` (R33). -/
def resId (c i : Nat) : Nat := c * 0x1000000 + i

/-- The map entry of a resource; one that the map does not list is free and marked ADJ (R34, R36). -/
def ownerIn : List (Nat × Owner) → Nat → Owner
  | [], _ => {}
  | (k, o) :: r, id => if k = id then o else ownerIn r id

/-- The resource map with the owner of `id` set. -/
def setOwnerIn : List (Nat × Owner) → Nat → Owner → List (Nat × Owner)
  | [], id, o => [(id, o)]
  | (k, x) :: r, id, o =>
    if k = id then (id, o) :: r else if id < k then (id, o) :: (k, x) :: r else (k, x) :: setOwnerIn r id o

/-- The owner code of instance `i` of class `c` in force. -/
def ownerOf (d : Dev) (c i : Nat) : Nat := (ownerIn d.cfg.owners (resId c i)).code

/-- The owner code of axis `a` (R34). -/
def axisCode (a : Nat) : Nat := 0x10 + a

/-- The axis that owns instance `i` of class `c`, if one does. -/
def ownerAxis (d : Dev) (c i : Nat) : Option Nat :=
  let o := ownerOf d c i
  if 0x10 ≤ o ∧ o ≤ 0x13 then some (o - 0x10) else none

/-- The phase legs of axis `a`, ascending (R206): leg channels PL00–PL23 that the axis owns. -/
def phaseLegs (d : Dev) (a : Nat) : List Nat := idxWhere 24 (fun l => decide (ownerOf d 0x02 l = axisCode a))

/-- The phase legs of winding set 1 or 2 of axis `a`; on a three-phase axis set 1 is the whole axis (R206). -/
def setLegs (d : Dev) (a set : Nat) : List Nat :=
  if sixPhase d a then (if set = 1 then (phaseLegs d a).take 3 else (phaseLegs d a).drop 3)
  else if set = 1 then phaseLegs d a else []

/-- The winding set of axis `a` that holds leg `l`. -/
def setOfLeg (d : Dev) (a l : Nat) : Nat := if (setLegs d a 1).contains l then 1 else 2

/-- The sets that axis `a` has. -/
def setsOf (d : Dev) (a : Nat) : List Nat := if sixPhase d a then [1, 2] else [1]

/-- The speed of axis `a` per unit of N_BASE, narrowed to Q15 (R17, R18, R154): the speed register counts 2^-16 fraction
LSB per tick, 800,000,000 ticks per second, 2^24 LSB per turn, and N_BASE is in 0.01 rpm. -/
def speedPu (d : Dev) (a : Nat) : Int :=
  let nb := (vget d.cfg.axes a).nBase
  if nb = 0 then 0
  else satQ15 (roundDiv (sfld d (Reg.ATB_AXn_SPEED a) 31 0 * 4800000000000) (((2 ^ 25 * nb : Nat)) : Int))

/-- Is the speed of axis `a` unknown (R288): no delivered source, or a stale timebase. -/
def speedUnknown (d : Dev) (a : Nat) : Bool :=
  decide (fld d (Reg.PFC_AXa_VOTE_STATUS a) 2 0 = 7) || flag d (Reg.ATB_AXn_STATUS a) 2

end Sys2Proof.Machine
end

