-- ==== Sys2Proof/Machine/BstBase.lean ====
section
/-! DEFINITION. The slice of a logic self-test that is cut short (R492–R494), and the UNDER_TEST response (R497): what
other units need of BST. -/

namespace Sys2Proof.Machine

open Reg

/-- BST changed by `f`. -/
def modBst (f : BstState → BstState) (d : Dev) : Dev := { d with bst := f d.bst }

/-- The test of unit `u` in progress. -/
def unitTest (d : Dev) (u : Nat) : Option UnitTest := d.bst.tests.find? (fun t => decide (t.unit = u))

/-- The test of unit `u` becomes `t`. -/
def setTest (t : UnitTest) (d : Dev) : Dev :=
  modBst (fun b => { b with tests := b.tests.filter (fun x => decide (x.unit ≠ t.unit)) ++ [t] }) d

/-- The test of unit `u` is over. -/
def dropTest (u : Nat) (d : Dev) : Dev :=
  modBst (fun b => { b with tests := b.tests.filter (fun x => decide (x.unit ≠ u)) }) d

/-- No slice runs any more. -/
def sliceOver (d : Dev) : Dev := setFlag BST_STATUS 0 false (modBst (fun b => { b with running := none }) d)

/-- One more deferral or incomplete slice in a row; at eight BST raises BST_STARVED (R492). -/
def bstWait (t : UnitTest) (d : Dev) : Dev :=
  let d := setTest { t with waits := t.waits + 1 } d
  if t.waits + 1 = 8 then raise Src.BST_STARVED t.unit d else d

/-- The running slice is INCOMPLETE (R492): counted, and repeated later. -/
def sliceIncomplete (u : Nat) (d : Dev) : Dev :=
  let d := incFld BST_INC_CNT 15 0 (sliceOver d)
  match unitTest d u with
  | some t => bstWait { t with deferred := none } d
  | none => d

/-- A takeover needs unit `u` (R172, R387, R494): a slice of it that runs is cut short and counted, its state restored,
and its test ends. -/
def bstTaken (u : Nat) (d : Dev) : Dev :=
  dropTest u (if d.bst.running = some u then incFld BST_INC_CNT 15 0 (sliceOver d) else d)

/-- Does the access to address `a` name a register of an engine in a logic slice, outside its memory (R497)? -/
def underTestAt (d : Dev) (a : Nat) : Bool :=
  match d.bst.running with
  | some n => decide (n < 5) && decide (CEA_CEn_STATE n ≤ a ∧ a < CEA_CEn_STATE (n + 1))
  | none => false

/-- An access gets the UNDER_TEST response: an error response, counted, and recorded (R497). -/
def underTest (i : Initiator) (a : Nat) (d : Dev) : Dev :=
  respErr (setFld BST_UT_LAST 28 24 (initiatorId i) (setFld BST_UT_LAST 23 0 a (incFld BST_UT_CNT 15 0 d)))

end Sys2Proof.Machine
end

