-- ==== Sys2Proof/Machine/CeArith.lean ====
section
/-! DEFINITION. Arithmetic of the Control Engines (R162–R164, R180): the accumulator, narrowing, division, square root,
sine, cosine and atan2, each with the SAT and OVF flags of the executing instance. -/

namespace Sys2Proof.Machine

/-- The SAT and OVF flags of the executing instance (R164). -/
structure CeFlags where
  sat : Bool := false
  ovf : Bool := false
  deriving DecidableEq, Repr

/-- A computation that may set the flags of the executing instance. -/
abbrev Ce (α : Type) := StateM CeFlags α

/-- Set SAT. -/
def setSat : Ce Unit := modify (fun f => { f with sat := true })

/-- Saturate an accumulator to 40 bits, setting OVF (R162). -/
def sat40 (s : Int) : Ce Int := do
  if s > 549755813887 then
    modify (fun f => { f with ovf := true })
    return 549755813887
  else if s < -549755813888 then
    modify (fun f => { f with ovf := true })
    return -549755813888
  else return s

/-- Multiply and accumulate (R162). -/
def mac (acc a b : Int) : Ce Int := sat40 (acc + a * b)

/-- Q15 to Q30 (R162). -/
def ceLoad (a : Int) : Int := a * 32768

/-- Shift an accumulator left by a gain exponent (R162). -/
def shl (acc : Int) (e : Nat) : Ce Int := sat40 (acc * ((2 ^ e : Nat) : Int))

/-- Accumulator add (R162). -/
def add40 (x y : Int) : Ce Int := sat40 (x + y)

/-- Saturate to Q15, setting SAT. -/
def sat16 (q : Int) : Ce Int := do
  if q > 32767 then
    setSat
    return 32767
  else if q < -32768 then
    setSat
    return -32768
  else return q

/-- Q30 to Q15 (R162): to nearest, ties away from zero. -/
def narrow (acc : Int) : Ce Int := sat16 (roundShift acc 15)

/-- The Q15 product (R162). -/
def mul16 (a b : Int) : Ce Int := narrow (a * b)

/-- The Q15 quotient (R162). -/
def div16 (a b : Int) : Ce Int := do
  if b = 0 then
    setSat
    return (if a = 0 then 0 else if 0 < a then 32767 else -32768)
  else sat16 (if 0 < b then roundDiv (a * 32768) b else roundDiv (-(a * 32768)) (-b))

/-- One step of the integer square root, from the bit `k` down. -/
def isqrtGo (n : Nat) : Nat → Nat → Nat
  | 0, r => r
  | k + 1, r => let t := r + 2 ^ k; isqrtGo n k (if t * t ≤ n then t else r)

/-- The integer part of the square root of a number below 2^64. -/
def isqrt (n : Nat) : Nat := isqrtGo n 32 0

/-- The integer nearest to the square root. -/
def nearestSqrt (n : Nat) : Nat := let r := isqrt n; if r * r + r < n then r + 1 else r

/-- Q30 to the Q15 square root (R162). -/
def sqrt30 (acc : Int) : Ce Int := do
  if acc < 0 then
    setSat
    return 0
  else
    let q := nearestSqrt acc.toNat
    if q > 32767 then
      setSat
      return 32767
    else return (q : Int)

/-- abs16 (R180). -/
def abs16 (x : Int) : Ce Int := do
  if x = -32768 then
    setSat
    return 32767
  else return (x.natAbs : Int)

/-- An angle modulo one turn. -/
def ang16 (x : Int) : Int := x % 65536

/-- A 16-bit result as signed. -/
def s16 (x : Int) : Int := let u := x % 65536; if u < 32768 then u else u - 65536

/-- Entries of the sine table from 0 (R163). -/
def sinTab0 : List Nat :=
  [0, 201, 402, 603, 804, 1005, 1206, 1407, 1608, 1809, 2009, 2210, 2410, 2611, 2811, 3012, 3212, 3412, 3612, 3811, 4011, 4210, 4410, 4609, 4808, 5007, 5205, 5404, 5602, 5800, 5998, 6195]

/-- Entries of the sine table from 32 (R163). -/
def sinTab1 : List Nat :=
  [6393, 6590, 6786, 6983, 7179, 7375, 7571, 7767, 7962, 8157, 8351, 8545, 8739, 8933, 9126, 9319, 9512, 9704, 9896, 10087, 10278, 10469, 10659, 10849, 11039, 11228, 11417, 11605, 11793, 11980, 12167, 12353]

/-- Entries of the sine table from 64 (R163). -/
def sinTab2 : List Nat :=
  [12539, 12725, 12910, 13094, 13279, 13462, 13645, 13828, 14010, 14191, 14372, 14553, 14732, 14912, 15090, 15269, 15446, 15623, 15800, 15976, 16151, 16325, 16499, 16673, 16846, 17018, 17189, 17360, 17530, 17700, 17869, 18037]

/-- Entries of the sine table from 96 (R163). -/
def sinTab3 : List Nat :=
  [18204, 18371, 18537, 18703, 18868, 19032, 19195, 19357, 19519, 19680, 19841, 20000, 20159, 20317, 20475, 20631, 20787, 20942, 21096, 21250, 21403, 21554, 21705, 21856, 22005, 22154, 22301, 22448, 22594, 22739, 22884, 23027]

/-- Entries of the sine table from 128 (R163). -/
def sinTab4 : List Nat :=
  [23170, 23311, 23452, 23592, 23731, 23870, 24007, 24143, 24279, 24413, 24547, 24680, 24811, 24942, 25072, 25201, 25329, 25456, 25582, 25708, 25832, 25955, 26077, 26198, 26319, 26438, 26556, 26674, 26790, 26905, 27019, 27133]

/-- Entries of the sine table from 160 (R163). -/
def sinTab5 : List Nat :=
  [27245, 27356, 27466, 27575, 27683, 27790, 27896, 28001, 28105, 28208, 28310, 28411, 28510, 28609, 28706, 28803, 28898, 28992, 29085, 29177, 29268, 29358, 29447, 29534, 29621, 29706, 29791, 29874, 29956, 30037, 30117, 30195]

/-- Entries of the sine table from 192 (R163). -/
def sinTab6 : List Nat :=
  [30273, 30349, 30424, 30498, 30571, 30643, 30714, 30783, 30852, 30919, 30985, 31050, 31113, 31176, 31237, 31297, 31356, 31414, 31470, 31526, 31580, 31633, 31685, 31736, 31785, 31833, 31880, 31926, 31971, 32014, 32057, 32098]

/-- Entries of the sine table from 224 (R163). -/
def sinTab7 : List Nat :=
  [32137, 32176, 32213, 32250, 32285, 32318, 32351, 32382, 32412, 32441, 32469, 32495, 32521, 32545, 32567, 32589, 32609, 32628, 32646, 32663, 32678, 32692, 32705, 32717, 32728, 32737, 32745, 32752, 32757, 32761, 32765, 32766]

/-- Entries of the sine table from 256 (R163). -/
def sinTab8 : List Nat :=
  [32767]

/-- T[k] for k = 0 to 256: a quarter turn of the sine table (R163). -/
def sinQuarter : List Nat :=
  sinTab0 ++ sinTab1 ++ sinTab2 ++ sinTab3 ++ sinTab4 ++ sinTab5 ++ sinTab6 ++ sinTab7 ++ sinTab8

/-- T[k] for k = 0 to 1,024 (R163). -/
def sinT (k : Nat) : Int :=
  if k ≤ 256 then (listGet 0 sinQuarter k : Nat)
  else if k ≤ 512 then (listGet 0 sinQuarter (512 - k) : Nat)
  else if k ≤ 768 then -((listGet 0 sinQuarter (k - 512) : Nat) : Int)
  else -((listGet 0 sinQuarter (1024 - k) : Nat) : Int)

/-- sin16 (R163). -/
def sin16 (a : Int) : Int :=
  let t := (ang16 a).toNat
  let k := t / 64
  let f := t % 64
  sinT k + roundDiv ((sinT (k + 1) - sinT k) * (f : Int)) 64

/-- cos16 (R163). -/
def cos16 (a : Int) : Int := sin16 (ang16 (a + 16384))

/-- The cosine and sine of 2^-k turn for k = 3 to 17, times 2^96, rounded to nearest. -/
def turnRots : List (Int × Int) :=
  [(56022770974786139918731938227, 56022770974786139918731938227),
   (73197277745406789746128126514, 30319305170937817432302117203),
   (77705815587385459894767493986, 15456647737653972240398692356),
   (78846657256498550044590935806, 7765717923213880508008574353),
   (79132728722732187244728061659, 3887541675809670510355249493),
   (79204300472980947526267393315, 1944356441712994098036199278),
   (79222196779339056064285443064, 972251429601035097806954306),
   (79226671066494975824533590136, 486134866151990591466405863),
   (79227789651444615435502306173, 243068577003004720891563897),
   (79228069298504570632279043702, 121534431492630892444982651),
   (79228139210320968575859978290, 60767233620214398787300339),
   (79228156688278281134271721838, 30383619044344814903834065),
   (79228161057767810090922444878, 15191809801452117091927406),
   (79228162150140204881150854605, 7595904935636022491628671),
   (79228162423233304363149568883, 3797952472181756746543196)]

/-- The angle of a vector in the first quadrant, bit by bit, in units of 2^-17 turn: each bit is set when turning the
vector back by that angle leaves it at or above the axis. -/
def atanBits : List (Int × Int) → Int → Int → Nat → Nat
  | [], _, _, n => n
  | (c, s) :: r, x, y, n =>
    let nx := x * c + y * s
    let ny := y * c - x * s
    if 0 ≤ ny then atanBits r (nx / 79228162514264337593543950336) (ny / 79228162514264337593543950336) (2 * n + 1)
    else atanBits r x y (2 * n)

/-- The turn fraction of a vector (`x`, `y`) with `0 < x` and `0 ≤ y`, to nearest. -/
def atanQuadrant (x y : Int) : Nat := (atanBits turnRots (x * 18446744073709551616) (y * 18446744073709551616) 0 + 1) / 2

/-- The turn fraction nearest to the exact angle of (`x`, `y`), modulo one turn; 0 for the zero vector. -/
def turnFraction (y x : Int) : Int :=
  if x = 0 ∧ y = 0 then 0
  else if 0 < x ∧ 0 ≤ y then ((atanQuadrant x y % 65536 : Nat) : Int)
  else if x ≤ 0 ∧ 0 < y then (((16384 + atanQuadrant y (-x)) % 65536 : Nat) : Int)
  else if x < 0 ∧ y ≤ 0 then (((32768 + atanQuadrant (-x) (-y)) % 65536 : Nat) : Int)
  else (((49152 + atanQuadrant (-y) x) % 65536 : Nat) : Int)

/-- atan2 (R163): atan2(0, 0) is 0 and sets SAT. -/
def atan2 (y x : Int) : Ce Int := do
  if x = 0 ∧ y = 0 then
    setSat
    return 0
  else return turnFraction y x

/-- Round a rational to nearest with ties away from zero, for any sign of the divisor. -/
def nearest (num den : Int) : Int := if 0 < den then roundDiv num den else roundDiv (-num) (-den)

end Sys2Proof.Machine
end

