-- ==== Sys2Proof/Machine/CeBlocks.lean ====
section
/-! DEFINITION. The block library of the Control Engines (R158, R178–R200): what one instance computes from its inputs,
parameters and state. -/

namespace Sys2Proof.Machine

/-! ## Words of a partition -/

/-- The word at an offset of a partition: words that the list does not name are 0. -/
def wordAt : List (Nat × Nat) → Nat → Nat
  | [], _ => 0
  | (k, v) :: r, a => if a = k then v else if a < k then 0 else wordAt r a

/-- Put a word into a list of words by rising offset. -/
def wordIns : List (Nat × Nat) → Nat → Nat → List (Nat × Nat)
  | [], a, v => [(a, v)]
  | (k, x) :: r, a, v =>
    if a = k then (a, v) :: r else if a < k then (a, v) :: (k, x) :: r else (k, x) :: wordIns r a v

/-- The partition with the word at offset `a` set to `v` modulo 2^16. Offsets outside the partition of 12,288 words are
not written. -/
def wordSet (l : List (Nat × Nat)) (a v : Nat) : List (Nat × Nat) :=
  if 12288 ≤ a then l
  else if v % 65536 = 0 then l.filter (fun w => decide (w.1 ≠ a)) else wordIns l a (v % 65536)

/-! ## One instance -/

/-- What an instance computes: its outputs, its new state words by position, table words by partition offset, the writes
it stages and its report. -/
structure BlockOut where
  outs : List Int := []
  st : List (Nat × Int) := []
  table : List (Nat × Int) := []
  writes : List CeWrite := []
  report : Option CeReport := none

/-- What an instance reads. -/
structure BlockIn where
  inst : CeInst
  /-- Input `k` as a 16-bit value (0 where unconnected), and whether it is connected. -/
  raw : Nat → Nat
  con : Nat → Bool
  /-- The parameter and state word `k`, and the partition word at an offset, as they stood at sample start. -/
  par : Nat → Nat
  st : Nat → Nat
  word : Nat → Nat
  wmin : Nat

/-- Input `k`, signed. -/
def BlockIn.inp (b : BlockIn) (k : Nat) : Int := signed 16 (b.raw k)

/-- Parameter `k`, signed. -/
def BlockIn.p (b : BlockIn) (k : Nat) : Int := signed 16 (b.par k)

/-- The exponent of a gain pair, at parameter `k` (R178). -/
def BlockIn.e (b : BlockIn) (k : Nat) : Nat := Nat.min (b.par k % 16) 8

/-- State word `k`, signed. -/
def BlockIn.s (b : BlockIn) (k : Nat) : Int := signed 16 (b.st k)

/-- The accumulator held in state words `k` to `k + 2` (R178). -/
def BlockIn.acc (b : BlockIn) (k : Nat) : Int := signed 48 (b.st k + 65536 * b.st (k + 1) + 4294967296 * b.st (k + 2))

/-- OPT bit `i`. -/
def BlockIn.opt (b : BlockIn) (i : Nat) : Bool := b.inst.opt.testBit i

/-- An accumulator as three state words from `k`. -/
def accWords (k : Nat) (v : Int) : List (Nat × Int) := [(k, v % 65536), (k + 1, v / 65536 % 65536), (k + 2, v / 4294967296 % 65536)]

/-- A list of Bools as status bits, the first being bit 0. -/
def statusBits : List Bool → Int
  | [] => 0
  | b :: r => (if b then 1 else 0) + 2 * statusBits r

/-- A sum of products in one accumulator. -/
def macSum : List (Int × Int) → Int → Ce Int
  | [], acc => pure acc
  | (a, b) :: r, acc => do
    let s ← mac acc a b
    macSum r s

/-- narrow of a sum of products. -/
def dot (l : List (Int × Int)) : Ce Int := do
  let s ← macSum l 0
  narrow s

/-! ## General blocks (R181) -/

/-- SUM. -/
def blkSum (b : BlockIn) : Ce BlockOut := do
  let y ← dot ((List.range b.inst.nin).map (fun k => (if b.opt k then -(b.inp k) else b.inp k, 32768)))
  return { outs := [y] }

/-- GAIN. -/
def blkGain (b : BlockIn) : Ce BlockOut := do
  let s ← shl (b.inp 0 * b.p 0) (b.e 1)
  let y ← narrow s
  return { outs := [y] }

/-- MUL. -/
def blkMul (b : BlockIn) : Ce BlockOut := do
  let s ← shl (b.inp 0 * b.inp 1) (b.e 0)
  let y ← narrow s
  return { outs := [y] }

/-- DIV. -/
def blkDiv (b : BlockIn) : Ce BlockOut := do
  let y ← div16 (b.inp 0) (b.inp 1)
  return { outs := [y] }

/-- LIMIT (inputs x, hi, lo). -/
def blkLimit (b : BlockIn) : Ce BlockOut := do
  let x := b.inp 0
  let hi := b.inp 1
  let lo := b.inp 2
  let (y, s) : Int × Nat :=
    if hi < lo then (lo, 3) else if hi < x then (hi, 1) else if x < lo then (lo, 2) else (x, 0)
  return { outs := [y, (s : Int)], report := if b.opt 7 then some (.bind s) else none }

/-- The connected input that is best under `better`, and its position; the first among equals. -/
def selectBest (b : BlockIn) (better : Int → Int → Bool) : Nat → Option (Int × Nat) → Option (Int × Nat)
  | 0, r => r
  | n + 1, r =>
    let k := b.inst.nin - (n + 1)
    let r' := if b.con k then
        match r with
        | none => some (b.inp k, k)
        | some (v, i) => if better (b.inp k) v then some (b.inp k, k) else some (v, i)
      else r
    selectBest b better n r'

/-- MINSEL. -/
def blkMinsel (b : BlockIn) : Ce BlockOut := do
  let (y, i) := (selectBest b (fun x v => decide (x < v)) b.inst.nin none).getD (0, 7)
  return { outs := [y, (i : Int)], report := if b.opt 7 then some (.winHi i) else none }

/-- MAXSEL. -/
def blkMaxsel (b : BlockIn) : Ce BlockOut := do
  let (y, i) := (selectBest b (fun x v => decide (v < x)) b.inst.nin none).getD (0, 7)
  return { outs := [y, (i : Int)], report := if b.opt 7 then some (.winLo i) else none }

/-- RAMP (inputs target, rate). -/
def blkRamp (b : BlockIn) : Ce BlockOut := do
  let r ← abs16 (b.inp 1)
  let d ← sat16 (b.inp 0 - b.s 0)
  let y := b.s 0 + clampInt (-r) r d
  return { outs := [y], st := [(0, y)] }

/-- LPF1. -/
def blkLpf1 (b : BlockIn) : Ce BlockOut := do
  let n ← narrow (b.acc 0)
  let e ← sat16 (b.inp 0 - n)
  let acc ← mac (b.acc 0) e (b.p 0)
  let y ← narrow acc
  return { outs := [y], st := accWords 0 acc }

/-- DELAY: the state takes the input at state commit. -/
def blkDelay (b : BlockIn) : Ce BlockOut := return { outs := [b.s 0], st := [(0, b.inp 0)] }

/-- SELECT. -/
def blkSelect (b : BlockIn) : Ce BlockOut := return { outs := [if b.inp 0 = 0 then b.inp 1 else b.inp 2] }

/-- SINCOS. -/
def blkSincos (b : BlockIn) : Ce BlockOut := return { outs := [sin16 (b.raw 0), cos16 (b.raw 0)] }

/-- ATAN2 (in0 the sine side). -/
def blkAtan2 (b : BlockIn) : Ce BlockOut := do
  let y ← atan2 (b.inp 0) (b.inp 1)
  return { outs := [y] }

/-- The length of a vector: sqrt30 of the sum of two squares in one accumulator. -/
def mag (x y : Int) : Ce Int := do
  let s ← macSum [(x, x), (y, y)] 0
  sqrt30 s

/-- MAG. -/
def blkMag (b : BlockIn) : Ce BlockOut := do
  let y ← mag (b.inp 0) (b.inp 1)
  return { outs := [y] }

/-! ## Transforms (R182, R183) -/

/-- CLARKE; with TWO the third phase is taken as minus the sum of the others. -/
def blkClarke (b : BlockIn) : Ce BlockOut := do
  let c := if b.opt 0 then -(b.inp 0 + b.inp 1) else b.inp 2
  let al ← dot [(21845, b.inp 0), (-10923, b.inp 1), (-10923, c)]
  let be ← dot [(18919, b.inp 1), (-18919, c)]
  return { outs := [al, be] }

/-- ICLARKE as a function of α and β. -/
def iclarke (al be : Int) : Ce (Int × Int × Int) := do
  let y ← dot [(-16384, al), (28378, be)]
  let z ← dot [(-16384, al), (-28378, be)]
  return (al, y, z)

/-- ICLARKE. -/
def blkIclarke (b : BlockIn) : Ce BlockOut := do
  let (x, y, z) ← iclarke (b.inp 0) (b.inp 1)
  return { outs := [x, y, z] }

/-- PARK. -/
def blkPark (b : BlockIn) : Ce BlockOut := do
  let c := cos16 (b.raw 2)
  let s := sin16 (b.raw 2)
  let dd ← dot [(b.inp 0, c), (b.inp 1, s)]
  let q ← dot [(b.inp 1, c), (-(b.inp 0), s)]
  return { outs := [dd, q] }

/-- IPARK. -/
def blkIpark (b : BlockIn) : Ce BlockOut := do
  let c := cos16 (b.raw 2)
  let s := sin16 (b.raw 2)
  let al ← dot [(b.inp 0, c), (-(b.inp 1), s)]
  let be ← dot [(b.inp 0, s), (b.inp 1, c)]
  return { outs := [al, be] }

/-- Multiples of 30 degrees of phases A1 to C2 (R183): GEOM 0 dual three-phase, GEOM 1 symmetrical six-phase. -/
def phaseTwelfths (geom : Bool) : List Nat := if geom then [0, 4, 8, 2, 6, 10] else [0, 4, 8, 1, 5, 9]

/-- The harmonic of the x-y plane (R183). -/
def xyHarmonic (geom : Bool) : Nat := if geom then 2 else 5

/-- cos of `k` times 30 degrees, each of its five magnitudes replaced: `one` for 1, `r3` for √3/2, `half` for ½; the
value −1 becomes `minusOne`. -/
def cosTwelfth (one minusOne r3 half : Int) (k : Nat) : Int :=
  match k % 12 with
  | 0 => one
  | 1 => r3
  | 2 => half
  | 3 => 0
  | 4 => -half
  | 5 => -r3
  | 6 => minusOne
  | 7 => -r3
  | 8 => -half
  | 9 => 0
  | 10 => half
  | _ => r3

/-- F of a cosine (R183). -/
def vsdF (k : Nat) : Int := cosTwelfth 10923 (-10923) 9459 5461 k

/-- G of a cosine (R183): G(1) is 32,767. -/
def vsdG (k : Nat) : Int := cosTwelfth 32767 (-32768) 28378 16384 k

/-- sin of `k` times 30 degrees is cos of `k` + 9 times 30 degrees. -/
def sinShift (k : Nat) : Nat := k + 9

/-- VSD6. -/
def blkVsd6 (b : BlockIn) : Ce BlockOut := do
  let ph := phaseTwelfths (b.opt 0)
  let h := xyHarmonic (b.opt 0)
  let row (f : Nat → Int) : List (Int × Int) := ph.zipIdx.map (fun (t, k) => (f t, b.inp k))
  let al ← dot (row (fun t => vsdF t))
  let be ← dot (row (fun t => vsdF (sinShift t)))
  let x ← dot (row (fun t => vsdF (h * t)))
  let y ← dot (row (fun t => vsdF (sinShift (h * t))))
  return { outs := [al, be, x, y] }

/-- IVSD6 as a function of the four components: the six phase values. -/
def ivsd6Go (h : Nat) (al be x y : Int) : List Nat → Ce (List Int)
  | [] => pure []
  | t :: r => do
    let v ← dot [(vsdG t, al), (vsdG (sinShift t), be), (vsdG (h * t), x), (vsdG (sinShift (h * t)), y)]
    let vs ← ivsd6Go h al be x y r
    return v :: vs

/-- IVSD6. -/
def blkIvsd6 (b : BlockIn) : Ce BlockOut := do
  let vs ← ivsd6Go (xyHarmonic (b.opt 0)) (b.inp 0) (b.inp 1) (b.inp 2) (b.inp 3) (phaseTwelfths (b.opt 0))
  return { outs := vs }

/-! ## PI and resonant term (R184, R186) -/

/-- PI with anti-windup and tracking (R184). -/
def blkPi (b : BlockIn) : Ce BlockOut := do
  let hi := if b.con 3 then b.inp 3 else 32767
  let lo := if b.con 4 then b.inp 4 else -32768
  let track := b.inp 5
  let e ← sat16 (b.inp 0 - b.inp 1)
  let pp ← shl (e * b.p 0) (b.e 1)
  let st ← shl (e * b.p 2) (b.e 3)
  let i0 := b.acc 0
  let ic ← add40 i0 st
  let f := ceLoad (b.inp 2)
  let hh := ceLoad hi
  let ll := ceLoad lo
  if hh < ll then return { outs := [lo, 8] }
  else
    let u0 ← add40 pp ic
    let u ← add40 u0 f
    let aw := b.opt 0
    let (ic, u, up, low) : Int × Int × Bool × Bool :=
      if hh < u then (if aw then hh - pp - f else if 0 < e then i0 else ic, hh, true, false)
      else if u < ll then (if aw then ll - pp - f else if e < 0 then i0 else ic, ll, false, true)
      else (ic, u, false, false)
    let yp := b.s 3
    let t := ceLoad track
    let trk := b.opt 1 && b.con 5 &&
      ((!b.opt 2 && decide (track < yp) && decide (t < u)) || (b.opt 2 && decide (yp < track) && decide (u < t)))
    let (ic, u) : Int × Int := if trk then (t - pp - f, t) else (ic, u)
    let ic ← sat40 ic
    let y ← narrow u
    return { outs := [y, statusBits [up, low, trk, false]], st := accWords 0 ic ++ [(3, y)] }

/-- RESON (R186). -/
def blkReson (b : BlockIn) : Ce BlockOut := do
  let h : Int := ((b.inst.opt % 32 : Nat) : Int)
  let th : Int := (b.raw 1 : Int)
  let ph := ang16 (if b.opt 5 then -(h * th) else h * th)
  let s ← shl (b.inp 0 * b.p 0) (b.e 1)
  let g ← narrow s
  let lim := ceLoad (b.p 3)
  let xc ← mac (b.acc 0) g (cos16 ph)
  let xs ← mac (b.acc 3) g (sin16 ph)
  let xc := clampInt (-lim) lim xc
  let xs := clampInt (-lim) lim xs
  let po := ang16 (ph + (b.par 2 : Int))
  let nc ← narrow xc
  let ns ← narrow xs
  let y ← dot [(nc, cos16 po), (ns, sin16 po)]
  let amp ← mag nc ns
  return { outs := [y, amp], st := accWords 0 xc ++ accWords 3 xs }

/-! ## Space-vector modulation (R187, R188) -/

/-- Rounded quotient for the modulators; a quotient by 0, which the spec does not state, is an open value. -/
def svmQuot (num den : Int) : Int := if den = 0 then Config.openQuotient num else nearest num den

/-- The largest of a list. -/
def maxOf : List Int → Int
  | [] => 0
  | [x] => x
  | x :: r => let m := maxOf r; if m < x then x else m

/-- The smallest of a list. -/
def minOf : List Int → Int
  | [] => 0
  | [x] => x
  | x :: r => let m := minOf r; if x < m then x else m

/-- The magnitude limit of SVM3: the vector limited to the ceiling, and LIMITED. -/
def svmLimit (hex : Bool) (mmax udc va vb : Int) : Ce (Int × Int × Bool) := do
  let mx := if hex then mmax else if mmax < 28378 then mmax else 28378
  let a ← mul16 udc mx
  let lim ← mul16 a 21845
  let m ← mag va vb
  if lim < m then return (svmQuot (va * lim) m, svmQuot (vb * lim) m, true)
  else return (va, vb, false)

/-- The span clip and the min-max injection of one three-phase set: its duties and HEXCLIP. -/
def svmDuties (udc : Int) (vs : List Int) : List Int × Bool :=
  let span := maxOf vs - minOf vs
  let clip := decide (udc < span)
  let vs := if clip then vs.map (fun v => nearest (v * udc) span) else vs
  let mx := maxOf vs
  let mn := minOf vs
  (vs.map (fun v => clampInt 0 32767 (16384 + nearest ((2 * v - mx - mn) * 16384) udc)), clip)

/-- SECTOR of a vector. -/
def svmSector (va vb : Int) : Ce Int := do
  if va = 0 ∧ vb = 0 then return 0
  else
    let t ← atan2 vb va
    return t * 6 / 65536

/-- SVM3. -/
def blkSvm3 (b : BlockIn) : Ce BlockOut := do
  let udc := b.inp 2
  if udc ≤ 0 then return { outs := [16384, 16384, 16384, 32] }
  else
    let (va, vb, limited) ← svmLimit (b.opt 0) (b.p 0) udc (b.inp 0) (b.inp 1)
    let (x, y, z) ← iclarke va vb
    let (ds, clip) := svmDuties udc [x, y, z]
    let sec ← svmSector va vb
    return { outs := ds ++ [sec + statusBits [false, false, false, limited, clip]] }

/-- SVM6. -/
def blkSvm6 (b : BlockIn) : Ce BlockOut := do
  let udc := b.inp 4
  if udc ≤ 0 then return { outs := [16384, 16384, 16384, 16384, 16384, 16384, 64] }
  else
    let (va, vb, limited) ← svmLimit (b.opt 1) (b.p 0) udc (b.inp 0) (b.inp 1)
    let vs ← ivsd6Go (xyHarmonic (b.opt 0)) va vb (b.inp 2) (b.inp 3) (phaseTwelfths (b.opt 0))
    let (d1, c1) := svmDuties udc (vs.take 3)
    let (d2, c2) := svmDuties udc (vs.drop 3)
    let sec ← svmSector va vb
    return { outs := d1 ++ d2 ++ [sec + statusBits [false, false, false, limited, c1, c2]] }

/-! ## Field weakening, tables (R189, R193) -/

/-- FWEAK (R189). -/
def blkFweak (b : BlockIn) : Ce BlockOut := do
  let idmin := b.p 3
  let imax := b.inp 3
  let umax ← mul16 (b.inp 1) (b.p 0)
  let e ← sat16 (umax - b.inp 0)
  let q := b.acc 3
  let f ← (if q = 0 then do
      let s ← shl (e * b.p 1) (b.e 2)
      let f ← add40 (b.acc 0) s
      return clampInt (ceLoad idmin) 0 f
    else return b.acc 0)
  let nf ← narrow f
  let r ← sat16 (b.inp 2 + nf)
  let idref := if r < idmin then idmin else r
  let q ← (if (e < 0 ∧ (idref = idmin ∨ f = ceLoad idmin)) ∨ 0 < q then do
      let s ← shl (e * b.p 4) (b.e 5)
      let q ← add40 q (-s)
      return clampInt 0 (ceLoad imax) q
    else return q)
  let rr := imax * imax - idref * idref
  let iqlim ← (if rr ≤ 0 then return 0 else sqrt30 rr)
  let nq ← narrow q
  let m ← sat16 (iqlim - nq)
  let iqmax := if m < 0 then 0 else m
  let at_ := decide (0 < q)
  return { outs := [idref, iqmax], st := accWords 0 f ++ accWords 3 q ++ [(6, if at_ then 1 else 0)],
           report := if b.opt 7 then some (.ceil at_) else none }

/-- ANGTAB (R193): the block first reads, then updates. -/
def blkAngtab (b : BlockIn) : Ce BlockOut := do
  let base := b.par 0
  let tab (k : Nat) : Int := signed 16 (b.word (base + k % 1024))
  let po := (ang16 ((b.raw 0 : Int) + (b.par 3 : Int))).toNat
  let k := po / 64
  let f : Int := ((po % 64 : Nat) : Int)
  let y := tab k + roundDiv ((tab (k + 1) - tab k) * f) 64
  if b.inp 2 = 0 then return { outs := [y] }
  else
    let k := b.raw 0 / 64
    let f : Int := ((b.raw 0 % 64 : Nat) : Int)
    let lim := b.p 4
    let s ← shl (b.inp 1 * b.p 1) (b.e 2)
    let g ← narrow s
    let v0 ← sat16 (tab k + roundDiv (g * (64 - f)) 64)
    let v1 ← sat16 (tab (k + 1) + roundDiv (g * f) 64)
    return { outs := [y], table := [(base + k % 1024, clampInt (-lim) lim v0), (base + (k + 1) % 1024, clampInt (-lim) lim v1)] }

/-! ## Observer, plausibility, loss, torque (R195–R198) -/

/-- One axis of the observer's flux: the new ψ and φ. -/
def obsFlux (b : BlockIn) (k : Nat) (i v : Int) : Ce (Int × Int) := do
  let r ← shl (i * b.p 0) (b.e 1)
  let nr ← narrow r
  let e ← sat16 (v - nr)
  let s ← shl (e * b.p 4) (b.e 5)
  let n0 ← narrow (b.acc k)
  let t ← add40 (b.acc k) s
  let psi ← add40 t (-(n0 * b.p 6))
  let l ← shl (i * b.p 2) (b.e 3)
  let nl ← narrow l
  let np ← narrow psi
  let ph ← sat16 (np - nl)
  return (psi, ph)

/-- OBSERVER (R195). -/
def blkObserver (b : BlockIn) : Ce BlockOut := do
  let ia := if b.opt 0 then 0 else b.inp 0
  let ib := if b.opt 0 then 0 else b.inp 1
  let (pa, fa) ← obsFlux b 0 ia (b.inp 2)
  let (pb, fb) ← obsFlux b 3 ib (b.inp 3)
  let m ← mag fa fb
  let a0 : Int := ((b.st 9 + 65536 * b.st 10 : Nat) : Int)
  let err ← (if b.p 13 ≤ m then do
      let t ← atan2 fb fa
      return s16 (t - a0 / 65536)
    else return 0)
  let wi ← shl (err * b.p 9) (b.e 10)
  let w ← add40 (b.acc 6) wi
  let wp ← shl (err * b.p 7) (b.e 8)
  let ws ← add40 w wp
  let om ← narrow ws
  let a := (a0 + om * b.p 11 * ((2 ^ b.e 12 : Nat) : Int)) % 4294967296
  let th := a / 65536
  let valid := decide (b.p 13 ≤ m) && decide (err.natAbs ≤ b.par 14)
  let cntv := if valid then Nat.min (b.st 11 + 1) 16 else 0
  let locked := decide (cntv = 16)
  let ao ← abs16 om
  let mi ← mag ia ib
  let armed := decide (b.p 17 ≤ ao) && decide (b.p 18 ≤ mi)
  let cntl := if armed && (decide (b.par 15 < err.natAbs) || decide (m < b.p 13)) then Nat.min (b.st 12 + 1) 65535 else 0
  let lost := decide (b.par 16 ≤ cntl)
  let was := decide (b.par 16 ≤ b.st 12)
  let er := if b.con 4 then s16 (th - (b.raw 4 : Int)) else 0
  return { outs := [th, om, er, statusBits [valid, locked, lost]],
           st := accWords 0 pa ++ accWords 3 pb ++ accWords 6 w ++
             [(9, a % 65536), (10, a / 65536), (11, (cntv : Int)), (12, (cntl : Int))],
           report := if b.opt 7 then some (.obs valid locked (lost && !was) om) else none }

/-- PLAUS (R196). -/
def blkPlaus (b : BlockIn) : Ce BlockOut := do
  let tol := if b.con 2 then b.inp 2 else b.p 0
  let d ← (if b.opt 0 then return s16 ((b.raw 0 : Int) - (b.raw 1 : Int)) else sat16 (b.inp 0 - b.inp 1))
  let ad ← abs16 d
  let out := decide (tol < ad)
  let c := if out then Nat.min (b.st 0 + 1) 65535 else 0
  let fail := decide (b.par 1 ≤ c)
  let was := decide (b.par 1 ≤ b.st 0)
  return { outs := [d, statusBits [out, fail]], st := [(0, (c : Int))],
           report := if b.opt 7 then some (.plaus (b.inst.opt / 32 % 4) (fail && !was)) else none }

/-- LOSS (R197). -/
def blkLoss (b : BlockIn) : Ce BlockOut := do
  let i := b.inp 0
  let w := b.inp 1
  let aw ← abs16 w
  let t1 ← shl (aw * b.p 1) (b.e 2)
  let ww ← mul16 w w
  let t2 ← shl (ww * b.p 3) (b.e 4)
  let ii ← mul16 i i
  let ir ← mul16 ii (b.inp 3)
  let t3 ← shl (ir * b.p 5) (b.e 6)
  let ai ← abs16 i
  let iu ← mul16 ai (b.inp 2)
  let t4 ← shl (iu * b.p 7) (b.e 8)
  let s ← macSum [(t1, 1), (t2, 1), (t3, 1), (t4, 1)] (ceLoad (b.p 0))
  let y ← narrow s
  return { outs := [y] }

/-- TORQUE (R198). -/
def blkTorque (b : BlockIn) : Ce BlockOut := do
  if b.opt 0 then
    let aw ← abs16 (b.inp 2)
    if aw < b.p 4 then return { outs := [0] }
    else
      let d ← sat16 (b.inp 0 - b.inp 1)
      let q ← div16 d (b.inp 2)
      let s ← shl (q * b.p 5) (b.e 6)
      let y ← narrow s
      return { outs := [y] }
  else
    let kpsi := if b.con 2 then b.inp 2 else 32767
    let t ← mul16 kpsi (b.inp 1)
    let s1 ← shl (t * b.p 0) (b.e 1)
    let u ← mul16 (b.inp 0) (b.inp 1)
    let s2 ← shl (u * b.p 2) (b.e 3)
    let s ← add40 s1 s2
    let y ← narrow s
    return { outs := [y] }

/-! ## Return shunt placement, register output (R199, R200) -/

/-- The three legs of RSPLACE by decreasing duty, ties in ascending index: duty and leg number. -/
def sortDuties (d0 d1 d2 : Int) : List (Int × Nat) :=
  let ins (x : Int × Nat) : List (Int × Nat) → List (Int × Nat) := fun l =>
    l.takeWhile (fun y => decide (x.1 ≤ y.1)) ++ [x] ++ l.dropWhile (fun y => decide (x.1 ≤ y.1))
  ins (d2, 2) (ins (d1, 1) (ins (d0, 0) []))

/-- The rising phases that PWM produces for duties sorted in decreasing order (R225, R226): shifted, or unshifted where
the shift would start before the period. -/
def ssRising (wmin : Int) (d1 d2 d3 : Int) : Int × Int × Int :=
  let r3 := 32768 - d3
  let r2 := let x := 32768 - d2; if x ≤ r3 - wmin then x else r3 - wmin
  let r1 := let x := 32768 - d1; if x ≤ r2 - wmin then x else r2 - wmin
  if r1 < 0 then (32768 - d1, 32768 - d2, 32768 - d3) else (r1, r2, r3)

/-- The phase and code of one window [`o`, `c`) (R199). -/
def rsWindow (o c settle allow code : Int) : Int × Int :=
  if o + settle < c then (ang16 (o + settle - allow), code) else (65535, 65535)

/-- RSPLACE (R199). A negative duty counts as 0 (R216). -/
def blkRsplace (b : BlockIn) : Ce BlockOut := do
  if b.inp 3 = 0 then return { outs := [65535, 65535, 65535, 65535] }
  else
    let du (k : Nat) : Int := if b.inp k < 0 then 0 else b.inp k
    match sortDuties (du 0) (du 1) (du 2) with
    | [(d1, l1), (d2, _), (d3, l3)] =>
      let (r1, r2, r3) := ssRising (b.wmin : Int) d1 d2 d3
      let (p0, c0) := rsWindow r1 r2 (b.par 0) (b.par 1) ((2 * l1 : Nat) : Int)
      let (p1, c1) := rsWindow r2 r3 (b.par 0) (b.par 1) ((2 * l3 + 1 : Nat) : Int)
      return { outs := [p0, c0, p1, c1] }
    | _ => return { outs := [65535, 65535, 65535, 65535] }

/-- The write that OUTREG stages for input `k`, if it stages one (R200). -/
def outregWrite (b : BlockIn) (k : Nat) : Option CeWrite :=
  let x := b.raw k
  let addr := b.par (5 * k) + 65536 * b.par (5 * k + 1)
  let mode := b.par (5 * k + 2)
  let con := b.par (5 * k + 3) + 65536 * b.par (5 * k + 4)
  if mode.testBit 15 ∧ x = 65535 then none
  else match mode % 8 with
    | 0 => some ⟨addr, none, x⟩
    | 1 => some ⟨addr, none, unsigned 32 (signed 16 x)⟩
    | 2 => some ⟨addr, none, con ||| (x <<< (mode / 16 % 32)) % 4294967296⟩
    | 3 => some ⟨addr, some (con % 8), x⟩
    | _ => some ⟨addr, none, con⟩

/-- OUTREG: the output is the number of writes staged. -/
def blkOutreg (b : BlockIn) : Ce BlockOut := do
  let ws := (List.range b.inst.nin).filterMap (outregWrite b)
  return { outs := [(ws.length : Int)], writes := ws }

/-- What an instance computes, by its TYPE (R158). -/
def runBlock (b : BlockIn) : Ce BlockOut :=
  match b.inst.typ with
  | 0x01 => blkSum b
  | 0x02 => blkGain b
  | 0x03 => blkMul b
  | 0x04 => blkDiv b
  | 0x05 => blkLimit b
  | 0x06 => blkMinsel b
  | 0x07 => blkMaxsel b
  | 0x08 => blkRamp b
  | 0x09 => blkLpf1 b
  | 0x0A => blkDelay b
  | 0x0B => blkSelect b
  | 0x0C => blkSincos b
  | 0x0D => blkAtan2 b
  | 0x0E => blkMag b
  | 0x0F => blkClarke b
  | 0x10 => blkIclarke b
  | 0x11 => blkPark b
  | 0x12 => blkIpark b
  | 0x13 => blkVsd6 b
  | 0x14 => blkIvsd6 b
  | 0x15 => blkPi b
  | 0x16 => blkReson b
  | 0x17 => blkSvm3 b
  | 0x18 => blkSvm6 b
  | 0x19 => blkFweak b
  | 0x1A => blkObserver b
  | 0x1B => blkAngtab b
  | 0x1C => blkLoss b
  | 0x1D => blkTorque b
  | 0x1E => blkPlaus b
  | 0x1F => blkRsplace b
  | 0x20 => blkOutreg b
  | _ => pure {}

/-! ## A whole program -/

/-- What a program run has brought about so far. -/
structure ProgRun where
  /-- The working copy of the partition: signals and state. -/
  work : List (Nat × Nat)
  writes : List CeWrite := []
  reports : List CeReport := []
  table : List (Nat × Nat) := []
  /-- Index and flags of every instance flagged. -/
  flags : List (Nat × CeFlags) := []

/-- The value of signal `i` (R154): the input frame, an output of an earlier instance, or 0. -/
def signalAt (frame : List Nat) (work : List (Nat × Nat)) (i : Nat) : Nat :=
  if i ≤ 0x8A then listGet 0 frame i else if 0x100 ≤ i ∧ i ≤ 0x30FF then wordAt work (i - 0x100) else 0

/-- Run one instance (R156): parameters are those of the partition at sample start. -/
def runInst (part0 : List (Nat × Nat)) (frame : List Nat) (wmin idx : Nat) (i : CeInst) (r : ProgRun) : ProgRun :=
  let inp (k : Nat) : Nat := listGet 0xFFFF i.ins k
  let b : BlockIn :=
    { inst := i, con := fun k => decide (inp k ≠ 0xFFFF),
      raw := fun k => if inp k = 0xFFFF then 0 else signalAt frame r.work (inp k),
      par := fun k => wordAt part0 (i.param + k), st := fun k => wordAt part0 (i.state + k),
      word := fun k => wordAt part0 k, wmin }
  let (o, f) := (runBlock b).run {}
  let put (w : List (Nat × Nat)) (a : Nat) (v : Int) : List (Nat × Nat) := wordSet w a (unsigned 16 v)
  let w := o.outs.zipIdx.foldl (fun w (v, k) => put w (i.out - 0x100 + k) v) r.work
  let w := o.st.foldl (fun w (k, v) => put w (i.state + k) v) w
  let w := o.table.foldl (fun w (k, v) => put w k v) w
  { work := w, writes := r.writes ++ o.writes,
    reports := r.reports ++ o.report.toList,
    table := r.table ++ o.table.map (fun (k, v) => (k, unsigned 16 v)),
    flags := if f.sat || f.ovf then r.flags ++ [(idx, f)] else r.flags }

/-- Run instances in list order, the first having index `idx`. -/
def runInsts (part0 : List (Nat × Nat)) (frame : List Nat) (wmin : Nat) : Nat → List CeInst → ProgRun → ProgRun
  | _, [], r => r
  | idx, i :: is, r => runInsts part0 frame wmin (idx + 1) is (runInst part0 frame wmin idx i r)

/-- Run a program on a partition and a frame. -/
def runProg (p : CeProg) (part0 : List (Nat × Nat)) (frame : List Nat) (wmin : Nat) : ProgRun :=
  runInsts part0 frame wmin 0 p.insts { work := part0 }

end Sys2Proof.Machine
end

