-- ==== Sys2Proof/Machine/CeBank.lean ====
section
/-! DEFINITION. The input banks of the engines (R154, R155, R170) and who serves an axis. -/

namespace Sys2Proof.Machine

open Reg

/-- ROLE of engine `n`: 0 SPARE, 1 SERVING, 2 SHADOW, 3 UNDER_TEST, 4 SUSPECT, 5 FAILED (R176). -/
def ceRole (d : Dev) (n : Nat) : Nat := fld d (CEA_CEn_STATE n) 2 0

/-- The axis that engine `n` serves or shadows. -/
def ceAxisOf (d : Dev) (n : Nat) : Nat := fld d (CEA_CEn_STATE n) 5 4

/-- The engine that serves axis `a`, if one does (R177). -/
def servingEngine (d : Dev) (a : Nat) : Option Nat :=
  let n := fld d (CEA_AXa_STATUS a) 2 0
  if axisInUse d a ∧ n < 5 then some n else none

/-- The engines that hold axis `a`'s input bank: the serving one, the spare and one in shadow for the axis (R170),
and one under test, whose memory stays in service (R490). -/
def bankEngines (d : Dev) (a : Nat) : List Nat :=
  idxWhere 5 (fun n => decide (ceRole d n = 0 ∨ ceRole d n = 3) ||
    (decide (ceRole d n = 1 ∨ ceRole d n = 2) && decide (ceAxisOf d n = a)))

/-- The input word with NEW set (R155): value and the flags RU, HELD, HALF, OVR. -/
def inWord (v : Int) (ru held half ovr : Bool) : Word :=
  setBit (setBit (setBit (setBit (setBit (wordOf (unsigned 16 v)) 16 true) 17 ru) 18 held) 19 half) 20 ovr

/-- A value reaches input `k` of axis `a`'s bank. -/
def ceInput (a k : Nat) (w : Word) (d : Dev) : Dev :=
  forEach (bankEngines d a) (fun n d => wr (CEA_CEn_INa_kk n a k) w d) d

end Sys2Proof.Machine
end

