-- ==== Sys2Proof/Machine/EvsCore.lean ====
section
/-! DEFINITION. The Event Scheduler table (R63–R79): arming checks, arming and disarming, firing, repeats and chains,
angle crossings, carrier resolution, the window and the dispatch queue. -/

namespace Sys2Proof.Machine

open Reg

/-! ## The table -/

/-- The address of word `w` of entry `n`. -/
def evsWordAddr (n w : Nat) : Nat := 0x40120000 + 16 * n + 4 * w

/-- Word `w` of entry `n` as stored. -/
def evsWord (d : Dev) (n w : Nat) : Word := rd d (evsWordAddr n w)

/-- TRIG of a word 2: 0 DELAY, 1 ANGLE, 2 TIME, 3 CARRIER. -/
def evsTrig (w2 : Word) : Nat := bits w2 30 29

/-- The live state of entry `n`, if it is armed. -/
def evsLive? (d : Dev) (n : Nat) : Option EvsLive := d.evs.live.find? (fun l => decide (l.entry = n))

/-- Is entry `n` armed? -/
def evsArmed (d : Dev) (n : Nat) : Bool := (evsLive? d n).isSome

/-- EVS changed by `f`. -/
def modEvs (f : EvsState → EvsState) (d : Dev) : Dev := { d with evs := f d.evs }

/-- Insert live state by ascending entry, replacing that of the same entry. -/
def insLive (l : EvsLive) : List EvsLive → List EvsLive
  | [] => [l]
  | x :: r => if l.entry < x.entry then l :: x :: r else if l.entry = x.entry then l :: r else x :: insLive l r

/-- Set the live state of an entry. -/
def setLive (l : EvsLive) (d : Dev) : Dev := modEvs (fun e => { e with live := insLive l e.live }) d

/-- Insert a due firing by trigger instant and then by entry (R78). -/
def insDue (x : EvsDue) : List EvsDue → List EvsDue
  | [] => [x]
  | y :: r => if x.trig < y.trig ∨ (x.trig = y.trig ∧ x.entry < y.entry) then x :: y :: r else y :: insDue x r

/-! ## Arming checks (R64) -/

/-- Is SREG a listed index (R72)? -/
def sregListed (s : Nat) : Bool :=
  decide (s ≤ 7) || (decide (0x10 ≤ s) && decide (s ≤ 0x27)) || (decide (0x30 ≤ s) && decide (s ≤ 0x33))
    || (decide (0x38 ≤ s) && decide (s ≤ 0x3F)) || (decide (0x48 ≤ s) && decide (s ≤ 0x4B))
    || (decide (0x50 ≤ s) && decide (s ≤ 0x8F)) || (decide (0xA0 ≤ s) && decide (s ≤ 0xBF))

/-- Does `code` own the target resource of SREG (R72)? -/
def sregOwnedBy (d : Dev) (s code : Nat) : Bool :=
  if s ≤ 7 then decide (ownerOf d 0x05 (2 * s) = code) && decide (ownerOf d 0x05 (2 * s + 1) = code)
  else if s ≤ 0x27 then decide (ownerOf d 0x06 (s - 0x10) = code)
  else if s ≤ 0x33 then decide (axisCode (s - 0x30) = code)
  else if s ≤ 0x3F then decide (ownerOf d 0x08 (s - 0x38) = code)
  else if s ≤ 0x4B then true
  else if s ≤ 0x8F then decide (ownerOf d 0x03 (s - 0x50) = code)
  else decide (ownerOf d 0x07 (s - 0xA0) = code)

/-- The code of the first failing arming check of entry `n` with words `w0`, `w1`, `w2`; 0 where all pass (R64). -/
def evsArmCode (d : Dev) (n : Nat) (w0 w1 w2 : Word) : Nat :=
  let s := bits w2 21 12
  let trig := evsTrig w2
  let src := bits w2 28 26
  let dir := bits w2 25 24
  let inc := bits w1 31 8
  let rpt := bits w1 7 0
  let own := ownerOf d 0x0C (n / 64)
  if !sregListed s then 1
  else if own = 0 ∨ (own ≠ 0x20 ∧ !sregOwnedBy d s own) then 2
  else if (trig = 1 ∧ !(decide (src ≤ 3) && axisInUse d src)) ∨ (trig = 3 ∧ ownerOf d 0x0B src = 0) then 3
  else if (trig = 1 ∧ (dir = 0 ∨ dir = 3)) ∨ (trig ≠ 1 ∧ (dir ≠ 0 ∨ bit w2 23 = true))
      ∨ ((trig = 0 ∨ trig = 2) ∧ src ≠ 0) then 4
  else if ((trig = 0 ∨ trig = 2) ∧ inc = 0 ∧ rpt ≠ 0) ∨ (trig = 3 ∧ 65535 < inc) then 5
  else if bit w2 22 = true ∧ bits w2 11 0 = n then 6
  else if (trig = 1 ∧ bits w0 31 24 ≠ 0) ∨ (trig = 3 ∧ bits w0 31 16 ≠ 0) ∨ (trig = 0 ∧ bit w0 31 = true) then 7
  else 0

/-- A failed arming check is recorded and raised (R64). -/
def evsArmErr (n code : Nat) (d : Dev) : Dev :=
  let d := wr EVS_ARM_ERR (setBits (setBits 0 19 16 code) 11 0 n) d
  raise Src.EVS_ARM_ERR 0 (setFlag EVS_STATUS 3 true d)

/-! ## Window (R77) -/

/-- The ticks until an angle, now at `a` and moving `rate` per tick (times 2^16) in its domain, reaches `t` in direction
`fwd`; none where it never does. -/
def crossTicks (a t : Nat) (rate : Int) (fwd : Bool) : Option Nat :=
  if fwd ∧ 0 < rate then
    let dist := ((t : Int) - a) % 16777216
    some ((((if dist = 0 then 16777216 else dist) * 65536 + rate - 1) / rate).toNat)
  else if !fwd ∧ rate < 0 then
    let dist := ((a : Int) - t) % 16777216
    some ((((if dist = 0 then 16777216 else dist) * 65536 + (-rate) - 1) / (-rate)).toNat)
  else none

/-- Bits 23:0 of the mechanical angle of axis `a`. -/
def mechFrac (d : Dev) (a : Nat) : Nat := ((vget d.atb a).acc.toNat / 65536) % 16777216

/-- POLE_PAIRS of axis `a`. -/
def polePairs (d : Dev) (a : Nat) : Nat := (vget d.cfg.axes a).polePairs

/-- The electrical angle of axis `a` (R58). -/
def elecAngle (d : Dev) (a : Nat) : Nat := (mechFrac d a * polePairs d a) % 16777216

/-- The trigger instant that EVS places a live entry by: fixed, resolved or predicted; none sorts last. -/
def evsInstant (d : Dev) (l : EvsLive) : Option Int :=
  let w2 := evsWord d l.entry 2
  let fromDue := (d.evs.due.find? (fun x => decide (x.entry = l.entry))).map (fun x => x.trig)
  match fromDue with
  | some t => some t
  | none =>
    match evsTrig w2 with
    | 1 =>
      let a := bits w2 28 26
      let el := bit w2 23
      let pos := if el then elecAngle d a else mechFrac d a
      let rate := sfld d (ATB_AXn_SPEED a) 31 0 * (if el then (polePairs d a : Int) else 1)
      (crossTicks pos l.target.toNat rate (decide (bits w2 25 24 = 1))).map (fun k => ((now d + k : Nat) : Int))
    | 3 =>
      match l.resolved with
      | some (t, _, _) => some t
      | none =>
        let g := vget d.pwm.groups (bits w2 28 26)
        if g.running then some (((g.start + 2 * g.period + l.target.toNat * g.period / 65536 : Nat) : Int)) else none
    | _ => some l.target

/-- Is instant `x` nearer than instant `y`? -/
def nearer : Option Int → Option Int → Bool
  | some x, some y => decide (x < y)
  | some _, none => true
  | none, _ => false

/-- The instant of entry `n` in the window: that of its live state or of its due firing. -/
def entryInstant (d : Dev) (n : Nat) : Option Int :=
  match evsLive? d n with
  | some l => evsInstant d l
  | none => (d.evs.due.find? (fun x => decide (x.entry = n))).map (fun x => x.trig)

/-- The farthest entry of the window. -/
def farthest (d : Dev) : Option Nat :=
  d.evs.window.foldl (fun acc n =>
    match acc with
    | none => some n
    | some m => if nearer (entryInstant d m) (entryInstant d n) then some n else some m) none

/-- Put entry `n` into the window where it has room or the entry is nearer than the farthest, which then leaves. -/
def windowInsert (n : Nat) (d : Dev) : Dev :=
  if d.evs.window.contains n then d
  else if d.evs.window.length < 256 then modEvs (fun e => { e with window := e.window ++ [n] }) d
  else match farthest d with
    | some m => if nearer (entryInstant d n) (entryInstant d m) then
        modEvs (fun e => { e with window := e.window.erase m ++ [n] }) d else d
    | none => d

/-- Take out of the window an entry that is neither armed nor due. -/
def windowDrop (n : Nat) (d : Dev) : Dev :=
  if evsArmed d n || d.evs.due.any (fun x => decide (x.entry = n)) then d
  else modEvs (fun e => { e with window := e.window.erase n }) d

/-! ## Arming -/

/-- The trigger instant of a carrier phase in the period with start `s` and length `p` (R68). -/
def carrierInstant (s p phase : Nat) : Int := ((s + phase * p / 65536 : Nat) : Int)

/-- Resolve a CARRIER target that is armed after the Load Instant (R71): in the current period where its instant lies
ahead, else in the coming one where that is known. -/
def resolveNow (d : Dev) (g phase : Nat) : Option (Int × Nat × Nat) :=
  let x := vget d.pwm.groups g
  if !x.running then none
  else
    let t := carrierInstant x.start x.period phase
    if (now d : Int) < t then some (t, x.start, x.period)
    else match vget d.evs.coming g with
      | some (s, p) => some (carrierInstant s p phase, s, p)
      | none => none

/-- The full LTB tick that a TIME value means (R68): the past half-range counts as past. -/
def timeInstant (d : Dev) (v : Word) : Int :=
  let diff := ((nowLo d) - v).toNat
  if diff < 2147483648 then (now d : Int) - diff else (now d : Int) + ((v - nowLo d).toNat : Int)

/-- Entry `n`, whose word 2 is stored, becomes armed at tick `t`. -/
def evsArmNow (n : Nat) (t : Int) (d : Dev) : Dev :=
  let w0 := evsWord d n 0
  let w1 := evsWord d n 1
  let w2 := evsWord d n 2
  let rpt := bits w1 7 0
  let l : EvsLive :=
    match evsTrig w2 with
    | 0 => ⟨n, t + (bits w0 30 0 : Int), rpt, none⟩
    | 1 => ⟨n, (bits w0 23 0 : Int), rpt, none⟩
    | 2 => ⟨n, timeInstant d w0, rpt, none⟩
    | _ => ⟨n, (bits w0 15 0 : Int), rpt, resolveNow d (bits w2 28 26) (bits w0 15 0)⟩
  windowInsert n (setLive l d)

/-- Try to arm entry `n` with word 2 `w2` at tick `t`: the outcome is true where a check failed. -/
def evsTryArm (n : Nat) (w2 : Word) (t : Int) (d : Dev) : Bool × Dev :=
  let code := evsArmCode d n (evsWord d n 0) (evsWord d n 1) w2
  if code = 0 then (false, evsArmNow n t (wr (evsWordAddr n 2) (setBit w2 31 true) d))
  else (true, evsArmErr n code (wr (evsWordAddr n 2) (setBit w2 31 false) d))

/-- Disarm entry `n`: remaining repeats and firings that have not been dispatched are cancelled (R65). -/
def evsDisarmNow (n : Nat) (d : Dev) : Dev :=
  modEvs (fun e => { e with
    live := e.live.filter (fun l => decide (l.entry ≠ n)), due := e.due.filter (fun x => decide (x.entry ≠ n)),
    window := e.window.erase n }) d

/-- A write to an armed entry is discarded (R65). -/
def evsWrArmed (d : Dev) : Bool × Dev := (true, setFlag EVS_STATUS 4 true d)

/-- A write of word `w` of entry `n` that has passed the bus (R65): true where it gets an error response. -/
def evsWriteWord (n w : Nat) (v : Word) (d : Dev) : Bool × Dev :=
  if w = 2 then
    if bit v 31 then
      if evsArmed d n then evsWrArmed d else evsTryArm n v (now d : Int) d
    else (false, evsDisarmNow n (wr (evsWordAddr n 2) v d))
  else if evsArmed d n then evsWrArmed d
  else (false, wr (evsWordAddr n w) v d)

/-! ## Firing (R68–R76) -/

/-- A firing of entry `n` at trigger instant `t` becomes due. -/
def evsMakeDue (n : Nat) (t : Int) (d : Dev) : Dev :=
  let w2 := evsWord d n 2
  modEvs (fun e => { e with due := insDue ⟨n, t, bits w2 21 12, evsWord d n 3⟩ e.due }) d

/-- Entry `n` ends after its final firing at trigger instant `t`: ARM clears and a chain is followed (R76). -/
def evsEnd (n : Nat) (t : Int) (d : Dev) : Dev :=
  let w2 := evsWord d n 2
  let d := wr (evsWordAddr n 2) (setBit w2 31 false) d
  let d := modEvs (fun e => { e with live := e.live.filter (fun l => decide (l.entry ≠ n)) }) d
  let d := windowDrop n d
  if bit w2 22 then
    let m := bits w2 11 0
    if evsArmed d m then raise Src.EVS_CHAIN_BUSY 0 (setFlag EVS_STATUS 5 true d)
    else (evsTryArm m (evsWord d m 2) t d).2
  else d

/-- The target that follows `l`'s present one (R74). -/
def evsNext (d : Dev) (l : EvsLive) : EvsLive :=
  let w2 := evsWord d l.entry 2
  let inc : Int := (bits (evsWord d l.entry 1) 31 8 : Int)
  let rpt := if l.rpt = 255 then 255 else l.rpt - 1
  match evsTrig w2 with
  | 1 =>
    let step := if bits w2 25 24 = 2 then -inc else inc
    { l with target := (l.target + step) % 16777216, rpt }
  | 3 =>
    let ph := l.target + (if inc = 0 then 65536 else inc)
    if ph < 65536 then
      { l with target := ph, rpt, resolved := l.resolved.map (fun (_, s, p) => (carrierInstant s p ph.toNat, s, p)) }
    else
      let ph := ph - 65536
      let coming := match vget d.evs.coming (bits w2 28 26), l.resolved with
        | some (s, p), some (_, s0, _) => if s0 < s then some (carrierInstant s p ph.toNat, s, p) else none
        | _, _ => none
      { l with target := ph, rpt, resolved := coming }
  | _ => { l with target := l.target + inc, rpt }

/-- The fixed trigger instant of a DELAY, TIME or resolved CARRIER entry. -/
def evsFixed (d : Dev) (l : EvsLive) : Option Int :=
  match evsTrig (evsWord d l.entry 2) with
  | 1 => none
  | 3 => l.resolved.map (fun r => r.1)
  | _ => some l.target

/-- The trigger instant of a DELAY, TIME or CARRIER entry is reached: it becomes due and its next target is set. -/
def evsFire (l : EvsLive) (t : Int) (d : Dev) : Dev :=
  let d := evsMakeDue l.entry t d
  if l.rpt = 0 then evsEnd l.entry t d else setLive (evsNext d l) d

/-- One step of the angle of axis `a` by `delta` fraction LSB from fraction `from_`, for one armed ANGLE entry (R68–R70,
R75). -/
def evsAngleEntry (from_ : Nat) (delta : Int) (pp : Nat) (l : EvsLive) (d : Dev) : Dev :=
  let w2 := evsWord d l.entry 2
  let el := bit w2 23
  let k : Nat := if el then pp else 1
  let a : Int := ((from_ * k % 16777216 : Nat) : Int)
  let dl : Int := delta * k
  let fwd := decide (bits w2 25 24 = 1)
  if 8388608 ≤ dl.natAbs then raise Src.EVS_ANGLE_STEP 0 (setFlag EVS_STATUS 2 true d)
  else
    let go : Int := if fwd then dl else -dl
    let dist : Int := if fwd then (l.target - a) % 16777216 else (a - l.target) % 16777216
    if 0 < dist ∧ dist ≤ go then
      let inc0 := bits (evsWord d l.entry 1) 31 8
      let inc : Nat := if inc0 = 0 then 16777216 else inc0
      let passed : Nat := 1 + ((go - dist) / inc).toNat
      let ends := decide (l.rpt ≠ 255 ∧ l.rpt + 1 ≤ passed)
      let n : Nat := if l.rpt ≠ 255 ∧ l.rpt + 1 ≤ passed then l.rpt + 1 else passed
      let fired := Nat.min n 64
      let d := forEach (List.range fired) (fun _ d => evsMakeDue l.entry (now d : Int) d) d
      let d := if fired < n then
          raise Src.EVS_SKIP 0 (setFlag EVS_STATUS 1 true (addFld EVS_SKIP_CNT 31 0 (n - fired) d))
        else d
      if ends then evsEnd l.entry (now d : Int) d
      else
        let adv : Int := ((n * inc : Nat) : Int)
        setLive { l with target := (if fwd then l.target + adv else l.target - adv) % 16777216,
                         rpt := if l.rpt = 255 then 255 else l.rpt - n } d
    else d

/-- Does a step of axis `a` by `delta` fraction LSB from fraction `from_` cross the target of the commit argument `arg`
(R68, R425)? -/
def cteCrosses (a from_ : Nat) (delta : Int) (pp : Nat) (arg : Word) : Bool :=
  let k : Nat := if bit arg 28 then pp else 1
  let x : Int := ((from_ * k % 16777216 : Nat) : Int)
  let dl : Int := delta * k
  let t : Int := (bits arg 23 0 : Int)
  let fwd := decide (bits arg 27 26 = 1)
  let go : Int := if fwd then dl else -dl
  let dist : Int := if fwd then (t - x) % 16777216 else (x - t) % 16777216
  decide (bits arg 25 24 = a) && decide (dl.natAbs < 8388608) && decide (0 < dist ∧ dist ≤ go)

/-- A commit of KIND ANGLE that waits gets its boundary when the step crosses its target (R425). -/
def cteAngleStep (a from_ : Nat) (delta : Int) (d : Dev) : Dev :=
  if d.cte.txs.isEmpty then d
  else { d with cte := { d.cte with txs := d.cte.txs.map (fun t =>
    if t.phase = .pending ∧ t.kind = 3 ∧ t.boundary.isNone ∧ cteCrosses a from_ delta (polePairs d a) t.arg = true then
      { t with boundary := some (now d) } else t) } }

/-- Every armed ANGLE entry of axis `a` evaluates one step of its angle (R529), and so does a commit that waits. -/
def evsAngleStep (a from_ : Nat) (delta : Int) (d : Dev) : Dev :=
  let d := cteAngleStep a from_ delta d
  (d.evs.live.filter (fun l => let w2 := evsWord d l.entry 2
    decide (evsTrig w2 = 1) && decide (bits w2 28 26 = a))).foldl
    (fun d l => evsAngleEntry from_ delta (polePairs d a) l d) d

/-- At the Load Instant of group `g` the firings of the coming period, with start `s` and length `p`, are resolved
(R71). -/
def evsResolve (g s p : Nat) (d : Dev) : Dev :=
  let d := modEvs (fun e => { e with coming := vset e.coming g (some (s, p)) }) d
  modEvs (fun e => { e with live := e.live.map (fun l =>
    let w2 := evsWord d l.entry 2
    if evsTrig w2 = 3 ∧ bits w2 28 26 = g ∧ l.resolved.isNone then
      { l with resolved := some (carrierInstant s p l.target.toNat, s, p) } else l) }) d

/-- EVS's own copy of a carrier group's period: at a period start, or with period 0 at a stop (R71, R83). -/
def evsCarrier (g s p : Nat) (d : Dev) : Dev :=
  modEvs (fun e => { e with coming := vset e.coming g none })
    (wr (EVS_CGg_START g) (wordOf s) (wr (EVS_CGg_PERIOD g) (wordOf p) d))

/-! ## Scan and dispatch (R77–R79, R529) -/

/-- One table scan: a due entry outside the window goes ahead of the cyclic scan. -/
def evsScan (d : Dev) : Dev :=
  match d.evs.due.find? (fun x => !d.evs.window.contains x.entry) with
  | some x => windowInsert x.entry d
  | none =>
    let n := d.evs.scan
    let d := if evsArmed d n then windowInsert n d else d
    modEvs (fun e => { e with scan := (n + 1) % 4096 }) d

/-- The lateness of a firing dispatched now, rounded up to the action clock of two ticks (R79). -/
def evsLateness (d : Dev) (t : Int) : Nat := (((now d : Int) - t + 1) / 2 * 2).toNat

/-- A late dispatch is counted, logged and raised (R79). -/
def evsLateNote (x : EvsDue) (late : Nat) (d : Dev) : Dev :=
  let d := incFld EVS_LATE_CNT 31 0 d
  let d := if d.evs.log.length < 16 then
      modEvs (fun e => { e with log := e.log ++ [⟨x.entry, Nat.min late 65535, wordOfInt x.trig⟩] }) d
    else modEvs (fun e => { e with lost := true }) d
  raise Src.EVS_LATE 0 (setFlag EVS_STATUS 0 true d)

/-- One action clock of the dispatcher (R78). -/
def evsDispatchOne (d : Dev) : Dev :=
  if flag d EVS_CTRL 0 && decide (d.evs.queue.length < 16) then
    match d.evs.due.find? (fun x => d.evs.window.contains x.entry) with
    | some x =>
      let late := evsLateness d x.trig
      let d := modEvs (fun e => { e with due := e.due.erase x, queue := e.queue ++ [(x.sreg, x.data)] }) d
      let d := windowDrop x.entry d
      if fld d EVS_CTRL 31 16 < late then evsLateNote x late d else d
    | none => d
  else d

/-! ## Views -/

/-- What a read of word `w` of entry `n` returns (R67). -/
def evsReadWord (d : Dev) (n w : Nat) : Word :=
  match evsLive? d n with
  | none => evsWord d n w
  | some l =>
    match w with
    | 0 => wordOfInt l.target
    | 1 => setBits (evsWord d n 1) 7 0 l.rpt
    | 2 => setBit (evsWord d n 2) 31 true
    | _ => evsWord d n w

/-- `EVS_ARMED` (R83). -/
def evsArmedReg (d : Dev) : Word := setBits (setBits 0 12 0 d.evs.live.length) 24 16 d.evs.window.length

/-- `EVS_LATELOG0` (R85). -/
def evsLateLog0 (d : Dev) : Word :=
  match d.evs.log with
  | [] => 0
  | x :: _ => setBits (setBits (setBit (setBit 0 31 true) 30 d.evs.lost) 27 12 x.lateness) 11 0 x.index

/-- The trigger instant of the oldest late record, 0 without one. -/
def evsLateLog1 (d : Dev) : Word :=
  match d.evs.log with
  | [] => 0
  | x :: _ => x.trig

/-- Pop the oldest late record; LOST clears when the log is empty (R85). -/
def evsLatePop (d : Dev) : Dev :=
  modEvs (fun e => { e with log := e.log.drop 1, lost := e.lost && decide (1 < e.log.length) }) d

end Sys2Proof.Machine
end

