-- ==== Sys2Proof/Machine/HartCore.lean ====
section
/-! DEFINITION. The harts' counters (R382, R384, R400, R401): what one cycle adds to them, and who may read which. How many
instructions a hart retires and which events occur in a cycle is its program's affair, a free value. -/

namespace Sys2Proof.Machine

/-- Does the hart of pair `k` run: it is in service, entering service, or waits as the spare (R32, R37, R383)? -/
def hartRuns (d : Dev) (k : Nat) : Bool :=
  let r := (vget d.cpx.pairs k).role
  match d.phase with
  | .programmed | .running => decide (r = .serving ∨ r = .handover ∨ r = .spare)
  | .hold => decide (k = 0)
  | _ => false

/-- What happens in one cycle of a hart, from a free value: slots retired, lost to speculation, to the front end and to the
back end, two in all (R400), and the other events. -/
structure HartCycle where
  slots : Nat × Nat × Nat × Nat
  others : Nat
  deriving DecidableEq, Repr

/-- The cycle that the free value `w` stands for: two issue slots, each in one of four classes, and the other events. -/
def hartCycle (w : Word) : HartCycle :=
  let n (c : Nat) : Nat := b2n (decide (bits w 1 0 = c)) + b2n (decide (bits w 3 2 = c))
  ⟨(n 0, n 1, n 2, n 3), bits w 31 4⟩

/-- What one cycle adds to a counter that selects event `code` (R400). -/
def eventCount (c : HartCycle) (code : Word) : Nat :=
  match code.toNat with
  | 0x01 => 2
  | 0x02 => c.slots.1
  | 0x03 => c.slots.2.1
  | 0x04 => c.slots.2.2.1
  | 0x05 => c.slots.2.2.2
  | 0x10 => c.others % 4
  | 0x11 => c.others / 4 % 4
  | 0x12 => c.others / 16 % 4
  | 0x13 => c.others / 64 % 2
  | 0x14 => c.others / 128 % 4
  | _ => 0

/-- Counter number `k` goes from `v` up by `n`, unless `mcountinhibit` stops it. -/
def countUp (h : HartCounters) (k n : Nat) (v : BitVec 64) : BitVec 64 :=
  if bit h.mcountinhibit k then v else v + BitVec.ofNat 64 n

/-- The counters after one cycle: number 0 the cycles, 2 the instructions retired, 3 to 10 the events. -/
def hartCount (c : HartCycle) (h : HartCounters) : HartCounters :=
  { h with
    cycles := countUp h 0 1 h.cycles
    retired := countUp h 2 c.slots.1 h.retired
    events := Vector.ofFn (fun i : Fin 8 => countUp h (i + 3) (eventCount c (vget h.select i)) (vget h.events i)) }

/-- One cycle of the hart of pair `k`, at 800 MHz one tick (R382). -/
def hartTick (k : Nat) (d : Dev) : Dev :=
  if hartRuns d k then
    let (w, d) := drawFree d
    let p := vget d.cpx.pairs k
    { d with cpx := { d.cpx with pairs := vset d.cpx.pairs k { p with hart := hartCount (hartCycle w) p.hart } } }
  else d

/-- One cycle of every hart. -/
def hartsTick (d : Dev) : Dev := forEach (List.range 4) hartTick d

/-- The privilege modes of a hart (R382). -/
inductive HartMode where
  | machine | supervisor | user
  deriving DecidableEq, Repr

/-- May a hart in mode `m` read counter `k` (R401)? -/
def counterReadable (h : HartCounters) (m : HartMode) (k : Nat) : Bool :=
  match m with
  | .machine => true
  | .supervisor => bit h.mcounteren k
  | .user => bit h.mcounteren k && bit h.scounteren k

/-- What a read of counter `k` of pair `p` in mode `m` returns: 0 the cycles, 1 `time` (R384), 2 the instructions retired, 3
to 10 the events; none where it raises an illegal-instruction exception (R401). -/
def counterRead (d : Dev) (p : Nat) (m : HartMode) (k : Nat) : Option (BitVec 64) :=
  let h := (vget d.cpx.pairs p).hart
  if counterReadable h m k then
    match k with
    | 0 => some h.cycles
    | 1 => some d.ltb
    | 2 => some h.retired
    | k => some (vget h.events (k - 3))
  else none

end Sys2Proof.Machine
end

