-- ==== Sys2Proof/Machine/NtuCore.lean ====
section
/-! DEFINITION. Network time (R446–R456): the counter, wraps and epochs, steps and settings, holdover, timestamps. -/

namespace Sys2Proof.Machine

open Reg

/-- NTU changed by `f`. -/
def modNtu (f : NtuState → NtuState) (d : Dev) : Dev := { d with ntu := f d.ntu }

/-- The increment of one tick in 2^-24 ns (R446), rounded as R18 rounds. -/
def ntuInc (d : Dev) : Int := 20971520 + roundDiv (5 * sfld d NTU_RATE 31 0) 262144

/-- The counter with its fraction, in 2^-24 ns. -/
def ntuTotal (d : Dev) : Nat := (rd d NTU_CNT).toNat * 16777216 + d.ntu.frac

/-- The counter becomes `v`, in 2^-24 ns, modulo 2^32 ns. -/
def setTotal (v : Int) (d : Dev) : Dev :=
  let u := unsigned 56 v
  modNtu (fun n => { n with frac := u % 16777216 }) (wr NTU_CNT (wordOf (u / 16777216)) d)

/-- The epoch registers take the values of three others. -/
def copyEpoch (lo hi ns : Nat) (d : Dev) : Dev :=
  wr NTU_EP_NS (rd d ns) (wr NTU_EP_SEC_HI (rd d hi) (wr NTU_EP_SEC_LO (rd d lo) d))

/-- One tick of the counter (R446), with a step (R449) or a SET (R450) that acts at it. -/
def ntuTick (d : Dev) : Dev :=
  if d.ntu.set then
    let d := modNtu (fun n => { n with set := false, step := none }) d
    let d := copyEpoch NTU_SET_SEC_LO NTU_SET_SEC_HI NTU_SET_NS (setTotal ((rd d NTU_SET_CNT).toNat * 16777216) d)
    setFlag NTU_STATUS 9 false (setFlag NTU_SHD_CTRL 31 false d)
  else
    let s : Int := match d.ntu.step with | some s => s | none => 0
    let t := (ntuTotal d : Int) + ntuInc d + s * 16777216
    let d := setTotal t (modNtu (fun n => { n with step := none }) d)
    if t < 72057594037927936 then d else modNtu (fun n => { n with wrapDue := true }) d

/-- The wrap of the counter is handled (R446–R448). -/
def ntuWrap (d : Dev) : Dev :=
  if !d.ntu.wrapDue then d
  else
    let d := wr NTU_WRAPCNT (rd d NTU_WRAPCNT + 1) (modNtu (fun n => { n with wrapDue := false }) d)
    if flag d NTU_SHD_CTRL 31 ∧ fld d NTU_SHD_CTRL 15 0 = fld d NTU_WRAPCNT 15 0 then
      setFlag NTU_STATUS 9 false (setFlag NTU_SHD_CTRL 31 false (copyEpoch NTU_SHD_SEC_LO NTU_SHD_SEC_HI NTU_SHD_NS d))
    else
      raise Src.NTU_EPOCH_STALE 0 (setFlag NTU_STATUS 0 true (setFlag NTU_STATUS 9 true d))

/-- A write to `NTU_SHD_CTRL` (R447, R448): true where it gets an error response. One in the tick of a wrap is handled
after the wrap. -/
def ntuShadowCtrl (v : Word) (d : Dev) : Bool × Dev :=
  let d := ntuWrap d
  if bit v 30 ∧ bit v 31 then
    if flag d NTU_STATUS 9 then
      (false, setFlag NTU_STATUS 9 false (setFlag NTU_SHD_CTRL 31 false (setFld NTU_SHD_CTRL 15 0 (bits v 15 0)
        (copyEpoch NTU_SHD_SEC_LO NTU_SHD_SEC_HI NTU_SHD_NS d))))
    else (true, d)
  else (false, wr NTU_SHD_CTRL (v &&& 0x8000FFFF) d)

/-- A write to a shadow epoch register: refused while VALID is 1 (R447). -/
def ntuShadowReg (a : Nat) (v : Word) (d : Dev) : Bool × Dev :=
  if flag d NTU_SHD_CTRL 31 then (true, d) else (false, wr a v d)

/-- The one-shot ARM is consumed (R449). -/
def ntuDisarm (d : Dev) : Dev := setFlag NTU_STEP_AUTH 0 false d

/-- A step or SET is refused with status bit `b`. -/
def ntuRefused (b : Nat) (d : Dev) : Dev := raise Src.NTU_STEP_REFUSED 0 (setFlag NTU_STATUS b true d)

/-- A write of `v` to `NTU_STEP` (R449): true where it gets an error response. -/
def ntuStep (v : Word) (d : Dev) : Bool × Dev :=
  let d := ntuWrap d
  let s := sbits v 31 0
  let armed := flag d NTU_STEP_AUTH 0
  let d := ntuDisarm d
  let old : Int := match d.ntu.step with | some x => x | none => 0
  let t := (ntuTotal d : Int) + ntuInc d + (old + s) * 16777216
  if 1073741824 < s.natAbs then (true, d)
  else if flag d NTU_STATUS 8 then (true, d)
  else if (rd d NTU_STEP_LIMIT).toNat < s.natAbs ∧ armed = false then (false, ntuRefused 1 d)
  else if t < 0 ∨ 72057594037927936 ≤ t then (false, ntuRefused 2 d)
  else (false, modNtu (fun n => { n with step := some (old + s) }) d)

/-- A write to `NTU_STEP_AUTH` (R449). -/
def ntuArm (v : Word) (d : Dev) : Dev := if bit v 0 then setFlag NTU_STEP_AUTH 0 true d else d

/-- A write to `NTU_SET_GO` (R450). -/
def ntuSet (v : Word) (d : Dev) : Dev :=
  let d := ntuWrap d
  let armed := flag d NTU_STEP_AUTH 0
  let d := ntuDisarm d
  if !bit v 0 then d
  else if flag d NTU_STATUS 10 ∧ armed = false then ntuRefused 1 d
  else setFlag NTU_STATUS 10 true (modNtu (fun n => { n with set := true }) d)

/-- A write to `NTU_RATE` (R451, R452): true where it gets an error response. -/
def ntuRate (v : Word) (d : Dev) : Bool × Dev :=
  if flag d NTU_STATUS 8 then (true, d) else (false, wr NTU_RATE v d)

/-- A write to `NTU_HOLD_CLR` ends HOLDOVER (R452); the supervision of Sync starts anew. -/
def ntuHoldClear (v : Word) (d : Dev) : Dev :=
  if bit v 0 then modNtu (fun n => { n with lastSync := now d }) (setFlag NTU_STATUS 8 false d) else d

/-- Does NTU supervise a grandmaster (R452): EN is set and the firmware has written an identity? -/
def ntuSupervised (d : Dev) : Bool :=
  flag d NTU_CTRL 31 && decide (rd d NTU_GM_ID_LO ≠ 0 ∨ rd d NTU_GM_ID_HI ≠ 0)

/-- NTU enters HOLDOVER with status bit `b` (R452). -/
def ntuHoldover (b : Nat) (d : Dev) : Dev :=
  if flag d NTU_STATUS 8 then d
  else raise Src.NTU_HOLDOVER 0 (setFlag NTU_STATUS 8 true (setFlag NTU_STATUS b true d))

/-- No Sync for SYNC_TO (R452). -/
def ntuSyncTimeout (d : Dev) : Dev :=
  if ntuSupervised d && elapsed d d.ntu.lastSync (fld d NTU_CTRL 15 0 * msTicks) then ntuHoldover 6 d else d

/-- A Sync has arrived with the clockIdentity `hi`, `lo` (R452). -/
def ntuSync (hi lo : Nat) (d : Dev) : Dev :=
  if !ntuSupervised d then d
  else if (rd d NTU_GM_ID_HI).toNat = hi ∧ (rd d NTU_GM_ID_LO).toNat = lo then
    modNtu (fun n => { n with lastSync := now d }) d
  else ntuHoldover 5 d

/-- A write to a word of `NTU_GM_ID`: the supervision of Sync starts anew. -/
def ntuGm (a : Nat) (v : Word) (d : Dev) : Dev := modNtu (fun n => { n with lastSync := now d }) (wr a v d)

/-- The counter value, in 2^-24 ns, at tick `t` in the past, at the present rate; negative before the last wrap. -/
def ntuAt (d : Dev) (t : Nat) : Int :=
  let base : Int := if d.ntu.wrapDue then 72057594037927936 else 0
  base + (ntuTotal d : Int) - ((now d : Int) - (t : Int)) * ntuInc d

/-- PTP time of the counter value `c` (R447): seconds, nanoseconds, the fraction in 1/256 ns. -/
def ptpTime (d : Dev) (c : Int) : Nat × Nat × Nat :=
  let ns := c / 16777216
  let all := ((rd d NTU_EP_SEC_LO).toNat + 4294967296 * fld d NTU_EP_SEC_HI 15 0 : Nat) * (1000000000 : Int)
    + (rd d NTU_EP_NS).toNat + ns
  let all := all.toNat
  (all / 1000000000, all % 1000000000, (c % 16777216).toNat / 65536)

/-- The FIFO registers of FIFO `k` (0 RX0, 1 TX0, 2 RX1, 3 TX1) by word. -/
def fifoReg (k w : Nat) : Nat := if k % 2 = 0 then NTU_Pp_RX (k / 2) w else NTU_Pp_TX (k / 2) w

/-- The FIFO registers show the head entry (R455). -/
def showFifo (k : Nat) (d : Dev) : Dev :=
  let f := vget d.ntu.fifos k
  let (w0, w1, w2, w3) := match f.items with | x :: _ => x | [] => ((0, 0, 0, 0) : Word × Word × Word × Word)
  wr (fifoReg k 0) (setBit w0 28 f.lost) (wr (fifoReg k 1) w1 (wr (fifoReg k 2) w2 (wr (fifoReg k 3) w3 d)))

/-- FIFO `k` becomes `f`. -/
def setFifo (k : Nat) (f : TsFifo) (d : Dev) : Dev :=
  showFifo k (modNtu (fun n => { n with fifos := vset n.fifos k f }) d)

/-- A timestamp goes to FIFO `k` of port `p` (R455): the PTP header fields and the time; FB marks a fallback. -/
def fifoPush (p k : Nat) (fb : Bool) (msg dom seq : Nat) (c : Int) (d : Dev) : Dev :=
  let f := vget d.ntu.fifos k
  if 16 ≤ f.items.length then
    raise Src.NTU_TS_LOST p (setFlag NTU_STATUS 4 true (setFifo k { f with lost := true } d))
  else
    let (sec, ns, fr) := ptpTime d c
    let w0 := setBits (setBits (setBits (setBit (setBit (setBit 0 31 true) 30 (flag d NTU_STATUS 9)) 29 fb) 27 24 msg)
      23 16 dom) 15 0 seq
    let w1 := setBits (setBits 0 23 16 fr) 15 0 (sec / 4294967296)
    setFifo k { f with items := f.items ++ [(w0, w1, wordOf sec, wordOf ns)] } d

/-- A read of word 3 pops the entry (R455). -/
def fifoPop (k : Nat) (d : Dev) : Dev :=
  let f := vget d.ntu.fifos k
  match f.items with
  | [] => respData 0 d
  | x :: r => setFifo k { items := r, lost := f.lost && !r.isEmpty } (respData x.2.2.2 d)

/-- A write to `NTU_XS_REQ` (R456). -/
def ntuCross (v : Word) (d : Dev) : Dev :=
  if bit v 0 then
    let d := ntuWrap d
    wr NTU_XS_WRAP (rd d NTU_WRAPCNT) (wr NTU_XS_LTB_HI (wordOf (now d / 4294967296)) (wr NTU_XS_LTB_LO (nowLo d)
      (wr NTU_XS_CNT (rd d NTU_CNT) d)))
  else d

end Sys2Proof.Machine
end

