-- ==== Sys2Proof/Machine/AtbCore.lean ====
section
/-! DEFINITION. The Angle Timebases (R55–R61): interpolation, position updates, angle and speed written by the engine. -/

namespace Sys2Proof.Machine

open Reg

/-- The Angle Timebase of axis `a` beside its registers. -/
def atb (d : Dev) (a : Nat) : Atb := vget d.atb a

/-- The Angle Timebase of axis `a` changed by `f`. -/
def modAtb (a : Nat) (f : Atb → Atb) (d : Dev) : Dev := { d with atb := vset d.atb a (f (atb d a)) }

/-- The 40-bit angle of axis `a` (R57). -/
def angle40 (d : Dev) (a : Nat) : Nat := (atb d a).acc.toNat / 65536

/-- The speed of axis `a` (R17). -/
def axisSpeed (d : Dev) (a : Nat) : Int := sfld d (ATB_AXn_SPEED a) 31 0

/-- SRC of axis `a`: 0 NONE, 1 PFC, 2 CE. -/
def atbSrc (d : Dev) (a : Nat) : Nat := fld d (ATB_AXn_CFG a) 29 28

/-- Clamp to 32 bits signed. -/
def sat32 (i : Int) : Int := clampInt (-2147483648) 2147483647 i

/-- The accumulator of axis `a` becomes `v` modulo 2^56. -/
def setAcc (a : Nat) (v : Int) (d : Dev) : Dev := modAtb a (fun x => { x with acc := BitVec.ofInt 56 v }) d

/-- An update has come: the stale condition ends (R61). -/
def atbFresh (a : Nat) (d : Dev) : Dev := modAtb a (fun x => { x with lastUpdate := now d, staleNow := false }) d

/-- A correction by `e` fraction LSB is checked against JUMP_LIM (R59). -/
def atbJump (a : Nat) (e : Int) (d : Dev) : Dev :=
  let d := wr (ATB_AXn_LASTERR a) (wordOfInt (sat32 e)) d
  if fld d (ATB_AXn_CFG a) 23 8 * 64 < e.natAbs then
    raise Src.ATB_JUMP a (setFlag (ATB_AXn_STATUS a) 1 true d)
  else d

/-- One tick of interpolation of axis `a` (R57), and the angle crossings of the step. -/
def atbTick (a : Nat) (d : Dev) : Dev :=
  let old := angle40 d a
  let d := setAcc a ((atb d a).acc.toNat + axisSpeed d a) d
  let delta := signed 40 (unsigned 40 ((angle40 d a : Int) - old))
  let t0 := signed 16 (old / 16777216)
  let t1 := signed 16 (angle40 d a / 16777216)
  let d := if (0 ≤ delta ∧ t1 < t0) ∨ (delta < 0 ∧ t0 < t1) then setFlag (ATB_AXn_STATUS a) 0 true d else d
  evsAngleStep a (old % 16777216) delta d

/-- Set the fraction of axis `a` to `f`, by the shorter way (R60). -/
def atbApplyPos (a : Nat) (f : Nat) (d : Dev) : Dev :=
  let old := angle40 d a
  let step := signed 24 (unsigned 24 ((f : Int) - (old % 16777216 : Nat)))
  let low := (atb d a).acc.toNat % 65536
  let d := setAcc a (((old : Int) + step) * 65536 + low) d
  let d := atbFresh a d
  let d := atbJump a step d
  evsAngleStep a (old % 16777216) step d

/-- The writes of R60 that take effect at this tick. -/
def atbPending (a : Nat) (d : Dev) : Dev :=
  let x := atb d a
  let d := modAtb a (fun x => { x with pendPos := none, pendSpd := none }) d
  let d := match x.pendPos with | some f => atbApplyPos a f.toNat d | none => d
  match x.pendSpd with
  | some v => atbFresh a (wr (ATB_AXn_SPEED a) v d)
  | none => d

/-- One tick of the LTB, of NTU, of the harts' counters and of every Angle Timebase in use. -/
def ltbTick (d : Dev) : Dev :=
  let d := hartsTick (ntuTick { d with ltb := d.ltb + 1 })
  forEach (axesInUse d) (fun a d => atbPending a (atbTick a d)) d

/-- A position update with angle `theta` measured at tick `tk` arrives now (R59). Only SRC = PFC takes it. -/
def atbUpdate (a : Nat) (theta : Nat) (tk : Int) (d : Dev) : Dev :=
  if atbSrc d a ≠ 1 then d
  else
    let x := atb d a
    let old := angle40 d a
    let d := match x.prev with
      | none => setAcc a ((theta : Int) * 65536) d
      | some (th0, tk0) =>
        let d := if (tk0 : Int) < tk then
            let diff := signed 40 (unsigned 40 ((theta : Int) - th0.toNat))
            let raw := sat32 ((diff * 65536).tdiv (tk - tk0))
            let sp := axisSpeed d a
            wr (ATB_AXn_SPEED a) (wordOfInt (sp + (raw - sp) / ((2 ^ fld d (ATB_AXn_CFG a) 26 24 : Nat) : Int))) d
          else d
        let d := setAcc a ((theta : Int) * 65536 + axisSpeed d a * ((now d : Int) - tk)) d
        atbJump a (signed 40 (unsigned 40 ((angle40 d a : Int) - old))) d
    let d := modAtb a (fun x => { x with prev := some (BitVec.ofNat 40 theta, tk.toNat) }) d
    let d := atbFresh a d
    evsAngleStep a (old % 16777216) (signed 40 (unsigned 40 ((angle40 d a : Int) - old))) d

/-- May the writer set the angle and speed of axis `a` (R60)? With SRC = CE any; in the restart window the engine that
serves the axis. -/
def atbWritable (d : Dev) (a : Nat) (engine : Option Nat) : Bool :=
  decide (atbSrc d a = 2) ||
    (decide (fld d (CEA_AXa_FC_STATUS a) 15 13 = 2) && decide (atbSrc d a = 1) &&
      (match engine with | some n => decide (fld d (CEA_AXa_STATUS a) 2 0 = n) | none => false))

/-- In the restart window the next PFC update is a first update (R60). -/
def atbForget (a : Nat) (d : Dev) : Dev := if atbSrc d a = 1 then modAtb a (fun x => { x with prev := none }) d else d

/-- A write to SETPOS: true where it gets an error response. -/
def atbWritePos (a : Nat) (engine : Option Nat) (v : Word) (d : Dev) : Bool × Dev :=
  if atbWritable d a engine then
    (false, atbForget a (modAtb a (fun x => { x with pendPos := some (v.setWidth 24) }) d))
  else (true, d)

/-- A write to SETSPD: true where it gets an error response. -/
def atbWriteSpd (a : Nat) (engine : Option Nat) (v : Word) (d : Dev) : Bool × Dev :=
  if atbWritable d a engine then
    (false, atbForget a (modAtb a (fun x => { x with pendSpd := some v }) d))
  else (true, d)

/-- No update for TIMEOUT ticks (R61). -/
def atbStaleCheck (a : Nat) (d : Dev) : Dev :=
  let x := atb d a
  if axisInUse d a && decide (atbSrc d a ≠ 0) && !x.staleNow && elapsed d x.lastUpdate (fld d (ATB_AXn_TIMEOUT a) 23 0) then
    raise Src.ATB_STALE a (setFlag (ATB_AXn_STATUS a) 2 true (modAtb a (fun x => { x with staleNow := true }) d))
  else d

end Sys2Proof.Machine
end

