-- ==== Sys2Proof/Machine/PfcCore.lean ====
section
/-! DEFINITION. Position feedback (R86–R111): the Carding filter, incremental, Hall, serial and resolver channels, the
position vote, encoder emulation. -/

namespace Sys2Proof.Machine

open Reg

/-! ## Channels -/

/-- Position channel `n` beside its registers. -/
def posChan (d : Dev) (n : Nat) : PosChan := vget d.pfc.chans n

/-- Position channel `n` changed by `f`. -/
def modChan (n : Nat) (f : PosChan → PosChan) (d : Dev) : Dev :=
  { d with pfc := { d.pfc with chans := vset d.pfc.chans n (f (posChan d n)) } }

/-- MODE of channel `n`: 0 OFF, 1 QUAD, 2 HALL, 3 SSI, 4 BISSC, 5 RESOLVER. -/
def pfMode (d : Dev) (n : Nat) : Nat := fld d (PFC_PFn_CFG n) 3 0

/-- The vote of axis `a`. -/
def vote (d : Dev) (a : Nat) : Vote := vget d.pfc.votes a

/-- The vote of axis `a` changed by `f`. -/
def modVote (a : Nat) (f : Vote → Vote) (d : Dev) : Dev :=
  { d with pfc := { d.pfc with votes := vset d.pfc.votes a (f (vote d a)) } }

/-- POLE_PAIRS of the axis that owns channel `n`; 1 where no axis owns it. -/
def chanPolePairs (d : Dev) (n : Nat) : Nat :=
  match ownerAxis d 0x08 n with
  | some a => Nat.max 1 (polePairs d a)
  | none => 1

/-- The counts per turn of a counting channel: CPR, or six times the pole pairs (R91, R95). -/
def countsPerTurn (d : Dev) (n : Nat) : Nat :=
  if pfMode d n = 2 then 6 * chanPolePairs d n else Nat.max 1 (fld d (PFC_PFn_CPR n) 24 0)

/-! ## The position vote (R106–R108) -/

/-- The channel of source 0 (main) or 1 (second) of axis `a`. -/
def voteChan (d : Dev) (a s : Nat) : Option Nat :=
  if s = 0 then some (vget d.cfg.axes a).pfMain else (vget d.cfg.axes a).pfSecond

/-- Is source `s` of axis `a` excluded (R108)? -/
def voteExcluded (d : Dev) (a s : Nat) : Bool := decide (s < 2) && flag d (PFC_AXa_VOTE_STATUS a) (4 + s)

/-- Is source `s` of axis `a` valid now (R106)? -/
def voteValid (d : Dev) (a s : Nat) : Bool :=
  let recent := match (vget (vote d a).srcs s).at_ with
    | some t => decide (now d ≤ t + fld d (ATB_AXn_TIMEOUT a) 23 0)
    | none => false
  let good := if s = 2 then flag d (PFC_AXa_VOTE_STATUS a) 6
    else match voteChan d a s with | some c => (posChan d c).good | none => false
  recent && good && !voteExcluded d a s

/-- The electrical angle of source `s` brought forward to the present tick (R107). -/
def voteAngle (d : Dev) (a s : Nat) : Int :=
  let x := vget (vote d a).srcs s
  let moved := axisSpeed d a * ((now d : Int) - x.tk)
  let pp : Int := (polePairs d a : Int)
  if s = 2 then ((x.angle : Int) + moved * pp / 65536) % 16777216
  else (((x.angle : Int) + moved / 65536) * pp) % 16777216

/-- The uncertainty of source `s` as an electrical angle (R107). -/
def voteUnc (d : Dev) (a s : Nat) : Nat :=
  match (if s = 2 then none else voteChan d a s) with
  | some c => fld d (PFC_PFn_UNC c) 7 0 * 16777216 * polePairs d a / countsPerTurn d c
  | none => 0

/-- Do sources `s` and `t` agree (R107)? -/
def voteAgree (d : Dev) (a s t : Nat) : Bool :=
  let diff := (signed 24 (unsigned 24 (voteAngle d a s - voteAngle d a t))).natAbs
  decide (diff ≤ fld d (PFC_AXa_VOTE_CFG a) 15 0 * 64 + voteUnc d a s + voteUnc d a t)

/-- The outcome that an evaluation finds (R108). Rows: 0 the normal outcome, 1 one of three agrees with neither other,
2 no two of three agree, 3 two agree, 4 two disagree, 5 one source, 6 none. `named` codes the sources of the row. -/
def voteFind (d : Dev) (a : Nat) : VoteOutcome :=
  let v := (List.range 3).filter (voteValid d a)
  let firstSensor (l : List Nat) : Nat := (l.find? (fun s => decide (s < 2))).getD 2
  match v with
  | [_, _, _] =>
    let e01 := voteAgree d a 0 1
    let e02 := voteAgree d a 0 2
    let e12 := voteAgree d a 1 2
    if (e01 || e02) && (e01 || e12) && (e02 || e12) then ⟨0, 0, 7⟩
    else if e01 then ⟨1, 0, 2⟩
    else if e02 then ⟨1, 0, 1⟩
    else if e12 then ⟨1, 1, 0⟩
    else ⟨2, 7, 7⟩
  | [s, t] =>
    if voteAgree d a s t then
      if (vget d.cfg.axes a).pfSecond.isNone then ⟨0, 0, 7⟩ else ⟨3, firstSensor v, s + 4 * t⟩
    else ⟨4, 7, s + 4 * t⟩
  | [s] => ⟨5, s, s⟩
  | _ => ⟨6, 7, 7⟩

/-- An outcome takes effect (R107, R108). -/
def voteTake (a : Nat) (o : VoteOutcome) (d : Dev) : Dev :=
  let d := modVote a (fun v => { v with inForce := some o, candidate := none, found := 0 }) d
  let d := setFld (PFC_AXa_VOTE_STATUS a) 2 0 o.delivered d
  match o.row with
  | 1 => raise Src.PFC_VOTE_OUT a (if o.named < 2 then setFlag (PFC_AXa_VOTE_STATUS a) (4 + o.named) true d else d)
  | 2 => raise Src.PFC_VOTE_NONE a d
  | 3 => raise Src.PFC_VOTE_SINGLE a d
  | 4 => raise Src.PFC_VOTE_2DIS a d
  | 5 => raise Src.PFC_VOTE_SINGLE a d
  | 6 => raise Src.PFC_VOTE_NONE a d
  | _ => d

/-- One evaluation of the vote (R107): the normal outcome takes effect at once, every other after N in a row. -/
def voteEvaluate (a : Nat) (d : Dev) : Dev :=
  let o := voteFind d a
  let v := vote d a
  if v.inForce = some o then modVote a (fun v => { v with candidate := none, found := 0 }) d
  else if o.row = 0 then voteTake a o d
  else
    let n := if v.candidate = some o then v.found + 1 else 1
    if fld d (PFC_AXa_VOTE_CFG a) 31 24 ≤ n then voteTake a o d
    else modVote a (fun v => { v with candidate := some o, found := n }) d

/-- The mechanical angle closest to the ATB's angle at the tick of the observer's measurement whose electrical angle is
the observer's (R108). -/
def observerAngle (d : Dev) (a : Nat) : Nat :=
  let x := vget (vote d a).srcs 2
  let at_ := (((atb d a).acc.toNat : Int) - axisSpeed d a * ((now d : Int) - x.tk)) / 65536
  let el := (at_ * (polePairs d a : Int)) % 16777216
  let diff := signed 24 (unsigned 24 ((x.angle : Int) - el))
  unsigned 40 (at_ + roundDiv diff (Nat.max 1 (polePairs d a) : Int))

/-- Source `s` of axis `a` has delivered: the vote evaluates, and the delivered source's measurement goes to the ATB. -/
def voteDeliver (a s : Nat) (angle : Nat) (tk : Int) (d : Dev) : Dev :=
  let d := modVote a (fun v => { v with srcs := vset v.srcs s ⟨angle, tk, some (now d)⟩ }) d
  if voteValid d a s then
    let d := voteEvaluate a d
    if fld d (PFC_AXa_VOTE_STATUS a) 2 0 = s then
      atbUpdate a (if s = 2 then observerAngle d a else angle) tk d
    else d
  else d

/-- The axes in use for which channel `n` is a source, with the source number. -/
def chanVotes (d : Dev) (n : Nat) : List (Nat × Nat) :=
  (axesInUse d).filterMap (fun a =>
    if voteChan d a 0 = some n then some (a, 0) else if voteChan d a 1 = some n then some (a, 1) else none)

/-- Channel `n` delivers a measurement with fraction `f` measured at tick `tk` (R87). -/
def chanDeliver (n f : Nat) (tk : Int) (d : Dev) : Dev :=
  let turn := (posChan d n).turn
  let angle := unsigned 40 (turn * 16777216 + f)
  let d := wr (PFC_PFn_POS n) (setBits (setBits 0 31 24 (unsigned 8 turn)) 23 0 f) d
  let d := wr (PFC_PFn_TSTAMP n) (wordOfInt tk) d
  let d := setFlag (PFC_PFn_STATUS n) 17 true d
  let d := modChan n (fun c => { c with
    good := true, last := some (BitVec.ofNat 40 angle, tk.toNat), lastFrac := some f }) d
  (chanVotes d n).foldl (fun d (a, s) => voteDeliver a s angle tk d) d

/-- Channel `n` delivers a fraction for which it keeps the turn count by the shorter way (R87). -/
def chanDeliverAbs (n f : Nat) (tk : Int) (d : Dev) : Dev :=
  let step := match (posChan d n).lastFrac with
    | some g => signed 24 (unsigned 24 ((f : Int) - g))
    | none => 0
  let g := (posChan d n).lastFrac.getD f
  let turns := ((g : Int) + step) / 16777216
  chanDeliver n f tk (modChan n (fun c => { c with turn := c.turn + turns }) d)

/-- Channel `n`'s frame or sample failed a check: it is invalid until its next good one (R100, R106). -/
def chanInvalid (n : Nat) (d : Dev) : Dev :=
  setFlag (PFC_PFn_STATUS n) 17 false (modChan n (fun c => { c with good := false }) d)

/-! ## The Carding filter (R88–R90) -/

/-- MINGAP of channel `n`. -/
def minGap (d : Dev) (n : Nat) : Nat := fld d (PFC_PFn_CARD n) 16 0

/-- The Carding count has changed: CARD and PFC_CARD at the threshold (R90). -/
def cardCheck (n : Nat) (d : Dev) : Dev :=
  let above := decide (fld d (PFC_PFn_CARD n) 31 20 ≤ fld d (PFC_PFn_CARD_CNT n) 15 0)
  let was := (posChan d n).carded
  let d := modChan n (fun c => { c with carded := above }) d
  if above && !was then raise Src.PFC_CARD n (setFlag (PFC_PFn_STATUS n) 0 true d) else d

/-- A refused transition is counted (R90). -/
def cardRefuse (n : Nat) (d : Dev) : Dev := cardCheck n (incFld (PFC_PFn_CARD_CNT n) 15 0 d)

/-- A line of channel `n` changes level at its ball (R88). -/
def lineTransition (n l : Nat) (level : Bool) (d : Dev) : Dev :=
  let x := vget (posChan d n).lines l
  if pfMode d n = 0 ∨ pfMode d n = 5 ∨ x.ball = level then d
  else
    let d := match x.wait with
      | some t => if now d < t + minGap d n then cardRefuse n d else d
      | none => d
    modChan n (fun c => { c with lines := vset c.lines l { x with ball := level, wait := some (now d) } }) d

/-! ## Counting modes (R91–R96) -/

/-- The count of channel `n` moves to position `p` (turns times counts per turn plus count). -/
def setPosition (n : Nat) (p : Int) (d : Dev) : Dev :=
  let cpt : Int := (countsPerTurn d n : Int)
  let d := wr (PFC_PFn_COUNT n) (wordOf (p % cpt).toNat) d
  modChan n (fun c => { c with turn := p / cpt }) d

/-- The position of a counting channel. -/
def position (d : Dev) (n : Nat) : Int := (posChan d n).turn * (countsPerTurn d n : Int) + (fld d (PFC_PFn_COUNT n) 24 0 : Int)

/-- The fraction that a counting channel delivers (R91, R95). -/
def countFraction (d : Dev) (n : Nat) : Nat :=
  let f := fld d (PFC_PFn_COUNT n) 24 0 * 16777216 / countsPerTurn d n
  if pfMode d n = 2 then (f + fld d (PFC_PFn_CPR n) 23 0 / chanPolePairs d n) % 16777216 else f

/-- A skip (R92). -/
def pfcSkip (n : Nat) (d : Dev) : Dev :=
  let d := incFld (PFC_PFn_SKIP_CNT n) 15 0 d
  let u := fld d (PFC_PFn_UNC n) 7 0
  let d := wr (PFC_PFn_UNC n) (wordOf (Nat.min 254 (u + 2))) d
  raise Src.PFC_SKIP n (setFlag (PFC_PFn_STATUS n) 1 true (setFlag (PFC_PFn_STATUS n) 15 true d))

/-- UNC clears. -/
def clearUnc (n : Nat) (d : Dev) : Dev := wr (PFC_PFn_UNC n) 0 (setFlag (PFC_PFn_STATUS n) 15 false d)

/-- Deliver the present count, measured at `tk`, where a count change delivers (R94). -/
def countDeliver (n : Nat) (tk : Int) (d : Dev) : Dev :=
  if flag d (PFC_PFn_CFG n) 29 then d else chanDeliver n (countFraction d n) tk d

/-- The filtered level of line `l`. -/
def lineLevel (d : Dev) (n l : Nat) : Bool := (vget (posChan d n).lines l).level

/-- QUAD: transitions of A (`ca`) and B (`cb`) accepted with tick `t` (R91, R92). -/
def quadStep (n : Nat) (ca cb : Bool) (t : Int) (d : Dev) : Dev :=
  if ca && cb then pfcSkip n d
  else if ca || cb then
    let same := decide (lineLevel d n 0 = lineLevel d n 1)
    let up := (if ca then !same else same) != flag d (PFC_PFn_CFG n) 27
    countDeliver n t (setPosition n (position d n + (if up then 1 else -1)) d)
  else d

/-- QUAD: an index at tick `t` (R93). -/
def quadIndex (n : Nat) (t : Int) (d : Dev) : Dev :=
  if fld d (PFC_PFn_CFG n) 25 24 ≠ 1 then d
  else if flag d (PFC_PFn_CFG n) 26 && !(lineLevel d n 0 && lineLevel d n 1) then d
  else
    let cpr := countsPerTurn d n
    let half := cpr / 2
    let ref := fld d (PFC_PFn_IDX n) 23 0
    let dev : Int := (((fld d (PFC_PFn_COUNT n) 24 0 : Int) - ref + half) % (cpr : Int)) - half
    if flag d (PFC_PFn_STATUS n) 16 && decide (fld d (PFC_PFn_IDX n) 31 24 < dev.natAbs) then
      raise Src.PFC_IDX_ERR n (setFlag (PFC_PFn_STATUS n) 2 true (setFlag (PFC_PFn_STATUS n) 15 true d))
    else
      let d := setFlag (PFC_PFn_STATUS n) 16 true d
      let d := setPosition n (position d n - dev) d
      let d := wr (PFC_PFn_IDX_CORR n) (wordOfInt (-dev)) d
      let d := clearUnc n d
      chanDeliver n (countFraction d n) t d

/-- The Hall sector of the filtered lines (R95); none for states 0b000 and 0b111. -/
def hallSector (d : Dev) (n : Nat) : Option Nat :=
  let s := match lineLevel d n 2, lineLevel d n 1, lineLevel d n 0 with
    | false, false, true => some 0
    | false, true, true => some 1
    | false, true, false => some 2
    | true, true, false => some 3
    | true, false, false => some 4
    | true, false, true => some 5
    | _, _, _ => none
  if flag d (PFC_PFn_CFG n) 27 then s.map (fun k => (6 - k) % 6) else s

/-- HALL: the state has changed at tick `t` (R95, R96). -/
def hallStep (n : Nat) (t : Int) (d : Dev) : Dev :=
  match hallSector d n with
  | none =>
    let d := modChan n (fun c => { c with resync := true }) d
    raise Src.PFC_HALL_STATE n (setFlag (PFC_PFn_STATUS n) 3 true d)
  | some s =>
    match (posChan d n).sector with
    | none => modChan n (fun c => { c with sector := some s, resync := true }) d
    | some s0 =>
      if s = s0 then d
      else if s = (s0 + 1) % 6 ∨ s0 = (s + 1) % 6 then
        let up := decide (s = (s0 + 1) % 6)
        let p := position d n + (if up then 1 else -1)
        let r := (posChan d n).resync
        let off : Int := signedMod6 ((s : Int) - p)
        let d := modChan n (fun c => { c with sector := some s, resync := false }) d
        let d := setPosition n (p + off) d
        let d := if r then clearUnc n (wr (PFC_PFn_IDX_CORR n) (wordOfInt off) d) else d
        countDeliver n t d
      else pfcSkip n (modChan n (fun c => { c with sector := some s, resync := true }) d)
where
  /-- The number nearest to 0 that is `i` modulo 6. -/
  signedMod6 (i : Int) : Int := let m := i % 6; if m ≤ 3 then m else m - 6

/-- Pass on the transitions of channel `n` that appeared at tick `t` (R88). -/
def acceptAt (n t : Nat) (d : Dev) : Dev :=
  let old := posChan d n
  let due (l : Nat) : Bool := decide ((vget old.lines l).wait = some t)
  let changes (l : Nat) : Bool := due l && decide ((vget old.lines l).ball ≠ (vget old.lines l).level)
  let c0 := changes 0
  let c1 := changes 1
  let c2 := changes 2
  let d := modChan n (fun c => { c with lines := c.lines.map (fun x =>
    if x.wait = some t then { x with level := x.ball, wait := none } else x) }) d
  match pfMode d n with
  | 1 =>
    let d := quadStep n c0 c1 t d
    if c2 && lineLevel d n 2 then quadIndex n t d else d
  | 2 => if c0 || c1 || c2 then hallStep n t d else d
  | _ => d

/-- The earliest tick of a transition of channel `n` that has waited for MINGAP. -/
def dueTransition (d : Dev) (n : Nat) : Option Nat :=
  let ts := [0, 1, 2].filterMap (fun l => (vget (posChan d n).lines l).wait)
  let ts := ts.filter (fun t => decide (t + minGap d n ≤ now d))
  ts.foldl (fun acc t => match acc with | none => some t | some u => some (Nat.min t u)) none

/-- Pass on every transition of channel `n` that is due, in time order: at most one per line. -/
def acceptDue (n : Nat) : Nat → Dev → Dev
  | 0, d => d
  | k + 1, d => match dueTransition d n with
    | some t => acceptDue n k (acceptAt n t d)
    | none => d

/-! ## Serial modes (R97–R101) -/

/-- Bit `i` of a frame of `len` bits, bit 0 the first received. -/
def frameBit (frame len i : Nat) : Bool := frame.testBit (len - 1 - i)

/-- The unsigned value of `n` bits of a frame from bit `i`, MSB first. -/
def frameBits (frame len i n : Nat) : Nat := (frame >>> (len - i - n)) % 2 ^ n

/-- The check value over the first `n` bits of a frame (R99). -/
def frameCrc (frame len poly crclen n : Nat) : Nat :=
  (List.range n).foldl (fun r i =>
    let top := (r.testBit (crclen - 1)) != frameBit frame len i
    let s := (r <<< 1) % 2 ^ crclen
    if top then s ^^^ (poly % 2 ^ crclen) else s) 0

/-- The Gray-coded value `v` of `n` bits decoded: bit i is the parity of bits i and above. -/
def grayToBinary (v n : Nat) : Nat :=
  (List.range n).foldl (fun acc k =>
    let i := n - 1 - k
    let above := acc.testBit (i + 1)
    if above != v.testBit i then acc + 2 ^ i else acc) 0

/-- Start a frame on channel `n`, or refuse the request (R101). The first clock edge follows by 4 to 8 ticks (R97), which
the spec leaves open. -/
def serialStart (n : Nat) (d : Dev) : Dev :=
  let c := posChan d n
  if c.frame.isSome || decide (now d < c.idleEnd) then
    setFlag (PFC_PFn_STATUS n) 10 true (incFld (PFC_PFn_REQBUSY_CNT n) 15 0 d)
  else
    let (w, d) := drawFree d
    let tk : Int := ((now d + 4 + w.toNat % 5 : Nat) : Int) + sfld d (PFC_PFn_TIMING n) 15 0
    modChan n (fun c => { c with frame := some tk }) d

/-- A request reaches channel `n` (R101). -/
def pfcRequestNow (n : Nat) (d : Dev) : Dev :=
  match pfMode d n with
  | 1 => chanDeliver n (countFraction d n) (now d : Int) d
  | 2 => chanDeliver n (countFraction d n) (now d : Int) d
  | 3 => serialStart n d
  | 4 => serialStart n d
  | 5 =>
    match (posChan d n).last with
    | some (angle, tk) =>
      (chanVotes d n).foldl (fun d (a, s) => voteDeliver a s angle.toNat (tk : Int) d) d
    | none => d
  | _ => d

/-- The frame in progress of channel `n` has ended: the IDLE time runs. -/
def frameEnd (n : Nat) (d : Dev) : Dev :=
  modChan n (fun c => { c with frame := none, idleEnd := now d + fld d (PFC_PFn_TIMING n) 31 16 }) d

/-- A complete frame of channel `n` is decoded and checked (R98–R100). -/
def frameDecode (n frame delay : Nat) (idleHigh : Bool) (d : Dev) : Dev :=
  match (posChan d n).frame with
  | none => d
  | some tk =>
    let len := fld d (PFC_PFn_SER2 n) 6 0
    let frame := frame % 2 ^ len
    let crclen := fld d (PFC_PFn_SER2 n) 12 8
    let d := frameEnd n d
    let d := wr (PFC_PFn_RAW0 n) (wordOf frame) (wr (PFC_PFn_RAW1 n) (wordOf (frame / 4294967296)) d)
    let late := decide (pfMode d n = 4) && decide (6400 < delay)
    let d := if pfMode d n = 4 ∧ delay ≤ 6400 then wr (PFC_PFn_LINEDLY n) (wordOf delay) d else d
    let chk := frameCrc frame len (fld d (PFC_PFn_SER2 n) 31 16) crclen (len - crclen)
    let chk := if flag d (PFC_PFn_SER2 n) 15 then 2 ^ crclen - 1 - chk else chk
    let crcBad := decide (crclen ≠ 0) && decide (frame % 2 ^ crclen ≠ chk)
    let errBad := flag d (PFC_PFn_SER n) 31
      && decide (frameBit frame len (fld d (PFC_PFn_SER n) 29 24) = flag d (PFC_PFn_SER n) 30)
    let toBad := late || !idleHigh
    let d := if crcBad then raise Src.PFC_SER_CRC n (setFlag (PFC_PFn_STATUS n) 4 true d) else d
    let d := if errBad then raise Src.PFC_SER_ERRBIT n (setFlag (PFC_PFn_STATUS n) 5 true d) else d
    let d := if toBad then raise Src.PFC_SER_TO n (setFlag (PFC_PFn_STATUS n) 6 true d) else d
    if crcBad || errBad || toBad then chanInvalid n d
    else
      let d := if flag d (PFC_PFn_SER n) 23
          && decide (frameBit frame len (fld d (PFC_PFn_SER n) 21 16) = flag d (PFC_PFn_SER n) 22) then
        setFlag (PFC_PFn_STATUS n) 7 true d else d
      let mt := fld d (PFC_PFn_SER n) 13 8
      let stl := fld d (PFC_PFn_SER n) 5 0
      let d := wr (PFC_PFn_MT n) (wordOf (frameBits frame len 0 mt)) d
      let raw := frameBits frame len mt stl
      let v := if flag d (PFC_PFn_SER n) 15 then grayToBinary raw stl else raw
      let f := if stl ≤ 24 then v <<< (24 - stl) else v >>> (stl - 24)
      chanDeliverAbs n f tk d

/-- A serial frame of channel `n` times out (R98, R100). -/
def frameTimeout (n delay : Nat) (d : Dev) : Dev :=
  if pfMode d n = 3 ∨ pfMode d n = 4 then
    if (posChan d n).frame.isSome || decide (now d ≤ (posChan d n).idleEnd) then
      let d := if (posChan d n).frame.isSome then frameEnd n d else d
      let d := if pfMode d n = 4 ∧ delay ≤ 6400 then wr (PFC_PFn_LINEDLY n) (wordOf delay) d else d
      chanInvalid n (raise Src.PFC_SER_TO n (setFlag (PFC_PFn_STATUS n) 6 true d))
    else d
  else d

/-! ## Resolver (R102–R104) -/

/-- The excitation output of channel `n`. -/
def chanExc (d : Dev) (n : Nat) : Exc := vget d.pfc.excs (fld d (PFC_PFn_RES n) 19 18)

/-- Is phase `ph` within PEAK_TOL ticks of the peak phase `pk`, modulo `per`? -/
def nearPhase (per tol : Nat) (ph pk : Int) : Bool :=
  let x := (ph - pk) % (per : Int)
  decide (x ≤ (tol : Int)) || decide ((per : Int) - x ≤ (tol : Int))

/-- A result pair of codes (`s`, `c`) sampled at `ts` reaches resolver channel `n` (R104). -/
def resolverSample (n : Nat) (s c : Int) (ts : Int) (d : Dev) : Dev :=
  let e := chanExc d n
  let per := Nat.max 1 e.per
  let ph := (ts - (e.t0 : Int)) % (per : Int)
  let dly : Int := (fld d (PFC_PFn_RES n) 15 0 : Int)
  let tol := fld d (PFC_PFn_RES n) 31 24
  let pos := nearPhase per tol ph (per / 4 + dly)
  let neg := nearPhase per tol ph ((3 * (per / 4) : Nat) + dly)
  if !pos && !neg then chanInvalid n (raise Src.PFC_RES_TIMING n (setFlag (PFC_PFn_STATUS n) 9 true d))
  else
    let s := if pos then s else -s
    let c := if pos then c else -c
    let m := nearestSqrt (s * s + c * c).toNat
    let d := wr (PFC_PFn_RESAMP n) (wordOf (m % 65536)) d
    if m < fld d (PFC_PFn_RESLIM n) 15 0 ∨ fld d (PFC_PFn_RESLIM n) 31 16 < m then
      chanInvalid n (raise Src.PFC_RES_AMP n (setFlag (PFC_PFn_STATUS n) 8 true d))
    else
      let th := (turnFraction s c).toNat * 256
      let k := Nat.max 1 (fld d (PFC_PFn_RES n) 23 20)
      let x := posChan d n
      let step := match x.lastRes with | some p => signed 24 (unsigned 24 ((th : Int) - p)) | none => 0
      let wraps := ((x.lastRes.getD th : Int) + step) / 16777216
      let g := (((x.seg : Int) + wraps) % (k : Int)).toNat
      let d := modChan n (fun y => { y with seg := g, lastRes := some th }) d
      chanDeliverAbs n ((g * 16777216 + th) / k) ts d

/-- MODE of channel `n` has been changed (R86): the channel starts afresh, and the ATB takes the next update as a first
one. -/
def modeEntered (n : Nat) (d : Dev) : Dev :=
  let lines := (posChan d n).lines.map (fun x => { x with level := x.ball, wait := none })
  let d := modChan n (fun _ => { lines }) d
  let d := wr (PFC_PFn_COUNT n) 0 (wr (PFC_PFn_UNC n) 0 d)
  let d := setFlag (PFC_PFn_STATUS n) 15 false (setFlag (PFC_PFn_STATUS n) 16 false
    (setFlag (PFC_PFn_STATUS n) 17 false d))
  let d := modChan n (fun c => { c with sector := hallSector d n }) d
  (chanVotes d n).foldl (fun d (a, _) => modAtb a (fun x => { x with prev := none }) d) d

/-! ## Observer writes (R106) -/

/-- The tick that an observer tick, LTB bits 31:0, means: at or before the present one. -/
def obsTick (d : Dev) (t : Word) : Int := (now d : Int) - ((nowLo d - t).toNat : Int)

/-- A write of `PFC_AXa_OBS` (R106). -/
def obsWrite (a : Nat) (v : Word) (d : Dev) : Dev :=
  let d := setFlag (PFC_AXa_VOTE_STATUS a) 6 (bit v 31) d
  let t := obsTick d (vote d a).obsT
  if bit v 31 then voteDeliver a 2 (bits v 23 0) t d
  else modVote a (fun x => { x with srcs := vset x.srcs 2 ⟨bits v 23 0, t, some (now d)⟩ }) d

/-- A write of `PFC_AXa_OBS_T`. -/
def obsTWrite (a : Nat) (v : Word) (d : Dev) : Dev := modVote a (fun x => { x with obsT := v }) d

/-- Source `s` of axis `a` has delivered nothing within the timeout (R106). When no valid source is left, the vote
evaluates here. -/
def voteTimeout (a s : Nat) (d : Dev) : Dev :=
  match (vget (vote d a).srcs s).at_ with
  | none => d
  | some t =>
    if axisInUse d a && decide (t + fld d (ATB_AXn_TIMEOUT a) 23 0 < now d) then
      let d := if s = 2 then setFlag (PFC_AXa_VOTE_STATUS a) 6 false d
        else match voteChan d a s with
          | some c => setFlag (PFC_PFn_STATUS c) 17 false d
          | none => d
      if (List.range 3).any (voteValid d a) then d else voteEvaluate a d
    else d

/-- Readmit the sources of a mask: each is valid again from its next delivery (R109). -/
def voteReadmit (a : Nat) (v : Word) (d : Dev) : Dev :=
  forEach [0, 1] (fun s d =>
    if bit v s && voteExcluded d a s then
      modVote a (fun x => { x with srcs := vset x.srcs s { vget x.srcs s with at_ := none } })
        (setFlag (PFC_AXa_VOTE_STATUS a) (4 + s) false d)
    else d) d

/-! ## Encoder emulation (R110, R111) -/

/-- Emulation output `n` beside its registers. -/
def eem (d : Dev) (n : Nat) : Eem := vget d.pfc.eems n

/-- Emulation output `n` changed by `f`. -/
def modEem (n : Nat) (f : Eem → Eem) (d : Dev) : Dev :=
  { d with pfc := { d.pfc with eems := vset d.pfc.eems n (f (eem d n)) } }

/-- Counts per turn of output `n`. -/
def eemCounts (d : Dev) (n : Nat) : Nat := Nat.max 4 (4 * fld d (EEM_EMn_LINES n) 16 0)

/-- The target position of output `n` (R110). -/
def eemTarget (d : Dev) (n : Nat) : Int :=
  let a := fld d (EEM_EMn_CFG n) 1 0
  let c := eemCounts d n
  signed 16 (angle40 d a / 16777216) * (c : Int) + ((angle40 d a % 16777216 * c / 16777216 : Nat) : Int)

/-- Put the levels of A, B and Z where the output count has them (R110). -/
def eemLevels (n : Nat) (d : Dev) : Dev :=
  let p := ((eem d n).out % (eemCounts d n : Int)).toNat
  let q := p % 4
  let a := decide (q = 1 ∨ q = 2)
  let b := decide (q = 2 ∨ q = 3)
  let inv := flag d (EEM_EMn_CFG n) 2
  let z := decide (p = 0) != flag d (EEM_EMn_CFG n) 3
  modEem n (fun x => { x with a := if inv then b else a, b := if inv then a else b, z }) d

/-- The lag of output `n`, by the shorter way (R111). -/
def eemLag (d : Dev) (n : Nat) : Int :=
  let c : Int := (eemCounts d n : Int)
  let m := (eemTarget d n - (eem d n).out) % c
  if 2 * m < c then m else m - c

/-- The lag is shown and judged; OVR stops the output (R111). -/
def eemJudge (n : Nat) (d : Dev) : Dev :=
  let lag := eemLag d n
  let d := wr (EEM_EMn_LAG n) (wordOfInt lag) d
  let above := decide (fld d (EEM_EMn_LAGTHR n) 23 0 < lag.natAbs)
  let was := (eem d n).lagging
  let d := modEem n (fun x => { x with lagging := above }) d
  let d := whenD above (setFlag (EEM_EMn_STATUS n) 0 true) d
  let d := if above && !was then raise Src.EEM_LAG n d else d
  if eemCounts d n ≤ 2 * lag.natAbs then
    raise Src.EEM_OVR n (setFlag (EEM_EMn_STATUS n) 1 true (setFlag (EEM_EMn_STATUS n) 2 false d))
  else d

/-- One step of output `n` towards its target, GAP ticks after its last edge (R110). -/
def eemStep (n : Nat) (d : Dev) : Dev :=
  if flag d (EEM_EMn_STATUS n) 2 && elapsed d (eem d n).lastEdge (fld d (EEM_EMn_CFG n) 23 8) then
    let d := eemJudge n d
    let lag := eemLag d n
    if flag d (EEM_EMn_STATUS n) 2 && decide (lag ≠ 0) then
      eemLevels n (modEem n (fun x => { x with out := x.out + (if 0 < lag then 1 else -1), lastEdge := now d }) d)
    else d
  else d

/-- EN has been written 1 on output `n` (R110, R111), or 0. -/
def eemEnabled (n : Nat) (d : Dev) : Dev :=
  if flag d (EEM_EMn_CFG n) 31 then
    if flag d (EEM_EMn_STATUS n) 2 then d
    else
      let d := modEem n (fun x => { x with out := eemTarget d n, lagging := false }) d
      eemLevels n (setFlag (EEM_EMn_STATUS n) 2 true d)
  else setFlag (EEM_EMn_STATUS n) 2 false d

end Sys2Proof.Machine
end

