-- ==== Sys2Proof/Machine/GlkPort.lean ====
section
/-! DEFINITION. Operations over one Shaore Link port that several units share: who its switch is, mirrors, ownership
(R232, R261, R277), and the acceptance of HALT, HOLD_OFF and HOLD_ON (R261, R262, R292, R307). -/

namespace Sys2Proof.Machine

open Reg

/-! ## Ports, legs, mirrors -/

/-- Port `p`'s state beside its registers. -/
def port (d : Dev) (p : Nat) : Port := vget d.glk.ports p

/-- Port `p` changed by `f`. -/
def modPort (p : Nat) (f : Port → Port) (d : Dev) : Dev :=
  { d with glk := { d.glk with ports := vset d.glk.ports p (f (port d p)) } }

/-- Is port `p` in use (R281)? -/
def portEn (d : Dev) (p : Nat) : Bool := flag d (GLK_GLnn_CFG p) 31

/-- PSTATE: 0 OFF, 1 TRAIN, 2 SYNC, 3 PREP, 4 READY (R276, R282). -/
def pstate (d : Dev) (p : Nat) : Nat := fld d (GLK_GLnn_STATE p) 18 16

/-- Is port `p` READY? -/
def portReady (d : Dev) (p : Nat) : Bool := decide (pstate d p = 4)

/-- Does the safe-state path own port `p` (R232)? -/
def safeOwned (d : Dev) (p : Nat) : Bool := flag d (GLK_GLnn_STATE p) 12

/-- The ports that mirror port `p` (R277). -/
def mirrorsOf (d : Dev) (p : Nat) : List Nat :=
  idxWhere 64 (fun q => portEn d q && flag d (GLK_GLnn_CFG q) 23 && decide (fld d (GLK_GLnn_CFG q) 21 16 = p))

/-- The port and its mirrors. -/
def withMirrors (d : Dev) (p : Nat) : List Nat := p :: mirrorsOf d p

/-- The port whose switch port `p` serves: the source of a mirror, else `p` itself (R277). -/
def sourcePort (d : Dev) (p : Nat) : Nat :=
  if flag d (GLK_GLnn_CFG p) 23 then fld d (GLK_GLnn_CFG p) 21 16 else p

/-- A single-switch channel (R212, R239): CH0–CH3 and DS0–DS3. -/
def singleSwitch (d : Dev) (l : Nat) : Bool := decide (24 ≤ l) || decide (fld d (PWM_PLnn_CFG l) 21 20 = 1)

/-- The high-side (or only) port of leg `l`. -/
def highPort (d : Dev) (l : Nat) : Nat := fld d (PWM_PLnn_PORT l) 13 8

/-- The low-side port of leg `l`. -/
def lowPort (d : Dev) (l : Nat) : Nat := fld d (PWM_PLnn_PORT l) 5 0

/-- The ports of leg `l`'s own switches. -/
def legPorts (d : Dev) (l : Nat) : List Nat := if singleSwitch d l then [highPort d l] else [highPort d l, lowPort d l]

/-- Is leg `l` assigned to an owner? -/
def legOwned (d : Dev) (l : Nat) : Bool := decide (ownerOf d 0x02 l ≠ 0)

/-- The leg channel and switch (true = high side) that port `p`, or the port it mirrors, serves. -/
def switchOfPort (d : Dev) (p : Nat) : Option (Nat × Bool) :=
  let s := sourcePort d p
  (List.range 32).findSome? (fun l =>
    if legOwned d l then
      if highPort d l = s then some (l, true)
      else if !singleSwitch d l && decide (lowPort d l = s) then some (l, false)
      else none
    else none)

/-- The ports of the partner switch of the leg that port `p` serves, mirrors included (R262, R265). -/
def partnerPorts (d : Dev) (p : Nat) : List Nat :=
  match switchOfPort d p with
  | some (l, high) =>
    if singleSwitch d l then [] else withMirrors d (if high then lowPort d l else highPort d l)
  | none => []

/-- The ports, mirrors included, of one bank of the legs in `ls` (R284). -/
def bankPorts (d : Dev) (ls : List Nat) (high : Bool) : List Nat :=
  ls.flatMap (fun l => withMirrors d (if high then highPort d l else lowPort d l))

/-- The ports of the phase legs of axis `a` and their mirrors (R284). -/
def axisPorts (d : Dev) (a : Nat) : List Nat :=
  bankPorts d (phaseLegs d a) true ++ bankPorts d (phaseLegs d a) false

/-- The axis one of whose phase legs port `p` serves. -/
def axisOfPort (d : Dev) (p : Nat) : Option Nat :=
  match switchOfPort d p with
  | some (l, _) => if l < 24 then ownerAxis d 0x02 l else none
  | none => none

/-- Every port of every phase leg (R329). -/
def phasePorts (d : Dev) : List Nat := idxWhere 64 (fun p => (axisOfPort d p).isSome)

/-! ## Leg state -/

/-- STATE of leg `l`: 0 IDLE, 1 RUN, 2 HIZ, 3 LATCHED, 4 TRIPPED (R240). -/
def legState (d : Dev) (l : Nat) : Nat := fld d (PWM_PLnn_STATUS l) 2 0

/-- Put leg `l` into a STATE. -/
def setLegState (l st : Nat) (d : Dev) : Dev := setFld (PWM_PLnn_STATUS l) 2 0 st d

/-- The leg channel `l` beside its registers. -/
def leg (d : Dev) (l : Nat) : Leg := vget d.pwm.legs l

/-- Leg `l` changed by `f`. -/
def modLeg (l : Nat) (f : Leg → Leg) (d : Dev) : Dev :=
  { d with pwm := { d.pwm with legs := vset d.pwm.legs l (f (leg d l)) } }

/-! ## Ownership and safe-state commands -/

/-- Is Lockout in force (R329)? -/
def lockout (d : Dev) : Bool := decide (fld d SIS_STATE 2 0 = 2)

/-- The STO record's AXES mask (R334). -/
def stoAxes (d : Dev) : Nat := byteAt d.sis.safety (0x290 + 10)

/-- Is STO in force for axis `a` (R307)? -/
def stoInForce (d : Dev) (a : Nat) : Bool := flag d SIS_STO 4 && (stoAxes d).testBit a

/-- Is HOLD_ON shut out for port `p` because STO or Lockout is in force for its axis (R307)? -/
def holdOnBarred (d : Dev) (p : Nat) : Bool :=
  match axisOfPort d p with
  | some a => lockout d || stoInForce d a
  | none => false

/-- Ownership of port `p` moves to the safe-state path (R232): GLK discards every PWM command queued for the port and
the leg enters HIZ. -/
def takePort (p : Nat) (d : Dev) : Dev :=
  let d := setFlag (GLK_GLnn_STATE p) 12 true d
  let d := modPort p (fun x => { x with edges := [], offNowDue := false }) d
  match switchOfPort d p with
  | some (l, _) => whenD (flag d (PWM_PLnn_CFG l) 31) (setLegState l 2) d
  | none => d

/-- The port has accepted a command of kind `c` now: a release that is pending is cancelled, unless the command is one
that PSP issued in the tick of a standing release (R354). -/
def noteAccept (p : Nat) (c : SafeCmd) (d : Dev) : Dev :=
  modPort p (fun x => { x with
    released := if 0 < x.keepRelease then x.released else none,
    keepRelease := x.keepRelease - 1, lastAccept := some (c, now d) }) d

/-- Since when port `p` has been commanded off, if it is (R262): by Halt, OFF_NOW or HOLD_OFF, or by an EDGE_OFF whose
time has passed. -/
def commandedOffSince (d : Dev) (p : Nat) : Option Nat :=
  let x := port d p
  let past := x.flown.filter (fun e => decide (e.time ≤ 8 * now d))
  match past.getLast? with
  | some e =>
    if e.on then none
    else if past.any (fun e => e.on) ∨ x.offSince.isNone then some ((e.time + 7) / 8)
    else x.offSince
  | none => x.offSince

/-- The tick since which port `p` is off once it is commanded off now. -/
def offFrom (d : Dev) (p : Nat) : Nat := (commandedOffSince d p).getD (now d)

/-- GLK accepts HALT for port `p` (R261): the port is taken and Halt is due. -/
def acceptHalt (p : Nat) (d : Dev) : Dev :=
  let d := noteAccept p .halt (takePort p d)
  let d := modPort p (fun x => { x with
    haltDue := true, safeDue := [], holdOn := none, holdOnAt := none, flown := [], offSince := some (offFrom d p) }) d
  setFlag (GLK_GLnn_STATE p) 9 false d

/-- GLK accepts HOLD_OFF for port `p` (R261): SAFE_PREF APPLY, LEVEL 0 is due. -/
def acceptHoldOff (p : Nat) (d : Dev) : Dev :=
  let d := noteAccept p .holdOff (takePort p d)
  let d := modPort p (fun x => { x with
    safeDue := [.prefApply false], holdOn := none, holdOnAt := none, flown := [], offSince := some (offFrom d p) }) d
  setFlag (GLK_GLnn_STATE p) 9 false d

/-- Has the partner of port `p` been commanded off for `GLK_SAFE_DT` ticks (R262)? True where there is no partner. -/
def partnerOffLongEnough (d : Dev) (p : Nat) : Bool :=
  (partnerPorts d p).all (fun q =>
    match commandedOffSince d q with
    | some t => decide (t + fld d GLK_SAFE_DT 12 0 ≤ now d)
    | none => false)

/-- Send a waiting HOLD_ON of port `p` where R262 allows it now. -/
def sendHoldOn (p : Nat) (d : Dev) : Dev :=
  if (port d p).holdOn.isSome && partnerOffLongEnough d p then
    let d := modPort p (fun x => { x with holdOn := none, offSince := none, safeDue := [.prefApply true] }) d
    setFlag (GLK_GLnn_STATE p) 9 false d
  else d

/-- A HOLD_ON refused under R262: the port is kept off, SAFE_CONFLICT is set and GLK_SAFE_CONFLICT raised. -/
def conflictHoldOn (p : Nat) (d : Dev) : Dev :=
  let d := acceptHoldOff p d
  raise Src.GLK_SAFE_CONFLICT p (setFlag (GLK_GLnn_STATUS p) 6 true d)

/-- HOLD_ON enters into force for port `p`: it waits until R262 allows its word. -/
def startHoldOn (p : Nat) (d : Dev) : Dev :=
  let d := noteAccept p .holdOn (takePort p d)
  let d := modPort p (fun x => { x with holdOn := some (now d), holdOnAt := some (now d), safeDue := [] }) d
  sendHoldOn p (setFlag (GLK_GLnn_STATE p) 9 true d)

/-- GLK accepts HOLD_ON for port `p` (R261), subject to R262 and R307. Of two HOLD_ONs for one leg the later is refused;
in one tick the high-side one counts as the later. -/
def acceptHoldOn (p : Nat) (d : Dev) : Dev :=
  if holdOnBarred d p then d
  else
    let rivals := (partnerPorts d p).filter (fun q => (port d q).holdOnAt.isSome)
    let high := match switchOfPort d p with | some (_, h) => h | none => false
    if rivals.isEmpty then startHoldOn p d
    else if !high && rivals.all (fun q => decide ((port d q).holdOnAt = some (now d))) then
      startHoldOn p (forEach rivals conflictHoldOn d)
    else conflictHoldOn p d

/-! ## Orders -/

/-- SIS or PSP issues command `c` for each port of `ps` to GLK. -/
def issue (o : SafeOrigin) (c : SafeCmd) (ps : List Nat) (d : Dev) : Dev :=
  { d with glk := { d.glk with orders := d.glk.orders ++ ps.map (fun p => ⟨o, c, p⟩) } }

/-- Withdraw the orders that `origin` has issued for the ports of `ps` and GLK has not accepted. -/
def withdraw (o : SafeOrigin) (ps : List Nat) (d : Dev) : Dev :=
  { d with glk := { d.glk with orders := d.glk.orders.filter (fun x => !(decide (x.origin = o) && ps.contains x.port)) } }

/-- Take the first matching order off the list; the device unchanged where there is none. -/
def takeOrder (o : SafeOrigin) (c : SafeCmd) (p : Nat) (d : Dev) : Dev :=
  { d with glk := { d.glk with orders := d.glk.orders.erase ⟨o, c, p⟩ } }

/-! ## What PWM hands to a port -/

/-- PWM hands OFF_NOW to port `p` and its mirrors (R229): queued edges are discarded. Nothing while the safe-state path
owns the port (R232). -/
def pushOffNow (p : Nat) (d : Dev) : Dev :=
  forEach (withMirrors d p) (fun q d =>
    if safeOwned d q then d
    else modPort q (fun x => { x with offNowDue := true, edges := [], flown := [], offSince := some (offFrom d q) }) d) d

/-- Insert an edge by time. -/
def insertEdge (e : QueuedEdge) : List QueuedEdge → List QueuedEdge
  | [] => [e]
  | x :: r => if e.time < x.time then e :: x :: r else x :: insertEdge e r

/-- PWM hands a timed edge to port `p` and its mirrors (R258). -/
def pushEdge (p : Nat) (on : Bool) (time : Nat) (d : Dev) : Dev :=
  forEach (withMirrors d p) (fun q d =>
    if safeOwned d q then d else modPort q (fun x => { x with edges := insertEdge ⟨on, time⟩ x.edges }) d) d

end Sys2Proof.Machine
end

