-- ==== Sys2Proof/Machine/SisBase.lean ====
section
/-! DEFINITION. What SIS does that other units call for: the SAFETY records it reads (R333, R334), contactor outputs
(R316), emergency open (R318), the fall of drive enable (R320), SIS causes (R292). -/

namespace Sys2Proof.Machine

open Reg

/-! ## Records of the SAFETY section (R333, R334) -/

/-- The byte at offset `o` of the SAFETY section that SIS holds. -/
def saf8 (d : Dev) (o : Nat) : Nat := byteAt d.sis.safety o

/-- The unsigned 16-bit field at offset `o`. -/
def saf16 (d : Dev) (o : Nat) : Nat := le16 d.sis.safety o

/-- The 32-bit field at offset `o`. -/
def saf32 (d : Dev) (o : Nat) : Nat := le32 d.sis.safety o

/-- ROLE of CT `k`: 0 unused, 1 MAIN_POS, 2 MAIN_NEG, 3 PRECHARGE, 4 SPARE (R316). -/
def ctRole (d : Dev) (k : Nat) : Nat := saf8 d (0x2A0 + 8 * k)

/-- The link of CT `k`. -/
def ctLink (d : Dev) (k : Nat) : Nat := saf8 d (0x2A0 + 8 * k + 1)

/-- Does a high CFB mean closed for CT `k`? -/
def ctFbPol (d : Dev) (k : Nat) : Bool := (saf8 d (0x2A0 + 8 * k + 2)).testBit 0

/-- TFB of CT `k`, ticks. -/
def ctTfb (d : Dev) (k : Nat) : Nat := saf16 d (0x2A0 + 8 * k + 4) * msTicks

/-- The contactors that link `l` uses. -/
def linkCts (d : Dev) (l : Nat) : List Nat := idxWhere 6 (fun k => decide (ctRole d k ≠ 0 ∧ ctLink d k = l))

/-- The contactors of link `l` with a given ROLE. -/
def ctsOf (d : Dev) (l role : Nat) : List Nat := (linkCts d l).filter (fun k => decide (ctRole d k = role))

/-- Contactor `k`. -/
def contactor (d : Dev) (k : Nat) : Contactor := vget d.sis.contactors k

/-- Contactor `k` changed by `f`. -/
def modCt (k : Nat) (f : Contactor → Contactor) (d : Dev) : Dev :=
  { d with sis := { d.sis with contactors := vset d.sis.contactors k (f (contactor d k)) } }

/-- SIS's view of link `l`. -/
def sisLink (d : Dev) (l : Nat) : SisLink := vget d.sis.links l

/-- SIS's link `l` changed by `f`. -/
def modSisLink (l : Nat) (f : SisLink → SisLink) (d : Dev) : Dev :=
  { d with sis := { d.sis with links := vset d.sis.links l (f (sisLink d l)) } }

/-- The state of link `l` in `SIS_LINK`: 0 OPEN, 1 PRECHARGING, 2 READY, 3 OPENING, 4 RETRY_WAIT (R335). -/
def linkState (d : Dev) (l : Nat) : Nat := fld d SIS_LINK (4 * l + 3) (4 * l)

/-- Set the state of link `l`. -/
def setLinkState (l st : Nat) (d : Dev) : Dev := setFld SIS_LINK (4 * l + 3) (4 * l) st d

/-- The axes in use on link `l` (R302). -/
def linkAxes (d : Dev) (l : Nat) : List Nat :=
  (axesInUse d).filter (fun a => decide (fld d (PSP_AXa_SEL a) 13 12 = l))

/-- The link of axis `a`. -/
def axisLink (d : Dev) (a : Nat) : Nat := fld d (PSP_AXa_SEL a) 13 12

/-! ## Contactor outputs -/

/-- Command contactor `k` closed or open (R316). A feedback that already agrees confirms the command. -/
def commandCt (close : Bool) (k : Nat) (d : Dev) : Dev :=
  let c := contactor d k
  if c.close = close then d
  else
    let d := modCt k (fun c => { c with close, cmdTick := now d, settled := decide (c.feedback = close),
                                        ever := c.ever || close }) d
    setFlag SIS_CT k close d

/-- Do all contactors in `ks` read the feedback `closed`, confirmed? -/
def ctsConfirmed (d : Dev) (ks : List Nat) (closed : Bool) : Bool :=
  ks.all (fun k => decide ((contactor d k).feedback = closed) && decide ((contactor d k).close = closed))

/-! ## Drive enable -/

/-- Signal 0x0089 of axis `a`: drive enable granted (R319, R336). -/
def granted (d : Dev) (a : Nat) : Bool := flag d SIS_STATE (8 + a)

/-- Has any axis drive enable? -/
def anyGranted (d : Dev) : Bool := decide (fld d SIS_STATE 11 8 ≠ 0)

/-- Drive enable of axis `a` falls (R320): signal 0x0089 becomes 0, DEGRADED clears (R208), and a flying restart ends
(R203). A RELEASE that GLK has not accepted is withdrawn. -/
def dropEnable (a : Nat) (d : Dev) : Dev :=
  if granted d a then
    let d := setFld (CEA_AXa_FC_STATUS a) 17 13 0 (setFlag SIS_STATE (8 + a) false d)
    let x := vget d.cea.axes a
    let y := vget d.psp.axes a
    let ps := axisPorts d a
    { d with
      glk := { d.glk with orders := d.glk.orders.filter (fun o => !(decide (o.cmd = .release) && ps.contains o.port)) },
      cea := { d.cea with axes := vset d.cea.axes a { x with frUsed := false } },
      psp := { d.psp with axes := vset d.psp.axes a { y with continuation := none } } }
  else d

/-- An emergency open of link `l` (R318): every contactor of the link is commanded open in this tick, the drive enable
of its axes falls (R320), and a discharge follows once the main feedbacks read open. -/
def emergencyOpen (l : Nat) (d : Dev) : Dev :=
  let d := forEach (linkCts d l) (commandCt false) d
  let d := forEach (linkAxes d l) dropEnable d
  let d := modSisLink l (fun x => { x with seq := .openAll, wantDischarge := true }) d
  setLinkState l (if ctsConfirmed d (linkCts d l) false then 0 else 3) d

/-! ## SIS causes -/

/-- A self-fault of FCR stands (R349). -/
def selfFault (d : Dev) : Bool := decide (rd d FCR_SELF_STATUS ≠ 0)

/-- A SIS cause is present for axis `a` (R290, R292): STO demanded or in force for it, Lockout, a trip of its torque
monitor that has not been cleared, an FCR self-fault, or a key test that runs (R498). -/
def sisCause (d : Dev) (a : Nat) : Bool :=
  lockout d || selfFault d || d.bst.key.isSome || ((flag d SIS_STO 2 || flag d SIS_STO 4) && (stoAxes d).testBit a)
    || (vget d.sis.monitors a).tripped

end Sys2Proof.Machine
end

