-- ==== Sys2Proof/Machine/PwmPort.lean ====
section
/-! DEFINITION. Delivery of values to the PWM shadow registers (R221–R223), which initiators, engine batches, commits and
the PSP chopper sequence share. -/

namespace Sys2Proof.Machine

open Reg

/-- Carrier group `g` beside its registers. -/
def group (d : Dev) (g : Nat) : Group := vget d.pwm.groups g

/-- Group `g` changed by `f`. -/
def modGroup (g : Nat) (f : Group → Group) (d : Dev) : Dev :=
  { d with pwm := { d.pwm with groups := vset d.pwm.groups g (f (group d g)) } }

/-- The carrier group of leg `l` (R239). -/
def legGroup (d : Dev) (l : Nat) : Nat := fld d (PWM_PLnn_CFG l) 30 28

/-- Is leg `l` enabled? -/
def legEn (d : Dev) (l : Nat) : Bool := flag d (PWM_PLnn_CFG l) 31

/-- The enabled legs of group `g`, ascending. -/
def groupLegs (d : Dev) (g : Nat) : List Nat := idxWhere 32 (fun l => legEn d l && decide (legGroup d l = g))

/-- Does the present tick lie in the lock window of group `g`'s next Load Instant L, from L − 16 to L − 1 (R220)? -/
def inLock (d : Dev) (g : Nat) : Bool :=
  let x := group d g
  x.running && decide (x.nextLi ≤ now d + 16) && decide (now d < x.nextLi)

/-- A value for leg `l` arrived in the lock window (R221). -/
def lateLeg (l : Nat) (d : Dev) : Dev :=
  if inLock d (legGroup d l) then raise Src.PWM_LATE l (setFlag (PWM_PLnn_STATUS l) 6 true d) else d

/-- A value for group `g` arrived in the lock window (R221). -/
def lateGroup (g : Nat) (d : Dev) : Dev :=
  if inLock d g then raise Src.PWM_LATE g (setFlag (PWM_CGg_STATUS g) 4 true d) else d

/-- A DUTY or CMP value of leg `l` has been written on the authority of tick `basis` (R223, R233). -/
def noteLegValue (l basis : Nat) (d : Dev) : Dev :=
  let d := modLeg l (fun x => { x with fresh := true, valueBasis := basis }) d
  modGroup (legGroup d l) (fun x => { x with
    pending := x.pending.map (fun q => { q with written := q.written ||| BitVec.ofNat 32 (2 ^ l) }) }) d

/-- Put a DUTY or CMP value into the shadow register at `a` of leg `l`. -/
def shadowLegValue (l a : Nat) (v : Word) (basis : Nat) (d : Dev) : Dev := noteLegValue l basis (wr a v d)

/-- Put a PERIOD into the shadow of group `g` (R223): with PAIRED in force it is held pending. -/
def shadowPeriod (g : Nat) (v : Word) (d : Dev) : Dev :=
  let d := wr (PWM_CGg_PERIOD g) v d
  if (group d g).paired then
    setFlag (PWM_CGg_STATUS g) 1 true
      (modGroup g (fun x => { x with pending := some ⟨bits v 19 0, 0, 0⟩ }) d)
  else modGroup g (fun x => { x with freshPeriod := true }) d

/-- The chopper channel of the PSP sequence is commanded: PSP writes its DUTY as any writer does (R297, R221). -/
def chopperDuty (l : Nat) (duty : Nat) (d : Dev) : Dev :=
  lateLeg l (shadowLegValue l (PWM_PLnn_DUTY l) (wordOf duty) (now d) d)

end Sys2Proof.Machine
end

