-- ==== Sys2Proof/Machine/Psp.lean ====
section
/-! DEFINITION. Power-stage protection (R284–R305): the safe states of the axes, switch identification, DC-link
overvoltage, discharge. PSP issues commands to GLK; their acceptance is a step of its own (R300). -/

namespace Sys2Proof.Machine

open Reg

/-! ## Safe states -/

/-- PSP's axis `a` beside its registers. -/
def pspAxis (d : Dev) (a : Nat) : PspAxis := vget d.psp.axes a

/-- PSP's axis `a` changed by `f`. -/
def modPspAxis (a : Nat) (f : PspAxis → PspAxis) (d : Dev) : Dev :=
  { d with psp := { d.psp with axes := vset d.psp.axes a (f (pspAxis d a)) } }

/-- PSP's link `l` beside its registers. -/
def pspLink (d : Dev) (l : Nat) : PspLink := vget d.psp.links l

/-- PSP's link `l` changed by `f`. -/
def modPspLink (l : Nat) (f : PspLink → PspLink) (d : Dev) : Dev :=
  { d with psp := { d.psp with links := vset d.psp.links l (f (pspLink d l)) } }

/-- SET1 or SET2: 0 NORMAL, 1 HALT, 2 ASC_LOW, 3 ASC_HIGH, 4 OFF, 5 WDIS (R303). -/
def setState (d : Dev) (a set : Nat) : Nat :=
  if set = 1 then fld d (PSP_AXa_STATE a) 2 0 else fld d (PSP_AXa_STATE a) 18 16

/-- Put a set into a state. -/
def putSetState (a set st : Nat) (d : Dev) : Dev :=
  if set = 1 then setFld (PSP_AXa_STATE a) 2 0 st d else setFld (PSP_AXa_STATE a) 18 16 st d

/-- SEL: 0 OFF, 1 ASC-LOW, 2 ASC-HIGH, 3 ASC-AUTO (R302). -/
def pspSel (d : Dev) (a : Nat) : Nat := fld d (PSP_AXa_SEL a) 1 0

/-- Is the state of the set FIXED (R289)? -/
def isFixed (d : Dev) (a set : Nat) : Bool := if set = 1 then (pspAxis d a).fixed1 else (pspAxis d a).fixed2

/-- Make the state of a set FIXED. -/
def fixSet (a set : Nat) (d : Dev) : Dev :=
  setFlag (PSP_AXa_STATE a) 8 true
    (modPspAxis a (fun x => if set = 1 then { x with fixed1 := true } else { x with fixed2 := true }) d)

/-- Mark whether the state of a set is a speed-selected one. -/
def markSpeed (a set : Nat) (b : Bool) (d : Dev) : Dev :=
  modPspAxis a (fun x => if set = 1 then { x with speedSel1 := b } else { x with speedSel2 := b }) d

/-- Is the state of the set a speed-selected one? -/
def isSpeedSel (d : Dev) (a set : Nat) : Bool :=
  if set = 1 then (pspAxis d a).speedSel1 else (pspAxis d a).speedSel2

/-- The switches identified in a set. -/
def setSwitches (d : Dev) (a set : Nat) : List FaultSwitch :=
  (pspAxis d a).switches.filter (fun s => decide (setOfLeg d a s.leg = set))

/-- The state code of ASC on a bank (true = high). -/
def ascCode (high : Bool) : Nat := if high then 3 else 2

/-- The ASC bank of a set before any switch of it is identified (R285), as a state code; OFF with SEL = OFF. -/
def ascState (d : Dev) (a set : Nat) : Nat :=
  match pspSel d a with
  | 0 => 4
  | 1 => 2
  | 2 => 3
  | _ =>
    match setSwitches d a set with
    | s :: _ => ascCode s.high
    | [] => ascCode (flag d (PSP_AXa_SEL a) 4)

/-- Issue the GLK commands of a state for a set (R284). A later state of the same ports replaces HOLD commands that GLK
has not accepted yet. -/
def issueState (a set st : Nat) (d : Dev) : Dev :=
  let ls := setLegs d a set
  let hi := bankPorts d ls true
  let lo := bankPorts d ls false
  let d := { d with glk := { d.glk with orders := d.glk.orders.filter (fun o =>
    !(decide (o.origin = .psp) && decide (o.cmd ≠ .halt) && (hi ++ lo).contains o.port)) } }
  match st with
  | 1 => issue .psp .halt (hi ++ lo) d
  | 2 => issue .psp .holdOn lo (issue .psp .holdOff hi d)
  | 3 => issue .psp .holdOff lo (issue .psp .holdOn hi d)
  | 4 => issue .psp .holdOff (hi ++ lo) d
  | _ => d

/-- Put a state into effect for a set (R284). While STO or Lockout is in force for the axis its state is OFF (R307). -/
def applyState (a set st cause : Nat) (d : Dev) : Dev :=
  let st := if (lockout d || stoInForce d a) && decide (st ≠ 1) then 4 else st
  let d := putSetState a set st d
  let d := if fld d (PSP_AXa_STATE a) 27 24 = 0 then setFld (PSP_AXa_STATE a) 27 24 cause d else d
  issueState a set st d

/-- The state that R288 selects by speed for a set in state `cur`. -/
def speedChoice (d : Dev) (a set cur : Nat) : Nat :=
  let v := (speedPu d a).natAbs
  let off := fld d (PSP_AXa_OFFSPD a) 15 0
  let hyst := fld d (PSP_AXa_OFFSPD a) 31 16
  if pspSel d a = 0 then 4
  else if speedUnknown d a then ascState d a set
  else if off ≤ v then ascState d a set
  else if v + hyst < off then 4
  else if cur = 2 ∨ cur = 3 ∨ cur = 4 then cur
  else ascState d a set

/-- Is the set held in ASC or OFF, with no port handed back or about to be? -/
def heldSafe (d : Dev) (a set : Nat) : Bool :=
  let cur := setState d a set
  let ps := bankPorts d (setLegs d a set) true ++ bankPorts d (setLegs d a set) false
  decide (cur = 2 ∨ cur = 3 ∨ cur = 4) && ps.all (fun p => safeOwned d p && (port d p).released.isNone)

/-- Enter the speed-selected state of one set (R288): nothing for a FIXED set, and nothing for a set that is already held
in a safe state, whose state R288 goes on choosing (R344). -/
def enterSpeedSet (a cause set : Nat) (d : Dev) : Dev :=
  let cur := setState d a set
  if isFixed d a set || heldSafe d a set then d
  else
    let d := whenD (speedUnknown d a) (setFlag (PSP_AXa_STATUS a) 6 true) d
    markSpeed a set true (applyState a set (speedChoice d a set cur) cause d)

/-- Put axis `a` into its speed-selected state. -/
def enterSpeedSelected (cause a : Nat) (d : Dev) : Dev := forEach (setsOf d a) (enterSpeedSet a cause) d

/-- The interim state that INTERIM gives a set (R286): its speed-selected state, or OFF. -/
def enterInterimSet (a cause set : Nat) (d : Dev) : Dev :=
  if flag d (PSP_AXa_SEL a) 8 then
    if isFixed d a set then d else markSpeed a set false (applyState a set 4 cause d)
  else enterSpeedSet a cause set d

/-- The interim state of a whole axis, for a takeover (R290, R172). -/
def enterInterim (cause a : Nat) (d : Dev) : Dev := forEach (setsOf d a) (enterInterimSet a cause) d

/-- One evaluation of the speed of axis `a` (R288): the register, and the moves between ASC and OFF of the sets in a
speed-selected state. -/
def evaluateSpeed (a : Nat) (d : Dev) : Dev :=
  let unk := speedUnknown d a
  let d := wr (PSP_AXa_SPEED a) (setBit (wordOf (unsigned 16 (speedPu d a))) 16 unk) d
  forEach (setsOf d a) (fun set d =>
    let cur := setState d a set
    if isSpeedSel d a set && !isFixed d a set && decide (pspSel d a ≠ 0) && decide (2 ≤ cur ∧ cur ≤ 4)
        && !(pspLink d (axisLink d a)).ovState then
      let st := speedChoice d a set cur
      if st = cur then d else applyState a set st 0 d
    else d) d

/-! ## REL_BLOCK (R292) -/

/-- Is a cause of R290 still asserted for the axis? -/
def causeAsserted (d : Dev) (a : Nat) : Bool :=
  (flag d (PSP_AXa_DCOC a) 31 && flag d (FCMP_CMPkk_STATUS (fld d (PSP_AXa_DCOC a) 4 0)) 0)
    || sisCause d a

/-- Is a driver report or a leg latch still asserted for the legs of a set? -/
def setCauseAsserted (d : Dev) (a set : Nat) : Bool :=
  (bankPorts d (setLegs d a set) true ++ bankPorts d (setLegs d a set) false).any
      (fun p => flag d (GLK_GLnn_STATE p) 4)
    || (setLegs d a set).any (fun l => decide (legState d l = 3))

/-- REL_BLOCK as it stands for one set of the axis (R292, evaluated for each set under R286). -/
def relBlockSet (d : Dev) (a set : Nat) : Bool :=
  flag d (PSP_AXa_STATE a) 9 || isFixed d a set || (pspLink d (axisLink d a)).ovState || causeAsserted d a
    || setCauseAsserted d a set

/-- REL_BLOCK of the axis. -/
def relBlock (d : Dev) (a : Nat) : Bool := (setsOf d a).any (relBlockSet d a)

/-- GLK receives a RELEASE of SIS for port `p` (R261, R292): refused while the set's REL_BLOCK is set, else pending
until the handback Load Instant. -/
def acceptRelease (p : Nat) (d : Dev) : Dev :=
  match axisOfPort d p, switchOfPort d p with
  | some a, some (l, _) =>
    if relBlockSet d a (setOfLeg d a l) then setFlag (PSP_AXa_STATUS a) 7 true d
    else if safeOwned d p then
      modPort p (fun x => { x with released := some (now d), holdOn := none, holdOnAt := none,
                                   lastAccept := some (.release, now d) })
        (setFlag (GLK_GLnn_STATE p) 9 false d)
    else d
  | _, _ =>
    if safeOwned d p then
      modPort p (fun x => { x with released := some (now d), lastAccept := some (.release, now d) }) d
    else d

/-! ## Switch faults (R293–R295) -/

/-- A hardware cause is detected for the axis now: the tick is recorded and every set not FIXED and not already in a
safe state is halted (R290). -/
def detectAndHalt (a cause : Nat) (d : Dev) : Dev :=
  let d := wr (PSP_AXa_T_DET a) (nowLo d) d
  let d := modPspAxis a (fun x => { x with detect := now d, awaitHalt := true }) d
  forEach (setsOf d a) (fun set d =>
    if isFixed d a set || heldSafe d a set then d
    else markSpeed a set false (applyState a set 1 cause d)) d

/-- The entry of a switch in `PSP_AXa_FAULTSW`: VALID, HIGH, leg channel (R301). -/
def faultswByte (l : Nat) (high : Bool) : Nat := 0x80 + (if high then 0x40 else 0) + l % 32

/-- Record an identified switch. -/
def recordSwitch (a l : Nat) (high : Bool) (d : Dev) : Dev :=
  let d := if !flag d (PSP_AXa_FAULTSW a) 15 then setFld (PSP_AXa_FAULTSW a) 15 8 (faultswByte l high) d
    else if !flag d (PSP_AXa_FAULTSW a) 7 then setFld (PSP_AXa_FAULTSW a) 7 0 (faultswByte l high) d
    else d
  modPspAxis a (fun x => { x with switches := x.switches ++ [⟨l, high, now d⟩] }) d

/-- A FIXED OFF of a set (R289). -/
def fixedOff (a set cause : Nat) (d : Dev) : Dev :=
  fixSet a set (markSpeed a set false (applyState a set 4 cause d))

/-- ASC on the bank of a faulted switch, or OFF under R285 or with SEL = OFF; FIXED (R294). -/
def ascOnBank (a set : Nat) (high : Bool) (cause : Nat) (d : Dev) : Dev :=
  let st := match pspSel d a with
    | 0 => 4
    | 1 => if high then 4 else 2
    | 2 => if high then 3 else 4
    | _ => ascCode high
  fixSet a set (markSpeed a set false (applyState a set st cause d))

/-- Two switches faulted: DOUBLE is set and PSP_DOUBLE raised (R294). -/
def pspDouble (a : Nat) (d : Dev) : Dev := raise Src.PSP_DOUBLE a (setFlag (PSP_AXa_STATUS a) 3 true d)

/-- PSP requests SIS to open the main contactors of the axis's link and discharge it (R294, R318). -/
def requestOpen (a : Nat) (d : Dev) : Dev := emergencyOpen (axisLink d a) d

/-- A later report that changes nothing (R294). -/
def pspLater (a : Nat) (d : Dev) : Dev :=
  incFld (PSP_AXa_LATER_CNT a) 15 0 (setFlag (PSP_AXa_STATUS a) 5 true d)

/-- The rules of R294 for a report that identifies switch `l`, `high` of set `set`. -/
def decideReport (a set l : Nat) (high : Bool) (d : Dev) : Dev :=
  let earlier := setSwitches d a set
  let cur := setState d a set
  let others := earlier.filter (fun s => !(decide (s.leg = l) && decide (s.high = high)))
  let simul := others.filter (fun s => decide (now d ≤ s.tick + 800))
  let opposite := others.any (fun s => decide (s.leg = l)) || simul.any (fun s => decide (s.high ≠ high))
  let sameBank := simul.any (fun s => decide (s.leg ≠ l) && decide (s.high = high))
  let offFixed := isFixed d a set && decide (cur = 4)
  if opposite then
    requestOpen a (pspDouble a (if offFixed then d else fixedOff a set 2 d))
  else if sameBank then
    pspDouble a (if offFixed then d else ascOnBank a set high 2 d)
  else if offFixed then pspLater a d
  else if earlier.isEmpty then ascOnBank a set high 2 d
  else if cur = ascCode high then pspLater a d
  else requestOpen a (pspDouble a (fixedOff a set 2 d))

/-- A standing release of the healthy set's ports (R354): applied in the tick of the identification, not cancelled by
the commands PSP issues for those ports in that tick. -/
def applyStanding (a healthy : Nat) (d : Dev) : Dev :=
  let ps := bankPorts d (setLegs d a healthy) true ++ bankPorts d (setLegs d a healthy) false
  let d := modPspAxis a (fun x => { x with standing := false }) d
  if relBlockSet d a healthy then setFlag (PSP_AXa_STATUS a) 7 true d
  else forEach ps (fun p d => modPort p (fun x => { x with
      released := some (now d),
      keepRelease := (d.glk.orders.filter (fun o => decide (o.port = p) && decide (o.origin = .psp))).length }) d) d

/-- CLASS of source `k` (R361). -/
def srcClass (d : Dev) (k : Nat) : Nat := fld d (FCR_SRCkkkk_CFG k) 2 0

/-- PSP acts on a driver report that identifies a switch of axis `a` (R286, R293, R294, R207). -/
def identifySwitch (a l : Nat) (high : Bool) (d : Dev) : Dev :=
  let set := setOfLeg d a l
  let first := (setSwitches d a set).isEmpty
  let healthyBefore := (setSwitches d a (3 - set)).isEmpty
  let d := if flag d (PSP_AXa_STATE a) 9 then d else detectAndHalt a 2 d
  let d := setFlag (PSP_AXa_STATE a) 9 false d
  let d := setFlag (PSP_AXa_STATUS a) 1 true d
  let d := decideReport a set l high d
  let known := (setSwitches d a set).any (fun s => decide (s.leg = l) && decide (s.high = high))
  let d := if known then d else recordSwitch a l high d
  let d := raise Src.PSP_SWID a d
  if sixPhase d a && first && healthyBefore then
    let d := enterInterimSet a 2 (3 - set) d
    if srcClass d Src.PSP_SWID = 3 then
      let d := modPspAxis a (fun x => { x with continuation := some (3 - set, now d) }) d
      if (pspAxis d a).standing then applyStanding a (3 - set) d else d
    else d
  else if !healthyBefore then modPspAxis a (fun x => { x with continuation := none }) d
  else d

/-! ## DC-link overvoltage and discharge (R296–R299) -/

/-- The chopper channel (leg index) of link `l`. -/
def chopperLeg (d : Dev) (l : Nat) : Nat := 24 + fld d (PSP_LKl_CH l) 25 24

/-- The discharge channel (leg index) of link `l`. -/
def dischargeLeg (d : Dev) (l : Nat) : Nat := 28 + fld d (PSP_LKl_DIS l) 25 24

/-- The DS port of link `l`. -/
def dsPort (d : Dev) (l : Nat) : Nat := highPort d (dischargeLeg d l)

/-- DIS: 0 idle, 1 RESISTOR, 2 WINDING, 3 DONE, 4 FAILED (R305). -/
def disState (d : Dev) (l : Nat) : Nat := fld d (PSP_LKl_STATUS l) 11 9

/-- Set DIS. -/
def setDis (l st : Nat) (d : Dev) : Dev := setFld (PSP_LKl_STATUS l) 11 9 st d

/-- WAXIS of link `l`. -/
def waxis (d : Dev) (l : Nat) : Nat := fld d (PSP_LKl_DIS l) 29 28

/-- The overvoltage state of link `l` (R297 steps 3 and 4): every axis of the link that is not FIXED goes to ASC on its
ASC bank at any speed, or to OFF with SEL = OFF. Under STO or Lockout only the flags are set (R323). -/
def overvoltage (l cause : Nat) (d : Dev) : Dev :=
  let d := modPspLink l (fun x => { x with ovState := true }) d
  forEach (linkAxes d l) (fun a d => forEach (setsOf d a) (fun set d =>
    if isFixed d a set || lockout d || stoInForce d a then d
    else markSpeed a set true (applyState a set (ascState d a set) cause d)) d) d

/-- OV2 is reached (R297 step 3). -/
def ov2Reached (l : Nat) (d : Dev) : Dev :=
  raise Src.PSP_OV2 l (setFlag (PSP_LKl_STATUS l) 2 true (overvoltage l 3 d))

/-- The OV3 comparator asserts (R297 step 4). -/
def ov3Asserted (l : Nat) (d : Dev) : Dev :=
  raise Src.PSP_OV3 l (setFlag (PSP_LKl_STATUS l) 3 true (overvoltage l 4 d))

/-- The chopper is declared failed (R297 step 2): HOLD_OFF to its port; not used again until reset. -/
def chopperFail (l : Nat) (d : Dev) : Dev :=
  let d := modPspLink l (fun x => { x with chCheck := none, chArmed := false }) d
  let d := issue .psp .holdOff (withMirrors d (highPort d (chopperLeg d l))) d
  let d := setFlag (PSP_LKl_STATUS l) 0 false d
  raise Src.PSP_CH_FAIL l (setFlag (PSP_LKl_STATUS l) 1 true d)

/-- The chopper follows the link voltage `v` (R297 step 1). -/
def chopperStep (l : Nat) (v : Int) (d : Dev) : Dev :=
  let c := chopperLeg d l
  if !flag d (PSP_LKl_CH l) 31 || flag d (PSP_LKl_STATUS l) 1 || decide (ownerOf d 0x02 c ≠ 0x21) then d
  else if sfld d (PSP_LKl_CHTHR l) 31 16 ≤ v then
    let was := flag d (PSP_LKl_STATUS l) 0
    let d := chopperDuty c (fld d (PSP_LKl_CH l) 15 0) d
    let d := setFlag (PSP_LKl_STATUS l) 0 true d
    if was then d else modPspLink l (fun x => { x with chArmed := true, chCheck := none }) d
  else if v ≤ sfld d (PSP_LKl_CHTHR l) 15 0 then
    let d := chopperDuty c 0 d
    modPspLink l (fun x => { x with chArmed := false, chCheck := none }) (setFlag (PSP_LKl_STATUS l) 0 false d)
  else d

/-- HOLD_OFF to the DS port of link `l`. -/
def dsOff (l : Nat) (d : Dev) : Dev := issue .psp .holdOff (withMirrors d (dsPort d l)) d

/-- The discharge of link `l` has failed (R298 step 5, R299). -/
def dischargeFail (l : Nat) (d : Dev) : Dev := raise Src.PSP_DIS_FAIL l (setDis l 4 d)

/-- Winding discharge starts on WAXIS, or fails (R299). -/
def windingDischarge (l : Nat) (d : Dev) : Dev :=
  let a := waxis d l
  let v := (speedPu d a).natAbs
  let ok := axisInUse d a && decide (axisLink d a = l) && !isFixed d a 1 && !(sixPhase d a && isFixed d a 2)
    && !speedUnknown d a && decide (v + fld d (PSP_AXa_OFFSPD a) 31 16 < fld d (PSP_AXa_OFFSPD a) 15 0)
    && (axisPorts d a).all (portReady d)
  if ok then
    let d := forEach (setsOf d a) (fun set d => markSpeed a set false (putSetState a set 5 d)) d
    let d := setFld (PSP_AXa_STATE a) 27 24 6 d
    issue .sis .release (axisPorts d a) (setDis l 2 d)
  else dischargeFail l d

/-- The resistor discharge has failed (R298 step 4). -/
def resistorFail (l : Nat) (d : Dev) : Dev :=
  let d := dsOff l d
  let d := raise Src.PSP_DS_FAIL l (setFlag (PSP_LKl_STATUS l) 8 true d)
  if flag d (PSP_LKl_DIS l) 30 then windingDischarge l d else setDis l 4 d

/-- The discharge has reached USAFE (R298 step 3, R299). -/
def dischargeDone (l : Nat) (d : Dev) : Dev :=
  let d := if disState d l = 1 then dsOff l d
    else
      let a := waxis d l
      forEach (setsOf d a) (fun set d => markSpeed a set false (applyState a set 4 6 d)) d
  setDis l 3 d

/-- The first checkpoint due now and not judged yet, with its UMAX (R298 step 2). -/
def dueCheckpoint (d : Dev) (l : Nat) : Option (Nat × Int) :=
  let x := pspLink d l
  match x.disT0 with
  | none => none
  | some t0 =>
    (List.range 8).findSome? (fun k =>
      let t := fld d (PSP_LKl_DCURVE l k) 31 16
      if t ≠ 0 ∧ !x.disChecked.testBit k ∧ t0 + t * msTicks ≤ now d then
        some (k, sfld d (PSP_LKl_DCURVE l k) 15 0)
      else none)

/-- Judge the due checkpoints of the resistor discharge on the usable result `v`: true where one is breached. -/
def judgeCheckpoints (l : Nat) (v : Int) : Nat → Dev → Bool × Dev
  | 0, d => (false, d)
  | n + 1, d =>
    match dueCheckpoint d l with
    | none => (false, d)
    | some (k, umax) =>
      let d := modPspLink l (fun x => { x with disChecked := x.disChecked ||| 2 ^ k }) d
      if umax < v then (true, d) else judgeCheckpoints l v n d

/-- The running discharge reads a usable link voltage (R298, R299). -/
def dischargeResult (l : Nat) (v : Int) (d : Dev) : Dev :=
  if disState d l = 1 ∨ disState d l = 2 then
    let d := if (pspLink d l).disU0Taken then d
      else modPspLink l (fun x => { x with disU0Taken := true }) (setFld (PSP_LKl_U0 l) 15 0 (unsigned 16 v) d)
    if v ≤ sfld d (PSP_LKl_USAFE l) 15 0 then dischargeDone l d
    else if disState d l = 1 then
      let (bad, d) := judgeCheckpoints l v 8 d
      if bad then resistorFail l d else d
    else d
  else d

/-- PSP reads a usable delivery of link `l`'s Udc input (R296, R297, R298). -/
def pspUdcResult (l : Nat) (v : Int) (d : Dev) : Dev :=
  let d := modPspLink l (fun x => { x with udc := some v, udcTick := now d, stale := false }) d
  let d := chopperStep l v d
  let run := if fld d (PSP_LKl_OV l) 15 8 = 0 then 0 else if sfld d (PSP_LKl_OV l) 31 16 ≤ v then (pspLink d l).ov2Run + 1 else 0
  let d := modPspLink l (fun x => { x with
    ov2Run := run, ovState := x.ovState && !decide (v ≤ sfld d (PSP_LKl_CHTHR l) 15 0) }) d
  let d := if run ≠ 0 ∧ run = fld d (PSP_LKl_OV l) 15 8 then ov2Reached l d else d
  dischargeResult l v d

/-- Is link `l` in use: does an axis in use belong to it? -/
def linkInUse (d : Dev) (l : Nat) : Bool := !(linkAxes d l).isEmpty

/-- The chopper current of link `l` reads `v` (R297 step 2): before the first ON edge it is the value to rise from, after
it a rise of DI passes the check. -/
def idcResult (l : Nat) (v : Int) (d : Dev) : Dev :=
  let d := modPspLink l (fun x => { x with idc := v }) d
  match (pspLink d l).chCheck with
  | some (t, base) =>
    if now d < t then modPspLink l (fun x => { x with chCheck := some (t, v) }) d
    else if base + (fld d (PSP_LKl_CHCHK l) 31 16 : Int) ≤ v then modPspLink l (fun x => { x with chCheck := none }) d
    else d
  | none => d

/-- The first ON edge of the chopper of link `l` after CHON rose is commanded for tick `t`. -/
def chopperEdge (l t : Nat) (d : Dev) : Dev :=
  if (pspLink d l).chArmed then modPspLink l (fun x => { x with chArmed := false, chCheck := some (t, x.idc) }) d else d

/-- TRESP ticks have passed since that edge without a rise by DI (R297 step 2). -/
def chopperCheck (l : Nat) (d : Dev) : Dev :=
  match (pspLink d l).chCheck with
  | some (t, _) => if elapsed d t (fld d (PSP_LKl_CHCHK l) 15 0) then chopperFail l d else d
  | none => d

/-- A delivery of input `i` (`sdm` = an SDM channel, else an AIN) with value `v` reaches PSP: every link whose Udc or IDC
input it is reads it (R296). Results with RU = 1 are ignored. -/
def pspDelivery (sdm : Bool) (i : Nat) (v : Int) (ru : Bool) (d : Dev) : Dev :=
  forEach [0, 1, 2, 3] (fun l d =>
    let d := if linkInUse d l && decide (flag d (PSP_LKl_IDC l) 30 = sdm) && decide (fld d (PSP_LKl_IDC l) 5 0 = i) then
        idcResult l v d else d
    if linkInUse d l && flag d (PSP_LKl_UDC l) 31 && decide (flag d (PSP_LKl_UDC l) 30 = sdm)
        && decide (fld d (PSP_LKl_UDC l) 5 0 = i) && !ru then pspUdcResult l v d else d) d

/-- The link whose chopper or discharge channel leg `c` is, driven by PSP for SIS. -/
def linkOfChannel (d : Dev) (c : Nat) : Option (Nat × Bool) :=
  if ownerOf d 0x02 c ≠ 0x21 then none
  else (List.range 4).findSome? (fun l =>
    if flag d (PSP_LKl_CH l) 31 && decide (chopperLeg d l = c) then some (l, true)
    else if flag d (PSP_LKl_DIS l) 31 && decide (dischargeLeg d l = c) then some (l, false)
    else none)

/-- GLK passes the newly latched bits of port `p` to PSP (R268, R290, R293). -/
def pspReport (p : Nat) (newly : Byte) (d : Dev) : Dev :=
  match switchOfPort d p with
  | none => d
  | some (l, high) =>
    if l < 24 then
      match ownerAxis d 0x02 l with
      | none => d
      | some a => if newly &&& 0x43 ≠ 0 then identifySwitch a l high d else d
    else
      match linkOfChannel d l with
      | none => d
      | some (k, true) => if flag d (PSP_LKl_STATUS k) 1 then d else chopperFail k d
      | some (k, false) => if disState d k = 1 then resistorFail k d else d

/-- A leg latch of leg `l` reaches PSP (R231, R290): the axis takes its speed-selected state. -/
def pspLegLatch (l : Nat) (d : Dev) : Dev :=
  match (if l < 24 then ownerAxis d 0x02 l else none) with
  | none => d
  | some a =>
    let d := setFlag (PSP_AXa_STATUS a) 4 true d
    raise Src.PSP_LEG a (enterSpeedSelected 2 a d)

/-- The DC-link overcurrent comparator of axis `a` acts (R290, R291): every port is halted and the identification window
opens. -/
def dcocAct (a : Nat) (d : Dev) : Dev :=
  let d := detectAndHalt a 1 d
  let d := setFlag (PSP_AXa_STATE a) 9 true d
  raise Src.PSP_DCOC a (setFlag (PSP_AXa_STATUS a) 0 true d)

/-- Does the DC-link overcurrent comparator of axis `a` name FCMP `k`? -/
def dcocNames (d : Dev) (a k : Nat) : Bool :=
  flag d (PSP_AXa_DCOC a) 31 && decide (fld d (PSP_AXa_DCOC a) 4 0 = k)

/-- Is the DC-link comparator of axis `a` blanked now (R291): for BLANK ticks from every commanded edge of its legs? -/
def dcocBlanked (d : Dev) (a : Nat) : Bool :=
  let b := 8 * fld d (PSP_AXa_DCOC a) 22 16
  (phaseLegs d a).any (fun l => (leg d l).issued.any (fun t => decide (t ≤ 8 * now d) && decide (8 * now d < t + b)))

/-- Comparator `k` has asserted: PSP's overcurrent and OV3 inputs (R290, R297). -/
def pspComparator (k : Nat) (d : Dev) : Dev :=
  let d := forEach (axesInUse d) (fun a d =>
    if dcocNames d a k && !flag d (PSP_AXa_STATE a) 9 then
      (if dcocBlanked d a then modPspAxis a (fun x => { x with dcocHeld := true }) d else dcocAct a d)
    else d) d
  forEach [0, 1, 2, 3] (fun l d =>
    if linkInUse d l && flag d (PSP_LKl_OV l) 7 && decide (fld d (PSP_LKl_OV l) 4 0 = k) then ov3Asserted l d else d) d

/-- The blanking of the DC-link comparator of axis `a` ends with its output still asserted (R291). -/
def dcocBlankEnd (a : Nat) (d : Dev) : Dev :=
  if (pspAxis d a).dcocHeld && !dcocBlanked d a then
    let d := modPspAxis a (fun x => { x with dcocHeld := false }) d
    if flag d (FCMP_CMPkk_STATUS (fld d (PSP_AXa_DCOC a) 4 0)) 0 && !flag d (PSP_AXa_STATE a) 9 then dcocAct a d else d
  else d

/-- Ten microseconds after the detection no switch is identified (R294): OFF, FIXED. -/
def idWindowExpire (a : Nat) (d : Dev) : Dev :=
  if flag d (PSP_AXa_STATE a) 9 && elapsed d (pspAxis d a).detect 8000 then
    let d := setFlag (PSP_AXa_STATE a) 9 false d
    let d := forEach (setsOf d a) (fun set d => if isFixed d a set then d else fixedOff a set 1 d) d
    raise Src.PSP_NOID a (setFlag (PSP_AXa_STATUS a) 2 true d)
  else d

/-- The speed evaluation of every axis, every 800 ticks (R288). -/
def speedEvaluate (d : Dev) : Dev :=
  let due := match d.psp.lastSpeed with | none => true | some t => elapsed d t 800
  if due then forEach (axesInUse d) evaluateSpeed { d with psp := { d.psp with lastSpeed := some (now d) } } else d

/-- TSTALE of link `l`, in ticks. -/
def tstale (d : Dev) (l : Nat) : Nat := fld d (PSP_LKl_UDC l) 23 16 * usTicks

/-- No usable link voltage for TSTALE (R296). -/
def udcStale (l : Nat) (d : Dev) : Dev :=
  let x := pspLink d l
  if linkInUse d l && flag d (PSP_LKl_UDC l) 31 && !x.stale && elapsed d x.udcTick (tstale d l) then
    raise Src.PSP_UDC_STALE l (setFlag (PSP_LKl_STATUS l) 4 true (modPspLink l (fun x => { x with stale := true }) d))
  else d

/-- Discharge of link `l` starts (R298): HOLD_ON to the DS port. -/
def dischargeStart (l : Nat) (d : Dev) : Dev :=
  let d := modPspLink l (fun x => { x with disT0 := none, disU0Taken := false, disChecked := 0 }) d
  issue .psp .holdOn (withMirrors d (dsPort d l)) (setDis l 1 d)

/-- A checkpoint without a usable result TSTALE after its time (R298 step 2). -/
def dcurveMissed (l : Nat) (d : Dev) : Dev :=
  let x := pspLink d l
  match x.disT0 with
  | some t0 =>
    if disState d l = 1 ∧ (List.range 8).any (fun k =>
        let t := fld d (PSP_LKl_DCURVE l k) 31 16
        decide (t ≠ 0) && !x.disChecked.testBit k && decide (t0 + t * msTicks + tstale d l ≤ now d)) then resistorFail l d
    else d
  | none => d

/-- TMAX has passed without DONE (R298 step 5): HOLD_OFF to every port driven for the discharge. -/
def dischargeTimeout (l : Nat) (d : Dev) : Dev :=
  match (pspLink d l).disT0 with
  | some t0 =>
    if (disState d l = 1 ∨ disState d l = 2) ∧ elapsed d t0 (fld d (PSP_LKl_DIS l) 15 0 * msTicks) then
      let d := if disState d l = 1 then dsOff l d
        else
          let a := waxis d l
          forEach (setsOf d a) (fun set d => markSpeed a set false (applyState a set 4 6 d)) d
      dischargeFail l d
    else d
  | none => d

end Sys2Proof.Machine
end

