-- ==== Sys2Proof/Machine/SenseCore.lean ====
section
/-! DEFINITION. Current and voltage sensing (R117–R141): converter pairs, sigma-delta channels, fast comparators and the
return shunt channels. -/

namespace Sys2Proof.Machine

open Reg

/-- Converter pair `p` beside its registers. -/
def adsPair (d : Dev) (p : Nat) : AdsPair := vget d.sense.pairs p

/-- Converter pair `p` changed by `f`. -/
def modPair (p : Nat) (f : AdsPair → AdsPair) (d : Dev) : Dev :=
  { d with sense := { d.sense with pairs := vset d.sense.pairs p (f (adsPair d p)) } }

/-- Return shunt channel `a` beside its registers. -/
def rsChan (d : Dev) (a : Nat) : RsChan := vget d.sense.rs a

/-- Return shunt channel `a` changed by `f`. -/
def modRs (a : Nat) (f : RsChan → RsChan) (d : Dev) : Dev :=
  { d with sense := { d.sense with rs := vset d.sense.rs a (f (rsChan d a)) } }

/-- Sigma-delta channel `n` beside its registers. -/
def sdmChan (d : Dev) (n : Nat) : SdmChan := vget d.sense.sdm n

/-- Sigma-delta channel `n` changed by `f`. -/
def modSdm (n : Nat) (f : SdmChan → SdmChan) (d : Dev) : Dev :=
  { d with sense := { d.sense with sdm := vset d.sense.sdm n (f (sdmChan d n)) } }

/-! ## Fast comparators (R135–R137) -/

/-- Does comparator `k` watch an AIN? -/
def fcmpAin (d : Dev) (k : Nat) : Bool := flag d (FCMP_CMPkk_CFG k) 5

/-- The channel or input that comparator `k` watches. -/
def fcmpSrc (d : Dev) (k : Nat) : Nat := fld d (FCMP_CMPkk_CFG k) 4 0

/-- Is comparator `k` active? -/
def fcmpEn (d : Dev) (k : Nat) : Bool := flag d (FCMP_CMPkk_CFG k) 31

/-- Is the input of comparator `k` invalid (R136)? -/
def fcmpInvalid (d : Dev) (k : Nat) : Bool :=
  if fcmpAin d k then !flag d (ADS_Pp_STATUS (fcmpSrc d k / 8)) 0 else !flag d (SDM_SDnn_STATUS (fcmpSrc d k)) 8

/-- The threshold DAC code of a threshold value for an AIN comparator (R135). -/
def fcmpDac (d : Dev) (k : Nat) (v : Int) : Int :=
  clampInt 0 1023 ((4 * (fld d (ADS_AINnn_CFG (fcmpSrc d k)) 13 0 : Int) + v) / 64)

/-- Does input `x` lie outside the window of comparator `k`? An SDM input is the signed fast output; an AIN input is the
14-bit code that the input stands at. -/
def fcmpOutside (d : Dev) (k : Nat) (x : BitVec 16) : Bool :=
  let hi := sfld d (FCMP_CMPkk_THR k) 31 16
  let lo := sfld d (FCMP_CMPkk_THR k) 15 0
  if fcmpAin d k then
    decide ((x.toNat : Int) < 16 * fcmpDac d k lo) || decide (16 * fcmpDac d k hi < (x.toNat : Int))
  else decide (x.toInt < lo) || decide (hi < x.toInt)

/-- Does `lasting` (fast outputs, or ticks) pass comparator `k`'s filter? -/
def fcmpFiltered (d : Dev) (k lasting : Nat) : Bool :=
  if fcmpAin d k then decide (fld d (FCMP_CMPkk_CFG k) 23 16 ≤ lasting)
  else decide (Nat.max 1 (fld d (FCMP_CMPkk_CFG k) 15 8) ≤ lasting)

/-- Comparator `k` asserts its output (R135): TRIP, the count, the source, and PSP's inputs. -/
def fcmpAssert (k : Nat) (d : Dev) : Dev :=
  if flag d (FCMP_CMPkk_STATUS k) 0 then d
  else
    let d := setFlag (FCMP_CMPkk_STATUS k) 1 true (setFlag (FCMP_CMPkk_STATUS k) 0 true d)
    let d := incFld (FCMP_CMPkk_TRIPCNT k) 15 0 d
    pspComparator k (raise Src.FCMP_TRIP k d)

/-- Comparator `k` deasserts its output. -/
def fcmpDeassert (k : Nat) (d : Dev) : Dev := setFlag (FCMP_CMPkk_STATUS k) 0 false d

/-- The output of comparator `k` while its input is invalid (R136). -/
def fcmpOnInvalid (k : Nat) (d : Dev) : Dev :=
  if fcmpEn d k && fcmpInvalid d k then
    if flag d (FCMP_CMPkk_CFG k) 30 then fcmpAssert k d else fcmpDeassert k d
  else d

/-- The input of comparator `k` has become valid: an assertion that FSAFE forced ends. -/
def fcmpOnValid (k : Nat) (d : Dev) : Dev := if fcmpEn d k && !fcmpInvalid d k then fcmpDeassert k d else d

/-- Every comparator that watches input `src` of the kind. -/
def fcmpsOf (d : Dev) (ain : Bool) (src : Nat) : List Nat :=
  idxWhere 32 (fun k => fcmpEn d k && decide (fcmpAin d k = ain) && decide (fcmpSrc d k = src))

/-- Every comparator on an AIN of pair `p`. -/
def fcmpsOfPair (d : Dev) (p : Nat) : List Nat :=
  idxWhere 32 (fun k => fcmpEn d k && fcmpAin d k && decide (fcmpSrc d k / 8 = p))

/-- A self-test of comparator `k` is running. -/
def fcmpTesting (d : Dev) (k : Nat) : Bool := d.sense.testing.getLsbD k

/-- A write of `v` to `FCMP_CMPkk_TEST` (R137). -/
def fcmpTest (k : Nat) (v : Word) (d : Dev) : Dev :=
  if !bit v 0 then d
  else if flag d (FCMP_CMPkk_STATUS k) 0 || fcmpTesting d k then
    incFld (FCMP_CMPkk_SKIPCNT k) 15 0 (setFlag (FCMP_CMPkk_STATUS k) 4 true d)
  else { d with sense := { d.sense with testing := d.sense.testing ||| BitVec.ofNat 32 (2 ^ k) } }

/-- The running self-test of comparator `k` ends. -/
def fcmpTestEnd (k : Nat) (asserted : Bool) (d : Dev) : Dev :=
  if fcmpTesting d k then
    let d := { d with sense := { d.sense with testing := d.sense.testing &&& ~~~ BitVec.ofNat 32 (2 ^ k) } }
    if asserted then setFlag (FCMP_CMPkk_STATUS k) 2 true d
    else raise Src.FCMP_TEST_FAIL k (setFlag (FCMP_CMPkk_STATUS k) 3 true d)
  else d

/-- What comparator `k` shows PWM: its output, or the level before a running self-test, which starts only while the
output is deasserted (R137). -/
def fcmpToPwm (d : Dev) (k : Nat) : Bool := flag d (FCMP_CMPkk_STATUS k) 0 && !fcmpTesting d k

/-! ## Return shunt channels (R138–R140) -/

/-- Does return shunt channel `a` run and take AIN `i`? -/
def rsNames (d : Dev) (a i : Nat) : Bool := flag d (ADS_RSa_CFG a) 31 && decide (fld d (ADS_RSa_CFG a) 5 0 = i)

/-- Does any return shunt channel name AIN `i`? -/
def rsNamed (d : Dev) (i : Nat) : Bool := (List.range 4).any (fun a => rsNames d a i)

/-- The channel writes IU and IV, to its registers and to the CE inputs of its axis. -/
def rsWrite (a : Nat) (iu iv : Int) (ru held : Bool) (d : Dev) : Dev :=
  let w (v : Int) : Word := setBit (setBit (wordOf (unsigned 16 v)) 16 held) 17 ru
  let k := fld d (ADS_RSa_CFG a) 13 8
  let d := wr (ADS_RSa_IV a) (w iv) (wr (ADS_RSa_IU a) (w iu) d)
  ceInput a (k + 1) (inWord iv ru held false false) (ceInput a k (inWord iu ru held false false) d)

/-- Does `ts` fall in the carrier period whose samples channel `a` collects (R139)? EVS's copy gives its start and
length; once EVS holds a later period, the collected one ends at that one's start. -/
def rsInPeriod (d : Dev) (a ts : Nat) : Bool :=
  let g := fld d (ADS_RSa_CFG a) 30 28
  let s0 := (rd d (EVS_CGg_START g)).toNat
  let p := (rd d (EVS_CGg_PERIOD g)).toNat
  let from_ := ((rsChan d a).start).getD s0
  let len := if from_ = s0 then p else (wordOf s0 - wordOf from_).toNat
  decide ((wordOf ts - wordOf from_).toNat < len)

/-- A return shunt sample with value `v` reaches channel `a` (R139). -/
def rsSample (a ph : Nat) (neg : Bool) (v : Int) (ru : Bool) (ts : Nat) (d : Dev) : Dev :=
  let x := rsChan d a
  if !rsInPeriod d a ts || x.marked then d
  else if 2 ≤ x.samples.length then incFld (ADS_RSa_EXTRA_CNT a) 15 0 d
  else
    let v := if neg then satQ15 (-v) else v
    let d := modRs a (fun x => { x with samples := x.samples ++ [(ph, v, ru)] }) d
    match x.samples with
    | [(ph0, v0, ru0)] =>
      if ph0 = ph then d
      else
        let third := 3 - ph0 - ph
        let v3 := satQ15 (-(v0 + v))
        let val (k : Nat) : Int := if k = ph0 then v0 else if k = ph then v else if k = third then v3 else 0
        let d := modRs a (fun x => { x with reconstructed := true, run := 0 }) d
        wr (ADS_RSa_TS a) (wordOf ts) (rsWrite a (val 0) (val 1) (ru0 || ru) false d)
    | _ => d

/-- A carrier period of channel `a`'s group ends (R140): without a reconstruction the last one is held. -/
def rsPeriodEnd (a : Nat) (d : Dev) : Dev :=
  if !flag d (ADS_RSa_CFG a) 31 then d
  else
    let x := rsChan d a
    let g := fld d (ADS_RSa_CFG a) 30 28
    let d := if x.reconstructed then d
      else
        let d := rsWrite a (sfld d (ADS_RSa_IU a) 15 0) (sfld d (ADS_RSa_IV a) 15 0) (flag d (ADS_RSa_IU a) 17) true d
        let d := incFld (ADS_RSa_NOREC_CNT a) 15 0 (setFlag (ADS_RSa_STATUS a) 0 true d)
        let d := modRs a (fun x => { x with run := x.run + 1 }) d
        if x.run + 1 = fld d (ADS_RSa_CFG a) 23 16 then
          raise Src.ADS_RS_NOREC a (setFlag (ADS_RSa_STATUS a) 1 true d)
        else d
    modRs a (fun x => { x with start := some (rd d (EVS_CGg_START g)).toNat, samples := [], reconstructed := false,
                               marked := x.markComing, markComing := false }) d

/-- Carrier group `g` marks its coming period to the channels whose CG names it (R226). -/
def rsMark (g : Nat) (d : Dev) : Dev :=
  forEach (idxWhere 4 (fun a => flag d (ADS_RSa_CFG a) 31 && decide (fld d (ADS_RSa_CFG a) 30 28 = g)))
    (fun a d => modRs a (fun x => { x with markComing := true }) d) d

/-! ## Converter pairs (R117–R130) -/

/-- MODE of pair `p`: 0 INTERLEAVE, 1 DUAL, 2 HALF_A, 3 HALF_B (R118). -/
def adsMode (d : Dev) (p : Nat) : Nat := fld d (ADS_Pp_CFG p) 1 0

/-- Show the queue levels of pair `p`. -/
def adsLevels (p : Nat) (d : Dev) : Dev :=
  let x := adsPair d p
  wr (ADS_Pp_QLEVEL p) (setBits (setBits 0 2 0 x.injQueue.length) 11 8 x.regQueue.length) d

/-- Is the start `v` one that pair `p` refuses (R122)? -/
def adsRefused (d : Dev) (p : Nat) (v : Word) : Bool :=
  decide (bits v 23 16 = 0) || decide (bits v 29 28 = 3)
    || (bit v 26 && (decide (bits v 23 16 ≠ 1) || decide (adsMode d p = 1) || !rsNamed d (8 * p + bits v 6 4)))

/-- The request that start `v` stands for (R123, R145). -/
def adsRequest (v : Word) : AdsReq :=
  ⟨bits v 6 4, bits v 10 8, bits v 23 16, bit v 26, bits v 29 28, bit v 27⟩

/-- A write of `v` to `ADS_Pp_START` (R122, R123): true where it is refused. -/
def adsStart (p : Nat) (v : Word) (d : Dev) : Bool × Dev :=
  if !bit v 0 then (false, d)
  else if adsRefused d p v then (true, d)
  else
    let x := adsPair d p
    if bit v 1 then
      if x.injQueue.length < 4 then
        (false, adsLevels p (modPair p (fun x => { x with injQueue := x.injQueue ++ [adsRequest v] }) d))
      else (false, raise Src.ADS_QOVF p (setFlag (ADS_Pp_STATUS p) 5 true (incFld (ADS_Pp_QOVF_CNT p) 15 0 d)))
    else if x.regQueue.length < 8 then
      (false, adsLevels p (modPair p (fun x => { x with regQueue := x.regQueue ++ [adsRequest v] }) d))
    else (false, raise Src.ADS_QOVF p (setFlag (ADS_Pp_STATUS p) 5 true (incFld (ADS_Pp_QOVF_CNT p) 15 0 d)))

/-- An EVS action on `ADS_Pp_START`: a refused one sets START_ERR and raises ADS_START_ERR. -/
def adsStartEvs (p : Nat) (v : Word) (d : Dev) : Dev :=
  let (bad, d) := adsStart p v d
  if bad then raise Src.ADS_START_ERR p (setFlag (ADS_Pp_STATUS p) 6 true d) else d

/-- What is left of a request after one more conversion of it has begun. -/
def adsRest (r : AdsReq) : Option AdsReq := if r.count ≤ 1 then none else some { r with count := r.count - 1 }

/-- The next conversion in the priority order of R124: injected or not, the request, and the pair without it. -/
def adsNext (x : AdsPair) : Option (Bool × AdsReq × AdsPair) :=
  match x.injCur, x.injQueue, x.regCur, x.regQueue with
  | some r, _, _, _ => some (true, r, { x with injCur := adsRest r })
  | none, r :: q, _, _ => some (true, r, { x with injCur := adsRest r, injQueue := q })
  | none, [], some r, _ => some (false, r, { x with regCur := adsRest r })
  | none, [], none, r :: q => some (false, r, { x with regCur := adsRest r, regQueue := q })
  | none, [], none, [] => none

/-- Is half `h` (true = B) of pair `p` acquiring or converting? -/
def adsBusy (d : Dev) (p : Nat) (h : Bool) : Bool := ((vget (adsPair d p).halves (b2n h))).isSome

/-- Is pair `p` calibrating? -/
def calRunning (d : Dev) (p : Nat) : Bool := flag d (ADS_Pp_CAL_STATUS p) 16

/-- The half that is being calibrated (true = B). -/
def calHalf (d : Dev) (p : Nat) : Bool := flag d (ADS_Pp_CAL_STATUS p) 17

/-- May half `h` serve alone now (R118, R129)? While a half calibrates, the other serves in its place. -/
def halfServes (d : Dev) (p : Nat) (h : Bool) : Bool :=
  if calRunning d p then decide (adsMode d p ≠ 1) && decide (h ≠ calHalf d p)
  else match adsMode d p with | 0 => true | 2 => !h | 3 => h | _ => false

/-- Does half `h` serve in place of the half that calibrates? -/
def servesInPlace (d : Dev) (p : Nat) (h : Bool) : Bool :=
  calRunning d p && decide (adsMode d p = 0 ∨ (adsMode d p = 2 ∧ h = true) ∨ (adsMode d p = 3 ∧ h = false))

/-- Half `h` begins a conversion of input index `sel`. -/
def beginHalf (p : Nat) (h inj : Bool) (r : AdsReq) (sel : Nat) (dual : Bool) (d : Dev) : Dev :=
  let c : AdsConv := ⟨8 * p + sel, inj, r.rs, r.rsPhase, r.rsNeg, !flag d (ADS_Pp_STATUS p) 0,
    servesInPlace d p h, dual, now d + fld d (ADS_Pp_CFG p) 25 16⟩
  setFlag (ADS_Pp_STATUS p) (if h then 2 else 1) true
    (modPair p (fun x => { x with halves := vset x.halves (b2n h) (some c) }) d)

/-- A slot at which half `h` can begin an acquisition (R124). In DUAL mode both halves begin together; during a
calibration only an injected request does, and the calibration pauses for it (R129). -/
def adsAcquire (p : Nat) (h : Bool) (d : Dev) : Dev :=
  match adsNext (adsPair d p) with
  | none => d
  | some (inj, r, x) =>
    if adsMode d p = 1 then
      if adsBusy d p false || adsBusy d p true || (calRunning d p && !inj) then d
      else
        let d := adsLevels p (modPair p (fun _ => x) d)
        beginHalf p true inj r r.selB true (beginHalf p false inj r r.selA true d)
    else if adsBusy d p h || !halfServes d p h then d
    else beginHalf p h inj r r.selA false (adsLevels p (modPair p (fun _ => x) d))

/-- The resolver channel that takes pair `p` (R103). -/
def resolverOf (d : Dev) (p : Nat) : Option Nat :=
  (List.range 8).find? (fun n => decide (pfMode d n = 5) && decide (fld d (PFC_PFn_CPR n) 2 0 = p))

/-- VALUE of code `c` on AIN `i` (R126). -/
def adsValue (d : Dev) (i c : Nat) : Int :=
  satQ15 (((c : Int) - (fld d (ADS_AINnn_CFG i) 13 0 : Int)) * ((2 ^ fld d (ADS_AINnn_CFG i) 25 24 : Nat) : Int))

/-- A result pair of a resolver pair: half A's code is kept until half B's comes (R103). -/
def resolverResult (n p : Nat) (h : Bool) (mid code : Nat) (ts : Nat) (d : Dev) : Dev :=
  if h then
    match (adsPair d p).resA with
    | some (ca, ma) =>
      resolverSample n ((ca : Int) - ma) ((code : Int) - mid) (ts : Int) (modPair p (fun x => { x with resA := none }) d)
    | none => d
  else modPair p (fun x => { x with resA := some (code, mid) }) d

/-- The conversion `c` of half `h` completes with calibrated code `code` (R126, R127). -/
def adsDeliver (p : Nat) (h : Bool) (c : AdsConv) (code : Nat) (d : Dev) : Dev :=
  let i := c.input
  let v := adsValue d i code
  let ovr := (adsPair d p).unread.getLsbD (i % 8)
  let w := setBit (setBit (setBit (setBit (setBit (setBit (wordOf (unsigned 16 v)) 16 c.ru) 17 c.halfRate) 18 c.inj)
    19 h) 20 ovr) 21 c.rs
  let d := wr (ADS_AINnn_TS i) (wordOf c.ts) (wr (ADS_AINnn_RES i) w d)
  let d := modPair p (fun x => { x with unread := x.unread ||| BitVec.ofNat 8 (2 ^ (i % 8)) }) d
  let d := match resolverOf d p with
    | some n => if c.dual then resolverResult n p h (fld d (ADS_AINnn_CFG i) 13 0) code c.ts d else d
    | none =>
      match ownerAxis d 0x04 i with
      | some a =>
        if flag d (ADS_AINnn_CFG i) 31 then
          ceInput a (fld d (ADS_AINnn_CFG i) 21 16) (inWord v c.ru false c.halfRate ovr) d
        else d
      | none => d
  let d := if c.rs then
      forEach (idxWhere 4 (fun a => rsNames d a i)) (fun a d => rsSample a c.rsPhase c.rsNeg v c.ru c.ts d) d
    else d
  pspDelivery false i v c.ru d

/-- The conversion of half `h` of pair `p` is done. -/
def adsDone (p : Nat) (h : Bool) (code : Nat) (d : Dev) : Dev :=
  match vget (adsPair d p).halves (b2n h) with
  | none => d
  | some c =>
    let d := modPair p (fun x => { x with halves := vset x.halves (b2n h) none }) d
    adsDeliver p h c code (setFlag (ADS_Pp_STATUS p) (if h then 2 else 1) false d)

/-- Calibration of pair `p` is requested; a request merges with one that is pending or running (R128). -/
def calRequest (p : Nat) (d : Dev) : Dev :=
  if calRunning d p then d else modPair p (fun x => { x with calPending := true }) d

/-- Calibration is aborted and requeued (R130). -/
def calAbort (p : Nat) (d : Dev) : Dev :=
  if calRunning d p then
    modPair p (fun x => { x with calPending := true }) (setFld (ADS_Pp_CAL_STATUS p) 17 16 0 d)
  else d

/-- Is an injected conversion of pair `p` waiting, under way or in progress? -/
def injectedWork (d : Dev) (p : Nat) : Bool :=
  let x := adsPair d p
  !x.injQueue.isEmpty || x.injCur.isSome ||
    [0, 1].any (fun h => match vget x.halves h with | some c => c.inj | none => false)

/-- An attempt to start a pending calibration (R128). -/
def calStart (p : Nat) (d : Dev) : Dev :=
  if (adsPair d p).calPending && !calRunning d p then
    if injectedWork d p then incFld (ADS_Pp_CAL_STATUS p) 15 0 d
    else modPair p (fun x => { x with calPending := false }) (setFld (ADS_Pp_CAL_STATUS p) 17 16 1 d)
  else d

/-- The calibration of one half completes with coefficients `coef`; half B's ends the calibration (R128, R130). -/
def calHalfDone (p : Nat) (coef : Word) (d : Dev) : Dev :=
  if calRunning d p then
    let h := calHalf d p
    let d := wr (if h then ADS_Pp_COEF_B p else ADS_Pp_COEF_A p) coef d
    let d := modPair p (fun x => { x with calDone := vset x.calDone (b2n h) (now d),
                                          calLate := vset x.calLate (b2n h) false }) d
    if h then setFld (ADS_Pp_CAL_STATUS p) 17 16 0 d else setFlag (ADS_Pp_CAL_STATUS p) 17 true d
  else d

/-- No calibration of half `h` has completed for 4 s (R130). -/
def calLateCheck (p : Nat) (h : Bool) (d : Dev) : Dev :=
  let x := adsPair d p
  if !vget x.calLate (b2n h) && elapsed d (vget x.calDone (b2n h)) 3200000000 then
    raise Src.ADS_CAL_LATE p (setFlag (ADS_Pp_CAL_STATUS p) 24 true
      (modPair p (fun x => { x with calLate := vset x.calLate (b2n h) true }) d))
  else d

/-- REF_RDY of pair `p` clears (R120): a running calibration is aborted and the comparators on the pair's inputs see an
invalid input. -/
def refLost (p : Nat) (d : Dev) : Dev :=
  let d := calAbort p (setFlag (ADS_Pp_STATUS p) 0 false d)
  forEach (fcmpsOfPair d p) fcmpOnInvalid d

/-- REF_RDY of pair `p` sets. -/
def refReady (p : Nat) (d : Dev) : Dev :=
  let was := flag d (ADS_Pp_STATUS p) 0
  let d := setFlag (ADS_Pp_STATUS p) 0 true d
  if was then d else forEach (fcmpsOfPair d p) fcmpOnValid d

/-- The MODE of pair `p` has changed at a commit boundary: queued requests are discarded (R119). -/
def adsFlush (p : Nat) (d : Dev) : Dev :=
  let d := modPair p (fun x => { x with injQueue := [], injCur := none, regQueue := [], regCur := none }) d
  raise Src.ADS_FLUSH p (setFlag (ADS_Pp_STATUS p) 7 true (adsLevels p d))

/-! ## Sigma-delta channels (R131–R134) -/

/-- The weights of a sincN filter: `n` convolutions of `r` ones. -/
def sincWeights (r : Nat) : Nat → List Nat
  | 0 => [1]
  | n + 1 =>
    let w := sincWeights r n
    (List.range (w.length + r - 1)).map (fun i =>
      (List.range r).foldl (fun acc j => if j ≤ i then acc + listGet 0 w (i - j) else acc) 0)

/-- The output of a sincN filter of order `n` and ratio `r` over the newest bits of `h`, oldest first (R132); bits that
have not come yet add nothing. -/
def sincOutput (n r : Nat) (h : List Bool) : Int :=
  let w := sincWeights r n
  let newest := h.reverse.take w.length
  let sum : Int := (newest.zip w).foldl (fun acc (b, k) => if b then acc + (k : Int) else acc - (k : Int)) 0
  satQ15 (roundDiv (sum * 32768) ((r ^ n : Nat) : Int))

/-- MOSR as a ratio: 0x00 stands for 256 (R148). -/
def mosr (d : Dev) (n : Nat) : Nat :=
  let v := fld d (SDM_SDnn_FILT n) 7 0
  if v = 0 then 256 else v

/-- Deliver value `v` with `ts` from channel `n` (R133). -/
def sdmDeliver (n : Nat) (v : Int) (ts : Nat) (d : Dev) : Dev :=
  let ovr := (sdmChan d n).unread
  let d := wr (SDM_SDnn_TS n) (wordOf ts) (wr (SDM_SDnn_RES n) (setBit (wordOf (unsigned 16 v)) 16 ovr) d)
  let d := modSdm n (fun x => { x with unread := true }) d
  let d := match ownerAxis d 0x06 n with
    | some a => if flag d (SDM_SDnn_ROUTE n) 31 then
        ceInput a (fld d (SDM_SDnn_ROUTE n) 5 0) (inWord v false false false ovr) d else d
    | none => d
  pspDelivery true n v false d

/-- The open capture of channel `n` closes. -/
def sdmClose (n : Nat) (d : Dev) : Dev :=
  setFlag (SDM_SDnn_STATUS n) 9 false (modSdm n (fun x => { x with capture := none }) d)

/-- The open capture of channel `n` takes the output `v`: true where it has delivered it as it is. -/
def sdmCapture (n : Nat) (c : SdmCapture) (v : Int) (ts : Nat) (d : Dev) : Dev :=
  if c.resync ∧ ts < c.tick then d
  else if !c.avg then sdmDeliver n v ts (sdmClose n d)
  else
    let taken := c.taken ++ [(v, ts)]
    if taken.length < c.len then modSdm n (fun x => { x with capture := some { c with taken } }) d
    else
      let sum : Int := taken.foldl (fun acc (v, _) => acc + v) 0
      let first := match taken with | (_, t) :: _ => t | [] => ts
      sdmDeliver n (roundDiv sum (Nat.max 1 c.len : Nat)) ((first + ts) / 2) (sdmClose n d)

/-- Does the open capture of channel `n` deliver this very output? -/
def captureIsOutput (d : Dev) (n ts : Nat) : Bool :=
  match (sdmChan d n).capture with
  | some c => !c.avg && !(c.resync && decide (ts < c.tick))
  | none => false

/-- The main decimator of channel `n` emits an output, `bits` being the modulator bits since the last one (R132, R133).
An invalid channel delivers nothing. -/
def sdmOutput (n : Nat) (bits_ : List Bool) (ts : Nat) (d : Dev) : Dev :=
  if !flag d (SDM_SDnn_CFG n) 31 then d
  else
    let h := lastN 766 ((sdmChan d n).history ++ bits_)
    let d := modSdm n (fun x => { x with history := h }) d
    let fast := sincOutput (fld d (SDM_SDnn_FILT n) 31 30) (fld d (SDM_SDnn_FILT n) 22 16) h
    let d := wr (SDM_SDnn_FAST n) (wordOf (unsigned 16 fast)) d
    if !flag d (SDM_SDnn_STATUS n) 8 then d
    else
      let v := sincOutput (fld d (SDM_SDnn_FILT n) 9 8) (mosr d n) h
      let once := captureIsOutput d n ts
      let d := if flag d (SDM_SDnn_CFG n) 30 && !once then sdmDeliver n v ts d else d
      match (sdmChan d n).capture with
      | some c => sdmCapture n c v ts d
      | none => d

/-- A write of `v` to `SDM_SDnn_WIN` (R133): true where a field lies outside its range. -/
def sdmWindow (n : Nat) (v : Word) (d : Dev) : Bool × Dev :=
  if !bit v 0 then (false, d)
  else if bit v 1 && decide (bits v 23 16 = 0) then (true, d)
  else if (sdmChan d n).capture.isSome then
    (false, incFld (SDM_SDnn_BUSY_CNT n) 15 0 (setFlag (SDM_SDnn_STATUS n) 3 true d))
  else
    let c : SdmCapture := ⟨now d, bit v 2, bit v 1, bits v 23 16, []⟩
    (false, setFlag (SDM_SDnn_STATUS n) 9 true (modSdm n (fun x => { x with capture := some c }) d))

/-- A condition of R134 is found on channel `n`: its status bit, its source, and the channel is invalid. -/
def sdmInvalid (n bit_ src : Nat) (d : Dev) : Dev :=
  let d := raise src n (setFlag (SDM_SDnn_STATUS n) 8 false (setFlag (SDM_SDnn_STATUS n) bit_ true d))
  forEach (fcmpsOf d false n) fcmpOnInvalid d

/-- The condition has been absent for 64 clocks: channel `n` is valid again. -/
def sdmValid (n : Nat) (d : Dev) : Dev :=
  let was := flag d (SDM_SDnn_STATUS n) 8
  let d := setFlag (SDM_SDnn_STATUS n) 8 true d
  if was then d else forEach (fcmpsOf d false n) fcmpOnValid d

end Sys2Proof.Machine
end

