-- ==== Sys2Proof/Machine/PwmCore.lean ====
section
/-! DEFINITION. Modulation (R212–R236, R530): stage copy, edge computation, Load Instant, period start, trips, latches,
handback of ports. -/

namespace Sys2Proof.Machine

open Reg

/-! ## Edges of one period (R216–R219, R225, R234) -/

/-- A phase in units of 1/65,536 period as an offset in NAP of a period of `p` ticks (R216). -/
def phaseNap (p : Nat) (phi : Int) : Nat := (phi.toNat * (8 * p)) / 65536

/-- Rising and falling phase of a duty (R216): `d` is at least 0. -/
def dutyPhases (align d : Nat) : Nat × Nat :=
  match align with
  | 1 => (0, 2 * d)
  | 2 => (65536 - 2 * d, 65536)
  | _ => (32768 - d, 32768 + d)

/-- The duty that leg values give, a negative one counting as 0. -/
def dutyOf (v : LegVals) : Nat := (sbits v.duty 15 0).toNat

/-- Offsets A and B of the high side of a period of `p` ticks (R216); `rise` is a shifted rising phase (R225). -/
def abOf (v : LegVals) (align p : Nat) (rise : Option Nat) : Nat × Nat :=
  if v.src then (Nat.min (bits v.cmp0 22 0) (8 * p), Nat.min (bits v.cmp1 22 0) (8 * p))
  else
    let d := dutyOf v
    match rise with
    | some r => (phaseNap p r, phaseNap p (r + 2 * d))
    | none =>
      let (r, f) := dutyPhases align d
      (phaseNap p r, phaseNap p f)

/-- What the dead-time and short-pulse stages make of one period: the edges, whether the high side is on at its end,
the first edge of the interval that spans the next boundary, and the intervals dropped and stretched. -/
structure PeriodEdges where
  edges : List Edge
  highOn : Bool
  openEdge : Nat
  drops : Nat
  stretches : Nat
  dropHigh : Bool
  deriving DecidableEq, Repr, Inhabited

/-- What the filter does with an interval of length `len` (R218): 0 nothing, 1 drop, 2 stretch. -/
def filterOf (v : LegVals) (len : Int) : Nat :=
  let m : Int := 8 * (bits v.minpw 12 0 : Int)
  let mode := bits v.minpw 31 30
  if m ≤ len then 0
  else match mode with
    | 0 => 1
    | 1 => 2
    | _ => if 2 * len < m then 1 else 2

/-- MINPW in NAP. -/
def minpwNap (v : LegVals) : Nat := 8 * bits v.minpw 12 0

/-- Dead time before the high side turns on, and before the low side does; a single switch has none (R217, R236). -/
def deadTimes (single : Bool) (v : LegVals) : Nat × Nat := if single then (0, 0) else (bits v.dt 15 0, bits v.dt 31 16)

/-- The high-side interval that begins at `a` (its low-side edge) and ends at `b` (absolute NAP), filtered (R217, R218):
`e0` are the edges before it, `lowOpen` the first edge of the low-side interval that precedes it. The interval reaches
past the period's end where `b` is none. -/
def highInterval (v : LegVals) (dtOn dtOff a lowOpen : Nat) (b : Option Nat) (e0 : List Edge) (drops stretches : Nat) :
    PeriodEdges :=
  let on := a + dtOn
  match b with
  | none => ⟨e0 ++ [⟨false, false, a⟩, ⟨true, true, on⟩], true, on, drops, stretches, false⟩
  | some b =>
    match filterOf v ((b : Int) - on) with
    | 1 => ⟨e0, false, lowOpen, drops + 1, stretches, true⟩
    | f =>
      let off := if f = 2 then on + minpwNap v else b
      ⟨e0 ++ [⟨false, false, a⟩, ⟨true, true, on⟩, ⟨true, false, off⟩, ⟨false, true, off + dtOff⟩], false, off + dtOff,
        drops, stretches + (if f = 2 then 1 else 0), false⟩

/-- The later edge of an interval that spans the boundary: stretched from its first edge where it is too short (R219);
true where it was. -/
def spanEnd (v : LegVals) (first later : Nat) : Nat × Bool :=
  if (later : Int) - first < minpwNap v then (first + minpwNap v, true) else (later, false)

/-- The edges of a period that starts at `s` (NAP), is `len` NAP long, and whose high side is on in [A, B) (R217–R219).
`high` is the level at the boundary and `first` the first edge of the interval that spans it. -/
def periodEdges (single : Bool) (v : LegVals) (s len a b : Nat) (high : Bool) (first : Nat) : PeriodEdges :=
  let (dtOn, dtOff) := deadTimes single v
  let any := decide (a < b)
  let full := decide (len ≤ b)
  let endB := if full then none else some (s + b)
  if high then
    if any && decide (a = 0) then
      if full then ⟨[], true, first, 0, 0, false⟩
      else
        let (off, str) := spanEnd v first (s + b)
        ⟨[⟨true, false, off⟩, ⟨false, true, off + dtOff⟩], false, off + dtOff, 0, b2n str, false⟩
    else
      let (off, str) := spanEnd v first s
      let low := off + dtOff
      let e0 : List Edge := [⟨true, false, off⟩, ⟨false, true, low⟩]
      if !any then ⟨e0, false, low, 0, b2n str, false⟩
      else
        let toA := s + a
        let f := filterOf v ((toA : Int) - low)
        let nextLow := match endB with | some x => some (x + dtOff) | none => none
        let crowded : Bool := match nextLow with
          | some x => decide ((x : Int) - ((low + minpwNap v : Nat) : Int) < (minpwNap v : Int))
          | none => false
        if f = 1 ∨ (f = 2 ∧ crowded) then
          match endB with
          | none => ⟨[], true, first, 1, b2n str, false⟩
          | some x =>
            let (off, str2) := spanEnd v first x
            ⟨[⟨true, false, off⟩, ⟨false, true, off + dtOff⟩], false, off + dtOff, 1, b2n str2, false⟩
        else
          let la := if f = 2 then low + minpwNap v else toA
          highInterval v dtOn dtOff la low endB e0 0 (b2n str + (if f = 2 then 1 else 0))
  else if !any then ⟨[], false, first, 0, 0, false⟩
  else
    let (la, str) := spanEnd v first (s + a)
    highInterval v dtOn dtOff la first endB [] 0 (b2n str)

/-- The edges of a period with a forced refresh pulse (R234): off at S, low side on after DTOFF for MINOFF at least, high
side on after DTON; the forced pulse is not filtered. -/
def forcedEdges (v : LegVals) (s len a b : Nat) (high : Bool) : PeriodEdges :=
  let (dtOn, dtOff) := deadTimes false v
  let la := Nat.max (s + a) (s + dtOff + 8 * bits v.boot 12 0)
  let e0 : List Edge := if high then [⟨true, false, s⟩, ⟨false, true, s + dtOff⟩] else []
  if b ≤ a then ⟨e0, false, s + dtOff, 0, 0, false⟩
  else highInterval v dtOn dtOff la (s + dtOff) (if len ≤ b then none else some (s + b)) e0 0 0

/-- NAP for which the high side is on between `s` and `s + len`, from its level at `s` and its edges. -/
def highOnTime (s len : Nat) (high : Bool) (es : List Edge) : Nat :=
  let hs := es.filter (fun e => e.high)
  let (t, lv, sum) := hs.foldl (fun (acc : Nat × Bool × Nat) e =>
    let (t, lv, sum) := acc
    let x := Nat.max s (Nat.min e.time (s + len))
    (x, e.on, if lv then sum + (x - t) else sum)) (s, high, 0)
  if lv then sum + (s + len - t) else sum

/-! ## Single shunt (R225, R226) -/

/-- The legs of triple `t` (0 or 1) of group `g`: the group's phase legs in ascending order, three by three. -/
def tripleLegs (d : Dev) (g t : Nat) : List Nat :=
  (((idxWhere 24 (fun l => legEn d l && decide (legGroup d l = g))).drop (3 * t)).take 3)

/-- Insert a leg by decreasing duty, ties in ascending index. -/
def insertDuty (x : Nat × Nat) : List (Nat × Nat) → List (Nat × Nat)
  | [] => [x]
  | y :: r => if y.2 < x.2 then x :: y :: r else y :: insertDuty x r

/-- The shifted rising phases of a triple, leg by leg; the first is none where r1' < 0 (R225, R226). -/
def shiftTriple (wmin : Nat) (legs : List (Nat × Nat)) : Option (List (Nat × Nat)) :=
  match legs.foldl (fun acc x => insertDuty x acc) [] with
  | [(l1, d1), (l2, d2), (l3, d3)] =>
    let r3 : Int := 32768 - d3
    let r2 : Int := min (32768 - (d2 : Int)) (r3 - wmin)
    let r1 : Int := min (32768 - (d1 : Int)) (r2 - wmin)
    if r1 < 0 then none else some [(l1, r1.toNat), (l2, r2.toNat), (l3, r3.toNat)]
  | _ => some []

/-! ## Trips (R228–R231) -/

/-- Is leg `l` blanked now (R228)? -/
def legBlanked (d : Dev) (l : Nat) : Bool :=
  let b := 8 * fld d (PWM_PLnn_BLANK l) 12 0
  (leg d l).issued.any (fun t => decide (t ≤ 8 * now d) && decide (8 * now d < t + b))

/-- Is TRIP pin `k` asserted after its filter (R228)? -/
def pinAsserted (d : Dev) (k : Nat) : Bool := decide (d.pwm.pins.getLsbD k = flag d PWM_TRIP_CFG k)

/-- Is the source selected by leg `l`? -/
def tripSelected (d : Dev) (l : Nat) : TripSource → Bool
  | .fcmp k => flag d (PWM_PLnn_TRIPSEL0 l) k.val
  | .pin k => flag d (PWM_PLnn_TRIPSEL1 l) k.val
  | .driver => flag d (PWM_PLnn_TRIPSEL1 l) 8

/-- Is a selected level source of leg `l` asserted now? -/
def levelAsserted (d : Dev) (l : Nat) : Bool :=
  (List.range 32).any (fun k => flag d (PWM_PLnn_TRIPSEL0 l) k && fcmpToPwm d k)
    || (List.range 8).any (fun k => flag d (PWM_PLnn_TRIPSEL1 l) k && pinAsserted d k)

/-- PWM hands OFF_NOW for every switch of leg `l` to GLK; timed edges ahead are discarded (R229). -/
def legOffNow (l : Nat) (d : Dev) : Dev :=
  let d := modLeg l (fun x => { x with issued := x.issued.filter (fun t => decide (t ≤ 8 * now d)) }) d
  forEach (legPorts d l) pushOffNow d

/-- Leg `l` latches (R231): OFF_NOW, LATCH, STATE = LATCHED, and a leg fault to PSP. -/
def legLatch (l : Nat) (d : Dev) : Dev :=
  let d := legOffNow l d
  pspLegLatch l (setLegState l 3 (setFlag (PWM_PLnn_STATUS l) 5 true d))

/-- A trip of leg `l` acts (R229–R231). -/
def legTrip (l : Nat) (d : Dev) : Dev :=
  let d := setFlag (PWM_PLnn_STATUS l) 7 true (incFld (PWM_PLnn_TRIP_CNT l) 15 0 d)
  let st := legState d l
  if st ≠ 1 ∧ st ≠ 4 then d
  else
    let d := if st = 1 then
        setLegState l 4 (legOffNow l (modLeg l (fun x => { x with tripTick := now d }) d))
      else d
    if (leg d l).trippedNow then d
    else
      let run := (leg d l).tripRun + 1
      let d := modLeg l (fun x => { x with trippedNow := true, tripRun := run }) d
      if fld d (PWM_PLnn_BLANK l) 23 16 ≤ run then legLatch l d else d

/-- Trip source `src` of leg `l` reaches the trip input (R228). -/
def tripInput (l : Nat) (src : TripSource) (d : Dev) : Dev :=
  match src with
  | .driver =>
    if (leg d l).report then
      let d := modLeg l (fun x => { x with report := false }) d
      if legBlanked d l then modLeg l (fun x => { x with heldReport := true }) d else legTrip l d
    else d
  | .fcmp k => if tripSelected d l src && fcmpToPwm d k.val && !legBlanked d l then legTrip l d else d
  | .pin k => if tripSelected d l src && pinAsserted d k.val && !legBlanked d l then legTrip l d else d

/-- The blanking of leg `l` ends (R228): a held driver report or a source that is still asserted acts. -/
def blankEnd (l : Nat) (d : Dev) : Dev :=
  if legBlanked d l then d
  else if (leg d l).heldReport || levelAsserted d l then legTrip l (modLeg l (fun x => { x with heldReport := false }) d)
  else d

/-! ## Stage copy (R220–R224) -/

/-- The shadow values of leg `l`. -/
def shadowVals (d : Dev) (l : Nat) : LegVals :=
  { src := flag d (PWM_PLnn_CFG l) 24, duty := rd d (PWM_PLnn_DUTY l), cmp0 := rd d (PWM_PLnn_CMP0 l),
    cmp1 := rd d (PWM_PLnn_CMP1 l), dt := rd d (PWM_PLnn_DT l), minpw := rd d (PWM_PLnn_MINPW l),
    boot := rd d (PWM_PLnn_BOOT l) }

/-- Leg `l` copies its shadows; with `keep`, DUTY, CMP0 and CMP1 stay the live ones (R223). -/
def stageLeg (keep : Bool) (l : Nat) (d : Dev) : Dev :=
  let v := shadowVals d l
  modLeg l (fun x =>
    if keep then { x with staged := { v with
        duty := x.live.duty, cmp0 := x.live.cmp0, cmp1 := x.live.cmp1 }, stagedFresh := false }
    else { x with staged := v, stagedFresh := x.fresh, stagedBasis := x.valueBasis, fresh := false }) d

/-- The group settings of group `g` are copied, with period `p` (R220, R530). -/
def stageGroup (g p : Nat) (split timeout : Bool) (d : Dev) : Dev :=
  modGroup g (fun x => { x with
    staged := true, stagedPeriod := p, stagedAlign := fld d (PWM_CGg_CFG g) 1 0,
    stagedPaired := flag d (PWM_CGg_CFG g) 30, stagedSs := rd d (PWM_CGg_SS g),
    stagedSplit := split, stagedTimeout := timeout, freshPeriod := false }) d

/-- The last period that group `g` has taken; before the first Load Instant, the one in its shadow. -/
def takenPeriod (d : Dev) (g : Nat) : Nat :=
  let x := group d g
  if x.comingPeriod = 0 then fld d (PWM_CGg_PERIOD g) 19 0 else x.comingPeriod

/-- The stage copy of group `g` for its coming Load Instant (R220, R223, R224), 16 ticks before it. -/
def stageCopy (g : Nat) (d : Dev) : Dev :=
  let x := group d g
  let ls := groupLegs d g
  if !x.running || x.staged || decide (now d + 16 < x.nextLi) then d
  else if x.stopping then modGroup g (fun x => { x with staged := true }) d
  else match x.pending with
  | some q =>
    if ls.all (fun l => q.written.getLsbD l) then
      let d := forEach ls (stageLeg false) d
      let d := setFlag (PWM_CGg_STATUS g) 1 false (modGroup g (fun x => { x with pending := none }) d)
      stageGroup g q.value false false d
    else if 3 ≤ q.loads then
      let d := forEach ls (stageLeg false) d
      let d := setFlag (PWM_CGg_STATUS g) 1 false (modGroup g (fun x => { x with pending := none }) d)
      stageGroup g (takenPeriod d g) true true d
    else
      let d := forEach ls (fun l d => stageLeg (q.written.getLsbD l) l d) d
      let d := modGroup g (fun x => { x with pending := some { q with loads := q.loads + 1 } }) d
      stageGroup g (takenPeriod d g) false false d
  | none =>
    let split := x.freshPeriod && !(ls.all (fun l => (leg d l).fresh))
    let p := if x.freshPeriod then fld d (PWM_CGg_PERIOD g) 19 0 else takenPeriod d g
    stageGroup g p split false (forEach ls (stageLeg false) d)

/-! ## Handing edges over -/

/-- The port of one switch of leg `l`. -/
def switchPort (d : Dev) (l : Nat) (high : Bool) : Nat := if high then highPort d l else lowPort d l

/-- Hand edges of leg `l` to GLK; the edges of the switch that a single-switch channel does not have are not there
(R212). -/
def handEdges (l : Nat) (es : List Edge) (d : Dev) : Dev :=
  let es := if singleSwitch d l then es.filter (fun e => e.high) else es
  let d := es.foldl (fun d e => pushEdge (switchPort d l e.high) e.on e.time d) d
  let d := match es.find? (fun e => e.on), (if l < 24 then none else linkOfChannel d l) with
    | some e, some (k, true) => chopperEdge k ((e.time + 7) / 8) d
    | _, _ => d
  modLeg l (fun x => { x with issued := x.issued ++ es.map (fun e => e.time) }) d

/-- The state commanded at the period start `s` as edges (R233, R530): OFF at S, ON after the dead time, unless the
period itself moves that switch before. -/
def stateEdges (single : Bool) (v : LegVals) (s : Nat) (high : Bool) (es : List Edge) : List Edge :=
  let (dtOn, dtOff) := deadTimes single v
  let on : Edge := ⟨high, true, s + (if high then dtOn else dtOff)⟩
  [⟨!high, false, s⟩] ++
    (if es.any (fun e => decide (e.high = high) && decide (e.time ≤ on.time)) then [] else [on])

/-- What a TRIPPED leg issues of its period (R229): from the first edge at least LEAD after the trip on, with the state
that the other switch should hold there; none where the period has no such edge. -/
def resumeEdges (single : Bool) (v : LegVals) (from_ : Nat) (high : Bool) (es : List Edge) : Option (List Edge) :=
  match es.find? (fun e => decide (from_ ≤ e.time)) with
  | none => none
  | some e0 =>
    let t := e0.time
    let rest := es.filter (fun e => decide (t ≤ e.time))
    let before (sw : Bool) : Bool :=
      (es.filter (fun e => decide (e.high = sw) && decide (e.time < t))).foldl (fun _ e => e.on) (if sw then high else !high)
    let (dtOn, dtOff) := deadTimes single v
    let hold (sw : Bool) : List Edge :=
      if rest.any (fun e => decide (e.high = sw) && decide (e.time = t)) then []
      else if before sw then [⟨sw, true, t + (if sw then dtOn else dtOff)⟩] else [⟨sw, false, t⟩]
    let st := hold true ++ hold false
    some (st.filter (fun e => !e.on) ++ st.filter (fun e => e.on) ++ rest)

/-! ## Handback (R233) -/

/-- The own ports of leg `l`, with their mirrors. -/
def legAllPorts (d : Dev) (l : Nat) : List Nat := (legPorts d l).flatMap (withMirrors d)

/-- The ports of leg `l` that return to PWM at this Load Instant: released, and the leg takes values there on the
authority of a sample or write after the release. A leg whose LATCH is set stays off (R231). -/
def handbackPorts (d : Dev) (l : Nat) : List Nat :=
  let x := leg d l
  (legAllPorts d l).filter (fun p => safeOwned d p && x.stagedFresh && !flag d (PWM_PLnn_STATUS l) 5 &&
    (match (port d p).released with | some r => decide (r < x.stagedBasis) | none => false))

/-- Port `p` returns to PWM: GLK sends Release ahead of the period's edges (R261). -/
def givePort (p : Nat) (d : Dev) : Dev :=
  setFlag (GLK_GLnn_STATE p) 12 false
    (modPort p (fun x => { x with
      released := none, safeDue := x.safeDue ++ [.release], holdOn := none, holdOnAt := none, flown := [] }) d)

/-- A winding set none of whose ports the safe-state path owns any more, and for which no command waits, is NORMAL again
(R284, R292). -/
def normalSet (a set : Nat) (d : Dev) : Dev :=
  let ps := bankPorts d (setLegs d a set) true ++ bankPorts d (setLegs d a set) false
  if setState d a set ≠ 0 ∧ setState d a set ≠ 5 ∧ !ps.any (safeOwned d) ∧
      !d.glk.orders.any (fun o => ps.contains o.port) then
    let d := markSpeed a set false (putSetState a set 0 d)
    if (setsOf d a).all (fun s => decide (setState d a s = 0)) then setFld (PSP_AXa_STATE a) 27 24 0 d else d
  else d

/-- The set of leg `l` after ports of the leg have returned to PWM. -/
def normalAfter (l : Nat) (d : Dev) : Dev :=
  match ownerAxis d 0x02 l with
  | some a => normalSet a (setOfLeg d a l) d
  | none => d

/-! ## The Load Instant -/

/-- The commanded level of leg `l` at the start of its first period: on where A is 0. -/
def levelAtStart (a b : Nat) : Bool := decide (a = 0) && decide (a < b)

/-- Leg `l` of group `g` takes its staged values for the period from tick `s` with length `p` and hands its edges over
(R220, R229, R233, R234). -/
def loadLeg (g s p : Nat) (rise : Option Nat) (l : Nat) (d : Dev) : Dev :=
  let x := leg d l
  let v := x.staged
  let single := singleSwitch d l
  let s8 := 8 * s
  let (a, b) := abOf v (group d g).stagedAlign p rise
  let d := whenD (!v.src && decide (sbits v.duty 15 0 < 0)) (setFlag (PWM_PLnn_STATUS l) 9 true) d
  let fresh := !x.begun
  let back := handbackPorts d l
  let handback := !back.isEmpty
  let (dtOn, dtOff) := deadTimes single v
  let high := if fresh || handback then levelAtStart a b else x.highOn
  let first := if fresh || handback then s8 + (if high then dtOn else dtOff) else x.openEdge
  let forced := x.bootDue && bit v.boot 31 && decide (l < 24) && !fresh
  let pe := if forced then forcedEdges v s8 (8 * p) a b high else periodEdges single v s8 (8 * p) a b high first
  let onTime := highOnTime s8 (8 * p) high pe.edges
  let d := if pe.drops + pe.stretches = 0 then d
    else addFld (PWM_PLnn_FILT_CNT l) 31 16 pe.stretches (addFld (PWM_PLnn_FILT_CNT l) 15 0 pe.drops
      (setFlag (PWM_PLnn_STATUS l) 8 true d))
  let d := whenD forced (setFlag (PWM_PLnn_STATUS l) 10 true) d
  let d := wr (PWM_PLnn_LIVE1 l) (wordOf b) (wr (PWM_PLnn_LIVE0 l) (wordOf a) d)
  let full := decide (8 * p < onTime + 8 * bits v.boot 12 0)
  let run := if forced then 0 else if bit v.boot 31 && full then x.bootRun + 1 else 0
  let due := !forced && bit v.boot 31 && decide (l < 24) && decide (bits v.boot 23 16 ≤ run)
  let d := modLeg l (fun x => { x with
    live := v, highOn := pe.highOn, openEdge := pe.openEdge, begun := true, onTime,
    bootRun := if due then 0 else run, bootDue := due,
    tripRun := if x.trippedNow then x.tripRun else 0, trippedNow := false,
    issued := x.issued.filter (fun t => decide (8 * now d < t + 8 * 8000)) }) d
  let d := forEach back givePort d
  let owned := (legPorts d l).any (safeOwned d)
  if legState d l = 3 ∨ flag d (PWM_PLnn_STATUS l) 5 then
    if owned then d else setLegState l 3 d
  else if owned then setLegState l 2 d
  else if legState d l = 4 then
    match resumeEdges single v (8 * (x.tripTick + fld d (PWM_CGg_LEAD g) 13 0)) high pe.edges with
    | some es => handEdges l es (setLegState l 1 d)
    | none => d
  else
    let es := if handback || legState d l ≠ 1 then stateEdges single v s8 high pe.edges ++ pe.edges else pe.edges
    handEdges l es (setLegState l 1 d)

/-- The legs that stop at the next period start of group `g`: legs disabled, or moved to another group (R530). -/
def leavingLegs (d : Dev) (g : Nat) : List Nat :=
  idxWhere 32 (fun l => (leg d l).stopping && decide ((leg d l).oldGroup = some g))

/-- Leg `l` is to stop at period start `s` (R215, R530): an OFF edge for each switch. -/
def stopLeg (s l : Nat) (d : Dev) : Dev :=
  if legState d l = 1 ∨ legState d l = 4 then handEdges l [⟨true, false, 8 * s⟩, ⟨false, false, 8 * s⟩] d else d

/-- Leg `l` has stopped: IDLE, unless it is LATCHED, and it issues nothing more. -/
def idleLeg (l : Nat) (d : Dev) : Dev :=
  let d := if legState d l = 3 then d else setLegState l 0 d
  modLeg l (fun x => { x with begun := false, stopping := false, highOn := false, bootRun := 0, bootDue := false,
                              tripRun := 0, trippedNow := false, onTime := 0 }) d

/-- The shifted rising phases that group `g`'s single-shunt triples give at this Load Instant, and whether a triple has no
window because r1' < 0 (R225, R226). -/
def groupShifts (d : Dev) (g : Nat) : List (Nat × Nat) × Bool :=
  let ss := (group d g).stagedSs
  [0, 1].foldl (fun (acc : List (Nat × Nat) × Bool) t =>
    if bit ss (16 + t) then
      let ls := tripleLegs d g t
      match shiftTriple (bits ss 15 0) (ls.map (fun l => (l, dutyOf (leg d l).staged))) with
      | some r => (acc.1 ++ r, acc.2)
      | none => (acc.1, true)
    else acc) ([], false)

/-- Does a leg of a single-shunt triple have no on-time in the period just taken (R226)? -/
def groupNoWindow (d : Dev) (g : Nat) : Bool :=
  let ss := (group d g).stagedSs
  [0, 1].any (fun t => bit ss (16 + t) && (tripleLegs d g t).any (fun l =>
    decide ((leg d l).onTime = 0) || decide (dutyOf (leg d l).live = 0)))

/-- The Load Instant of group `g` (R214, R220): the staged values become live for the period that starts at `nextStart`,
its edges go to GLK, and EVS resolves the firings of that period. -/
def loadInstant (g : Nat) (d : Dev) : Dev :=
  let x := group d g
  let s := x.nextStart
  let ls := groupLegs d g
  if !x.running || !x.staged || decide (now d < x.nextLi) then d
  else if x.stopping then
    modGroup g (fun x => { x with comingStart := s, loaded := true, staged := false })
      (forEach (ls ++ leavingLegs d g) (stopLeg s) d)
  else
    let p := x.stagedPeriod
    let leaving := leavingLegs d g
    let going := ls.filter (fun l => !(leg d l).stopping && (leg d l).oldGroup.isNone)
    let (shifts, noShift) := groupShifts d g
    let handed := going.filter (fun l => decide (l < 24) && !(handbackPorts d l).isEmpty)
    let d := forEach going (fun l d =>
      loadLeg g s p ((shifts.find? (fun q => decide (q.1 = l))).map (fun q => q.2)) l d) d
    let d := forEach leaving (stopLeg s) d
    let d := if noShift || groupNoWindow d g then
        rsMark g (raise Src.PWM_SS_NOWIN g (incFld (PWM_CGg_NOWIN_CNT g) 15 0 (setFlag (PWM_CGg_STATUS g) 7 true d)))
      else d
    let d := whenD x.stagedTimeout (setFlag (PWM_CGg_STATUS g) 6 true) d
    let d := if x.stagedSplit then raise Src.PWM_SPLIT g (setFlag (PWM_CGg_STATUS g) 5 true d) else d
    let next := s + p
    let li := next - fld d (PWM_CGg_LEAD g) 13 0
    let d := modGroup g (fun x => { x with
      comingStart := s, comingPeriod := p, nextStart := next, nextLi := li, paired := x.stagedPaired, loaded := true, staged := false }) d
    let d := wr (PWM_CGg_NEXT_LI g) (wordOf li) d
    let d := forEach handed normalAfter d
    evsResolve g s p d

/-- Leg `l` has left the group it ran on; one whose CG was changed starts on its new group at that group's next Load
Instant. -/
def leaveGroup (l : Nat) (d : Dev) : Dev := modLeg l (fun x => { x with oldGroup := none }) (idleLeg l d)

/-- A carrier period of group `g` starts (R214); a stopping group stops (R215). -/
def periodStart (g : Nat) (d : Dev) : Dev :=
  let x := group d g
  if !x.running || !x.loaded || decide (now d < x.comingStart) then d
  else if x.stopping then
    let d := forEach (groupLegs d g) idleLeg d
    let d := forEach (leavingLegs d g) leaveGroup d
    let d := modGroup g (fun x => { x with
      running := false, stopping := false, loaded := false, period := 0, comingPeriod := 0 }) d
    evsCarrier g x.comingStart 0 (wr (PWM_CGg_LIVEPER g) 0 (setFlag (PWM_CGg_STATUS g) 0 false d))
  else
    let d := forEach (leavingLegs d g) leaveGroup d
    let d := modGroup g (fun x => { x with start := x.comingStart, period := x.comingPeriod, loaded := false }) d
    let d := wr (PWM_CGg_LIVEPER g) (wordOf x.comingPeriod) (wr (PWM_CGg_START g) (wordOf x.comingStart) d)
    evsCarrier g x.comingStart x.comingPeriod d

/-- Group `g` starts, as a commit with boundary `c` starts it (R215). -/
def groupStart (g c : Nat) (d : Dev) : Dev :=
  let lead := fld d (PWM_CGg_LEAD g) 13 0
  let d := modGroup g (fun x => { x with
    running := true, stopping := false, loaded := false, staged := false, nextLi := c + 32,
    nextStart := c + 32 + lead, period := 0, comingPeriod := 0, pending := none, freshPeriod := false,
    paired := flag d (PWM_CGg_CFG g) 30 }) d
  let d := forEach (groupLegs d g) (fun l d => modLeg l (fun x => { x with begun := false, stopping := false }) d) d
  wr (PWM_CGg_NEXT_LI g) (wordOf (c + 32)) (setFlag (PWM_CGg_STATUS g) 0 true d)

/-! ## Settings written (R530, R221) -/

/-- EN, CG or SRC of leg `l` changes from `old` to the value now in its register (R530). -/
def legCfgChanged (l : Nat) (old : Word) (d : Dev) : Dev :=
  let new := rd d (PWM_PLnn_CFG l)
  let en0 := bit old 31
  let en1 := bit new 31
  let g0 := bits old 30 28
  let run0 := (group d g0).running
  if en0 && !en1 then
    if run0 then modLeg l (fun x => { x with stopping := true, oldGroup := some g0 }) d else idleLeg l d
  else if !en0 && en1 then modLeg l (fun x => { x with begun := false, stopping := false, oldGroup := none }) d
  else if en0 && decide (g0 ≠ bits new 30 28) then
    if run0 then modLeg l (fun x => { x with stopping := true, oldGroup := some g0 }) d else idleLeg l d
  else d

/-- EN of group `g` changes from its bit in `old` to the one now in its register, with boundary `c` (R215). -/
def groupCfgChanged (g : Nat) (old : Word) (c : Nat) (d : Dev) : Dev :=
  let new := rd d (PWM_CGg_CFG g)
  if !bit old 31 && bit new 31 then
    if (group d g).running then modGroup g (fun x => { x with stopping := false }) d else groupStart g c d
  else if bit old 31 && !bit new 31 && (group d g).running then modGroup g (fun x => { x with stopping := true }) d
  else d

/-- Clearing LATCH of leg `l` (R231): true where it is refused. -/
def latchClear (l : Nat) (d : Dev) : Bool × Dev :=
  if legState d l = 2 ∨ !(group d (legGroup d l)).running then
    let d := setFlag (PWM_PLnn_STATUS l) 5 false d
    (false, modLeg l (fun x => { x with tripRun := 0 }) (if legState d l = 3 then setLegState l 0 d else d))
  else (true, d)

/-- A high-side undervoltage report reaches leg `l` (R235). -/
def bootUv (l : Nat) (d : Dev) : Dev :=
  let x := leg d l
  let g := legGroup d l
  if l < 24 ∧ legEn d l ∧ !bit x.live.boot 31 ∧ 8 * (group d g).comingPeriod < x.onTime + 8 * bits x.live.boot 12 0
      ∧ (group d g).running then
    let d := raise Src.PWM_BOOT_UV l (setFlag (PWM_PLnn_STATUS l) 11 true d)
    legLatch l d
  else d

end Sys2Proof.Machine
end

