-- ==== Sys2Proof/Machine/Fcr.lean ====
section
/-! DEFINITION. Lockout entry and the safe-state reaction of SIS (R320, R329), fault collection and the class reactions
(R337–R357), the FAULT_N and SAFE_N pins (R347, R348), and the end of every command: FCR handles the step's raisings. -/

namespace Sys2Proof.Machine

open Reg

/-! ## Reactions of SIS -/

/-- SIS commands the speed-selected safe state of axis `a` and drops its drive enable (R320, R340). -/
def sisSafe (a : Nat) (d : Dev) : Dev := enterSpeedSelected 5 a (dropEnable a d)

/-- The reaction of class AXIS_SAFE or ALL_SAFE on one axis. CEA_OBS_LOST that has begun a flying restart leaves the axis
in the ASC of the restart with its drive enable (R202, R203; DEDUCED, log entry 39). -/
def classSafe (k a : Nat) (d : Dev) : Dev :=
  if k = Src.CEA_OBS_LOST ∧ fld d (CEA_AXa_FC_STATUS a) 15 13 = 1 then d else sisSafe a d

/-- PSP shows the state of every axis in use as OFF while Lockout is in force (R307). -/
def showOff (a : Nat) (d : Dev) : Dev :=
  forEach (setsOf d a) (fun set d => markSpeed a set false (putSetState a set 4 d)) d

/-- The Lockout record as payload bytes. -/
def lockPayload (cause t : Nat) : List Byte := toLe32 cause ++ toLe64 t

/-- SIS enters Lockout, or adds a cause to a Lockout in force (R329, R330). `bit` is the cause's bit of `SIS_FAULT`. -/
def lockoutEntry (bit : Nat) (d : Dev) : Dev :=
  let d := setFlag SIS_FAULT bit true d
  let d := setFlag SIS_LOCK (16 + bit) true d
  let cause := fld d SIS_LOCK 31 16
  if lockout d then
    let d := { d with sis := { d.sis with lockRecord := some (cause, now d) } }
    journal 0x05 0x08 (lockPayload cause (now d)) d
  else
    let d := forEach [0, 1, 2, 3] dropEnable d
    let d := setFld SIS_STATE 2 0 2 d
    let d := issue .sis .holdOff (phasePorts d) d
    let d := forEach (axesInUse d) showOff d
    let d := forEach [0, 1, 2, 3] emergencyOpen d
    let (c, d) := drawRandom d
    let d := wr SIS_LOCK_CHAL c d
    let d := setFld SIS_LOCK 2 0 1 d
    { d with sis := { d.sis with lockRecord := some (cause, now d) } }

/-! ## Collection -/

/-- The axis that engine `n` serves or last served (R341). -/
def engineAxes (d : Dev) (n : Nat) : List Nat :=
  if fld d (CEA_CEn_STATE n) 2 0 = 0 then [] else [fld d (CEA_CEn_STATE n) 5 4]

/-- The axes that own instance `i` of class `c`; every axis in use where the owner is no axis (R341). -/
def ownerAxes (d : Dev) (c i : Nat) : List Nat :=
  match ownerAxis d c i with
  | some a => [a]
  | none => axesInUse d

/-- The axes concerned by a raising of `src` with DETAIL `x` (R341). -/
def concerned (d : Dev) (src x : Nat) : List Nat :=
  if src = 256 ∨ src = 257 ∨ (329 ≤ src ∧ src ≤ 332) ∨ src = 389 ∨ (453 ≤ src ∧ src ≤ 461) ∨ (640 ≤ src ∧ src ≤ 644)
      ∨ src = 705 ∨ src = 706 ∨ src = 708 ∨ src = 709 ∨ src = 134 ∨ src = 177 ∨ src = 179 then [x]
  else if src = 258 then (if x < 4 then [x] else axesInUse d)
  else if 448 ≤ src ∧ src ≤ 452 then engineAxes d x
  else if (645 ≤ src ∧ src ≤ 650) ∨ src = 713 ∨ src = 714 then linkAxes d x
  else if 320 ≤ src ∧ src ≤ 328 then ownerAxes d 0x08 x
  else if src = 336 ∨ src = 337 then ownerAxes d 0x0A x
  else if 384 ≤ src ∧ src ≤ 388 then ownerAxes d 0x05 (2 * x)
  else if 400 ≤ src ∧ src ≤ 402 then ownerAxes d 0x06 x
  else if src = 416 ∨ src = 417 then ownerAxes d 0x07 x
  else if src = 513 ∨ src = 516 then ownerAxes d 0x02 x
  else if src = 514 ∨ src = 515 then ownerAxes d 0x0B x
  else if (576 ≤ src ∧ src ≤ 582) ∨ (773 ≤ src ∧ src ≤ 777) then ownerAxes d 0x03 x
  else axesInUse d

/-- Add a record to the staging buffer, or coalesce it into a staged one (R356, R357). Coalescing takes the newest
staged record, which is the last of the list. -/
def stageRecord (r : FcrRec) (d : Dev) : Dev :=
  let q := d.fcr.stage
  let n := q.length
  let same := q.reverse.find? (fun x => decide (x.source = r.source) && decide (x.dlast = r.dlast))
  let anyOf := q.reverse.find? (fun x => decide (x.source = r.source))
  let merge (old new : FcrRec) : Dev :=
    let q' := (q.reverse.erase old).reverse
    let k := q.length - 1 - (q.reverse.idxOf old)
    let d := { d with fcr := { d.fcr with stage := q'.take k ++ [new] ++ q'.drop k } }
    incFld FCR_COALESCE_CNT 31 0 d
  match same with
  | some x => merge x { x with count := satInc 65535 x.count, last := r.last, forced := x.forced || r.forced }
  | none =>
    if n < 7168 then
      { d with fcr := { d.fcr with stage := q ++ [r] } }
    else
      match anyOf with
      | some x => merge x { x with count := satInc 65535 x.count, last := r.last, dlast := r.dlast, multi := true,
                                   forced := x.forced || r.forced }
      | none =>
        let d := { d with fcr := { d.fcr with stage := q ++ [r] } }
        if n = 7168 then raise Src.FCR_STAGE_HIGH 0 d else d

/-- `FCR_STAGE` shows the level of the staging buffer and its peak (R360). -/
def showStage (d : Dev) : Dev :=
  let n := d.fcr.stage.length
  setFld FCR_STAGE 29 16 (Nat.max n (fld d FCR_STAGE 29 16)) (setFld FCR_STAGE 13 0 n d)

/-- FCR sets the status of source `k` and records the raising (R344, R345, R362). -/
def recordRaising (k x : Nat) (forced : Bool) (d : Dev) : Dev :=
  let st := FCR_SRCkkkk_STATUS k
  let wasSet := flag d st 0
  let lo := nowLo d
  let hi := wordOf (now d / 4294967296)
  let d := setFld st 31 24 x (setFlag st 0 true d)
  let d := whenD forced (setFlag st 1 true) d
  let d := if wasSet then incFld (FCR_SRCkkkk_COUNT k) 15 0 d
    else wr (FCR_SRCkkkk_COUNT k) 1 (setFld st 23 16 x
      (wr (FCR_SRCkkkk_FIRST_LO k) lo (wr (FCR_SRCkkkk_FIRST_HI k) hi d)))
  wr (FCR_SRCkkkk_LAST_LO k) lo (wr (FCR_SRCkkkk_LAST_HI k) hi d)

/-- The record that a raising of source `k` offers to the journal (R356). -/
def fcrRecord (d : Dev) (k x : Nat) (forced : Bool) : FcrRec :=
  { source := k, cls := srcClass d k, dfirst := x, dlast := x, first := now d, last := now d, count := 1,
    forced, multi := false }

/-- The action of a class, beyond status and times (R340). -/
def classReaction (cls k x : Nat) (forced : Bool) (d : Dev) : Dev :=
  let d := if 1 ≤ cls then showStage (stageRecord (fcrRecord d k x forced) d) else d
  let d := if 2 ≤ cls then { d with fcr := { d.fcr with interrupt := d.fcr.interrupt ||| 7 } } else d
  match cls with
  | 5 => forEach (concerned d k x) (classSafe k) d
  | 6 => forEach (axesInUse d) (classSafe k) d
  | 7 => lockoutEntry 15 d
  | _ => d

/-- FCR handles one raising (R340, R344): nothing at all for a source whose EN is 0. -/
def handleRaising (r : Raising) (d : Dev) : Dev :=
  if flag d (FCR_SRCkkkk_CFG r.source) 30 then
    classReaction (srcClass d r.source) r.source r.detail r.forced (recordRaising r.source r.detail r.forced d)
  else d

/-- Insert a raising by ascending source number, after those of the same number. -/
def insertRaising (r : Raising) : List Raising → List Raising
  | [] => [r]
  | x :: q => if r.source < x.source then r :: x :: q else x :: insertRaising r q

/-- The raisings of a step in the order in which FCR handles them (R344). -/
def sortRaisings (q : List Raising) : List Raising := q.foldl (fun acc r => insertRaising r acc) []

/-- FCR handles the raisings that have come up so far. -/
def collect (d : Dev) : Dev :=
  (sortRaisings d.raised).foldl (fun d r => handleRaising r d) { d with raised := [] }

/-- The end of every command: FCR handles the raisings of the step, then those that handling them brought up
(FCR_STAGE_HIGH); none is left over. -/
def settle (d : Dev) : Dev := { collect (collect d) with raised := [] }

/-- Does nothing act: power-on reset is held, and SIS, which an undervoltage of the core does not reset (R513), is not
running either? -/
def inert (d : Dev) : Bool := decide (d.phase = .held) && !d.sis.running

/-- A command that acts on the device but not on its addressed memories. While power-on reset is held nothing acts. -/
def act (s : State) (f : Dev → Dev) : Host.Outcome State Fault Refusal :=
  if inert s.dev then .next s else .next { s with dev := settle (f s.dev) }

/-- A command that also acts on memory. -/
def actMem (s : State) (f : List Host.Cell → Dev → List Host.Cell × Dev) : Host.Outcome State Fault Refusal :=
  if inert s.dev then .next s
  else
    let r := f s.mem s.dev
    .next { s with mem := r.1, dev := settle r.2 }

/-! ## Pins -/

/-- The sources whose status is set, ascending: those among the registers that the register file lists. -/
def setSources (d : Dev) : List Nat :=
  d.regs.filterMap (fun c =>
    if FCR_SRCkkkk_STATUS 0 ≤ c.1 ∧ c.1 ≤ FCR_SRCkkkk_STATUS 1023 ∧ (c.1 - FCR_SRCkkkk_STATUS 0) % 0x20 = 0 ∧
        bit c.2 0 = true then some ((c.1 - FCR_SRCkkkk_STATUS 0) / 0x20) else none)

/-- Is FAULT_N driven low (R347)? -/
def faultLow (d : Dev) : Bool :=
  decide (d.phase = .hold) || lockout d || selfFault d
    || (setSources d).any (fun k => flag d (FCR_SRCkkkk_CFG k) 30 && flag d (FCR_SRCkkkk_CFG k) 31)

/-- Is SAFE_N driven low (R348)? -/
def safeLow (d : Dev) : Bool :=
  lockout d || flag d SIS_STO 4
    || (axesInUse d).any (fun a => (setsOf d a).any (fun s => decide (setState d a s ≠ 0)))

end Sys2Proof.Machine
end

