-- ==== Sys2Proof/Machine/Bus.lean ====
section
/-! DEFINITION. Accesses over the interconnect (R390–R398): who can make one, which are forbidden, the violation log and
the error response. -/

namespace Sys2Proof.Machine

open Reg

/-- KIND of a violation (R407). -/
inductive VKind where
  | region | fixed | unmapped | width
  deriving DecidableEq, Repr

/-- The code of a KIND. -/
def vkindCode : VKind → Nat
  | .region => 0 | .fixed => 1 | .unmapped => 2 | .width => 3

/-- Is `lo ≤ a ≤ hi`? -/
def inRange (a lo hi : Nat) : Bool := decide (lo ≤ a) && decide (a ≤ hi)

/-- A peripheral address: a register window of chapter 00, or the EVS table (R63, R390). -/
def isPeripheral (a : Nat) : Bool := !(rowsAt a).isEmpty || decide (a / 0x10000 = 0x4012)

/-- SRAM that accepts 8-, 16- and 32-bit accesses (R392). -/
def isSram (a : Nat) : Bool :=
  inRange a 0x20000000 0x207FFFFF || inRange a 0x24000000 0x243FFFFF || inRange a 0x28000000 0x2813FFFF
    || inRange a 0x2C000000 0x2C03FFFF

/-- Is address `a` mapped (R390)? -/
def isMapped (a : Nat) : Bool :=
  inRange a 0 0xFFFF || inRange a 0x10000000 0x10FFFFFF || isSram a || inRange a 0x30000000 0x3FFFFFFF || isPeripheral a

/-- Is the width and alignment allowed there (R392)? -/
def widthOk (a : Nat) (w : Width) : Bool :=
  let al := match w with | .w8 => true | .w16 => decide (a % 2 = 0) | .w32 => decide (a % 4 = 0)
  if isPeripheral a then decide (w = .w32) && al else al

/-- Does a pair run the firmware of task set `t`: one that serves it, or one that has entered at a handover (R387)? -/
def serves (d : Dev) (t : Nat) : Bool :=
  (List.range 4).any (fun n =>
    let p := vget d.cpx.pairs n
    (decide (p.role = .serving) || (decide (p.role = .handover) && p.entered)) && decide (p.task = t))

/-- PERMS bits of the debug token in force: bit 0 RUNCTL, 1 MEMRD, 2 MEMWR, 3 CE, 4 TRACE, 5 MOTION (R46, R53). -/
def debugPerm (d : Dev) (i : Nat) : Bool := flag d CFG_DBG_STATUS 0 && flag d CFG_DBG_STATUS (8 + i)

/-- Can initiator `i` make accesses now? A task set needs a serving pair that start-up has released (R37 step 5; PP0 alone
in Configuration Hold, R32), JTAG an open token. -/
def initiatorLive (d : Dev) (i : Initiator) : Bool :=
  let released := decide (d.phase = .programmed) || decide (d.phase = .running)
  match i with
  | .px0 => (released || decide (d.phase = .hold)) && serves d 0
  | .px1 => released && serves d 1
  | .px2 => released && serves d 2
  | .pxs => released
  | .jtag => flag d CFG_DBG_STATUS 0
  | _ => true

/-- Is the initiator one of the processor initiators PX0–PX2? -/
def pxIndex : Initiator → Option Nat
  | .px0 => some 0 | .px1 => some 1 | .px2 => some 2 | _ => none

/-- The copy in use: 0 none, 1 copy 0, 2 copy 1 (R51). -/
def selCopy (d : Dev) : Nat := fld d CFG_STATUS 21 20

/-- May a Former copy region be written (R20, R32)? Only while UNLOCK names it and it is not the copy in use. -/
def copyWritable (d : Dev) (r : Nat) : Bool :=
  flag d CFG_UPD_CTRL 0 && decide (fld d CFG_UPD_CTRL 4 4 = r) && decide (selCopy d ≠ r + 1)

/-- A register of PSP that SIS alone writes (R301): every one marked "from Former". -/
def pspConfigReg (a : Nat) : Bool :=
  let o := a - 0x40700000
  (decide (o < 0x400) && decide (o % 0x100 ≤ 0x08)) || (decide (0x800 ≤ o) && decide (o < 0xA00) && decide (o % 0x80 ≤ 0x3C))

/-- Is the access closed by a fixed rule (R397)? Engine memory is written by CTE alone (R161), beside CEA's mirroring. The save area of the self-test is open to BST alone (R491). -/
def fixedDeny (d : Dev) (i : Initiator) (a : Nat) (isWrite : Bool) : Bool :=
  if inRange a 0 0xFFFF then isWrite
  else if inRange a 0x10000000 0x105FFFFF then isWrite && decide (i ≠ .px0)
  else if inRange a 0x10600000 0x107FFFFF then isWrite && !copyWritable d 0
  else if inRange a 0x10800000 0x109FFFFF then isWrite && !copyWritable d 1
  else if inRange a 0x10A00000 0x10DFFFFF then isWrite && decide (i ≠ .jrn)
  else if inRange a 0x10E00000 0x10E3FFFF then isWrite && decide (i ≠ .csq)
  else if inRange a 0x10E40000 0x10FFFFFF then isWrite && decide (i ≠ .jrn) && decide (i ≠ .sis)
  else if inRange a 0x207C0000 0x207CFFFF then decide (i ≠ .px0)
  else if inRange a 0x207D0000 0x207DFFFF then decide (i ≠ .px1)
  else if inRange a 0x207E0000 0x207EFFFF then decide (i ≠ .px2)
  else if inRange a 0x20780000 0x207BFFFF then decide (i ≠ .fls)
  else if inRange a 0x28000000 0x2813FFFF then
    isWrite && decide (i ≠ .cte) && decide (i ≠ .cea)
  else if inRange a 0x2C000000 0x2C03FFFF then
    if isWrite then decide (i ≠ .csq) else !((pxIndex i).isSome || decide (i = .csq))
  else if inRange a 0x50000000 0x5000FFFF then
    isWrite && !(inRange a 0x50000100 0x50000127)
  else if inRange a 0x40700000 0x4070FFFF then isWrite && pspConfigReg a && decide (i ≠ .sis)
  else if a = CFG_DBG_TOKEN then isWrite && decide (i ≠ .jtag)
  else false

/-- Is the access outside what the open token lets JTAG do (R46, R397)? -/
def jtagDeny (d : Dev) (i : Initiator) (a : Nat) (isWrite : Bool) : Bool :=
  decide (i = .jtag) && decide (a ≠ CFG_DBG_TOKEN) &&
    (if inRange a 0x28000000 0x2813FFFF then !debugPerm d 3
     else if isWrite then !debugPerm d 2 else !debugPerm d 1)

/-- The enabled firewall regions that contain address `a` (R398). -/
def regionsAt (d : Dev) (a : Nat) : List Nat :=
  idxWhere 32 (fun n =>
    let base := fld d (ICF_RGNn_BASE n) 31 12 * 4096
    flag d (ICF_RGNn_BASE n) 0 && decide (base ≤ a) && decide (a < base + (fld d (ICF_RGNn_SIZE n) 19 0 + 1) * 4096))

/-- Do the regions, or the default where none contains `a`, forbid the access (R398)? Hardware initiators are limited by
the fixed rules alone. -/
def regionDeny (d : Dev) (i : Initiator) (a : Nat) (isWrite : Bool) : Bool :=
  let rs := regionsAt d a
  match i with
  | .jtag => if rs.isEmpty then decide (a ≠ CFG_DBG_TOKEN) else
      !rs.all (fun n => flag d (ICF_RGNn_PERM n) (if isWrite then 13 else 12))
  | .pxs => true
  | _ =>
    match pxIndex i with
    | some k => if rs.isEmpty then !flag d ICF_DEFAULT (if isWrite then k else 4 + k)
                else !rs.all (fun n => flag d (ICF_RGNn_PERM n) (if isWrite then k else 4 + k))
    | none => false

/-- Why ICF forbids an access, if it does (R392, R396–R398). Accesses on the dedicated paths of EVS and the engines do
not pass through ICF. -/
def denied (d : Dev) (i : Initiator) (a : Nat) (w : Width) (isWrite : Bool) : Option VKind :=
  match i with
  | .evs => none
  | .engine _ => none
  | _ =>
    if !isMapped a then some .unmapped
    else if !widthOk a w then some .width
    else if fixedDeny d i a isWrite || jtagDeny d i a isWrite then some .fixed
    else if regionDeny d i a isWrite then some .region
    else none

/-- ICF logs a forbidden access, counts it and raises ICF_VIOLATION (R396). -/
def violation (i : Initiator) (a : Nat) (k : VKind) (acc : Nat) (d : Dev) : Dev :=
  let r : VRec := ⟨vkindCode k, acc, initiatorId i % 32, a, nowLo d⟩
  let d := if d.icf.vlog.length < 16 then { d with icf := { d.icf with vlog := d.icf.vlog ++ [r] } }
    else { d with icf := { d.icf with vlost := true } }
  raise Src.ICF_VIOLATION (initiatorId i) (incFld ICF_VCNT 15 0 d)

/-- A write access of initiator `i` to address `a` that, when ICF lets it through, does `f`. -/
def busWriteW (i : Initiator) (a : Nat) (w : Width) (f : Dev → Dev) (d : Dev) : Dev :=
  if initiatorLive d i then
    match denied d i a w true with
    | some k => respErr (violation i a k 1 d)
    | none => f (respOk d)
  else d

/-- A 32-bit write access. -/
def busWrite (i : Initiator) (a : Nat) (f : Dev → Dev) (d : Dev) : Dev := busWriteW i a .w32 f d

/-- A 32-bit read access of initiator `i` to address `a` that, when ICF lets it through, does `f`. -/
def busRead (i : Initiator) (a : Nat) (f : Dev → Dev) (d : Dev) : Dev :=
  if initiatorLive d i then
    match denied d i a .w32 false with
    | some k => respErr (violation i a k 0 d)
    | none => f (respOk d)
  else d

end Sys2Proof.Machine
end

