-- ==== Sys2Proof/Machine/RegStore.lean ====
section
/-! DEFINITION. Plain register writes (R15): which bits a write sets and clears, the stated field ranges, and the form of
the checks that a direct write and a commit share (R36, R423, R425). -/

namespace Sys2Proof.Machine

open Reg

/-- The element indexes of offset `d` in an array of registers, from the widest stride. -/
def dimIndexes : List (Nat × Nat) → Nat → List Nat
  | [], _ => []
  | (st, _) :: r, d => d / st :: dimIndexes r (d % st)

/-- The register at address `a` as its row's base address and its indexes; base 0 where no register stands. -/
def regKey (a : Nat) : Nat × List Nat :=
  match regRow? a with
  | some r => (r.base, dimIndexes r.dims (a - r.base))
  | none => (0, [])

/-- Does a field of `v` lie inside its stated range? -/
def FieldRange.ok (f : FieldRange) (v : Word) : Bool :=
  let x : Int := if f.signed then sbits v f.hi f.lo else (bits v f.hi f.lo : Int)
  (decide (f.min ≤ x) && decide (x ≤ f.max)) || (f.zeroOk && decide (x = 0))

/-- Does every field of `v` lie inside its stated range? -/
def RegRow.rangesOk (r : RegRow) (v : Word) : Bool := r.ranges.all (fun f => f.ok v)

/-- The value that a plain write of `v` leaves in a register that holds `old` (R15). -/
def RegRow.stored (r : RegRow) (old v : Word) : Word := ((old &&& ~~~ r.rw) ||| (v &&& r.rw)) &&& ~~~ (v &&& r.w1c)

/-- A plain write of `v` to the register at `a`, fields that its access code does not let a write change left alone. -/
def storePlain (a : Nat) (v : Word) (d : Dev) : Dev :=
  match regRow? a with
  | some r => wr a (r.stored (rd d a) v) d
  | none => d

/-- Do the fields of `v` lie in the ranges of the register at `a`? -/
def rangesOkAt (a : Nat) (v : Word) : Bool :=
  match regRow? a with
  | some r => r.rangesOk v
  | none => false

/-- Is the register at `a` transaction-shadowed (R15)? Registers of mixed access with RWT fields count. -/
def isRwt (a : Nat) : Bool :=
  match regRow? a with
  | some r => match r.acc with | .rwt => true | .mixed => decide (r.rw ≠ 0) | _ => false
  | none => false

/-- Why an entry of a transaction, or a direct write, fails a check: the ERR code of R439, and for an ownership conflict
the resource, the owner asked for and the present owner. -/
structure CheckFail where
  code : Nat
  res : Nat := 0
  requested : Nat := 0
  current : Nat := 0
  deriving DecidableEq, Repr, Inhabited

/-- A range error (R439). -/
def failRange : CheckFail := { code := 6 }

/-- The resource report of R36 for instance `i` of class `c`, wanted by `code`. -/
def failOwner (d : Dev) (c i code : Nat) : CheckFail := ⟨7, resId c i, code, ownerOf d c i⟩

/-- The first failure of two checks. -/
def firstFail (x y : Option CheckFail) : Option CheckFail := match x with | some e => some e | none => y

/-- Fail with `e` unless `c` holds. -/
def failUnless (c : Bool) (e : CheckFail) : Option CheckFail := if c then none else some e

end Sys2Proof.Machine
end

