-- ==== Sys2Proof/Machine/PwmRegs.lean ====
section
/-! DEFINITION. The PWM registers as writers see them (R213, R221–R225, R234, R238, R530): checks, shadows, and the batch
of a sample or a commit (R222). -/

namespace Sys2Proof.Machine

open Reg

/-- The leg channel whose register stands at `a`. -/
def pwmLegAt (a : Nat) : Option Nat :=
  if PWM_PLnn_CFG 0 ≤ a ∧ a < PWM_PLnn_CFG 32 then some ((a - PWM_PLnn_CFG 0) / 0x100) else none

/-- The carrier group whose register stands at `a`. -/
def pwmGroupAt (a : Nat) : Option Nat :=
  if PWM_CGg_CFG 0 ≤ a ∧ a < PWM_CGg_CFG 8 then some ((a - PWM_CGg_CFG 0) / 0x40) else none

/-- Is the register one of a leg channel or carrier group that is not in use (R238)? One that has an owner is in use. -/
def pwmUnused (d : Dev) (a : Nat) : Bool :=
  match pwmLegAt a, pwmGroupAt a with
  | some l, _ => !legOwned d l
  | none, some g => decide (ownerOf d 0x0B g = 0)
  | none, none => false

/-- The single-shunt rules of group `g` (R225): with a triple enabled, SRC = DUTY, ALIGN = 0, and windows of at least
1,600 ticks. -/
def ssOk (d : Dev) (g : Nat) : Bool :=
  let ss := rd d (PWM_CGg_SS g)
  let wide := decide (1600 ≤ bits ss 15 0 * fld d (PWM_CGg_PERIOD g) 19 0 / 65536)
  let align0 := decide (fld d (PWM_CGg_CFG g) 1 0 = 0)
  [0, 1].all (fun t => !bit ss (16 + t) ||
    (wide && align0 && (tripleLegs d g t).all (fun l => !flag d (PWM_PLnn_CFG l) 24)))

/-- Does leg `l` name a group that its owner owns (R213)? -/
def legGroupOwned (d : Dev) (l : Nat) : Bool := decide (ownerOf d 0x0B (legGroup d l) = ownerOf d 0x02 l)

/-- MINOFF of leg `l` lies between MINPW and 4,000 ticks (R234). -/
def bootOk (d : Dev) (l : Nat) : Bool :=
  decide (fld d (PWM_PLnn_MINPW l) 12 0 ≤ fld d (PWM_PLnn_BOOT l) 12 0) && decide (fld d (PWM_PLnn_BOOT l) 12 0 ≤ 4000)

/-- The cross-register and owner rules for the PWM register at `a`: `d0` the device before, `d1` with the values written
(R213, R225, R234). -/
def pwmCheck (d0 d1 : Dev) (a : Nat) : Option CheckFail :=
  match pwmLegAt a, pwmGroupAt a with
  | some l, _ =>
    if a = PWM_PLnn_CFG l then
      firstFail (failUnless (legGroupOwned d1 l) failRange) (failUnless (ssOk d1 (legGroup d1 l)) failRange)
    else if a = PWM_PLnn_BOOT l ∨ a = PWM_PLnn_MINPW l then failUnless (bootOk d1 l) failRange
    else none
  | none, some g =>
    let lead := fld d1 (PWM_CGg_LEAD g) 13 0
    let lengths := decide (lead + 64 ≤ fld d1 (PWM_CGg_PERIOD g) 19 0)
    let leadKept := !flag d0 (PWM_CGg_CFG g) 31 || decide (lead = fld d0 (PWM_CGg_LEAD g) 13 0)
    firstFail (failUnless ((a ≠ PWM_CGg_PERIOD g && a ≠ PWM_CGg_LEAD g) || lengths) failRange)
      (firstFail (failUnless (a ≠ PWM_CGg_LEAD g || leadKept) failRange) (failUnless (ssOk d1 g) failRange))
  | none, none => none

/-- Is the leg register at `a` one of the values that a Load Instant takes (R220, R530)? -/
def legValueReg (l a : Nat) : Bool :=
  decide (a = PWM_PLnn_DUTY l ∨ a = PWM_PLnn_CMP0 l ∨ a = PWM_PLnn_CMP1 l ∨ a = PWM_PLnn_DT l ∨ a = PWM_PLnn_MINPW l
    ∨ a = PWM_PLnn_BOOT l ∨ a = PWM_PLnn_CFG l)

/-- Is the group register at `a` one of the values that a Load Instant takes? -/
def groupValueReg (g a : Nat) : Bool := decide (a = PWM_CGg_PERIOD g ∨ a = PWM_CGg_SS g ∨ a = PWM_CGg_CFG g)

/-- A checked value `v` takes its place in the PWM register at `a`, on the authority of tick `basis`. Values of a period
go to the shadow (R221); LATCH clears under R231. -/
def pwmPut (a : Nat) (v : Word) (basis : Nat) (d : Dev) : Dev :=
  match pwmLegAt a, pwmGroupAt a with
  | some l, _ =>
    if a = PWM_PLnn_DUTY l ∨ a = PWM_PLnn_CMP0 l ∨ a = PWM_PLnn_CMP1 l then
      noteLegValue l basis (storePlain a v d)
    else if a = PWM_PLnn_CFG l then
      let old := rd d a
      legCfgChanged l old (storePlain a v d)
    else storePlain a v d
  | none, some g =>
    if a = PWM_CGg_PERIOD g then shadowPeriod g (wordOf (bits v 19 0)) d
    else if a = PWM_CGg_CFG g then
      let old := rd d a
      groupCfgChanged g old (now d) (storePlain a v d)
    else storePlain a v d
  | none, none => storePlain a v d

/-- A value for the register at `a` has arrived: LATE_UPD in the lock window of the group (R221). -/
def pwmLate (a : Nat) (d : Dev) : Dev :=
  match pwmLegAt a, pwmGroupAt a with
  | some l, _ => if legValueReg l a then lateLeg l d else d
  | none, some g => if groupValueReg g a then lateGroup g d else d
  | none, none => d

/-- A write of `v` to the PWM register at `a` outside a transaction (R221, R238, R423): true where it is refused. -/
def pwmStore (a : Nat) (v : Word) (basis : Nat) (d : Dev) : Bool × Dev :=
  if pwmUnused d a then (true, d)
  else
    match pwmLegAt a with
    | some l =>
      if a = PWM_PLnn_STATUS l then
        let (bad, d1) := if bit v 5 && flag d a 5 then latchClear l d else (false, d)
        if bad then (true, d) else (false, storePlain a (setBit v 5 false) d1)
      else if rangesOkAt a v && (pwmCheck d (storePlain a v d) a).isNone then
        (false, pwmLate a (pwmPut a v basis d))
      else (true, d)
    | none =>
      if rangesOkAt a v && (pwmCheck d (storePlain a v d) a).isNone then (false, pwmLate a (pwmPut a v basis d))
      else (true, d)

/-- The address of the register that a PWM_SHADOW_WRITE names. -/
def shadowAddr : PwmShadow → Nat
  | .cfg l => PWM_PLnn_CFG l.val
  | .duty l => PWM_PLnn_DUTY l.val
  | .cmp0 l => PWM_PLnn_CMP0 l.val
  | .cmp1 l => PWM_PLnn_CMP1 l.val
  | .dt l => PWM_PLnn_DT l.val
  | .minpw l => PWM_PLnn_MINPW l.val
  | .boot l => PWM_PLnn_BOOT l.val
  | .groupCfg g => PWM_CGg_CFG g.val
  | .period g => PWM_CGg_PERIOD g.val
  | .lead g => PWM_CGg_LEAD g.val
  | .ss g => PWM_CGg_SS g.val

/-- A batch of writes applies to the shadows in one tick, with a sample's start tick or a write's as its authority; every
leg or group that it touches in its lock window is late (R222). A write that fails its range changes nothing. -/
def pwmBatch (ws : List (Nat × Word)) (basis : Nat) (d : Dev) : Dev :=
  let ok (d : Dev) (w : Nat × Word) : Bool :=
    !pwmUnused d w.1 && rangesOkAt w.1 w.2 && (pwmCheck d (storePlain w.1 w.2 d) w.1).isNone
  let d := ws.foldl (fun d w => if ok d w then pwmPut w.1 w.2 basis d else d) d
  let d := forEach (idxWhere 32 (fun l => ws.any (fun w => legValueReg l w.1))) lateLeg d
  forEach (idxWhere 8 (fun g => ws.any (fun w => groupValueReg g w.1))) lateGroup d

end Sys2Proof.Machine
end

