-- ==== Sys2Proof/Machine/CeaCore.lean ====
section
/-! DEFINITION. The sample of the Control Engines (R152–R174) and the field-control events (R201–R208): start, execution,
release, overrun, faults, takeover, planned handover, checkpoints, probes, flying restart, reverse rotation. -/

namespace Sys2Proof.Machine

open Reg

/-! ## Engines and axes -/

/-- Engine `n` beside its registers. -/
def engine (d : Dev) (n : Nat) : Engine := vget d.cea.engines n

/-- Engine `n` changed by `f`. -/
def modEngine (n : Nat) (f : Engine → Engine) (d : Dev) : Dev :=
  { d with cea := { d.cea with engines := vset d.cea.engines n (f (engine d n)) } }

/-- Axis `a` in CEA beside its registers. -/
def ceAxis (d : Dev) (a : Nat) : CeAxis := vget d.cea.axes a

/-- Axis `a` in CEA changed by `f`. -/
def modCeAxis (a : Nat) (f : CeAxis → CeAxis) (d : Dev) : Dev :=
  { d with cea := { d.cea with axes := vset d.cea.axes a (f (ceAxis d a)) } }

/-- The partition of axis `a` in engine `n`. -/
def partition_ (d : Dev) (n a : Nat) : List (Nat × Nat) := vget (engine d n).parts a

/-- The partition of axis `a` in engine `n` becomes `w`. -/
def setPartition (n a : Nat) (w : List (Nat × Nat)) (d : Dev) : Dev :=
  modEngine n (fun e => { e with parts := vset e.parts a w }) d

/-- Put engine `n` into a ROLE for axis `a` (R176). -/
def setRole (n role a : Nat) (d : Dev) : Dev := setFld (CEA_CEn_STATE n) 5 4 a (setFld (CEA_CEn_STATE n) 2 0 role d)

/-- The engine that `CEA_SPARE` names, if one. -/
def spareEngine (d : Dev) : Option Nat :=
  let n := fld d CEA_SPARE 2 0
  if n < 5 then some n else none

/-- Is engine `n` in ROLE SPARE, or under a test that it entered from that ROLE (R26, R490)? -/
def isSpare (d : Dev) (n : Nat) : Bool :=
  decide (ceRole d n = 0) || (decide (ceRole d n = 3) &&
    (match unitTest d n with | some t => decide (t.role = 0) | none => false))

/-- `CEA_SPARE` names the lowest engine in ROLE SPARE, other than `but`; 7 where there is none. -/
def nextSpare (but : Nat) (d : Dev) : Dev :=
  match (List.range 5).find? (fun n => decide (n ≠ but) && isSpare d n) with
  | some n => setFld CEA_SPARE 2 0 n d
  | none => setFld CEA_SPARE 2 0 7 d

/-- An engine that becomes the spare holds every axis's partition and input bank as the serving engine has them (R153,
R170). -/
def syncSpare (m : Nat) (d : Dev) : Dev :=
  forEach (axesInUse d) (fun a d =>
    match servingEngine d a with
    | some n =>
      if n = m then d
      else
        let d := setPartition m a (partition_ d n a) d
        forEach (List.range 64) (fun k d => wr (CEA_CEn_INa_kk m a k) (rd d (CEA_CEn_INa_kk n a k)) d) d
    | none => d) d

/-- The program of variant `v` of axis `a`. -/
def progOf (d : Dev) (a v : Nat) : Option CeProg :=
  d.cea.progs.find? (fun p => decide (p.axis = a ∧ p.variant = v))

/-- RUNNING of axis `a` shows whether its serving engine executes a sample. -/
def showRunning (a : Nat) (d : Dev) : Dev :=
  setFlag (CEA_AXa_STATUS a) 8
    (match servingEngine d a with | some n => (engine d n).run.isSome | none => false) d

/-- The engines in shadow for axis `a`. -/
def shadowOf (d : Dev) (a : Nat) : Option Nat :=
  match d.cea.handover with
  | some h => if h.axis = a ∧ h.shadow then some h.incoming else none
  | none => none

/-! ## Handover bookkeeping (R171) -/

/-- The planned handover ends with a RESULT. -/
def endHandover (result : Nat) (d : Dev) : Dev :=
  match d.cea.handover with
  | none => d
  | some h =>
    let d := { d with cea := { d.cea with handover := none, compare := none } }
    let d := setFlag (CEA_AXa_STATUS h.axis) 10 false d
    setFld CEA_HANDOVER_STATUS 10 8 result (setFld CEA_HANDOVER_STATUS 6 4 0 (setFld CEA_HANDOVER_STATUS 1 0 0 d))

/-- The four-sample count restarts. -/
def restartCount (d : Dev) : Dev :=
  setFld CEA_HANDOVER_STATUS 6 4 0 { d with cea := { d.cea with compare := none } }

/-- A planned handover of axis `a` to engine `m` is requested (R171). -/
def handoverRequest (a m : Nat) (d : Dev) : Dev :=
  let busy := d.cea.handover.isSome || (axesInUse d).any (fun x => decide ((ceAxis d x).takeover ≠ .none))
  if busy then setFld CEA_HANDOVER_STATUS 10 8 2 d
  else if spareEngine d ≠ some m ∨ ceRole d m ≠ 0 then setFld CEA_HANDOVER_STATUS 10 8 3 d
  else match servingEngine d a with
    | none => setFld CEA_HANDOVER_STATUS 10 8 3 d
    | some n =>
      let d := { d with cea := { d.cea with handover := some { axis := a, incoming := m, incumbent := n } } }
      let d := setFlag (CEA_AXa_STATUS a) 10 true d
      setFld CEA_HANDOVER_STATUS 10 8 0 (setFld CEA_HANDOVER_STATUS 6 4 0 (setFld CEA_HANDOVER_STATUS 1 0 1 d))

/-! ## The input frame (R154, R155, R208, R342) -/

/-- The derating factor that a sample of axis `a` uses: THM's, or the smallest FACTOR among the set LIMIT sources that
concern the axis (R342). -/
def deratingFactor (d : Dev) (a : Nat) : Nat :=
  (setSources d).foldl (fun acc k =>
    if srcClass d k = 4 ∧ flag d (FCR_SRCkkkk_CFG k) 30 ∧ (concerned d k (fld d (FCR_SRCkkkk_STATUS k) 31 24)).contains a then
      Nat.min acc (fld d (FCR_SRCkkkk_CFG k) 23 8)
    else acc) (fld d (THM_AXa_FACTOR a) 15 0)

/-- Signal 0x008A: the delivered source is valid, and UNC of the delivered channel. -/
def positionState (d : Dev) (a : Nat) : Nat :=
  let del := fld d (PFC_AXa_VOTE_STATUS a) 2 0
  let unc := match voteChan d a del with | some n => flag d (PFC_PFn_STATUS n) 15 | none => false
  b2n (decide (del ≠ 7)) + 2 * b2n (decide (del < 2) && unc)

/-- The input frame of a sample of axis `a` on engine `n`. -/
def inputFrame (d : Dev) (n a : Nat) : List Nat :=
  let ins := (List.range 64).map (fun k => fld d (CEA_CEn_INa_kk n a k) 15 0)
  let flags := (List.range 64).map (fun k => fld d (CEA_CEn_INa_kk n a k) 20 16)
  let c := vget d.cmds a
  let degraded := decide (fld d (CEA_AXa_FC_STATUS a) 17 16 ≠ 0)
  let pos : Int := if degraded then min c.posLim 16384 else c.posLim
  let neg : Int := if degraded then max c.negLim (-16384) else c.negLim
  ins ++ flags ++
    [elecAngle d a / 256, unsigned 16 (speedPu d a), c.mode, unsigned 16 c.setpoint, unsigned 16 pos, unsigned 16 neg,
     unsigned 16 c.ramp, b2n c.cmdIn, deratingFactor d a, b2n (granted d a), positionState d a]

/-- The copy clears NEW in axis `a`'s bank. -/
def clearNew (a : Nat) (d : Dev) : Dev :=
  forEach (bankEngines d a) (fun n d =>
    forEach (List.range 64) (fun k d =>
      if flag d (CEA_CEn_INa_kk n a k) 16 then setFlag (CEA_CEn_INa_kk n a k) 16 false d else d) d) d

/-- WMIN of the group that axis `a` runs in single-shunt mode; 0 where it runs none (R227). -/
def ssWmin (d : Dev) (a : Nat) : Nat :=
  match (List.range 8).find? (fun g => decide (ownerOf d 0x0B g = axisCode a) && decide (fld d (PWM_CGg_SS g) 17 16 ≠ 0)) with
  | some g => fld d (PWM_CGg_SS g) 15 0
  | none => 0

/-- The variant that a sample of axis `a` starting now runs (R175, R202, R207, R299): a continuation identified at least
16 ticks ago, the variant of a degraded axis, winding discharge, restart, else the selected one. -/
def chooseVariant (d : Dev) (a : Nat) : Nat :=
  let deg := fld d (CEA_AXa_FC_STATUS a) 17 16
  let fr := fld d (CEA_AXa_FC_STATUS a) 15 13
  if deg ≠ 0 then deg
  else if setState d a 1 = 5 then 4
  else if fr = 1 ∨ fr = 2 then 3
  else fld d (CEA_AXa_CFG a) 2 0

/-- A continuation on one winding set that was authorised at least 16 ticks ago begins (R207). -/
def beginContinuation (a : Nat) (d : Dev) : Dev :=
  match (pspAxis d a).continuation with
  | some (set, t) =>
    if elapsed d t 16 then
      setFld (CEA_AXa_FC_STATUS a) 17 16 set (modPspAxis a (fun x => { x with continuation := none }) d)
    else d
  | none => d

/-! ## Reverse rotation (R204, R205) -/

/-- The speed that the check of R204 uses for a frame, and whether a source gives one. -/
def checkSpeed (d : Dev) (a : Nat) (frame : List Nat) : Int × Bool :=
  let src := fld d (CEA_AXa_FC_CFG a) 1 0
  let sensor := decide (fld d (PFC_AXa_VOTE_STATUS a) 2 0 < 2)
  let obs := flag d (CEA_AXa_FC_STATUS a) 11
  if src ≠ 2 ∧ sensor then (signed 16 (listGet 0 frame 0x81), true)
  else if src ≠ 1 ∧ obs then ((ceAxis d a).obsSpeed, true)
  else (0, false)

/-- The check of R204 at the start of a sample with input frame `frame`. -/
def reverseCheck (a : Nat) (frame : List Nat) (d : Dev) : Dev :=
  let sp := signed 16 (listGet 0 frame 0x83)
  let mode := listGet 0 frame 0x82
  let torque := decide (listGet 0 frame 0x89 = 1) && decide (mode = 1 ∨ mode = 2) && decide (sp ≠ 0)
  let (v, ok) := checkSpeed d a frame
  let along := if 0 < sp then v else -v
  let opposes := decide (along < -(fld d (CEA_AXa_RV_THR a) 15 0 : Int))
  let was := (ceAxis d a).wasTorque
  let d := modCeAxis a (fun x => { x with wasTorque := torque, discard := x.discard && torque }) d
  let d := if flag d (CEA_AXa_FC_STATUS a) 20 && !opposes then setFlag (CEA_AXa_FC_STATUS a) 20 false d else d
  if torque && !was then
    let d := whenD (!ok) (setFlag (CEA_AXa_FC_STATUS a) 22 true) d
    if opposes then
      if flag d (CEA_AXa_FC_CFG a) 17 then raise Src.CEA_ROLLBACK a (setFlag (CEA_AXa_FC_STATUS a) 20 true d)
      else raise Src.CEA_REVERSE a (setFlag (CEA_AXa_FC_STATUS a) 21 true
        (modCeAxis a (fun x => { x with discard := true }) d))
    else d
  else d

/-! ## Start of a sample (R165, R172) -/

/-- Adjustable words that take their place in every engine that holds axis `a`'s partition: word offset and value. -/
def adjPut (a : Nat) (ws : List (Nat × Nat)) (d : Dev) : Dev :=
  forEach (bankEngines d a) (fun n d =>
    setPartition n a (ws.foldl (fun p w => wordSet p w.1 w.2) (partition_ d n a)) d) d

/-- Adjustable words of a commit that waited for the next sample start of axis `a` take their place (R161). -/
def adjArrive (a : Nat) (d : Dev) : Dev :=
  let due := d.cea.adjDue.filter (fun x => decide (x.1 = a))
  if due.isEmpty then d
  else adjPut a (due.map (fun x => x.2)) { d with cea := { d.cea with adjDue := d.cea.adjDue.filter (fun x => decide (x.1 ≠ a)) } }

/-- A commit writes adjustable words of axis `a` at its boundary: at once, or at the next sample start where a sample of
the axis runs (R161). -/
def adjCommit (a : Nat) (ws : List (Nat × Nat)) (d : Dev) : Dev :=
  if d.cea.engines.toList.any (fun e => match e.run with | some r => decide (r.axis = a) | none => false) then
    { d with cea := { d.cea with adjDue := d.cea.adjDue ++ ws.map (fun w => (a, w.1, w.2)) } }
  else
    adjPut a ws { d with cea := { d.cea with
      adjDue := d.cea.adjDue.filter (fun x => !(decide (x.1 = a) && ws.any (fun w => decide (w.1 = x.2.1)))) } }

/-- A sample of axis `a` begins on its serving engine, and on an engine in shadow, from one input frame (R155, R171). -/
def beginSample (a : Nat) (outOfCycle : Bool) (d : Dev) : Dev :=
  match servingEngine d a with
  | none => d
  | some n =>
    let d := beginContinuation a (adjArrive a d)
    let v := chooseVariant d a
    let frame := inputFrame d n a
    let run : CeRun := { axis := a, variant := v, start := now d, frame, wmin := ssWmin d a, outOfCycle }
    let shadow := shadowOf d a
    let d := clearNew a (modEngine n (fun e => { e with run := some run }) d)
    let d := match shadow with
      | some m => modEngine m (fun e => { e with run := some run }) d
      | none => d
    let d := wr (CEA_AXa_T_START a) (nowLo d) (setFld (CEA_AXa_STATUS a) 6 4 v (setFlag (CEA_AXa_STATUS a) 8 true d))
    reverseCheck a frame d

/-- The run of engine `n` is over without a release: a state it has committed is taken back (R166). -/
def abandonRun (n : Nat) (d : Dev) : Dev :=
  match (engine d n).run with
  | none => d
  | some r =>
    let d := match r.result with
      | some res => setPartition n r.axis res.before d
      | none => d
    modEngine n (fun e => { e with run := none }) d

/-- An overrun of axis `a` is counted (R166). -/
def countOverrun (a : Nat) (d : Dev) : Dev :=
  let d := setFlag (CEA_AXa_STATUS a) 16 true (incFld (CEA_AXa_OVR_CNT a) 23 16 (incFld (CEA_AXa_OVR_CNT a) 15 0 d))
  let d := raise Src.CEA_OVERRUN a d
  if fld d (CEA_AXa_OVR_CNT a) 23 16 = fld d (CEA_AXa_CFG a) 12 8 then
    raise Src.CEA_OVR_LIMIT a (setFlag (CEA_AXa_STATUS a) 17 true d)
  else d

/-- The end of the running samples of axis `a`: one that has not completed is abandoned (R166, R171). -/
def endSamples (a : Nat) (d : Dev) : Dev :=
  let shadowLate := match shadowOf d a with | some m => (engine d m).run.isSome | none => false
  let d := match shadowOf d a with | some m => abandonRun m d | none => d
  let d := if shadowLate then restartCount d else d
  match servingEngine d a with
  | some n =>
    if (engine d n).run.isSome then
      let d := if (shadowOf d a).isSome then restartCount d else d
      showRunning a (countOverrun a (abandonRun n d))
    else d
  | none => d

/-- A start write for axis `a` (R165, R166, R172). -/
def ceStart (a : Nat) (d : Dev) : Dev :=
  if (ceAxis d a).takeover ≠ .none then
    if (ceAxis d a).held then countOverrun a d
    else setFlag (CEA_AXa_STATUS a) 18 true (modCeAxis a (fun x => { x with held := true }) d)
  else beginSample a false (endSamples a d)

/-- A write of `v` to `CEA_AXa_START`: true where it gets an error response, the axis not being in use (R175). -/
def ceStartWrite (a : Nat) (v : Word) (d : Dev) : Bool × Dev :=
  if !axisInUse d a then (true, d) else (false, if bit v 0 then ceStart a d else d)

/-- The DEADLINE of axis `a`'s sample is reached (R166). -/
def ceDeadline (a : Nat) (d : Dev) : Dev :=
  let dl := fld d (CEA_AXa_DEADLINE a) 19 0
  match servingEngine d a with
  | none => d
  | some n =>
    match (engine d n).run with
    | some r => if dl ≠ 0 ∧ !r.outOfCycle ∧ elapsed d r.start dl then endSamples a d else d
    | none =>
      match shadowOf d a with
      | some m =>
        match (engine d m).run with
        | some r => if dl ≠ 0 ∧ elapsed d r.start dl then endSamples a d else d
        | none => d
      | none => d

/-! ## Faults and takeover (R169, R172, R173) -/

/-- Engine `n` is isolated and FAILED: nothing of its sample is released. -/
def failEngine (n role : Nat) (d : Dev) : Dev :=
  let d := bstTaken n (abandonRun n d)
  setFld (CEA_CEn_STATE n) 2 0 role d

/-- The spare takes axis `a` (R172): it becomes the serving engine, and the axis takes its interim safe state. -/
def takeover (a : Nat) (d : Dev) : Dev :=
  match spareEngine d with
  | none =>
    let d := setFld (CEA_AXa_STATUS a) 2 0 7 (setFlag (CEA_AXa_STATUS a) 8 false d)
    raise Src.CEA_NOSPARE a d
  | some m =>
    let d := match d.cea.handover with
      | some h => if h.incoming = m ∧ h.axis ≠ a then abandonRun m (endHandover 6 d) else d
      | none => d
    let d := bstTaken m d
    let d := setFld (CEA_AXa_STATUS a) 2 0 m (setRole m 1 a d)
    let d := nextSpare m d
    let d := setFlag (CEA_AXa_STATUS a) 9 true (setFlag (CEA_AXa_STATUS a) 8 false d)
    enterInterim 5 a (modCeAxis a (fun x => { x with takeover := .selecting }) d)

/-- A fault of engine `n` is detected (R169, R171–R173): its status bit, its source, and what becomes of the axis. -/
def ceFault (n bit_ src : Nat) (d : Dev) : Dev :=
  let role := ceRole d n
  let a := ceAxisOf d n
  if role = 5 then d
  else
    let d := raise src n (setFlag (CEA_CEn_FAULT n) bit_ true d)
    let d := failEngine n 5 d
    match d.cea.handover with
    | some h =>
      if h.incoming = n then nextSpare n (endHandover 5 d)
      else if h.incumbent = n ∧ role = 1 then
        if h.shadow then
          let d := endHandover 5 d
          let d := setFld (CEA_AXa_STATUS a) 2 0 h.incoming (setRole h.incoming 1 a d)
          showRunning a (nextSpare h.incoming d)
        else takeover a (endHandover 5 d)
      else if role = 1 then takeover a d
      else if role = 0 ∧ spareEngine d = some n then nextSpare n d
      else d
    | none =>
      if role = 1 then takeover a d
      else if spareEngine d = some n then nextSpare n d
      else d

/-- The spare has selected variant and checkpoint (R172, R354): SIS releases the axis where drive enable is granted. -/
def takeoverSelected (a : Nat) (d : Dev) : Dev :=
  if (ceAxis d a).takeover ≠ .selecting then d
  else match servingEngine d a with
    | none => d
    | some m =>
      if ceRole d m ≠ 1 then d
      else
        let d := setFld (CEA_AXa_STATUS a) 6 4 (chooseVariant d a) d
        let d := whenD (decide (rd d (CEA_AXa_CKPT_SEQ a) ≠ rd d (CEA_AXa_SAMPLE_CNT a)))
          (setFlag (CEA_AXa_STATUS a) 19 true) d
        let d := modCeAxis a (fun x => { x with takeover := .awaitRelease }) d
        if granted d a then issue .sis .release (axisPorts d a) d else d

/-- The out-of-cycle sample starts once GLK has accepted the release (R354). -/
def outOfCycleStart (a : Nat) (d : Dev) : Dev :=
  let ps := axisPorts d a
  if (ceAxis d a).takeover = .awaitRelease ∧
      !d.glk.orders.any (fun o => decide (o.cmd = .release) && decide (o.origin = .sis) && ps.contains o.port) then
    beginSample a true (modCeAxis a (fun x => { x with takeover := .running }) d)
  else d

/-! ## Execution (R164–R169) -/

/-- The instance flags of a sample are recorded as they are raised, and ORed into STICKY (R164). -/
def recordFlags (n : Nat) (fs : List (Nat × CeFlags)) (d : Dev) : Dev :=
  fs.foldl (fun d (i, f) =>
    let r := CEA_CEn_IFLAG n (i / 16)
    let d := whenD f.sat (setFlag r (2 * (i % 16)) true) d
    let d := whenD f.ovf (setFlag r (2 * (i % 16) + 1) true) d
    let d := if (engine d n).flagged then d
      else setFld (CEA_CEn_STICKY n) 25 16 i (modEngine n (fun e => { e with flagged := true }) d)
    whenD f.ovf (setFlag (CEA_CEn_STICKY n) 1 true) (whenD f.sat (setFlag (CEA_CEn_STICKY n) 0 true) d)) d

/-- The words of axis `a`'s state region in a partition, as the checkpoint and the shadow compare take them (R160,
R170, R171). -/
def stateWords (d : Dev) (a : Nat) (w : List (Nat × Nat)) : List (Nat × Nat) :=
  match progOf d a 0 with
  | some p => (List.range p.stateLen).map (fun k => (p.stateOfs + k, wordAt w (p.stateOfs + k)))
  | none => []

/-- The shadow compare of the two engines' sample (R171): a difference aborts the handover. -/
def shadowCompare (n : Nat) (a : Nat) (res : CeResult) (d : Dev) : Dev :=
  match d.cea.handover with
  | some h =>
    if h.shadow ∧ h.axis = a ∧ (n = h.incoming ∨ n = h.incumbent) then
      let mine := (res.writes, stateWords d a (partition_ d n a))
      match d.cea.compare with
      | none => { d with cea := { d.cea with compare := some (n, mine.1, mine.2) } }
      | some (m, ws, st) =>
        if m = n then { d with cea := { d.cea with compare := some (n, mine.1, mine.2) } }
        else
          let d := { d with cea := { d.cea with compare := none } }
          if ws = mine.1 ∧ st = mine.2 then incFld CEA_HANDOVER_STATUS 6 4 d
          else
            let d := endHandover 4 (abandonRun h.incoming d)
            let d := setRole h.incoming 4 a d
            let d := nextSpare h.incoming d
            raise Src.CEA_SHADOW h.incoming (setFlag (CEA_CEn_FAULT h.incoming) 4 true d)
    else d
  | none => d

/-- The last instance of engine `n`'s sample has completed, with the flow signature that the engine computed (R165 steps
2 to 4): on a good signature the state is committed and the writes stand ready. -/
def executionDone (n cycles : Nat) (sig : Word) (d : Dev) : Dev :=
  match (engine d n).run with
  | none => d
  | some r =>
    if r.result.isSome then d
    else
      let p := (progOf d r.axis r.variant).getD {}
      let before := partition_ d n r.axis
      let out := runProg p before r.frame r.wmin
      let d := wr (CEA_CEn_FLOWSIG n) sig (recordFlags n out.flags d)
      if sig ≠ p.flowsig then ceFault n 1 Src.CEA_FLOW d
      else
        let res : CeResult := ⟨cycles, before, out.writes, out.reports, out.table⟩
        let d := setPartition n r.axis out.work d
        let d := modEngine n (fun e => { e with run := some { r with result := some res } }) d
        shadowCompare n r.axis res d

/-! ## Release (R165 steps 4 and 5) -/

/-- The value of a staged write at its release: CGTIME reads EVS's copy of the group; none while its period is 0 (R200). -/
def writeValue (d : Dev) (w : CeWrite) : Option Word :=
  match w.cg with
  | none => some (wordOf w.value)
  | some g =>
    let p := rd d (EVS_CGg_PERIOD g)
    if p = 0 then none
    else some (rd d (EVS_CGg_START g) + p + wordOf (w.value * p.toNat / 65536))

/-- Deliver a write of axis `a`'s sample to a target that is no PWM register (R159). -/
def deliverWrite (n a addr : Nat) (v : Word) (d : Dev) : Dev :=
  if evsWordAddr 0 0 ≤ addr ∧ addr < evsWordAddr 4096 0 then
    let e := (addr - evsWordAddr 0 0) / 16
    if ownerOf d 0x0C (e / 64) = axisCode a then (evsWriteWord e ((addr - evsWordAddr 0 0) / 4 % 4) v d).2 else d
  else if addr = ATB_AXn_SETPOS a then (atbWritePos a (some n) v d).2
  else if addr = ATB_AXn_SETSPD a then (atbWriteSpd a (some n) v d).2
  else if addr = PFC_AXa_OBS_T a then obsTWrite a v d
  else if addr = PFC_AXa_OBS a then obsWrite a v d
  else d

/-- Is `addr` a PWM register of a leg channel or carrier group that axis `a` owns (R159)? -/
def pwmTarget (d : Dev) (a addr : Nat) : Bool :=
  match pwmLegAt addr, pwmGroupAt addr with
  | some l, _ => decide (ownerOf d 0x02 l = axisCode a)
  | none, some g => decide (ownerOf d 0x0B g = axisCode a)
  | none, none => false

/-- Release the staged writes of a sample in instance order; those to PWM reach it as one batch (R200, R222). Writes to
PWM are discarded while reverse rotation is refused (R205). -/
def releaseWrites (n a start : Nat) (ws : List CeWrite) (d : Dev) : Dev :=
  let vs := ws.filterMap (fun w => (writeValue d w).map (fun v => (w.addr, v)))
  let pwm := vs.filter (fun w => pwmTarget d a w.1)
  let d := vs.foldl (fun d w => if pwmTarget d a w.1 then d else deliverWrite n a w.1 w.2 d) d
  if (ceAxis d a).discard then d else pwmBatch pwm start d

/-- The signal whose index probe `k` of axis `a` names, after the sample (R154, R174). -/
def probeValue (d : Dev) (n a k : Nat) (frame : List Nat) : Int :=
  signed 16 (signalAt frame (partition_ d n a) (fld d (CEA_AXa_PROBE a k) 15 0))

/-- How many records trace staging holds. -/
def stagingRecords (e : Engine) : Nat :=
  e.staging.foldl (fun acc x => match x with | .sample r => acc + r.length | .gap _ _ => acc + 1) 0

/-- The records that trace staging can hold: 32 KiB of 8 bytes a record. -/
def stagingSize : Nat := 4096

/-- The enabled probes of axis `a` are captured, or the sample's records are shed whole (R174). -/
def captureProbes (n a start : Nat) (frame : List Nat) (d : Dev) : Dev :=
  let recs := (List.range 16).filterMap (fun k =>
    if flag d (CEA_AXa_PROBE a k) 31 then
      some (⟨16 * a + k, probeValue d n a k frame, start, flag d (CEA_AXa_PROBE a k) 30⟩ : ProbeRec)
    else none)
  if recs.isEmpty then d
  else
    let e := engine d n
    let gap := if e.shed = 0 then [] else [StagingItem.gap e.shedAxis e.shed]
    if stagingRecords e + gap.length + recs.length ≤ stagingSize then
      modEngine n (fun e => { e with staging := e.staging ++ gap ++ [.sample recs], shed := 0 }) d
    else modEngine n (fun e => { e with shed := e.shed + recs.length, shedAxis := a }) d

/-- SIS applies ASC to axis `a` for a flying restart (R202). -/
def restartAsc (a : Nat) (d : Dev) : Dev :=
  forEach (setsOf d a) (fun set d => markSpeed a set false (applyState a set (ascState d a set) 5 d)) d

/-- The observer of a release is lost (R201): a restart begins where the axis may run one (R202, R203). -/
def observerLost (a : Nat) (d : Dev) : Dev :=
  let del := fld d (PFC_AXa_VOTE_STATUS a) 2 0
  if del = 2 ∨ del = 7 then
    let fr := fld d (CEA_AXa_FC_STATUS a) 15 13
    let d := setFlag (CEA_AXa_FC_STATUS a) 23 true d
    let d := if flag d (CEA_AXa_FC_CFG a) 16 && !(ceAxis d a).frUsed && granted d a && decide (fr ≠ 4) then
        restartAsc a (setFld (CEA_AXa_FC_STATUS a) 15 13 1
          (modCeAxis a (fun x => { x with frUsed := true, frSince := now d }) d))
      else if fr = 1 ∨ fr = 2 ∨ fr = 3 then setFld (CEA_AXa_FC_STATUS a) 15 13 4 d
      else d
    raise Src.CEA_OBS_LOST a d
  else raise Src.CEA_OBS_SUSPECT a d

/-- The restart observer has locked inside the window (R202 step 3): SIS releases the safe state. -/
def restartResume (a : Nat) (d : Dev) : Dev :=
  if fld d (CEA_AXa_FC_STATUS a) 15 13 = 2 then
    issue .sis .release (axisPorts d a) (setFld (CEA_AXa_FC_STATUS a) 15 13 3 d)
  else d

/-- A REPORT instance reports at the release of its sample (R180, R192, R196, R201, R202). -/
def report (a : Nat) (r : CeReport) (d : Dev) : Dev :=
  let st := CEA_AXa_FC_STATUS a
  match r with
  | .winHi i => setFld st 2 0 i d
  | .winLo i => setFld st 6 4 i d
  | .bind s => setFld st 9 8 s d
  | .ceil b => setFlag st 10 b d
  | .obs valid locked lostNow speed =>
    let d := setFlag st 12 locked (setFlag st 11 valid (modCeAxis a (fun x => { x with obsSpeed := speed }) d))
    let d := if lostNow then observerLost a d else d
    if locked then restartResume a d else d
  | .plaus slot failNow =>
    if failNow then raise Src.CEA_PLAUS a (setFlag st (24 + slot) true d) else d

/-- The handover after the release of a sample of its axis (R171): the wait for the checkpoint, and the switch after
four matching samples. -/
def handoverAfter (a : Nat) (d : Dev) : Dev :=
  match d.cea.handover with
  | some h =>
    if h.axis ≠ a then d
    else if !h.shadow then { d with cea := { d.cea with handover := some { h with completed := true } } }
    else if fld d CEA_HANDOVER_STATUS 6 4 = 4 then
      let d := endHandover 1 d
      let d := setFld (CEA_AXa_STATUS a) 2 0 h.incoming (setRole h.incoming 1 a d)
      let d := setRole h.incumbent 0 0 d
      let d := abandonRun h.incoming d
      setFld CEA_SPARE 2 0 h.incumbent (syncSpare h.incumbent d)
    else d
  | none => d

/-- The sample of the serving engine `n` of axis `a` completes (R165, R170, R172, R174). -/
def completeSample (n a : Nat) (r : CeRun) (res : CeResult) (d : Dev) : Dev :=
  let d := releaseWrites n a r.start res.writes d
  let d := captureProbes n a r.start r.frame d
  let d := res.reports.foldl (fun d x => report a x d) d
  let d := modEngine n (fun e => { e with run := none }) d
  let cnt := rd d (CEA_AXa_SAMPLE_CNT a) + 1
  let d := wr (CEA_AXa_T_REL a) (nowLo d) (wr (CEA_AXa_SAMPLE_CNT a) cnt d)
  let d := setFld (CEA_AXa_OVR_CNT a) 23 16 0 (setFlag (CEA_AXa_STATUS a) 8 false d)
  let d := setFld (CEA_CEn_CYCLES n) 23 0 res.cycles d
  let d := if fld d (CEA_CEn_CYCLES_MAX n) 23 0 < res.cycles then setFld (CEA_CEn_CYCLES_MAX n) 23 0 res.cycles d else d
  let words := stateWords d a (partition_ d n a) ++ res.table
  let d := modCeAxis a (fun x => { x with ckpt := some ⟨cnt.toNat, words⟩ }) d
  let d := handoverAfter a d
  if r.outOfCycle then
    let held := (ceAxis d a).held
    let d := setFlag (CEA_AXa_STATUS a) 9 false (modCeAxis a (fun x => { x with takeover := .none, held := false }) d)
    if held then beginSample a false d else d
  else d

/-- The last write of engine `n`'s sample has been delivered. The sample of an engine in shadow releases nothing. -/
def releaseComplete (n : Nat) (d : Dev) : Dev :=
  match (engine d n).run with
  | some r =>
    match r.result with
    | some res =>
      if ceRole d n = 1 then completeSample n r.axis r res d
      else modEngine n (fun e => { e with run := none }) d
    | none => d
  | none => d

/-- The checkpoint of axis `a` arrives in the spare (R170, R171); one with a bad CRC leaves the previous in force. -/
def checkpointArrive (a : Nat) (good : Bool) (d : Dev) : Dev :=
  match (ceAxis d a).ckpt with
  | none => d
  | some c =>
    let d := modCeAxis a (fun x => { x with ckpt := none }) d
    if !good then d
    else
      let d := forEach (idxWhere 5 (fun n => decide (ceRole d n = 0 ∨ ceRole d n = 3))) (fun n d =>
        setPartition n a (c.words.foldl (fun w (k, v) => wordSet w k v) (partition_ d n a)) d) d
      let d := wr (CEA_AXa_CKPT_SEQ a) (wordOf c.seq) d
      match d.cea.handover with
      | some h =>
        if h.axis = a ∧ !h.shadow ∧ h.completed then
          let d := { d with cea := { d.cea with handover := some { h with shadow := true }, compare := none } }
          setFld CEA_HANDOVER_STATUS 1 0 2 (setRole h.incoming 2 a d)
        else d
      | none => d

/-! ## Flying restart (R202, R203) -/

/-- TASC has passed: SIS opens the freewheel window (R202 step 2). -/
def ascHoldEnd (a : Nat) (d : Dev) : Dev :=
  if fld d (CEA_AXa_FC_STATUS a) 15 13 = 1 ∧ elapsed d (ceAxis d a).frSince (80000 * fld d (CEA_AXa_FR_TIME a) 31 16) then
    let d := setFld (CEA_AXa_FC_STATUS a) 15 13 2 (modCeAxis a (fun x => { x with frSince := now d }) d)
    forEach (setsOf d a) (fun set d => markSpeed a set false (applyState a set 4 5 d)) d
  else d

/-- WIN has elapsed without a lock (R202 step 4). -/
def windowEnd (a : Nat) (d : Dev) : Dev :=
  if fld d (CEA_AXa_FC_STATUS a) 15 13 = 2 ∧ elapsed d (ceAxis d a).frSince (8000 * fld d (CEA_AXa_FR_TIME a) 15 0) then
    let d := restartAsc a (setFld (CEA_AXa_FC_STATUS a) 15 13 4 (setFlag (CEA_AXa_FC_STATUS a) 28 true d))
    raise Src.CEA_FLYRES_FAIL a d
  else d

/-! ## Register writes of CEA -/

/-- A write of `v` to `CEA_CEn_FLAGCLR` (R175). -/
def flagClear (n : Nat) (v : Word) (d : Dev) : Dev :=
  if bit v 31 then
    let d := forEach (List.range 64) (fun w d => wr (CEA_CEn_IFLAG n w) 0 d) d
    modEngine n (fun e => { e with flagged := false }) (wr (CEA_CEn_STICKY n) 0 d)
  else
    let i := bits v 9 0
    setFld (CEA_CEn_IFLAG n (i / 16)) (2 * (i % 16) + 1) (2 * (i % 16)) 0 d

/-- A write of `v` to `CEA_READMIT` (R173): a FAILED or SUSPECT engine whose last test passed returns as the spare. -/
def readmit (v : Word) (d : Dev) : Dev :=
  forEach (idxWhere 5 (fun n => bit v n)) (fun n d =>
    if (ceRole d n = 4 ∨ ceRole d n = 5) ∧ flag d (CEA_CEn_STATE n) 9 then
      let d := syncSpare n (setRole n 0 0 d)
      if (spareEngine d).isNone then setFld CEA_SPARE 2 0 n d else d
    else d) d

/-- Bits 1:0 of STICKY are cleared by writing 1; with both clear the next flagged instance is the first again (R164). -/
def stickyWrite (n : Nat) (v : Word) (d : Dev) : Dev :=
  let d := storePlain (CEA_CEn_STICKY n) v d
  if fld d (CEA_CEn_STICKY n) 1 0 = 0 then modEngine n (fun e => { e with flagged := false }) d else d

/-- The cross-register rules of CEA for the register at `a`, axis `x`: VARIANT must exist, DELTA only with the feature
accepted (R174, R175). -/
def ceaCheck (d1 : Dev) (a : Nat) : Option CheckFail :=
  let x := (a - CEA_AXa_START 0) / 0x100 % 4
  if a = CEA_AXa_CFG x then failUnless ((progOf d1 x (fld d1 a 2 0)).isSome) failRange
  else if CEA_AXa_PROBE x 0 ≤ a ∧ a ≤ CEA_AXa_PROBE x 15 then
    let accepted := decide (fld d1 CFG_FEAT_STATUS 1 0 = 1) && flag d1 (CFG_DRVFEAT 0) 2
    failUnless (!bit (rd d1 a) 30 || accepted) failRange
  else none

/-- Is the register one of an axis that is not in use (R175)? -/
def ceaUnused (d : Dev) (a : Nat) : Bool :=
  decide (CEA_AXa_START 0 ≤ a ∧ a < CEA_AXa_START 4) && !axisInUse d ((a - CEA_AXa_START 0) / 0x100)

end Sys2Proof.Machine
end

