-- ==== Sys2Proof/Machine/Crc.lean ====
section
/-! DEFINITION. Checksums: CRC-32 (R23), CRC-16/CCITT-FALSE (R408), CRC-8 (R244), the Internet checksum, and SHA-256
(R22). -/

namespace Sys2Proof.Machine

/-- One bit of the reflected CRC-32. -/
def crc32Bit (r : Nat) : Nat := if r % 2 = 1 then (r / 2) ^^^ 0xEDB88320 else r / 2

/-- One byte of the reflected CRC-32. -/
def crc32Byte (r : Nat) (b : Byte) : Nat := (List.range 8).foldl (fun r _ => crc32Bit r) (r ^^^ b.toNat)

/-- CRC-32 with the IEEE 802.3 polynomial, reflected, initial and final XOR 0xFFFF_FFFF (R23). -/
def crc32 (l : List Byte) : Nat := l.foldl crc32Byte 0xFFFFFFFF ^^^ 0xFFFFFFFF

/-- One byte of a CRC that takes the most significant bit first: width `n`, polynomial `p`. -/
def crcMsbByte (n p r : Nat) (b : Byte) : Nat :=
  (List.range 8).foldl (fun r _ => if 2 ^ (n - 1) ≤ r then ((2 * r) % 2 ^ n) ^^^ p else 2 * r) (r ^^^ (b.toNat * 2 ^ (n - 8)))

/-- CRC-16/CCITT-FALSE (R408): polynomial 0x1021, initial 0xFFFF, no reflection, no final XOR. -/
def crc16 (l : List Byte) : Nat := l.foldl (crcMsbByte 16 0x1021) 0xFFFF

/-- CRC-8 of a link word (R244): polynomial 0x2F, initial 0xFF, no reflection, no final XOR. -/
def crc8 (l : List Byte) : Nat := l.foldl (crcMsbByte 8 0x2F) 0xFF

/-- The ones' complement sum of 16-bit big-endian words, carries folded in. -/
def onesSum : List Byte → Nat → Nat
  | [], s => s
  | [a], s => let t := s + 256 * a.toNat; t % 65536 + t / 65536
  | a :: b :: r, s => let t := s + 256 * a.toNat + b.toNat; onesSum r (t % 65536 + t / 65536)

/-- The Internet checksum of a list of bytes (R442). -/
def inetSum (l : List Byte) : Nat := 65535 - onesSum l 0

/-! ## SHA-256 (FIPS 180-4, named by R22) -/

/-- The round constants. -/
def shaK : List (BitVec 32) :=
  [0x428a2f98, 0x71374491, 0xb5c0fbcf, 0xe9b5dba5, 0x3956c25b, 0x59f111f1, 0x923f82a4, 0xab1c5ed5,
   0xd807aa98, 0x12835b01, 0x243185be, 0x550c7dc3, 0x72be5d74, 0x80deb1fe, 0x9bdc06a7, 0xc19bf174,
   0xe49b69c1, 0xefbe4786, 0x0fc19dc6, 0x240ca1cc, 0x2de92c6f, 0x4a7484aa, 0x5cb0a9dc, 0x76f988da,
   0x983e5152, 0xa831c66d, 0xb00327c8, 0xbf597fc7, 0xc6e00bf3, 0xd5a79147, 0x06ca6351, 0x14292967,
   0x27b70a85, 0x2e1b2138, 0x4d2c6dfc, 0x53380d13, 0x650a7354, 0x766a0abb, 0x81c2c92e, 0x92722c85,
   0xa2bfe8a1, 0xa81a664b, 0xc24b8b70, 0xc76c51a3, 0xd192e819, 0xd6990624, 0xf40e3585, 0x106aa070,
   0x19a4c116, 0x1e376c08, 0x2748774c, 0x34b0bcb5, 0x391c0cb3, 0x4ed8aa4a, 0x5b9cca4f, 0x682e6ff3,
   0x748f82ee, 0x78a5636f, 0x84c87814, 0x8cc70208, 0x90befffa, 0xa4506ceb, 0xbef9a3f7, 0xc67178f2]

/-- The eight working words. -/
structure ShaState where
  a : BitVec 32
  b : BitVec 32
  c : BitVec 32
  d : BitVec 32
  e : BitVec 32
  f : BitVec 32
  g : BitVec 32
  h : BitVec 32
  deriving DecidableEq, Repr

/-- The initial hash value. -/
def shaInit : ShaState :=
  ⟨0x6a09e667, 0xbb67ae85, 0x3c6ef372, 0xa54ff53a, 0x510e527f, 0x9b05688c, 0x1f83d9ab, 0x5be0cd19⟩

/-- The next word of the message schedule from the last sixteen, newest first. -/
def shaNext (w : List (BitVec 32)) : BitVec 32 :=
  let x := listGet 0 w 14
  let y := listGet 0 w 1
  let s0 := x.rotateRight 7 ^^^ x.rotateRight 18 ^^^ (x >>> 3)
  let s1 := y.rotateRight 17 ^^^ y.rotateRight 19 ^^^ (y >>> 10)
  listGet 0 w 15 + s0 + listGet 0 w 6 + s1

/-- The message schedule: `n` more words after those in `w`, newest first. -/
def shaSchedule : Nat → List (BitVec 32) → List (BitVec 32)
  | 0, w => w
  | n + 1, w => shaSchedule n (shaNext w :: w)

/-- One round. -/
def shaRound (s : ShaState) (kw : BitVec 32 × BitVec 32) : ShaState :=
  let s1 := s.e.rotateRight 6 ^^^ s.e.rotateRight 11 ^^^ s.e.rotateRight 25
  let ch := (s.e &&& s.f) ^^^ (~~~s.e &&& s.g)
  let t1 := s.h + s1 + ch + kw.1 + kw.2
  let s0 := s.a.rotateRight 2 ^^^ s.a.rotateRight 13 ^^^ s.a.rotateRight 22
  let maj := (s.a &&& s.b) ^^^ (s.a &&& s.c) ^^^ (s.b &&& s.c)
  ⟨t1 + (s0 + maj), s.a, s.b, s.c, s.d + t1, s.e, s.f, s.g⟩

/-- The big-endian words of a block, first word first. -/
def shaWords (block : List Byte) : List (BitVec 32) :=
  (List.range 16).map (fun k => BitVec.ofNat 32 (be32 block (4 * k)))

/-- One block. -/
def shaBlock (s : ShaState) (block : List Byte) : ShaState :=
  let w := (shaSchedule 48 (shaWords block).reverse).reverse
  let r := (shaK.zip w).foldl shaRound s
  ⟨s.a + r.a, s.b + r.b, s.c + r.c, s.d + r.d, s.e + r.e, s.f + r.f, s.g + r.g, s.h + r.h⟩

/-- All blocks of a padded message, at most `n` of them. -/
def shaBlocks : Nat → List Byte → ShaState → ShaState
  | 0, _, s => s
  | n + 1, l, s => if l.isEmpty then s else shaBlocks n (l.drop 64) (shaBlock s (l.take 64))

/-- The SHA-256 digest of a message, 32 bytes. -/
def sha256 (l : List Byte) : List Byte :=
  let n := l.length
  let pad := l ++ [0x80] ++ List.replicate ((119 - n % 64) % 64) 0 ++ toBe32 (8 * n / 4294967296) ++ toBe32 (8 * n % 4294967296)
  let s := shaBlocks (pad.length / 64) pad shaInit
  [s.a, s.b, s.c, s.d, s.e, s.f, s.g, s.h].flatMap (fun w => toBe32 w.toNat)

end Sys2Proof.Machine
end

