-- ==== Sys2Proof/Machine/CteBase.lean ====
section
/-! DEFINITION. The transactions that are held (R422–R426): finding them, showing them, rolling them back; and the angle
crossings that a commit waits for. -/

namespace Sys2Proof.Machine

open Reg

/-- CTE changed by `f`. -/
def modCte (f : CteState → CteState) (d : Dev) : Dev := { d with cte := f d.cte }

/-- The transaction of initiator `i`. -/
def txOf (d : Dev) (i : Initiator) : Option Tx := d.cte.txs.find? (fun t => decide (t.by_ = i))

/-- `CTE_OPEN` shows the transactions and the entries in use (R439). -/
def showOpen (d : Dev) : Dev :=
  setFld CTE_OPEN 26 16 (d.cte.txs.foldl (fun n t => n + t.entries.length) 0) (setFld CTE_OPEN 2 0 d.cte.txs.length d)

/-- The transaction `t` replaces the one of its initiator. -/
def setTx (t : Tx) (d : Dev) : Dev :=
  showOpen (modCte (fun c => { c with txs := c.txs.map (fun x => if x.by_ = t.by_ then t else x) }) d)

/-- The transaction of initiator `i` is no longer held. -/
def dropTx (i : Initiator) (d : Dev) : Dev :=
  showOpen (modCte (fun c => { c with txs := c.txs.filter (fun x => decide (x.by_ ≠ i)) }) d)

/-- `CTE_TX` of initiator `i` shows STATE and ERR (R439). -/
def showTx (i : Initiator) (state err : Nat) (d : Dev) : Dev :=
  setFld (bank i CTE_TX) 15 8 err (setFld (bank i CTE_TX) 2 0 state d)

/-- The payload of a CTE record: what happened (1 failure, 2 rollback), the code, the TOKEN, the initiator. -/
def ctePayload (what code token : Nat) (i : Initiator) : List Byte :=
  [BitVec.ofNat 8 what, BitVec.ofNat 8 code] ++ toLe16 token ++ [BitVec.ofNat 8 (initiatorId i)]

/-- The transaction of initiator `i` is rolled back for `reason`, a code of R439, 0 for a rollback that was asked for
(R426): its entries are discarded, and the rollback is journalled. -/
def rollbackTx (i : Initiator) (reason : Nat) (d : Dev) : Dev :=
  match txOf d i with
  | none => d
  | some t => journal 0x03 0x0C (ctePayload 2 reason t.token i) (showTx i 0 reason (wr (bank i CTE_TX_WRITES) 0 (dropTx i d)))

/-- The initiator of task set `t`. -/
def pxOf : Nat → Initiator
  | 0 => .px0 | 1 => .px1 | 2 => .px2 | _ => .pxs

end Sys2Proof.Machine
end

