-- ==== Sys2Proof/Machine/CpxCore.lean ====
section
/-! DEFINITION. The processor pairs (R382–R389, R405): lockstep mismatches, takeover and rotation, the handover vector of
the boot ROM, the custom CSRs, L1 errors. -/

namespace Sys2Proof.Machine

open Reg

/-- Pair `n`. -/
def pair (d : Dev) (n : Nat) : Pair := vget d.cpx.pairs n

/-- Pair `n` changed by `f`. -/
def modPp (n : Nat) (f : Pair → Pair) (d : Dev) : Dev :=
  { d with cpx := { d.cpx with pairs := vset d.cpx.pairs n (f (pair d n)) } }

/-- The spare pair: one in role SPARE, or one whose role was SPARE before the test that it is under (R383, R490). -/
def sparePair (d : Dev) : Option Nat :=
  (List.range 4).find? (fun n => decide ((pair d n).role = .spare) ||
    (decide ((pair d n).role = .underTest) && (match unitTest d (8 + n) with | some t => decide (t.role = 0) | none => false)))

/-- Pair `m` is reset and enters the handover vector for task set `t` (R387, R388): CAUSE 1 a takeover, 2 a rotation. -/
def beginHandover (m t cause : Nat) (d : Dev) : Dev :=
  modPp m (fun p => { p with role := .handover, task := t, cause, resumed := false, yieldReq := false, hoFrom := now d,
                               entered := false, slow := false, entry := 0, entryA1 := 0 }) (bstTaken (8 + m) d)

/-- The cores of pair `n` disagree (R387, R389). -/
def lockstepMismatch (n : Nat) (d : Dev) : Dev :=
  let p := pair d n
  match p.role with
  | .failed => d
  | .underTest => d
  | .spare => raise Src.CPX_LOCKSTEP 3 (modPp n (fun p => { p with role := .failed, testPass := false }) d)
  | _ =>
    let t := p.task
    let d := modPp n (fun p => { p with role := .failed, yieldReq := false, task := 3, testPass := false }) d
    let d := rollbackTx (pxOf t) 13 d
    match sparePair d with
    | some m => beginHandover m t 1 (raise Src.CPX_LOCKSTEP t d)
    | none => raise Src.CPX_NOSPARE t d

/-- The address of the checkpoint header of task set `t` (R386). -/
def headerAddr (t : Nat) : Nat := 0x207C0000 + 0x10000 * t

/-- Is the checkpoint header of task set `t` good (R386, R387): MAGIC and CRC, and no word of it beyond correction? -/
def headerGood (mem : List Host.Cell) (d : Dev) (t : Nat) : Bool :=
  let h := Memory.readBytes mem (headerAddr t) 64
  decide (le32 h 0 = 0x4B48504D) && decide (le32 h 60 = crc32 (h.take 60)) &&
    !(List.range 8).any (fun k => d.icf.badWords.contains (headerAddr t / 8 + k))

/-- The spare's boot ROM leaves the handover vector (R387): to RESUME with SP loaded, a0 the task set and a1 the header
address, or to the firmware's cold entry with a1 = 0. The cold entry's address is the firmware's own; `entry` 0 stands
for it. -/
def handoverEntry (mem : List Host.Cell) (d : Dev) : Dev :=
  match (List.range 4).find? (fun n => decide ((pair d n).role = .handover) && !(pair d n).entered) with
  | none => d
  | some n =>
    let t := (pair d n).task
    if headerGood mem d t then
      let h := Memory.readBytes mem (headerAddr t) 64
      modPp n (fun p => { p with entered := true, entry := le32 h 8, entryA1 := headerAddr t }) d
    else modPp n (fun p => { p with entered := true, entry := 0, entryA1 := 0 }) d

/-- The firmware of pair `n` writes `mhostatus` (R387, R405): RESUMED is set by writing 1, and the pair serves. -/
def hoResumed (n : Nat) (v : Word) (d : Dev) : Dev :=
  if bit v 0 then
    let p := pair d n
    if p.role = .handover ∧ p.entered = true then modPp n (fun p => { p with role := .serving, resumed := true }) d
    else modPp n (fun p => { p with resumed := true }) d
  else d

/-- A takeover has not reached RESUMED within 200 µs of detection (R387). -/
def hoSlow (d : Dev) : Dev :=
  match (List.range 4).find? (fun n => let p := pair d n
      decide (p.role = .handover ∧ p.cause = 1) && !p.slow && elapsed d p.hoFrom (200 * usTicks)) with
  | some n => raise Src.CPX_HO_SLOW 0 (modPp n (fun p => { p with slow := true }) d)
  | none => d

/-- FLS requests a yield from the pair that serves task set `t` (R388). -/
def requestYield (t : Nat) (d : Dev) : Dev :=
  forEach (List.range 4) (fun n d =>
    if (pair d n).role = .serving ∧ (pair d n).task = t then
      modPp n (fun p => { p with yieldReq := true, yieldFrom := now d }) d
    else d) d

/-- The firmware of pair `n` writes `mhoyield` (R388): ignored without YIELDREQ. A pair that is the spare by now enters
the handover vector; with none, the request stands. -/
def hoYield (n : Nat) (v : Word) (d : Dev) : Dev :=
  let p := pair d n
  if bit v 0 ∧ p.yieldReq = true ∧ p.role = .serving then
    match sparePair d with
    | some m => beginHandover m p.task 2 (modPp n (fun p => { p with role := .spare, task := 3, yieldReq := false }) d)
    | none => d
  else d

/-- A request unanswered for 10 ms is withdrawn and counted (R388). -/
def yieldWithdraw (d : Dev) : Dev :=
  forEach (List.range 4) (fun n d =>
    let p := pair d n
    if p.yieldReq = true ∧ elapsed d p.yieldFrom (10 * msTicks) = true then
      let d := modPp n (fun p => { p with yieldReq := false }) d
      { d with cpx := { d.cpx with withdrawn := d.cpx.withdrawn + 1 } }
    else d) d

/-- A write to `mcpxreadmit` (R389): a FAILED pair whose test passed returns as the spare. -/
def pairReadmit (v : Word) (d : Dev) : Dev :=
  forEach (idxWhere 4 (fun n => bit v n)) (fun n d =>
    let p := pair d n
    if p.role = .failed ∧ p.testPass = true then modPp n (fun p => { p with role := .spare, task := 3 }) d else d) d

/-- The index that R391 gives the SRAM at address `a`. -/
def sramIndex (a : Nat) : Option Nat :=
  if inRange a 0x20000000 0x207FFFFF then some 0
  else if inRange a 0x24000000 0x243FFFFF then some 1
  else if inRange a 0x28000000 0x2813FFFF then some 2
  else if inRange a 0x2C000000 0x2C03FFFF then some 3
  else if inRange a 0x40120000 0x4012FFFF then some 4
  else none

/-- Does the ECC word at address `a` hold an error beyond correction? -/
def badAt (d : Dev) (a : Nat) : Bool := d.icf.badWords.contains (a / 8)

/-- The ECC word at address `a` holds an error beyond correction. -/
def markBad (a : Nat) (d : Dev) : Dev :=
  if badAt d a then d else { d with icf := { d.icf with badWords := d.icf.badWords ++ [a / 8] } }

/-- A read meets an uncorrectable error in the SRAM at address `a` (R391): status, count, source, bus error. -/
def sramError (a : Nat) (d : Dev) : Dev :=
  match sramIndex a with
  | some k =>
    respErr (raise Src.ICF_ECC_UE k (setFlag ICF_STATUS 2 true (incFld ICF_ECC_CNT 31 16 (markBad a d))))
  | none => d

/-- An L1 line of pair `n` is beyond correction (R385): it is invalidated and fetched again; where the memory behind it
is beyond correction too, the access gets the bus error. -/
def l1Error (n a : Nat) (d : Dev) : Dev :=
  let d := raise Src.CPX_L1_UE n d
  if badAt d a && (sramIndex a).isSome then sramError a d else d

end Sys2Proof.Machine
end

