-- ==== Sys2Proof/Machine/JrnCore.lean ====
section
/-! DEFINITION. The journal (R430–R434): admission, firmware records, the read by sequence number, the wrap counter. -/

namespace Sys2Proof.Machine

open Reg

/-- JRN changed by `f`. -/
def modJrn (f : JrnState → JrnState) (d : Dev) : Dev := { d with jrn := f d.jrn }

/-- Has the feature of bit `b` been accepted (R42, R45)? -/
def featureOn (d : Dev) (b : Nat) : Bool := decide (fld d CFG_FEAT_STATUS 1 0 = 1) && flag d (CFG_DRVFEAT 0) b

/-- Bytes filled up with zeros, or cut, to `n`. -/
def padTo (n : Nat) (l : List Byte) : List Byte := (l ++ List.replicate n 0).take n

/-- The payload of an FCR record (R431). -/
def fcrPayload (r : FcrRec) : List Byte :=
  toLe16 r.source ++ [BitVec.ofNat 8 r.cls, BitVec.ofNat 8 (b2n r.forced + 2 * b2n r.multi),
    BitVec.ofNat 8 r.dfirst, BitVec.ofNat 8 r.dlast] ++ toLe16 r.count ++ toLe64 r.first ++ toLe64 r.last

/-- The 64 bytes of an admitted record (R430). -/
def jrnBytes (r : JrnRec) : List Byte :=
  let b := toLe32 r.jseq ++ toLe64 r.time ++ [BitVec.ofNat 8 r.type, BitVec.ofNat 8 r.origin, 0, 0] ++ padTo 44 r.payload
  b ++ toLe32 (crc32 b)

/-- The address of the record with sequence number `q` (R430). -/
def jrnAddr (q : Nat) : Nat := 0x10A00000 + 64 * (q % 65536)

/-- `JRN_RATE` shows the admissions of the last second (R440). -/
def showRate (d : Dev) : Dev :=
  let l := d.jrn.admitted.filter (fun t => decide (now d < t + 1000 * msTicks))
  setFld JRN_RATE 19 0 (Nat.min l.length 1048575) (modJrn (fun j => { j with admitted := l }) d)

/-- The ring has wrapped: both copies of the counter step (R433). The wrap is that of the record at index 65,535. -/
def jrnWrap (d : Dev) : Dev :=
  let up (x : Option Nat) : Option Nat := x.map (fun n => n + 1)
  let d := modJrn (fun j => { j with wrapsA := up j.wrapsA, wrapsB := up j.wrapsB }) d
  match d.jrn.wrapsA with
  | some n => if rd d JRN_WRAPS = 0xFFFFFFFF then d else wr JRN_WRAPS (wordOf n) d
  | none => d

/-- A record is admitted with the next JSEQ (R430). -/
def jrnPut (r : JrnRec) (d : Dev) : Dev :=
  let q := (rd d JRN_HEAD_SEQ).toNat
  let r := { r with jseq := q, time := now d }
  let d := modJrn (fun j => { j with ring := lastN 65536 (j.ring ++ [r]), admitted := now d :: j.admitted }) d
  let d := wr JRN_HEAD_SEQ (wordOf (q + 1)) d
  let d := wr JRN_OLDEST_SEQ (wordOf (match d.jrn.ring with | x :: _ => x.jseq | [] => 0)) d
  showRate (if q % 65536 = 65535 then jrnWrap d else d)

/-- The initiators that have copies of the firmware journal port. -/
def initiatorOf : Nat → Option Initiator
  | 0x00 => some .px0 | 0x01 => some .px1 | 0x02 => some .px2 | 0x03 => some .pxs | 0x08 => some .sis
  | 0x09 => some .fcr | 0x0A => some .csq | 0x0B => some .cea | 0x0C => some .cte | 0x0D => some .jrn
  | 0x0E => some .trc | 0x0F => some .eth0 | 0x10 => some .eth1 | 0x11 => some .can | 0x12 => some .fls
  | 0x1F => some .jtag | _ => none

/-- The port of the initiator that offered firmware record `r` reports DONE with the JSEQ (R432). -/
def fwDone (r : JrnRec) (q : Nat) (d : Dev) : Dev :=
  match initiatorOf r.origin with
  | some i => if 0x80 ≤ r.type then wr (bank i JRN_FW_STATUS) 0x80000000 (wr (bank i JRN_FW_SEQ) (wordOf q) d) else d
  | none => d

/-- The next record is admitted: FCR's ahead of every other (R431). -/
def jrnAdmit (d : Dev) : Dev :=
  if !flag d JRN_STATUS 0 then d
  else match d.fcr.stage with
  | r :: q =>
    let d := showStage { d with fcr := { d.fcr with stage := q } }
    jrnPut { type := 0x01, origin := 0x09, payload := fcrPayload r } d
  | [] =>
    match d.jrn.offered with
    | [] => d
    | r :: q =>
      let s := (rd d JRN_HEAD_SEQ).toNat
      fwDone r s (jrnPut r (modJrn (fun j => { j with offered := q }) d))

/-- A write of the firmware journal port is refused with ERR `e`. -/
def fwRefuse (i : Initiator) (e : Nat) (d : Dev) : Dev := wr (bank i JRN_FW_STATUS) (wordOf (e * 2 ^ 28)) d

/-- Is a firmware record of initiator `i` still to be admitted? -/
def fwBusy (d : Dev) (i : Initiator) : Bool :=
  d.jrn.offered.any (fun r => decide (0x80 ≤ r.type) && decide (r.origin = initiatorId i))

/-- A write of `JRN_FW_WRITE` by initiator `i` (R432, R427). -/
def jrnFwWrite (i : Initiator) (v : Word) (d : Dev) : Dev :=
  if !bit v 31 then d
  else if fwBusy d i then
    journal 0x03 0x0D [3, BitVec.ofNat 8 (initiatorId i)] (respErr (fwRefuse i 1 d))
  else if bits v 7 0 < 0x80 then fwRefuse i 2 d
  else if 7168 < d.fcr.stage.length then fwRefuse i 3 d
  else
    let payload := (List.range 11).flatMap (fun k => toLe32 (rd d (bank i (JRN_FW_DATA k))).toNat)
    journal (bits v 7 0) (initiatorId i) payload (wr (bank i JRN_FW_STATUS) 0 d)

/-- A write of `JRN_SEQ_Q` (R434, R440). A record whose words are beyond correction cannot be copied: JRN_ECC is raised and
the answer is GONE (the spec states no answer). -/
def jrnSeqQuery (v : Word) (d : Dev) : Dev :=
  if !featureOn d 3 then respErr d
  else match d.jrn.ring.find? (fun r => decide (r.jseq = v.toNat)) with
  | none => wr JRN_SEQ_RES 0x80000002 d
  | some r =>
    if (List.range 8).any (fun k => badAt d (jrnAddr r.jseq + 8 * k)) then
      wr JRN_SEQ_RES 0x80000002 (raise Src.JRN_ECC 0 (incFld JRN_ECC_CNT 31 16 d))
    else
      let b := jrnBytes r
      let d := forEach (List.range 16) (fun k d => wr (JRN_SEQ_WIN k) (wordOf (le32 b (4 * k))) d) d
      wr JRN_SEQ_RES 0x80000001 d

/-- The check of the wrap count (R433): copies that are intact but differ, a bad copy rewritten from the other, wear. -/
def wearCheck (d : Dev) : Dev :=
  let j := d.jrn
  let d := match j.wrapsA, j.wrapsB with
    | some a, some b =>
      if a = b then wr JRN_WRAPS (wordOf a) d
      else raise Src.JRN_META 0 (setFlag JRN_STATUS 2 true (wr JRN_WRAPS 0xFFFFFFFF d))
    | some a, none => wr JRN_WRAPS (wordOf a) (modJrn (fun j => { j with wrapsB := some a }) d)
    | none, some b => wr JRN_WRAPS (wordOf b) (modJrn (fun j => { j with wrapsA := some b }) d)
    | none, none => d
  let n := (rd d JRN_WRAPS).toNat
  if 900000 ≤ n ∧ n ≠ 0xFFFFFFFF ∧ flag d JRN_STATUS 1 = false then raise Src.JRN_WEAR 0 (setFlag JRN_STATUS 1 true d) else d

/-- JRN at start (R430, R433): it finds the newest record of the ring and runs. Records that were not admitted are gone
(R10). -/
def jrnStart (d : Dev) : Dev :=
  let d := modJrn (fun j => { j with offered := [], admitted := [] }) d
  let d := match d.jrn.ring.getLast? with
    | some r => wr JRN_HEAD_SEQ (wordOf (r.jseq + 1)) d
    | none => d
  let d := match d.jrn.ring with
    | r :: _ => wr JRN_OLDEST_SEQ (wordOf r.jseq) d
    | [] => d
  wearCheck (setFlag JRN_STATUS 0 true d)

end Sys2Proof.Machine
end

