-- ==== Sys2Proof/Machine/SenseRegs.lean ====
section
/-! DEFINITION. The registers of ADS, SDM and FCMP as writers see them (R119, R120, R127, R143–R151): checks, what a value
that takes its place does, and the write-only registers. -/

namespace Sys2Proof.Machine

open Reg

/-- The element of an array of registers at `first`, `stride` apart, `n` of them, that stands at `a`. -/
def elemAt (first stride n a : Nat) : Option Nat :=
  if first ≤ a ∧ (a - first) % stride = 0 ∧ (a - first) / stride < n then some ((a - first) / stride) else none

/-- The block of an array of register blocks at `first`, `stride` apart, `n` of them, that holds `a`. -/
def blockAt (first stride n a : Nat) : Option Nat :=
  if first ≤ a ∧ (a - first) / stride < n then some ((a - first) / stride) else none

/-- The source resource that comparator `k` selects: class and instance; none where SRC is outside its range (R149–R151). -/
def fcmpSourceRes (d : Dev) (k : Nat) : Option (Nat × Nat) :=
  let s := fcmpSrc d k
  if fcmpAin d k then (if s < 16 then some (0x04, s) else none) else if s < 24 then some (0x06, s) else none

/-- The rules of R127, R143 and R147–R151 for the register at `a`, `d1` with the values written. -/
def senseCheck (d1 : Dev) (a : Nat) : Option CheckFail :=
  match elemAt (ADS_AINnn_CFG 0) 0x10 64 a with
  | some i => failUnless (!flag d1 a 31 || (ownerAxis d1 0x04 i).isSome) failRange
  | none =>
  match elemAt (ADS_RSa_ENT 0) 0x40 4 a with
  | some _ => failUnless (!flag d1 a 0) failRange
  | none =>
  match elemAt (SDM_SDnn_ROUTE 0) 0x40 24 a with
  | some n => failUnless (!flag d1 a 31 || (ownerAxis d1 0x06 n).isSome) failRange
  | none =>
  match elemAt (FCMP_CMPkk_THR 0) 0x20 32 a with
  | some _ => failUnless (decide (sfld d1 a 15 0 < sfld d1 a 31 16)) failRange
  | none =>
  match elemAt (FCMP_CMPkk_CFG 0) 0x20 32 a with
  | some k =>
    match fcmpSourceRes d1 k with
    | none => some failRange
    | some (c, i) =>
      let own := ownerOf d1 0x07 k
      failUnless (decide (ownerOf d1 c i = own)) (failOwner d1 c i own)
  | none => none

/-- The configuration of comparator `k` has changed: an output that is not active is deasserted, an invalid input acts
as R136 says. -/
def fcmpConfigured (k : Nat) (d : Dev) : Dev := if fcmpEn d k then fcmpOnInvalid k d else fcmpDeassert k d

/-- A checked value `v` takes its place in the register at `a`: a new MODE discards queued requests (R119), a new REF
clears REF_RDY (R120, R130). -/
def sensePut (a : Nat) (v : Word) (d : Dev) : Dev :=
  let d1 := storePlain a v d
  match elemAt (ADS_Pp_CFG 0) 0x100 8 a with
  | some p =>
    let d1 := whenD (decide (adsMode d1 p ≠ adsMode d p)) (adsFlush p) d1
    whenD (decide (fld d1 a 5 4 ≠ fld d a 5 4)) (refLost p) d1
  | none =>
  match elemAt (FCMP_CMPkk_CFG 0) 0x20 32 a with
  | some k => fcmpConfigured k d1
  | none =>
  match elemAt (SDM_SDnn_CFG 0) 0x40 24 a with
  | some n => whenD (flag d1 a 31 && !flag d a 31) (modSdm n (fun x => { x with history := [] })) d1
  | none =>
  match elemAt (ADS_RSa_CFG 0) 0x40 4 a with
  | some r => whenD (flag d1 a 31 && !flag d a 31) (modRs r (fun _ => {})) d1
  | none => d1

/-- A write of `v` to a write-only register of ADS, SDM or FCMP: true where it gets an error response; none elsewhere. -/
def senseSpecial (a : Nat) (v : Word) (d : Dev) : Option (Bool × Dev) :=
  match elemAt (ADS_Pp_START 0) 0x100 8 a with
  | some p => some (adsStart p v d)
  | none =>
  match elemAt (ADS_Pp_CAL 0) 0x100 8 a with
  | some p => some (false, whenD (bit v 0) (calRequest p) d)
  | none =>
  match elemAt (SDM_SDnn_WIN 0) 0x40 24 a with
  | some n => some (sdmWindow n v d)
  | none =>
  match elemAt (FCMP_CMPkk_TEST 0) 0x20 32 a with
  | some k => some (false, fcmpTest k v d)
  | none => none

end Sys2Proof.Machine
end

