-- ==== Sys2Proof/Machine/FcrRegs.lean ====
section
/-! DEFINITION. The registers of FCR: the class minima of every source (R339, R350 and the chapters that set one), a
forced raising (R345), the clearing of a status (R346), the time registers (R360) and the self-fault (R349). -/

namespace Sys2Proof.Machine

open Reg

/-- Sources whose class must be AXIS_SAFE or stronger. -/
def minAxisSafe : List Nat := [
  Src.PFC_VOTE_NONE, Src.PFC_VOTE_2DIS, Src.CEA_OVR_LIMIT, Src.CEA_NOSPARE, Src.CEA_OBS_LOST, Src.GLK_LINK_DOWN,
  Src.PSP_NOID, Src.ATB_CMP, Src.THM_SW_TRIP, Src.CMD_LOSS_ACTIVE]

/-- Sources whose class must be ALL_SAFE or stronger. -/
def minAllSafe : List Nat := [
  Src.PSP_DOUBLE, Src.EVS_CMP, Src.PWM_CMP, Src.GLK_CMP, Src.THM_DIE_TRIP, Src.CPX_NOSPARE, Src.ICF_CMP,
  Src.BST_KEY_FAIL, Src.SYS_VMON_LINK, Src.SYS_VMON_OV, Src.SYS_CLK_REF, Src.SYS_PLL]

/-- Sources whose class must be NOTIFY or stronger. -/
def minNotify : List Nat := [
  Src.CSQ_LOG_MISMATCH, Src.CTE_OVERLAY, Src.FLS_SCRUB_UE, Src.FLS_MRAM_UE, Src.BST_SIG_FAIL, Src.BST_MBIST_FAIL,
  Src.SYS_VMON_A]

/-- Sources whose class must be DEGRADE or stronger. -/
def minDegrade : List Nat := [Src.GLK_EDGE_LOST, Src.GLK_EDGE_REFUSED]

/-- Sources whose class is DEGRADE, neither weaker nor stronger. -/
def onlyDegrade : List Nat := [
  Src.CEA_RESIDUE, Src.CEA_FLOW, Src.CEA_HANG, Src.CEA_ECC, Src.CEA_SHADOW, Src.CPX_LOCKSTEP]

/-- May source `k` have class `c`? `sixes` holds where every axis in use has TOPOLOGY 2 or 3: only then may PSP_SWID be
DEGRADE (R295). -/
def classOk (sixes : Bool) (k c : Nat) : Bool :=
  if onlyDegrade.contains k then decide (c = 3)
  else if minAllSafe.contains k then decide (6 ≤ c)
  else if minAxisSafe.contains k then decide (5 ≤ c)
  else if minDegrade.contains k then decide (3 ≤ c)
  else if minNotify.contains k then decide (2 ≤ c)
  else if k = Src.PSP_SWID then decide (5 ≤ c) || (sixes && decide (c = 3))
  else true

/-- Is the number of a source reserved (R337)? -/
def srcReserved (k : Nat) : Bool := decide (k < 992) && !Src.assigned.contains k

/-- May the word `v` stand in `FCR_SRCkkkk_CFG` (R339, R360, R361)? -/
def fcrCfgOk (sixes : Bool) (k : Nat) (v : Word) : Bool :=
  if srcReserved k then decide (v = 0)
  else decide (bits v 23 8 ≤ 32767) && classOk sixes k (bits v 2 0)

/-- Have all axes in use two winding sets? -/
def allSix (d : Dev) : Bool := (axesInUse d).all (sixPhase d)

/-- The rules of R339 and R360 for the register at `a`, `d1` with the values written. -/
def fcrCheck (d1 : Dev) (a : Nat) : Option CheckFail :=
  match elemAt (FCR_SRCkkkk_CFG 0) 0x20 1024 a with
  | some k => failUnless (fcrCfgOk (allSix d1) k (rd d1 a)) failRange
  | none => none

/-- A write of `v` to `FCR_SRCkkkk_FORCE` (R345): true where FCR refuses it. -/
def fcrForce (k : Nat) (v : Word) (d : Dev) : Bool × Dev :=
  if !bit v 0 then (false, d)
  else if !flag d FCR_CTRL 0 then (true, d)
  else if k < 992 ∧ 3 ≤ srcClass d k ∧ anyGranted d then (true, d)
  else (false, raiseForced k d)

/-- A write of `v` to `FCR_SRCkkkk_STATUS` (R346). -/
def fcrStatusWrite (k : Nat) (v : Word) (d : Dev) : Dev :=
  whenD (bit v 0) (setFld (FCR_SRCkkkk_STATUS k) 1 0 0) d

/-- A write of `v` to a register of FCR with an effect of its own; none elsewhere. -/
def fcrSpecial (a : Nat) (v : Word) (d : Dev) : Option (Bool × Dev) :=
  match elemAt (FCR_SRCkkkk_FORCE 0) 0x20 1024 a with
  | some k => some (fcrForce k v d)
  | none =>
  match elemAt (FCR_SRCkkkk_STATUS 0) 0x20 1024 a with
  | some k => some (false, fcrStatusWrite k v d)
  | none => none

/-- Initiator `i` reads FIRST_LO or LAST_LO of source `k`: the HI register is latched for it (R360). -/
def fcrLoRead (i : Initiator) (k : Nat) (last : Bool) (d : Dev) : Dev :=
  let lo := if last then FCR_SRCkkkk_LAST_LO k else FCR_SRCkkkk_FIRST_LO k
  let hi := if last then FCR_SRCkkkk_LAST_HI k else FCR_SRCkkkk_FIRST_HI k
  respData (rd d lo) (wr (bank i hi) (rd d hi) d)

/-- The bit of `FCR_SELF_STATUS` that records a kind of self-fault (R349, R360). -/
def selfBit : SelfFault → Nat
  | .parity => 0 | .copy => 1 | .logic => 2

/-- A self-fault of FCR (R349): recorded, FCR_SELF offered to the journal past FCR's own buffer, every axis in its
speed-selected state, every drive enable dropped. -/
def fcrSelfFault (k : SelfFault) (d : Dev) : Dev :=
  let d := setFlag FCR_SELF_STATUS (selfBit k) true d
  let d := journal 0x01 0x09 (fcrPayload (fcrRecord d Src.FCR_SELF 0 false)) d
  let d := forEach [0, 1, 2, 3] dropEnable d
  forEach (axesInUse d) (enterSpeedSelected 5) d

end Sys2Proof.Machine
end

