-- ==== Sys2Proof/Machine/ThmCore.lean ====
section
/-! DEFINITION. Thermal management (R363–R381): the step, the die model, the switch model, thresholds and factors. -/

namespace Sys2Proof.Machine

open Reg

/-- Die region `r` of THM beside its registers. -/
def thmRegion (d : Dev) (r : Nat) : ThmRegion := vget d.thm.regions r

/-- Die region `r` changed by `f`. -/
def modRegion (r : Nat) (f : ThmRegion → ThmRegion) (d : Dev) : Dev :=
  { d with thm := { d.thm with regions := vset d.thm.regions r (f (thmRegion d r)) } }

/-- Switch channel `k` of THM beside its registers. -/
def thmSwitch (d : Dev) (k : Nat) : ThmSwitch := vget d.thm.switches k

/-- Switch channel `k` changed by `f`. -/
def modSwitch (k : Nat) (f : ThmSwitch → ThmSwitch) (d : Dev) : Dev :=
  { d with thm := { d.thm with switches := vset d.thm.switches k (f (thmSwitch d k)) } }

/-- A temperature narrowed to signed 16 bits (R364). -/
def satTemp (i : Int) : Int := clampInt (-32768) 32767 i

/-- The temperature of a rise in 2^-16 K over a divisor `n`, in units of 0.0625 °C (R364): 4,096 steps of 2^-16 K are
one unit. -/
def tempOf (x : Int) (n : Nat) : Int := satTemp (roundDiv x (((4096 * n : Nat)) : Int))

/-- The nine regions. -/
def regionList : List Nat := List.range 9

/-- The regions orthogonally adjacent to region `r` (R365). -/
def neighbours (r : Nat) : List Nat :=
  regionList.filter (fun q =>
    (decide (r / 3 = q / 3) && (decide (r % 3 = q % 3 + 1) || decide (q % 3 = r % 3 + 1)))
      || (decide (r % 3 = q % 3) && (decide (r / 3 = q / 3 + 1) || decide (q / 3 = r / 3 + 1))))

/-- Is the sensor of region `r` broken? -/
def sensorBroken (d : Dev) (r : Nat) : Bool := flag d THM_BROKEN r

/-- The last reading of the sensor of region `r`. -/
def sensor (d : Dev) (r : Nat) : Int := sfld d (THM_Rr_SENS r) 15 0

/-- The sensor of region `r` is declared broken (R365, R366). -/
def breakSensor (r : Nat) (d : Dev) : Dev := raise Src.THM_SENS_BROKEN r (setFlag THM_BROKEN r true d)

/-- A reading of the sensor of region `r`, in 0.0625 °C; one outside −55 °C to +175 °C breaks the sensor (R365). -/
def readSensor (r : Nat) (t : Int) (d : Dev) : Dev :=
  let d := setFld (THM_Rr_SENS r) 15 0 (unsigned 16 (satTemp t)) d
  if !sensorBroken d r && (decide (t < -880) || decide (2800 < t)) then breakSensor r d else d

/-! ## Models (R367–R372) -/

/-- One step of a Foster stage with resistance `r` (0.001 K/W) and `alpha` (R368): the power is `num / den` W. -/
def stageStep (num den : Int) (r alpha : Nat) (theta : Int) : Int :=
  clampInt (-2147483648) 2147483647
    (theta + roundDiv ((num * r * 65536 - theta * den * 1000) * alpha) (den * 1000 * 65536))

/-- One step of the four stages whose parameters stand at registers `reg 0` to `reg 3`. -/
def stagesStep (d : Dev) (reg : Nat → Nat) (num den : Int) (theta : List Int) : List Int :=
  (List.range 4).map (fun i => stageStep num den (fld d (reg i) 31 16) (fld d (reg i) 15 0) (listGet 0 theta i))

/-- The sum of a list of integers. -/
def sumInt (l : List Int) : Int := l.foldl (· + ·) 0

/-- Entry 9r + k of the matrix W (R367, R380). -/
def weight (d : Dev) (r k : Nat) : Int :=
  let e := 9 * r + k
  if e % 2 = 0 then sfld d (THM_W (e / 2)) 15 0 else sfld d (THM_W (e / 2)) 31 16

/-- The power of region `r` as mW times 32,768 (R367). -/
def regionPower (d : Dev) (r : Nat) : Int :=
  sumInt (regionList.map (fun k => weight d r k * (fld d (THM_PDOM k) 15 0 : Int)))

/-- The rise of region `r`, in 2^-16 K. -/
def regionRise (d : Dev) (r : Nat) : Int := sumInt (thmRegion d r).theta

/-- The die model advances one step. -/
def dieModel (d : Dev) : Dev :=
  forEach regionList (fun r d =>
    let p := regionPower d r
    modRegion r (fun x => { x with theta := stagesStep d THM_DIE_STAGE p 32768000 x.theta }) d) d

/-- The unbroken sensors. -/
def goodSensors (d : Dev) : List Nat := regionList.filter (fun r => !sensorBroken d r)

/-- The sum over the unbroken sensors of sensor − rise, in 2^-16 K, and how many they are (R369). With every sensor
broken: TREF_DEF. -/
def trefSum (d : Dev) : Int × Nat :=
  let g := goodSensors d
  if g.isEmpty then (sfld d THM_CHK2 15 0 * 4096, 1)
  else (sumInt (g.map (fun r => sensor d r * 4096 - regionRise d r)), g.length)

/-- TREF and the model temperatures are shown (R369, R381). -/
def showModel (d : Dev) : Dev :=
  let (s, n) := trefSum d
  let d := setFld THM_TREF 15 0 (unsigned 16 (tempOf s n)) d
  let d := setFlag THM_STATUS 1 (goodSensors d).isEmpty d
  forEach regionList (fun r d =>
    setFld (THM_Rr_MODEL r) 15 0 (unsigned 16 (tempOf (s + (n : Int) * regionRise d r) n)) d) d

/-- The temperature in use of region `r` (R369). -/
def dieTemp (d : Dev) (r : Nat) : Int :=
  if sensorBroken d r then sfld d (THM_Rr_MODEL r) 15 0 else sensor d r

/-! ## The sensor cross-check (R366) -/

/-- The unbroken neighbours of region `r`. -/
def goodNeighbours (d : Dev) (r : Nat) : List Nat := (neighbours r).filter (fun q => !sensorBroken d q)

/-- The difference between sensor `r` and the mean of its unbroken neighbours, as numerator and denominator. -/
def sensorDiff (d : Dev) (r : Nat) : Nat × Nat :=
  let g := goodNeighbours d r
  ((sensor d r * (g.length : Int) - sumInt (g.map (sensor d))).natAbs, g.length)

/-- Can the sensor be checked? -/
def checkable (d : Dev) (r : Nat) : Bool := !sensorBroken d r && decide (2 ≤ (goodNeighbours d r).length)

/-- The count of sensor `r`: of the steps in a row beyond XTOL. -/
def countSensor (d0 : Dev) (r : Nat) (d : Dev) : Dev :=
  let d := setFlag THM_BROKEN (16 + r) (!sensorBroken d0 r && !checkable d0 r) d
  if checkable d0 r then
    let (n, k) := sensorDiff d0 r
    let above := decide (fld d0 THM_CHK 31 16 * k < n)
    modRegion r (fun x => { x with count := if above then x.count + 1 else 0 }) d
  else d

/-- Among the checked sensors whose count has reached XTIME, the one with the largest difference, the lowest on a tie. -/
def worstSensor (d : Dev) : Option Nat :=
  (regionList.filter (fun r => checkable d r && decide (fld d THM_CHK 15 0 ≤ (thmRegion d r).count))).foldl
    (fun acc r =>
      match acc with
      | none => some r
      | some q =>
        let (n, k) := sensorDiff d r
        let (m, j) := sensorDiff d q
        if m * k < n * j then some r else some q) none

/-- The cross-check of one step. COUNT shows at most 127. -/
def crossCheck (d : Dev) : Dev :=
  let d0 := d
  let d := forEach regionList (countSensor d0) d
  let d := match worstSensor d with
    | some r => breakSensor r d
    | none => d
  forEach regionList (fun r d => setFld (THM_Rr_SENS r) 22 16 (Nat.min 127 (thmRegion d r).count) d) d

/-! ## Switch channels (R371–R373) -/

/-- Is channel `k` enabled? -/
def swEn (d : Dev) (k : Nat) : Bool := flag d (THM_SWkk_CFG k) 31

/-- The enabled channels. -/
def swList (d : Dev) : List Nat := idxWhere 64 (swEn d)

/-- The model set of channel `k`. -/
def swSet (d : Dev) (k : Nat) : Nat := fld d (THM_SWkk_CFG k) 25 24

/-- The signal that channel `k` names, as it stood after the last completed sample of the serving engine (R371). -/
def lossSignal (d : Dev) (a sig : Nat) : Int :=
  match servingEngine d a with
  | none => 0
  | some n =>
    let w := match (engine d n).run with
      | some r => match r.result with
        | some res => if r.axis = a then res.before else partition_ d n a
        | none => partition_ d n a
      | none => partition_ d n a
    if 0x100 ≤ sig ∧ sig ≤ 0x30FF then signed 16 (wordAt w (sig - 0x100)) else 0

/-- The loss of channel `k`, in W times 32,768. -/
def switchLoss (d : Dev) (k : Nat) : Int :=
  match ownerAxis d 0x03 k with
  | some a =>
    if granted d a then
      max 0 (lossSignal d a (fld d (THM_SWkk_CFG k) 15 0)) * (fld d (THM_SETm_PBASE (swSet d k)) 15 0 : Int)
    else 0
  | none => 0

/-- The switch model of channel `k` advances one step. -/
def switchModel (k : Nat) (d : Dev) : Dev :=
  let p := switchLoss d k
  modSwitch k (fun x => { x with theta := stagesStep d (THM_SETm_STAGE (swSet d k)) p 32768 x.theta }) d

/-- Is the NTC reading of channel `k` valid (R372)? -/
def ntcValid (d : Dev) (k : Nat) : Bool :=
  portReady d k && (match (port d k).ntcAt with | some t => decide (now d ≤ t + 3 * msTicks) | none => false)

/-- The model NTC of channel `k`. -/
def modelNtc (d : Dev) (k : Nat) : Int :=
  let th := (thmSwitch d k).theta
  tempOf (sfld d (THM_COOL (fld d (THM_SWkk_CFG k) 21 20)) 15 0 * 4096 + listGet 0 th 2 + listGet 0 th 3) 1

/-- The NTC checks of channel `k`: fallback, plausibility, NTC_USED and TJ (R372, R373). -/
def switchCheck (k : Nat) (d : Dev) : Dev :=
  let st := THM_SWkk_STATUS k
  let model := modelNtc d k
  let reading := sfld d (GLK_GLnn_TEMP k) 15 0
  let valid := ntcValid d k
  let wasFallback := flag d st 1
  let d := setFlag st 1 (!valid) d
  let d := if !valid && !wasFallback then raise Src.THM_NTC_LOST k (setFlag st 0 true d) else d
  let d := if valid then
      let apart := decide (fld d (THM_SETm_PLAUS (swSet d k)) 31 16 < (reading - model).natAbs)
      let n := if apart then (thmSwitch d k).apart + 1 else 0
      let d := modSwitch k (fun x => { x with apart := n }) d
      if !apart then setFlag st 2 false d
      else if fld d (THM_SETm_PLAUS (swSet d k)) 15 0 ≤ n ∧ flag d st 2 = false then
        raise Src.THM_NTC_PLAUS k (setFlag st 2 true d)
      else d
    else d
  let used := if valid then (if flag d st 2 then max reading model else reading) else model
  let th := (thmSwitch d k).theta
  let tj := tempOf (used * 4096 + listGet 0 th 0 + listGet 0 th 1) 1
  let d := setFld (THM_SWkk_NTC k) 31 16 (unsigned 16 model) (setFld (THM_SWkk_NTC k) 15 0 (unsigned 16 used) d)
  setFld (THM_SWkk_TJ k) 15 0 (unsigned 16 tj) d

/-- TJ of channel `k`. -/
def swTj (d : Dev) (k : Nat) : Int := sfld d (THM_SWkk_TJ k) 15 0

/-! ## Thresholds (R374) -/

/-- A threshold `thr` with hysteresis: the new state of "raised and not re-armed". -/
def thresholdNext (high : Bool) (t thr hyst : Int) : Bool :=
  if thr ≤ t then true else if t < thr - hyst then false else high

/-- The rise of the last `n` steps, where the history reaches back so far. -/
def riseOver (history : List Int) (n : Nat) (t : Int) : Option Int :=
  if 0 < n ∧ n ≤ history.length then some (t - listGet 0 history (n - 1)) else none

/-- Has the temperature risen by more than RISE over N steps? -/
def rateOver (d : Dev) (rateReg : Nat) (history : List Int) (t : Int) : Bool :=
  match riseOver history (fld d rateReg 23 16) t with
  | some x => decide ((fld d rateReg 15 0 : Int) < x)
  | none => false

/-- Raise `src` where a condition has newly come true. -/
def raiseOn (was is : Bool) (src detail : Nat) (d : Dev) : Dev := if is && !was then raise src detail d else d

/-- The thresholds of die region `r`. -/
def dieThresholds (r : Nat) (d : Dev) : Dev :=
  let t := dieTemp d r
  let x := thmRegion d r
  let hyst : Int := (fld d THM_DIE_THR2 15 0 : Int)
  let warn := thresholdNext x.warnHigh t (sfld d THM_DIE_THR0 31 16) hyst
  let trip := thresholdNext x.tripHigh t (sfld d THM_DIE_THR0 15 0) hyst
  let rate := rateOver d THM_DIE_RATE x.history t
  let d := modRegion r (fun x => { x with
    warnHigh := warn, tripHigh := trip, rateHigh := rate, history := (t :: x.history).take 64 }) d
  raiseOn x.warnHigh warn Src.THM_DIE_WARN r
    (raiseOn x.tripHigh trip Src.THM_DIE_TRIP r (raiseOn x.rateHigh rate Src.THM_DIE_RATE r d))

/-- The thresholds of switch channel `k`. -/
def switchThresholds (k : Nat) (d : Dev) : Dev :=
  let t := swTj d k
  let m := swSet d k
  let st := THM_SWkk_STATUS k
  let x := thmSwitch d k
  let hyst : Int := (fld d (THM_SETm_THR m 2) 15 0 : Int)
  let wasW := flag d st 3
  let wasT := flag d st 4
  let warn := thresholdNext wasW t (sfld d (THM_SETm_THR m 0) 31 16) hyst
  let trip := thresholdNext wasT t (sfld d (THM_SETm_THR m 0) 15 0) hyst
  let rate := rateOver d (THM_SETm_RATE m) x.history t
  let d := setFlag st 3 warn (setFlag st 4 trip d)
  let d := modSwitch k (fun x => { x with rateHigh := rate, history := (t :: x.history).take 64 }) d
  raiseOn wasW warn Src.THM_SW_WARN k
    (raiseOn wasT trip Src.THM_SW_TRIP k (raiseOn x.rateHigh rate Src.THM_SW_RATE k d))

/-! ## Factors (R376) -/

/-- The factor of temperature `t` under a group of thresholds. -/
def thmFactor (t td0 td1 fmin : Int) : Int :=
  if t ≤ td0 then 32767
  else if td1 ≤ t then fmin
  else roundDiv (32767 * (td1 - td0) - (t - td0) * (32767 - fmin)) (td1 - td0)

/-- The smallest of the factors, with the code of what gives it; 0xFF where none is below 32,767. -/
def smallest (l : List (Int × Nat)) : Int × Nat :=
  l.foldl (fun acc x => if x.1 < acc.1 then x else acc) (32767, 0xFF)

/-- The factors of the die regions. -/
def dieFactors (d : Dev) : List (Int × Nat) :=
  regionList.map (fun r => (thmFactor (dieTemp d r) (sfld d THM_DIE_THR1 31 16) (sfld d THM_DIE_THR1 15 0)
    (fld d THM_DIE_THR2 31 16 : Int), r))

/-- The factor of channel `k`. -/
def switchFactor (d : Dev) (k : Nat) : Int × Nat :=
  let m := swSet d k
  (thmFactor (swTj d k) (sfld d (THM_SETm_THR m 1) 31 16) (sfld d (THM_SETm_THR m 1) 15 0)
    (fld d (THM_SETm_THR m 2) 31 16 : Int), 0x40 + k)

/-- The factor of axis `a` is published. -/
def publishFactor (a : Nat) (d : Dev) : Dev :=
  let ks := (swList d).filter (fun k => decide (ownerOf d 0x03 k = axisCode a))
  let (f, src) := smallest (dieFactors d ++ ks.map (switchFactor d))
  wr (THM_AXa_FACTOR a) (setBits (setBits 0 23 16 src) 15 0 (unsigned 16 f)) d

/-- The hottest region is shown. -/
def showHottest (d : Dev) : Dev :=
  let (t, r) := regionList.foldl (fun (acc : Int × Nat) r => if acc.1 < dieTemp d r then (dieTemp d r, r) else acc)
    (dieTemp d 0, 0)
  wr THM_DIE_MAX (setBits (setBits 0 19 16 r) 15 0 (unsigned 16 t)) d

/-! ## The step -/

/-- Is a step of THM due? Steps run from the time the structure is programmed, one at each multiple of 1 ms (R363). -/
def thmDue (d : Dev) : Bool :=
  (decide (d.phase = .programmed) || decide (d.phase = .running)) &&
    (match d.thm.last with | none => true | some k => decide (k < now d / msTicks))

/-- One step of THM (R363): readings, models, checks, thresholds, factors. -/
def thmStep (sensors : List Int) (powers : List Nat) (d : Dev) : Dev :=
  if thmDue d then
    let d := { d with thm := { d.thm with last := some (now d / msTicks) } }
    let d := setFlag THM_STATUS 0 true d
    let d := forEach regionList (fun r d => readSensor r (listGet 0 sensors r) d) d
    let d := forEach regionList (fun k d => setFld (THM_PDOM k) 15 0 (Nat.min 65535 (listGet 0 powers k)) d) d
    let d := forEach (swList d) switchModel (dieModel d)
    let d := showModel (crossCheck d)
    let d := forEach (swList d) switchCheck d
    let d := forEach regionList dieThresholds d
    let d := forEach (swList d) switchThresholds d
    forEach [0, 1, 2, 3] publishFactor (showHottest d)
  else d

/-- The comparison of the sensors with the model that FLS runs (R370). -/
def thmModelCheck (d : Dev) : Dev :=
  forEach (goodSensors d) (fun r d =>
    if fld d THM_CHK2 31 16 < (sensor d r - sfld d (THM_Rr_MODEL r) 15 0).natAbs then raise Src.THM_MODEL_DEV r d
    else d) d

/-! ## Registers -/

/-- The channel whose CFG register stands at `a`. -/
def thmSwAt (a : Nat) : Option Nat :=
  if THM_SWkk_CFG 0 ≤ a ∧ a < THM_SWkk_CFG 64 then some ((a - THM_SWkk_CFG 0) / 4) else none

/-- May channel `k` have SIG `sig` (R380)? -/
def sigOk (d : Dev) (k sig : Nat) : Bool :=
  decide (sig = 0xFFFF) || ((ownerAxis d 0x03 k).isSome && decide (0x100 ≤ sig) && decide (sig ≤ 0x30FF))

/-- The cross-register rules of THM: SIG, and FMIN and HYST of a model set (R380). -/
def thmCheck (d1 : Dev) (a : Nat) : Option CheckFail :=
  match thmSwAt a with
  | some k => failUnless (sigOk d1 k (fld d1 a 15 0)) failRange
  | none =>
    if (List.range 4).any (fun m => decide (a = THM_SETm_THR m 2)) then
      failUnless (decide (fld d1 a 31 16 ≤ 32767) && decide (fld d1 a 15 0 ≤ 1600)) failRange
    else none

/-- A checked value takes its place in a THM register. A channel that becomes enabled has no history (R374). -/
def thmPut (a : Nat) (v : Word) (d : Dev) : Dev :=
  match thmSwAt a with
  | some k =>
    let was := swEn d k
    let d := storePlain a v d
    if swEn d k && !was then modSwitch k (fun x => { x with history := [], rateHigh := false }) d else d
  | none => storePlain a v d

end Sys2Proof.Machine
end

