-- ==== Sys2Proof/Machine/FormerImage.lean ====
section
/-! DEFINITION. What the sections of a Former image say (R21–R29, R34, R160): the parsed axis records, resource map,
programs and initial partitions, and the part of the device that they set. -/

namespace Sys2Proof.Machine

open Reg

/-- A list cut into pieces of `n` bytes. -/
def pieces (n : Nat) : Nat → List Byte → List (List Byte)
  | 0, _ => []
  | k + 1, l => l.take n :: pieces n k (l.drop n)

/-- The bytes of an image as `n`-byte entries. -/
def entriesOf (n : Nat) (l : List Byte) : List (List Byte) := pieces n (l.length / n) l

/-- Offset and length of the section of TYPE `t` in image `m` (R23), the table being in order. -/
def secOfs (m : List Byte) (t : Nat) : Nat := le32 m (16 + 16 * t + 4)
@[inherit_doc secOfs] def secLen (m : List Byte) (t : Nat) : Nat := le32 m (16 + 16 * t + 8)

/-- The bytes of the section of TYPE `t`. -/
def sec (m : List Byte) (t : Nat) : List Byte := slice m (secOfs m t) (secLen m t)

/-- Are the `n` bytes from `o` all 0? -/
def zeroAt (s : List Byte) (o n : Nat) : Bool := (slice s o n).all (fun b => decide (b = 0))

/-- The axis record at offset `o` of STRUCTURE (R26). -/
def axisRecAt (s : List Byte) (o : Nat) : AxisRec :=
  let second := byteAt s (o + 29)
  { topology := byteAt s o, polePairs := byteAt s (o + 1), ce := byteAt s (o + 2)
    flyingRestart := (byteAt s (o + 3)).testBit 0, rollbackCatch := (byteAt s (o + 3)).testBit 1
    samplePeriod := le32 s (o + 4), carrierHz := le32 s (o + 8), iBase := le32 s (o + 12), uBase := le32 s (o + 16)
    nBase := le32 s (o + 20), tBase := le32 s (o + 24), pfMain := byteAt s (o + 28)
    pfSecond := if second = 0xFF then none else some second }

/-- AXIS_COUNT. -/
def axisCount (m : List Byte) : Nat := byteAt (sec m 1) 0

/-- The axis records of an image. -/
def imgAxes (m : List Byte) : Vector AxisRec 4 :=
  Vector.ofFn (fun a => if a.val < axisCount m then axisRecAt (sec m 1) (16 + 64 * a.val) else {})

/-- The resource map of an image (R34): the first entry of a resource counts. -/
def imgOwners (m : List Byte) : List (Nat × Owner) :=
  (entriesOf 8 (sec m 2)).foldl (fun r e =>
    let id := le32 e 0
    if r.any (fun x => decide (x.1 = id)) then r
    else setOwnerIn r id { code := byteAt e 4, adj := (byteAt e 5).testBit 0 }) []

/-- An instance record (R156). -/
def instOf (e : List Byte) : CeInst :=
  { typ := byteAt e 0, nin := byteAt e 1, nout := byteAt e 2, opt := byteAt e 3, out := le16 e 4, param := le16 e 6
    state := le16 e 8, ins := (List.range 6).map (fun k => le16 e (12 + 2 * k)) }

/-- The program of a directory entry `e` of the CE_PROGRAMS section `s` (R160). -/
def progAt (s e : List Byte) : CeProg :=
  { axis := byteAt e 0, variant := byteAt e 1, wcet := le32 e 8, flowsig := wordOf (le32 e 12), stateOfs := le16 e 24
    stateLen := le16 e 26, adjOfs := le16 e 28, adjLen := le16 e 30
    insts := (entriesOf 24 (slice s (le32 e 4) (24 * le16 e 2))).map instOf }

/-- The directory entries of a CE_PROGRAMS section. -/
def progDir (s : List Byte) : List (List Byte) := pieces 32 (le16 s 0) (s.drop 16)

/-- The programs of an image. -/
def imgProgs (m : List Byte) : List CeProg := (progDir (sec m 4)).map (progAt (sec m 4))

/-- The initial words of axis `a`'s partition that are not 0 (R160). -/
def imgPart (m : List Byte) (a : Nat) : List (Nat × Nat) :=
  match (progDir (sec m 4)).find? (fun e => decide (byteAt e 0 = a ∧ byteAt e 1 = 0)) with
  | none => []
  | some e =>
    let b := slice (sec m 4) (le32 e 16) (le32 e 20)
    let ws := (entriesOf 2 (padTo (b.length + b.length % 2) b)).map (fun w => le16 w 0)
    (ws.zipIdx.filter (fun x => decide (x.1 ≠ 0))).map (fun x => (x.2, x.1))

/-- The device with the structure of image `m` in place: axes, owners, programs, SAFETY as SIS reads it. -/
def withImage (m : List Byte) (d : Dev) : Dev :=
  { d with
    cfg := { d.cfg with axes := imgAxes m, owners := imgOwners m, bootXspi := decide (byteAt (sec m 1) 1 = 1) }
    cea := { d.cea with progs := imgProgs m }
    sis := { d.sis with safety := sec m 8 } }

/-- The bytes of copy `k` (R19): IMAGE_LEN of them. -/
def copyBase (k : Nat) : Nat := 0x10600000 + 0x200000 * k
@[inherit_doc copyBase] def copyImage (mem : List Host.Cell) (k : Nat) : List Byte :=
  Memory.readBytes mem (copyBase k) (le32 (Memory.readBytes mem (copyBase k) 32) 12)

/-- The digest of the signed range (R28): the ninth entry's CRC field counts as zeros. -/
def signedDigest (m : List Byte) : List Byte :=
  let r := m.take (secOfs m 9)
  sha256 (r.take 0xAC ++ [0, 0, 0, 0] ++ r.drop 0xB0)

end Sys2Proof.Machine
end

