-- ==== Sys2Proof/Machine/FormerCheck.lean ====
section
/-! DEFINITION. CFG's check of one Former copy (R30): every check in its order, the first failure's code with the section
and offset that `CFG_REJn` shows. -/

namespace Sys2Proof.Machine

open Reg

/-- A failed check: the code of R30, SECT and OFFSET. -/
abbrev Rej : Type := Nat × Nat × Nat

/-- A check that fails with `e` unless `ok`. -/
def need (ok : Bool) (e : Rej) : Option Rej := if ok then none else some e

/-- The first failure. -/
def firstRej : List (Option Rej) → Option Rej
  | [] => none
  | some e :: _ => some e
  | none :: r => firstRej r

/-- The first failure of `f` over a list. -/
def firstOver {α : Type} (l : List α) (f : α → Option Rej) : Option Rej := firstRej (l.map f)

/-- A check of the section of TYPE `t` with code `c`, at offset `o` of the section. -/
def secNeed (m : List Byte) (c t : Nat) (ok : Bool) (o : Nat) : Option Rej := need ok (c, t, secOfs m t + o)

/-- Is `lo ≤ x ≤ hi`? -/
def within (lo x hi : Nat) : Bool := decide (lo ≤ x) && decide (x ≤ hi)

/-- Are all bits of `x` outside `mask` 0? -/
def onlyBits (mask x : Nat) : Bool := decide (wordOf x &&& ~~~ (wordOf mask) = 0)

/-! ## Header, section table, CRC, signature -/

/-- An uncorrectable MRAM error in bytes `lo` to `lo + n - 1` of the copy at `base`, read for SECT `t` (R30). -/
def mediaIn (d : Dev) (base t lo n : Nat) : Option Rej :=
  match ((List.range (n / 8 + 2)).map (fun j => (base + lo) / 8 + j)).find?
      (fun w => d.icf.badWords.contains w && decide (8 * w < base + lo + n)) with
  | some w => some (0xD, t, Nat.max (8 * w) (base + lo) - base)
  | none => none

/-- The header (R22), from its 32 bytes. -/
def headerRej (h : List Byte) : Option Rej :=
  firstRej [
    need (decide (le32 h 0 = 0x4D52464D)) (0x1, 0, 0),
    need (decide (le16 h 4 = 1)) (0x2, 0, 4), need (decide (le16 h 6 = 32)) (0x2, 0, 6),
    need (zeroAt h 0x12 2) (0x2, 0, 0x12), need (zeroAt h 0x19 7) (0x2, 0, 0x19),
    need (within 10312 (le32 h 0x0C) 2097152) (0x3, 0, 0x0C),
    need (decide (le32 h 8 ≠ 0)) (0x4, 0, 8)]

/-- The length that R25 allows the section of TYPE `t`. -/
def sectionLenOk (t n : Nat) : Bool :=
  match t with
  | 1 => decide (n = 272)
  | 2 => within 8 n 16384 && decide (n % 8 = 0)
  | 3 => decide (n = 3600)
  | 4 => within 73 n 1245184
  | 5 => within 16 n 65536 && decide (n % 16 = 0)
  | 6 => decide (n = 4096)
  | 7 => decide (n = 784)
  | 8 => decide (n = 800)
  | _ => decide (n = 136)

/-- The section table (R23–R25) from the first 176 bytes of an image of `len` bytes. -/
def tableRej (m : List Byte) (len : Nat) : Option Rej :=
  let endOf (t : Nat) : Nat := if t = 0 then 0xC0 else secOfs m t + secLen m t
  firstRej [
    need (decide (le16 m 0x10 = 9)) (0x5, 0, 0x10),
    firstOver (List.range 9) (fun j =>
      let e := 0x20 + 16 * j
      let t := j + 1
      need (decide (byteAt m e = t) && zeroAt m (e + 1) 3 && decide (secOfs m t % 64 = 0)
        && decide (endOf j ≤ secOfs m t) && sectionLenOk t (secLen m t) && decide (endOf t ≤ len)) (0x5, 0, e)),
    need (decide (endOf 9 = len)) (0x5, 0, 0xA0)]

/-- Every section's bytes are readable and its CRC matches (R23). -/
def crcRej (d : Dev) (base : Nat) (m : List Byte) : Option Rej :=
  firstOver (List.range 9) (fun j =>
    let t := j + 1
    firstRej [mediaIn d base t (secOfs m t) (secLen m t),
      secNeed m 0x6 t (decide (crc32 (sec m t) = le32 m (16 + 16 * t + 12))) 0])

/-- The conditions of R29 on key slot `k`, with the usage `usage`, for the embedded key `key`. -/
def keyOk (d : Dev) (k : Nat) (usage : KeySlot → Bool) (key : List Byte) : Bool :=
  let s := vget d.cfg.keys k
  decide (k < 4) && s.provisioned && !s.revoked && usage s && decide (s.digest = sha256 key)

/-- Key, signature and target (R28, R29, R22, R54). -/
def signatureRej (d : Dev) (base : Nat) (m : List Byte) : Option Rej :=
  let s := sec m 9
  let key := slice s 8 64
  firstRej [
    secNeed m 0x7 9 (keyOk d (byteAt s 0) (·.former) key) 0,
    mediaIn d base 0 0 (secOfs m 9),
    secNeed m 0x8 9 (Config.ecdsaP256 key (signedDigest m) (slice s 72 64)) 72,
    need (decide (le32 m 0x14 = bits Config.devId 31 8 * 256)) (0x9, 0, 0x14),
    need (decide (byteAt m 0x18 ≤ bits Config.devId 7 0)) (0x9, 0, 0x18)]

/-! ## FIELD_RANGE: STRUCTURE, RESOURCE_MAP, PIN_MAP -/

/-- STRUCTURE (R26). -/
def structureRej (m : List Byte) : Option Rej :=
  let s := sec m 1
  let n := byteAt s 0
  let fr := secNeed m 0xA 1
  let axis (a : Nat) : Option Rej :=
    let o := 16 + 64 * a
    if n ≤ a then fr (zeroAt s o 64) o
    else
      let main := byteAt s (o + 28)
      let second := byteAt s (o + 29)
      let base32 (k : Nat) : Option Rej := fr (within 1 (le32 s (o + k)) 0x7FFFFFFF) (o + k)
      firstRej [
        fr (within 1 (byteAt s o) 3) o, fr (within 1 (byteAt s (o + 1)) 64) (o + 1),
        fr (decide (byteAt s (o + 2) ≤ 4) && (List.range a).all (fun x => decide (byteAt s (16 + 64 * x + 2) ≠ byteAt s (o + 2))))
          (o + 2),
        fr (decide (byteAt s (o + 3) ≤ 3)) (o + 3), fr (within 8000 (le32 s (o + 4)) 800000) (o + 4),
        fr (within 1000 (le32 s (o + 8)) 50000) (o + 8), base32 12, base32 16, base32 20, base32 24,
        fr (decide (main ≤ 7)) (o + 28),
        fr (decide (second = 0xFF) || (decide (second ≤ 7) && decide (second ≠ main))) (o + 29),
        fr (zeroAt s (o + 30) 34) (o + 30)]
  firstRej [fr (within 1 n 4) 0, fr (decide (byteAt s 1 ≤ 1)) 1, fr (zeroAt s 2 14) 2, firstOver (List.range 4) axis]

/-- The number of instances of a resource class (R33); 0 for a code that is no class. -/
def classSize (c : Nat) : Nat :=
  listGet 0 [0, 900, 32, 64, 64, 16, 24, 32, 8, 4, 4, 8, 64, 32] c

/-- Is `id` a resource id (R33)? -/
def resIdOk (id : Nat) : Bool :=
  decide (id / 0x10000 % 256 = 0) && decide (id % 0x10000 < classSize (id / 0x1000000))

/-- Is `c` an owner code (R34)? -/
def ownerCodeOk (c : Nat) : Bool := [0x00, 0x10, 0x11, 0x12, 0x13, 0x20, 0x21, 0x22].contains c

/-- RESOURCE_MAP (R33, R34). -/
def resourceRej (m : List Byte) : Option Rej :=
  firstOver (entriesOf 8 (sec m 2)).zipIdx (fun x =>
    let e := x.1
    secNeed m 0xA 2 (resIdOk (le32 e 0) && ownerCodeOk (byteAt e 4) && decide (byteAt e 5 ≤ 1) && zeroAt e 6 2) (8 * x.2))

/-- Is ball `b` of kind mux (R508, R527)? -/
def muxBall (b : Nat) : Bool := within 544 b 635 || within 650 b 665 || within 682 b 729

/-- Is ball `b` an LVCMOS ball (R508, R527)? -/
def lvcmosBall (b : Nat) : Bool :=
  within 473 b 543 || within 608 b 635 || within 640 b 644 || within 650 b 665 || within 718 b 729
    || [638, 647, 648].contains b

/-- Is ball `b` a P ball with a PFC receiver (R508, R509)? -/
def pfcPBall (b : Nat) : Bool := within 544 b 607 && [0, 2, 4].contains ((b - 544) % 8)

/-- FUNC of ball `b` in a PIN_MAP section. -/
def funcOf (s : List Byte) (b : Nat) : Nat := byteAt s (4 * b) % 4

/-- PIN_MAP (R509). -/
def pinRej (m : List Byte) : Option Rej :=
  let s := sec m 3
  firstOver (entriesOf 4 s).zipIdx (fun x =>
    let e := x.1
    let b := x.2
    let f := byteAt e 0
    let g := byteAt e 1
    secNeed m 0xA 3 (decide (f < 4) && decide (f ≠ 2) && decide (g < 64) && decide (g / 4 % 4 ≠ 3) && decide (g % 4 ≠ 3)
      && zeroAt e 2 2 && (decide (f = 0) || muxBall b) && (decide (g % 32 = 0) || lvcmosBall b)
      && (decide (f ≠ 1) || (pfcPBall b && decide (funcOf s (b + 1) = 3)))) (4 * b))

/-! ## FIELD_RANGE: CE_PROGRAMS, FCR_MAP, THM_MAP -/

/-- Do the word regions `a` of `al` words and `b` of `bl` words stay apart? -/
def apart (a al b bl : Nat) : Bool := decide (al = 0) || decide (bl = 0) || decide (a + al ≤ b) || decide (b + bl ≤ a)

/-- The directory of CE_PROGRAMS (R160), with the variants that R202 and R206 require. -/
def programsRej (m : List Byte) : Option Rej :=
  let s := sec m 4
  let len := s.length
  let n := le16 s 0
  let fr := secNeed m 0xA 4
  let dir := progDir s
  let axes := imgAxes m
  let entry (x : List Byte × Nat) : Option Rej :=
    let e := x.1
    let o := 16 + 32 * x.2
    let a := byteAt e 0
    let v := byteAt e 1
    let initLen := le32 e 20
    let so := le16 e 24
    let sl := le16 e 26
    let ao := le16 e 28
    let al := le16 e 30
    let before := dir.take x.2
    firstRej [
      fr (decide (a < axisCount m)) o, fr (decide (v ≤ 7)) (o + 1),
      fr (before.all (fun p => !(decide (byteAt p 0 = a) && decide (byteAt p 1 = v)))) (o + 1),
      fr (decide (le32 e 4 % 4 = 0) && decide (le32 e 4 + 24 * Nat.min (le16 e 2) 1024 ≤ len)) (o + 4),
      fr (within 1 (le32 e 8) 400000) (o + 8),
      fr (if initLen = 0 then decide (le32 e 16 = 0) else decide (le32 e 16 + initLen ≤ len)) (o + 16),
      fr (if v = 0 then within 1 initLen 24576 else decide (initLen = 0)) (o + 20),
      fr (decide (so + sl ≤ 12288)) (o + 24), fr (decide (sl ≤ 512)) (o + 26),
      fr (before.all (fun p => decide (byteAt p 0 ≠ a) || (decide (le16 p 24 = so) && decide (le16 p 26 = sl)))) (o + 24),
      fr (decide (ao + al ≤ 12288) && apart ao al so sl) (o + 28), fr (decide (al ≤ 4096)) (o + 30)]
  let has (a v : Nat) : Bool := dir.any (fun p => decide (byteAt p 0 = a ∧ byteAt p 1 = v))
  let complete (a : Nat) : Bool :=
    let x := vget axes a
    has a 0 && (decide (x.topology < 2) || (has a 1 && has a 2)) && (!x.flyingRestart || has a 3)
  firstRej [
    fr (within 1 n 32) 0, fr (zeroAt s 2 2) 2, fr (decide (le32 s 4 = 16)) 4, fr (zeroAt s 8 8) 8,
    fr (decide (16 + 32 * n ≤ len)) 0, firstOver dir.zipIdx entry,
    fr ((List.range (Nat.min 4 (axisCount m))).all complete) 0]

/-- FCR_MAP (R339). `d` has the image's axes. -/
def fcrMapRej (d : Dev) (m : List Byte) : Option Rej :=
  firstOver (entriesOf 4 (sec m 6)).zipIdx (fun x =>
    let e := x.1
    let k := x.2
    let b0 := byteAt e 0
    let cls := b0 % 8
    let fac := le16 e 2
    secNeed m 0xA 6 (decide (b0 / 8 % 8 = 0) && decide (byteAt e 1 = 0)
      && (if cls = 4 then decide (fac ≤ 32767) else decide (fac = 0))
      && (if srcReserved k then decide (le32 e 0 = 0) else classOk (allSix d) k cls)) (4 * k))

/-- The word of `FCR_SRCkkkk_CFG` that an FCR_MAP entry gives (R339, R361). -/
def fcrMapWord (e : List Byte) : Word :=
  wordOf ((byteAt e 0 / 64) * 0x40000000 + le16 e 2 * 256 + byteAt e 0 % 8)

/-- The bits of the THM register at `a` that may be non-zero in THM_MAP (R377, R380). -/
def thmBits (a : Nat) : Word :=
  if THM_W 0 ≤ a ∧ a < THM_W 40 then 0xFFFFFFFF
  else if a = THM_W 40 then 0xFFFF
  else match regRow? a with
    | some r => r.rw
    | none => 0

/-- THM_MAP (R367, R376, R377): the image of THM registers 0x100 to 0x40F. `d` has the image's owners. -/
def thmMapRej (d : Dev) (m : List Byte) : Option Rej :=
  let s := sec m 7
  let base := THM_DIE_STAGE 0
  let wordOfReg (a : Nat) : Word := wordOf (le32 s (a - base))
  let fr (ok : Bool) (a : Nat) : Option Rej := secNeed m 0xA 7 ok (a - base)
  let group (thr : Nat → Nat) : Option Rej :=
    let warn := sbits (wordOfReg (thr 0)) 31 16
    let trip := sbits (wordOfReg (thr 0)) 15 0
    let td0 := sbits (wordOfReg (thr 1)) 31 16
    let td1 := sbits (wordOfReg (thr 1)) 15 0
    firstRej [fr (decide (warn ≤ trip)) (thr 0), fr (decide (td0 < td1) && decide (td1 ≤ trip)) (thr 1),
      fr (decide (bits (wordOfReg (thr 2)) 31 16 ≤ 32767) && decide (bits (wordOfReg (thr 2)) 15 0 ≤ 1600)) (thr 2)]
  let w (r k : Nat) : Nat := le16 s (THM_W 0 - base + 2 * (9 * r + k))
  let word (j : Nat) : Option Rej :=
    let a := base + 4 * j
    let v := wordOfReg a
    fr (decide (v &&& ~~~ (thmBits a) = 0) && (decide (regRow? a = none) || rangesOkAt a v)) a
  let switch (k : Nat) : Option Rej :=
    let v := wordOfReg (THM_SWkk_CFG k)
    fr (!bit v 31 || sigOk d k (bits v 15 0)) (THM_SWkk_CFG k)
  firstRej [
    firstOver (List.range 196) word,
    group (fun j => listGet 0 [THM_DIE_THR0, THM_DIE_THR1, THM_DIE_THR2] j),
    firstOver (List.range 4) (fun g => group (THM_SETm_THR g)),
    firstOver (List.range 9) (fun k =>
      fr (decide ((List.range 9).foldl (fun acc r => acc + w r k) 0 ≤ 32767)) (THM_W 0)),
    firstOver (List.range 64) switch]

/-! ## FIELD_RANGE: SAFETY (R333, R334, R301, R302) -/

/-- The signed 16-bit field at offset `o`. -/
def sle16 (s : List Byte) (o : Nat) : Int := signed 16 (le16 s o)

/-- The link that the record of axis `a` names. -/
def safLink (s : List Byte) (a : Nat) : Nat := le32 s (0x10 + 16 * a) / 4096 % 4

/-- The axis record of `a` in SAFETY. -/
def safAxisRej (m : List Byte) (a : Nat) : Option Rej :=
  let s := sec m 8
  let fr := secNeed m 0xA 8
  let o := 0x10 + 16 * a
  if axisCount m ≤ a then fr (zeroAt s o 16) o
  else firstRej [
    fr (onlyBits 0x3113 (le32 s o)) o,
    fr (within 1 (le16 s (o + 4)) 32767 && decide (le16 s (o + 6) ≤ le16 s (o + 4))) (o + 4),
    fr (onlyBits 0x807F001F (le32 s (o + 8))) (o + 8), fr (zeroAt s (o + 12) 4) (o + 12)]

/-- Do the times of DCURVE rise with the entry, unused entries apart, from above `last`? -/
def curveRises (s : List Byte) (o : Nat) : Nat → Nat → Bool
  | 0, _ => true
  | k + 1, last =>
    let t := le16 s (o + 4 * (7 - k) + 2)
    if t = 0 then curveRises s o k last else decide (last < t) && curveRises s o k t

/-- The link record of `l` in SAFETY, with R299's condition on winding discharge. -/
def safLinkRej (m : List Byte) (l : Nat) : Option Rej :=
  let s := sec m 8
  let fr := secNeed m 0xA 8
  let o := 0x50 + 64 * l
  let used := (List.range (axisCount m)).any (fun a => decide (safLink s a = l))
  let w (k : Nat) : Nat := le32 s (o + 4 * k)
  let on := sle16 s (o + 10)
  let waxis := w 6 / 0x10000000 % 4
  let has4 := (progDir (sec m 4)).any (fun p => decide (byteAt p 0 = waxis ∧ byteAt p 1 = 4))
  if !used then fr (zeroAt s o 64) o
  else firstRej [
    fr (onlyBits 0xC0FF003F (w 0) && decide (1 ≤ w 0 / 65536 % 256)) o,
    fr (onlyBits 0x4000003F (w 1)) (o + 4),
    fr (decide (sle16 s (o + 8) < on)) (o + 8),
    fr (onlyBits 0x8300FFFF (w 3) && within 1 (w 3 % 65536) 32767) (o + 12),
    fr (decide (80 ≤ w 4 % 65536)) (o + 16),
    fr (onlyBits 0xFFFFFF9F (w 5) && decide (on < sle16 s (o + 22)) && decide (1 ≤ w 5 / 256 % 256)) (o + 20),
    fr (onlyBits 0xF300FFFF (w 6) && decide (1 ≤ w 6 % 65536)) (o + 24),
    fr (decide (w 7 < 65536)) (o + 28),
    fr (curveRises s (o + 32) 8 0) (o + 32),
    fr (!(w 6).testBit 30 || (decide (waxis < axisCount m) && decide (safLink s waxis = l) && has4)) (o + 24)]

/-- The torque monitor record of axis `a`, with R325's rule on the current input. -/
def safMonitorRej (m : List Byte) (a : Nat) : Option Rej :=
  let s := sec m 8
  let fr := secNeed m 0xA 8
  let o := 0x150 + 64 * a
  let b (k : Nat) : Nat := byteAt s (o + k)
  let six := decide (b 2 = 6)
  let pb (x : Nat) : Bool := (byteAt s (0x150 + 64 * x)).testBit 1
  if axisCount m ≤ a then fr (zeroAt s o 64) o
  else firstRej [
    fr (decide (b 0 ≤ 3)) o, fr (decide (b 1 ≤ 7)) (o + 1), fr (decide (b 2 = 3) || six) (o + 2),
    fr (decide (b 3 = (vget (imgAxes m) a).polePairs)) (o + 3),
    fr ((List.range 6).all (fun k => if k < 3 ∨ six then decide (b (4 + k) ≤ 63) else decide (b (4 + k) = 0xFF))) (o + 4),
    fr (decide (b 10 ≤ 7)) (o + 10),
    fr (decide (b 11 ≤ 7) && (!pb a || (List.range a).all (fun x => !pb x || decide (byteAt s (0x150 + 64 * x + 11) ≠ b 11))))
      (o + 11),
    fr (within 1 (le16 s (o + 12)) 32767) (o + 12), fr (decide (le16 s (o + 14) ≤ le16 s (o + 12))) (o + 14),
    fr (within 1 (le16 s (o + 16)) 32767) (o + 16), fr (within 1 (le16 s (o + 18)) 5000) (o + 18),
    fr (decide (le16 s (o + 20) ≤ 2000)) (o + 20), fr (zeroAt s (o + 22) 2) (o + 22), fr (zeroAt s (o + 48) 16) (o + 48)]

/-- The records of inputs, STO, contactors and precharge (R334). -/
def safUnitsRej (m : List Byte) : Option Rej :=
  let s := sec m 8
  let fr := secNeed m 0xA 8
  let linkUsed (l : Nat) : Bool := (List.range (axisCount m)).any (fun a => decide (safLink s a = l))
  let main (k : Nat) : Option Rej :=
    let o := 0x250 + 8 * k
    firstRej [fr (decide (byteAt s o ≤ 3)) o, fr (decide (byteAt s (o + 1) ≤ 3)) (o + 1), fr (zeroAt s (o + 6) 2) (o + 6),
      fr (linkUsed (byteAt s (o + 1)) || zeroAt s o 8) o]
  let ct (k : Nat) : Option Rej :=
    let o := 0x2A0 + 8 * k
    let role := byteAt s o
    if !linkUsed (byteAt s (o + 1)) then fr (zeroAt s o 8) o
    else firstRej [fr (decide (role ≤ 4)) o, fr (decide (byteAt s (o + 2) ≤ 1)) (o + 2), fr (zeroAt s (o + 3) 1) (o + 3),
      fr (decide (role = 0) || within 1 (le16 s (o + 4)) 500) (o + 4), fr (zeroAt s (o + 6) 2) (o + 6)]
  let roles (l r : Nat) : Nat :=
    ((List.range 6).filter (fun k => decide (byteAt s (0x2A0 + 8 * k) = r ∧ byteAt s (0x2A0 + 8 * k + 1) = l))).length
  let volts (l : Nat) : Nat :=
    ((List.range 8).filter (fun k => decide (byteAt s (0x250 + 8 * k) = 1 ∧ byteAt s (0x250 + 8 * k + 1) = l))).length
  let pre (l : Nat) : Option Rej :=
    let o := 0x2D0 + 16 * l
    let en := byteAt s o
    if !linkUsed l then fr (zeroAt s o 16) o
    else firstRej [
      fr (decide (en ≤ 1)) o, fr (decide (byteAt s (o + 1) ≤ 7) || decide (byteAt s (o + 1) = 0xFF)) (o + 1),
      fr (decide (en = 0) || within 1 (le16 s (o + 4)) 5000) (o + 4),
      fr (decide (en = 0) || within 10 (le16 s (o + 8)) 30000) (o + 8),
      fr (decide (en = 0) || within 1000 (le16 s (o + 10)) 60000) (o + 10), fr (zeroAt s (o + 12) 4) (o + 12),
      fr (decide (en = 0) || ([1, 2, 3].all (fun r => decide (roles l r = 1)) && decide (volts l = 1))) o]
  let h (k : Nat) : Nat := le16 s (0x290 + k)
  firstRej [
    firstOver (List.range 8) main,
    fr (within 1 (h 0) 500) 0x290, fr (decide (h 2 ≤ 2000)) 0x292, fr (within 10 (h 4) 30000) 0x294,
    fr (within 1 (h 6) 32767) 0x296, fr (decide (h 8 ≤ 32767)) 0x298,
    fr (decide (byteAt s 0x29A < 2 ^ axisCount m)) 0x29A, fr (zeroAt s 0x29B 5) 0x29B,
    firstOver (List.range 6) ct, firstOver (List.range 4) pre,
    fr (within 1 (le16 s 0x312) 1000) 0x312, fr (zeroAt s 0x314 12) 0x314]

/-- PREF of port `p` in SAFETY. -/
def safPref (m : List Byte) (p : Nat) : Bool := (byteAt (sec m 8) (8 + p / 8)).testBit (p % 8)

/-- An axis whose SEL is OFF gives PREF = 1 to none of its ports (R287). `d` has the image's owners. -/
def prefOffRej (d : Dev) (m : List Byte) : Option Rej :=
  firstOver (List.range 64) (fun p =>
    let bad := match ownerAxis d 0x03 p with
      | some a => safPref m p && decide (le32 (sec m 8) (0x10 + 16 * a) % 4 = 0)
      | none => false
    secNeed m 0xA 8 (!bad) (8 + p / 8))

/-- SAFETY. -/
def safetyRej (d : Dev) (m : List Byte) : Option Rej :=
  let s := sec m 8
  let fr := secNeed m 0xA 8
  firstRej [
    fr (decide (le32 s 0 = 1)) 0, fr (zeroAt s 4 4) 4, firstOver (List.range 4) (safAxisRej m),
    firstOver (List.range 4) (safLinkRej m), firstOver (List.range 4) (safMonitorRej m), safUnitsRej m, prefOffRej d m]

/-! ## CE_PROGRAM -/

/-- Least and greatest NIN, and NOUT, of the block TYPEs from 0x01 (R158). -/
def blockTable : List (Nat × Nat × Nat) := [
  (1, 6, 1), (1, 1, 1), (2, 2, 1), (2, 2, 1), (3, 3, 2), (1, 6, 2), (1, 6, 2), (2, 2, 1), (1, 1, 1), (1, 1, 1),
  (3, 3, 1), (1, 1, 2), (2, 2, 1), (2, 2, 1), (3, 3, 2), (2, 2, 3), (3, 3, 2), (3, 3, 2), (6, 6, 4), (4, 4, 6),
  (6, 6, 2), (2, 2, 2), (3, 3, 4), (5, 5, 7), (4, 4, 2), (5, 5, 4), (3, 3, 1), (4, 4, 1), (4, 4, 1), (3, 3, 2),
  (4, 4, 4), (1, 6, 1)]

/-- The OPT bits that a TYPE defines (R179–R200). -/
def blockOpt (t : Nat) : Nat :=
  match t with
  | 0x01 => 0x3F | 0x05 => 0x80 | 0x06 => 0x80 | 0x07 => 0x80 | 0x0F => 0x01 | 0x13 => 0x01 | 0x14 => 0x01
  | 0x15 => 0x07 | 0x16 => 0x3F | 0x17 => 0x03 | 0x18 => 0x07 | 0x19 => 0x80 | 0x1A => 0x81 | 0x1D => 0x01
  | 0x1E => 0xE1 | _ => 0

/-- The parameter and state words of an instance (R181–R200). -/
def blockWords (i : CeInst) : Nat × Nat :=
  match i.typ with
  | 0x02 => (2, 0) | 0x03 => (1, 0) | 0x08 => (0, 1) | 0x09 => (1, 3) | 0x0A => (0, 1) | 0x15 => (4, 4)
  | 0x16 => (4, 6) | 0x17 => (1, 0) | 0x18 => (1, 0) | 0x19 => (6, 7) | 0x1A => (19, 13) | 0x1B => (5, 0)
  | 0x1C => (9, 0) | 0x1D => (7, 0) | 0x1E => (2, 1) | 0x1F => (2, 0) | 0x20 => (5 * i.nin, 0) | _ => (0, 0)

/-- OPT values that a TYPE refuses beyond R179: OVM 2 and 3 (R187, R188), no harmonic (R186), TWO with a third input
(R182). -/
def optValueOk (i : CeInst) : Bool :=
  match i.typ with
  | 0x17 => decide (i.opt % 4 < 2)
  | 0x18 => decide (i.opt / 2 % 4 < 2)
  | 0x16 => decide (i.opt % 32 ≠ 0)
  | 0x0F => decide (i.opt % 2 = 0) || decide (listGet 0 i.ins 2 = 0xFFFF)
  | _ => true

/-- The signals that an instance writes. -/
def instOuts (i : CeInst) : List Nat := (List.range i.nout).map (i.out + ·)

/-- The key under which a variant may hold one REPORT instance (R180, R196); none for an instance that reports nothing. -/
def reportKey (i : CeInst) : Option Nat :=
  if i.opt / 128 = 0 then none
  else match i.typ with
    | 0x05 => some 0x05 | 0x06 => some 0x06 | 0x07 => some 0x07 | 0x19 => some 0x19 | 0x1A => some 0x1A
    | 0x1E => some (0x100 + i.opt / 32 % 4) | _ => none

/-- The table that an ANGTAB instance names (R193, R194): the first parameter word. -/
def instTable (part : List (Nat × Nat)) (i : CeInst) : Option Nat :=
  if i.typ = 0x1B then some (wordAt part i.param) else none

/-- An instance by itself: TYPE, NIN, NOUT, OPT, offsets (R156, R158, R179). `e` is its record. -/
def instShapeOk (p : CeProg) (i : CeInst) (e : List Byte) : Bool :=
  let (lo, hi, nout) := listGet (1, 0, 0) blockTable (i.typ - 1)
  let (np, ns) := blockWords i
  decide (1 ≤ i.typ) && decide (i.typ ≤ 0x20) && within lo i.nin hi && decide (i.nout = nout) && zeroAt e 10 2
    && onlyBits (blockOpt i.typ) i.opt && optValueOk i
    && decide (0x100 ≤ i.out) && decide (i.out + i.nout ≤ 0x3101)
    && (if np = 0 ∧ ns = 0 then decide (i.param = 0xFFFF ∧ i.state = 0xFFFF)
        else (decide (np = 0) || decide (i.param + np ≤ 12288))
          && (decide (ns = 0) || (decide (p.stateOfs ≤ i.state) && decide (i.state + ns ≤ p.stateOfs + p.stateLen))))

/-- What an instance reads: frame signals, 0xFFFF, or outputs of the earlier instances in `written` (R156, R157). -/
def instReadsOk (written : List Nat) (i : CeInst) : Bool :=
  i.ins.zipIdx.all (fun x => decide (x.1 = 0xFFFF) || (decide (x.2 < i.nin) && (decide (x.1 ≤ 0x8A) || written.contains x.1)))

/-- A table of 1,024 words lies inside the partition and apart from the state region and the axis's ADJ regions (R161,
R194). -/
def tableOk (adj : List (Nat × Nat)) (p : CeProg) (t : Nat) : Bool :=
  decide (t + 1024 ≤ 12288) && apart t 1024 p.stateOfs p.stateLen && adj.all (fun r => apart t 1024 r.1 r.2)

/-- The MODE words of an OUTREG instance name modes 0 to 4 (R200). -/
def outregOk (part : List (Nat × Nat)) (i : CeInst) : Bool :=
  decide (i.typ ≠ 0x20) || (List.range i.nin).all (fun k => decide (wordAt part (i.param + 5 * k + 2) % 8 ≤ 4))

/-- The instances of a program from one on, given what the earlier ones write, report and name. -/
def instsRej (m : List Byte) (part : List (Nat × Nat)) (adj : List (Nat × Nat)) (p : CeProg) (s : List Byte) :
    List CeInst → Nat → List Nat → List Nat → List Nat → Option Rej
  | [], _, _, _, _ => none
  | i :: r, o, written, reports, tables =>
    let key := reportKey i
    let tab := instTable part i
    let ok := instShapeOk p i (slice s o 24) && instReadsOk written i && (instOuts i).all (fun x => !written.contains x)
      && (match key with | some k => !reports.contains k | none => true)
      && (match tab with | some t => decide (tables.length < 8) && !tables.contains t && tableOk adj p t | none => true)
      && outregOk part i
    if !ok then some (0xB, 4, secOfs m 4 + o)
    else instsRej m part adj p s r (o + 24) (instOuts i ++ written)
      (match key with | some k => k :: reports | none => reports) (match tab with | some t => t :: tables | none => tables)

/-- CE_PROGRAMS, the code CE_PROGRAM (R27, R30, R156–R159, R179–R200). -/
def ceProgramRej (m : List Byte) : Option Rej :=
  let s := sec m 4
  let dir := progDir s
  let cp := secNeed m 0xB 4
  let prog (x : List Byte × Nat) : Option Rej :=
    let p := progAt s x.1
    let iofs := le32 x.1 4
    let part := imgPart m p.axis
    let adj := ((dir.map (progAt s)).filter (fun q => decide (q.axis = p.axis))).map (fun q => (q.adjOfs, q.adjLen))
    firstRej [
      cp (within 1 (le16 x.1 2) 1024) (16 + 32 * x.2 + 2),
      instsRej m part adj p s p.insts iofs [] [] [],
      cp (decide (((p.insts.filter (fun i => decide (i.typ = 0x20))).map (·.nin)).foldl (· + ·) 0 ≤ 64)) iofs]
  firstRej [
    firstOver dir.zipIdx prog,
    cp (decide (24 * (dir.map (fun e => le16 e 2)).foldl (· + ·) 0 ≤ 131072)) 0]

/-! ## RESOURCE -/

/-- The targets that an OUTREG instance names. -/
def instTargets (part : List (Nat × Nat)) (i : CeInst) : List Nat :=
  if i.typ = 0x20 then
    (List.range i.nin).map (fun k => wordAt part (i.param + 5 * k) + 65536 * wordAt part (i.param + 5 * k + 1))
  else []

/-- May axis `a`'s programs write the register at `addr` (R159)? -/
def targetOk (d : Dev) (a addr : Nat) : Bool :=
  decide (addr % 4 = 0) &&
    (if evsWordAddr 0 0 ≤ addr ∧ addr < evsWordAddr 4096 0 then
       decide (ownerOf d 0x0C ((addr - evsWordAddr 0 0) / 1024) = axisCode a)
     else pwmTarget d a addr || [ATB_AXn_SETPOS a, ATB_AXn_SETSPD a, PFC_AXa_OBS_T a, PFC_AXa_OBS a].contains addr)

/-- The OUTREG targets of the programs of an image lie in their axis's ownership (R159). `d` has the image's structure. -/
def targetsRej (d : Dev) (m : List Byte) : Option Rej :=
  firstOver (progDir (sec m 4)) (fun e =>
    let p := progAt (sec m 4) e
    let part := imgPart m p.axis
    firstOver p.insts.zipIdx (fun x =>
      secNeed m 0xC 4 ((instTargets part x.1).all (targetOk d p.axis)) (le32 e 4 + 24 * x.2)))

/-- One owner a resource (R35), no owned ball and no ball of the boot flash unused (R509), OUTREG targets owned (R159). -/
def resourceClashRej (d : Dev) (m : List Byte) : Option Rej :=
  let s := sec m 3
  let es := (entriesOf 8 (sec m 2)).zipIdx
  let own (e : List Byte) : Nat := byteAt e 4
  firstRej [
    firstOver es (fun x => secNeed m 0xC 2
      (decide ((ownerIn d.cfg.owners (le32 x.1 0)).code = own x.1)) (8 * x.2)),
    firstOver es (fun x =>
      let id := le32 x.1 0
      secNeed m 0xC 3 (decide (id / 0x1000000 ≠ 1) || decide (own x.1 = 0) || decide (funcOf s (id % 0x10000) ≠ 3))
        (4 * (id % 0x10000))),
    firstOver ((List.range 12).map (718 + ·)) (fun b => secNeed m 0xC 3 (!d.cfg.bootXspi || decide (funcOf s b ≠ 3)) (4 * b)),
    targetsRej d m]

/-! ## One copy -/

/-- The checks on the contents of an image whose signature is good, in the order of R30. -/
def contentRej (m : List Byte) (d : Dev) : Option Rej :=
  let dm := withImage m d
  firstRej [
    structureRej m, resourceRej m, pinRej m, programsRej m, fcrMapRej dm m, thmMapRej dm m, safetyRej dm m,
    secNeed m 0xA 9 (zeroAt (sec m 9) 1 7) 1, ceProgramRej m, resourceClashRej dm m]

/-- The first failed check of copy `k`, if one fails (R30). -/
def copyRej (mem : List Host.Cell) (d : Dev) (k : Nat) : Option Rej :=
  let base := copyBase k
  match mediaIn d base 0 0 32 with
  | some e => some e
  | none =>
  match headerRej (Memory.readBytes mem base 32) with
  | some e => some e
  | none =>
  match mediaIn d base 0 0x20 0x90 with
  | some e => some e
  | none =>
  let m := copyImage mem k
  match tableRej m m.length with
  | some e => some e
  | none =>
  match crcRej d base m with
  | some e => some e
  | none =>
  match signatureRej d base m with
  | some e => some e
  | none => contentRej m d

end Sys2Proof.Machine
end

