-- ==== Sys2Proof/Machine/NetBase.lean ====
section
/-! DEFINITION. What CSQ and TRC hand to the controllers: acknowledgements in a CAN controller's slot (R486), UDP frames
in a MAC's transmit queues (R443). -/

namespace Sys2Proof.Machine

open Reg

/-- CAN controller `c` beside its registers. -/
def canOf (d : Dev) (c : Nat) : CanState := vget d.can c

/-- CAN controller `c` changed by `f`. -/
def modCan (c : Nat) (f : CanState → CanState) (d : Dev) : Dev := { d with can := vset d.can c (f (canOf d c)) }

/-- An acknowledgement is queued in controller `c`'s CSQ slot, which holds 16 (R486). -/
def canAck (c : Nat) (b : List Byte) (d : Dev) : Dev :=
  if !flag d (CAN_CSQACK c) 31 then d
  else if 16 ≤ (canOf d c).acks.length then raise Src.CAN_ACK_DROP c (incFld (CAN_CSQ_DROP c) 31 16 d)
  else modCan c (fun x => { x with acks := x.acks ++ [b] }) d

/-- MAC `n` beside its registers. -/
def macOf (d : Dev) (n : Nat) : EthMac := vget d.eth n

/-- MAC `n` changed by `f`. -/
def modMac (n : Nat) (f : EthMac → EthMac) (d : Dev) : Dev := { d with eth := vset d.eth n (f (macOf d n)) }

/-- The queued frame that goes next: the highest queue, and in it the oldest (R443). -/
def nextFrame (q : List TxFrame) : Option TxFrame :=
  q.foldl (fun acc f => match acc with | none => some f | some g => if g.pcp < f.pcp then some f else some g) none

/-- A free transmitter takes its next frame; a frame in transmission is never cut short (R443). -/
def macNext (n : Nat) (d : Dev) : Dev :=
  let m := macOf d n
  if m.cur.isSome then d
  else match nextFrame m.queue with
    | none => d
    | some f => modMac n (fun m => { m with cur := some f, queue := m.queue.erase f }) d

/-- A frame enters the transmit queues of MAC `n`. -/
def macQueue (n : Nat) (f : TxFrame) (d : Dev) : Dev := macNext n (modMac n (fun m => { m with queue := m.queue ++ [f] }) d)

/-- The address of MAC `n`, six bytes. -/
def macBytes (d : Dev) (n : Nat) : List Byte :=
  toLe32 (rd d (ETHn_MAC_LO n)).toNat ++ toLe16 (fld d (ETHn_MAC_HI n) 15 0)

/-- A 48-bit address, first octet first. -/
def mac48 (m : BitVec 48) : List Byte := toBe16 (m.toNat / 4294967296) ++ toBe32 (m.toNat % 4294967296)

/-- The IPv4 header of a frame that the hardware sends (R443): TTL 64, DF set, identification 0, protocol 17. -/
def ipHeader (src dst : List Byte) (len : Nat) : List Byte :=
  let h : List Byte := [0x45, 0] ++ toBe16 len ++ [0, 0, 0x40, 0, 64, 17]
  h ++ toBe16 (inetSum (h ++ [0, 0] ++ src ++ dst)) ++ src ++ dst

/-- The UDP header and payload with the checksum computed (R443); a computed 0 is sent as 0xFFFF. -/
def udpPart (src dst : List Byte) (sport dport : Nat) (payload : List Byte) : List Byte :=
  let len := 8 + payload.length
  let h := toBe16 sport ++ toBe16 dport ++ toBe16 len
  let c := inetSum (src ++ dst ++ [0, 17] ++ toBe16 len ++ h ++ [0, 0] ++ payload)
  h ++ toBe16 (if c = 0 then 65535 else c) ++ payload

/-- The Ethernet frame, without FCS, of a UDP datagram from MAC `n` and local port `sport` to `to` (R443). -/
def udpFrame (d : Dev) (n sport pcp : Nat) (dest : Sender) (payload : List Byte) : List Byte :=
  let src := toBe32 (rd d (ETHn_IPADDR n)).toNat
  let dst := toBe32 dest.ip.toNat
  let tag := if flag d (ETHn_VLAN n) 31 then toBe16 0x8100 ++ toBe16 (pcp * 8192 + fld d (ETHn_VLAN n) 27 16) else []
  let f := mac48 dest.mac ++ macBytes d n ++ tag ++ toBe16 0x0800 ++ ipHeader src dst (28 + payload.length)
    ++ udpPart src dst sport dest.port.toNat payload
  f ++ List.replicate (60 - f.length) 0

/-- The hardware sends a UDP datagram from MAC `n`, if the MAC is enabled. -/
def udpSend (n sport pcp : Nat) (dest : Sender) (payload : List Byte) (d : Dev) : Dev :=
  if flag d (ETHn_CFG n) 31 then macQueue n { pcp, slot := none, bytes := udpFrame d n sport pcp dest payload } d else d

end Sys2Proof.Machine
end

