-- ==== Sys2Proof/Machine/GlkCore.lean ====
section
/-! DEFINITION. The Shaore Link controller (R242–R283): port states, the downlink scheduler, uplink words, calibration,
diagnostics and driver registers, the acceptance of safe-state commands. -/

namespace Sys2Proof.Machine

open Reg

/-! ## Port states (R276) -/

/-- Put port `p` into a PSTATE; `GLK_READY0` and `GLK_READY1` follow. -/
def setPstate (p st : Nat) (d : Dev) : Dev :=
  let d := modPort p (fun x => { x with entered := now d }) (setFld (GLK_GLnn_STATE p) 18 16 st d)
  setFlag (if p < 32 then GLK_READY0 else GLK_READY1) (p % 32) (decide (st = 4)) d

/-- Sixteen echo requests are due: a calibration begins (R253). -/
def startCalibration (p : Nat) (d : Dev) : Dev :=
  modPort p (fun x => { x with
    cal := some {}, lowDue := x.lowDue ++ List.replicate 16 LinkWord.echoReq }) d

/-- Port `p` falls back to OFF or TRAIN: the safe-state path owns it and nothing is left to send. -/
def quietPort (p st : Nat) (d : Dev) : Dev :=
  let d := if safeOwned d p then d else takePort p d
  let d := setFlag (GLK_GLnn_STATE p) 9 false d
  let d := modPort p (fun x => { x with
    haltDue := false, offNowDue := false, safeDue := [], edges := [], ackDue := [], lowDue := [], flying := none,
    released := none, holdOn := none, holdOnAt := none, cal := none, calApplied := false, upRow := 0,
    outstanding := none, diag := none, cfg := [] }) d
  setPstate p st d

/-- Port `p` enters SYNC: it starts from an empty scheduler with a calibration. -/
def enterSync (p : Nat) (d : Dev) : Dev :=
  let d := modPort p (fun x => { x with haltDue := false, safeDue := [], lastSync := none }) d
  startCalibration p (setPstate p 2 d)

/-- Port `p` enters PREP: PREF is programmed and registers 0x00 to 0x03 are read. -/
def enterPrep (p : Nat) (d : Dev) : Dev :=
  let d := modPort p (fun x => { x with
    prepReads := 0, revOk := false,
    lowDue := x.lowDue ++ [.prefProgram (flag d (GLK_GLnn_CFG p) 8), .cfgRead 0, .cfgRead 1, .cfgRead 2, .cfgRead 3] }) d
  setPstate p 3 d

/-- Has the axis that port `p` serves been enabled since SIS started? True for a port that serves no axis. -/
def portEverEnabled (d : Dev) (p : Nat) : Bool :=
  match axisOfPort d p with
  | some a => d.sis.everEnabled.getLsbD a
  | none => true

/-- Port `p` enters READY, owned by the safe-state path. Until the first enable of its axis SIS holds it off (R319). -/
def enterReady (p : Nat) (d : Dev) : Dev :=
  let d := setPstate p 4 d
  if portEverEnabled d p then d else issue .sis .holdOff [p] d

/-- Port `p` moves on where the condition of its state holds (R276). -/
def portProgress (p : Nat) (d : Dev) : Dev :=
  let x := port d p
  match pstate d p with
  | 1 => if 8 ≤ x.upRow then enterSync p d else d
  | 2 => if x.calApplied && flag d (GLK_GLnn_STATE p) 8 then enterPrep p d else d
  | 3 => if x.revOk && decide (flag d (GLK_GLnn_STATE p) 0 = flag d (GLK_GLnn_CFG p) 8) then enterReady p d else d
  | _ => d

/-- GLK_LINK_DOWN for port `p` (R264, R265): the safe-state path owns it, it returns to TRAIN, and the partner switch of
its leg is halted. -/
def linkDown (p : Nat) (d : Dev) : Dev :=
  let d := raise Src.GLK_LINK_DOWN p (setFlag (GLK_GLnn_STATUS p) 0 true d)
  let partners := partnerPorts d p
  forEach partners acceptHalt (quietPort p 1 d)

/-- A bring-up state has exceeded its limit (R276). -/
def portLimit (p : Nat) (d : Dev) : Dev :=
  let limit := match pstate d p with | 1 => 16000 | 2 => 80000 | 3 => 40000 | _ => 0
  if limit ≠ 0 ∧ elapsed d (port d p).entered limit then linkDown p d else d

/-- No valid uplink word for 2 µs on a READY port (R264). -/
def uplinkTimeout (p : Nat) (d : Dev) : Dev :=
  if portReady d p && elapsed d (port d p).lastUp 1600 then linkDown p d else d

/-- EN of port `p` has changed from `was` (R276): a port leaves OFF once the structure has been programmed. -/
def portEnChanged (p : Nat) (was : Bool) (d : Dev) : Dev :=
  if portEn d p && !was then
    if (d.phase = .programmed ∨ d.phase = .running) ∧ pstate d p = 0 ∧ flag d SYS_VMON 2 = false then setPstate p 1 d else d
  else if !portEn d p && was then quietPort p 0 d
  else d

/-! ## The downlink scheduler (R244–R258) -/

/-- Is a TIME_SYNC due on port `p` (R250)? The interval is 10 µs. -/
def syncDue (d : Dev) (p : Nat) : Bool :=
  let x := port d p
  (decide (3 ≤ pstate d p) || (decide (pstate d p = 2) && x.calApplied)) &&
    (match x.lastSync with | none => true | some t => elapsed d t 8000)

/-- DLY_DN of port `p`. -/
def dlyDn (d : Dev) (p : Nat) : Nat := fld d (GLK_GLnn_DLY p) 15 0

/-- Link time now, in NAP (R249). -/
def linkNow (d : Dev) : Nat := 8 * now d

/-- Send word `w` on port `p` with the next SEQ; `t` is the full link time of an edge. -/
def sendWord (p : Nat) (w : LinkWord) (t : Nat) (d : Dev) : Dev :=
  modPort p (fun x =>
    let s : SentWord := ⟨x.txSeq, w, t⟩
    { x with txSeq := x.txSeq + 1, sent := lastN 16 (x.sent ++ [s]), flying := some s, busyUntil := now d + 96 }) d

/-- Send an ordered set of three symbols on port `p`; the first STATUS that shows MODE `mode` answers it (R264). -/
def sendSet (p mode : Nat) (d : Dev) : Dev :=
  modPort p (fun x => { x with flying := none, busyUntil := now d + 48, outstanding := some mode }) d

/-- Edge `e` leaves for port `p`: what R262 keeps of the edges sent. -/
def noteFlown (e : QueuedEdge) (d : Dev) (x : Port) : Port :=
  let past := x.flown.filter (fun f => decide (f.time ≤ 8 * now d))
  let ahead := x.flown.filter (fun f => decide (8 * now d < f.time))
  { x with offSince := if past.any (fun f => f.on) then none else x.offSince,
           flown := past.getLast?.toList ++ insertEdge e ahead }

/-- Send a word of class 7: the time of a request is noted (R253, R270, R271). -/
def sendLow (p : Nat) (w : LinkWord) (d : Dev) : Dev :=
  let seq := (port d p).txSeq
  let d := sendWord p w 0 d
  let t := now d
  modPort p (fun x =>
    match w with
    | .echoReq => { x with cal := x.cal.map (fun c =>
        { c with sent := c.sent + 1, waiting := c.waiting ++ [(seq, linkNow d)] }) }
    | .selftest _ => { x with diag := x.diag.map (fun g => { g with sent := some t }) }
    | .meas _ => { x with diag := x.diag.map (fun g => { g with sent := some t }) }
    | .cfgWrite a v => { x with cfg := x.cfg.map (fun c =>
        if c.write && decide (c.addr = a) && decide (c.data = v) && c.sent.isNone then { c with sent := some t } else c) }
    | .cfgRead a => { x with cfg := x.cfg.map (fun c =>
        if !c.write && decide (c.addr = a) && c.sent.isNone then { c with sent := some t } else c) }
    | _ => x) d

/-- The next word of port `p`, by the priorities of R258. -/
def sendNext (p : Nat) (d : Dev) : Dev :=
  let x := port d p
  if x.haltDue then sendSet p 1 (modPort p (fun x => { x with haltDue := false }) d)
  else if x.offNowDue then sendWord p .offNow 0 (modPort p (fun x => { x with offNowDue := false }) d)
  else
    match x.safeDue with
    | w :: r =>
      let d := modPort p (fun x => { x with safeDue := r }) d
      if w = .release then sendSet p 0 d
      else sendWord p w 0 (modPort p (fun x => { x with
        outstanding := if x.outstanding = some 0 then some 2 else x.outstanding }) d)
    | [] =>
      match x.edges.head?.filter (fun e => decide (e.time ≤ linkNow d + 6000000)) with
      | some e =>
        let d := modPort p (fun x => noteFlown e d { x with edges := x.edges.drop 1 }) d
        let t : BitVec 24 := BitVec.ofNat 24 e.time
        sendWord p (if e.on then .edgeOn t else .edgeOff t) e.time d
      | none =>
        match x.ackDue with
        | m :: r => sendWord p (.ackFault m) 0 (modPort p (fun x => { x with ackDue := r }) d)
        | [] =>
          if syncDue d p then
            sendWord p (.timeSync (BitVec.ofNat 24 (linkNow d + dlyDn d p))) 0
              (modPort p (fun x => { x with lastSync := some (now d) }) d)
          else
            match x.lowDue with
            | w :: r => sendLow p w (modPort p (fun x => { x with lowDue := r }) d)
            | [] => sendWord p .nop 0 d

/-- The word in transmission on port `p` is cut short (R245): it consumes no SEQ. It is sent again unless the command
that cuts it short replaces it (an edge, a safe-state word). -/
def cutWord (p : Nat) (d : Dev) : Dev :=
  match (port d p).flying with
  | none => d
  | some s =>
    let d := modPort p (fun x => { x with txSeq := s.seq, sent := x.sent.dropLast, flying := none, busyUntil := now d }) d
    modPort p (fun x =>
      match s.word with
      | .ackFault m => { x with ackDue := m :: x.ackDue }
      | .timeSync _ => { x with lastSync := none }
      | .echoReq => { x with
          lowDue := .echoReq :: x.lowDue,
          cal := x.cal.map (fun c => { c with sent := c.sent - 1, waiting := c.waiting.dropLast }) }
      | .selftest i => { x with lowDue := .selftest i :: x.lowDue }
      | .meas i => { x with lowDue := .meas i :: x.lowDue }
      | .cfgWrite a v => { x with lowDue := .cfgWrite a v :: x.lowDue }
      | .cfgRead a => { x with lowDue := .cfgRead a :: x.lowDue }
      | .prefProgram b => { x with lowDue := .prefProgram b :: x.lowDue }
      | _ => x) d

/-- The scheduler of port `p` picks the next word (R258), in states SYNC, PREP and READY: at the end of the word in
transmission, or at once for Halt and OFF_NOW. -/
def wordSchedule (p : Nat) (d : Dev) : Dev :=
  let x := port d p
  if pstate d p < 2 then d
  else if x.busyUntil ≤ now d then sendNext p (modPort p (fun x => { x with flying := none }) d)
  else if (x.haltDue || x.offNowDue) && x.flying.isSome then sendNext p (cutWord p d)
  else d

/-! ## Calibration (R253, R254) -/

/-- An ECHO for request `rseq` with turnaround `turn` arrives at link time `arrival`: lost and out-of-order echoes are
left out, and those whose TURN is out of range are not good. -/
def echoReceived (p : Nat) (rseq : BitVec 4) (turn arrival : Nat) (d : Dev) : Dev :=
  modPort p (fun x => { x with cal := x.cal.map (fun c =>
    match c.waiting.find? (fun w => decide (w.1 = rseq)) with
    | none => c
    | some w =>
      let inOrder := match c.lastDep with | some t => decide (t < w.2) | none => true
      let c := { c with waiting := c.waiting.erase w }
      if !inOrder then c
      else
        let c := { c with lastDep := some w.2 }
        if 1280 ≤ turn ∧ turn ≤ 6400 then
          { c with good := c.good + 1, sum := c.sum + ((arrival : Int) - w.2 - turn) }
        else c) }) d

/-- Apply a result: LOOP and DLY_DN (R253). -/
def applyDelay (p loop dly : Nat) (d : Dev) : Dev :=
  let d := wr (GLK_GLnn_DLY p) (setBits (setBits 0 31 16 loop) 15 0 dly) d
  modPort p (fun x => { x with calApplied := true, candidate := none }) (incFld (GLK_GLnn_CAL_CNT p) 31 16 d)

/-- A calibration of 16 echoes ends (R253, R254). LOOP is the mean of the good echoes; both results are narrowed to 16
bits unsigned. -/
def calibrationDone (p : Nat) (d : Dev) : Dev :=
  match (port d p).cal with
  | none => d
  | some c =>
    if c.sent < 16 then d
    else
      let d := modPort p (fun x => { x with cal := none }) d
      if c.good < 12 then
        let d := incFld (GLK_GLnn_CAL_CNT p) 15 0 d
        if pstate d p = 2 then startCalibration p d else d
      else
        let n : Int := c.good
        let asym := sfld d (GLK_GLnn_ASYM p) 9 0
        let dly := (clampInt 0 65535 (roundDiv (c.sum + 2 * asym * n) (2 * n))).toNat
        let loop := (clampInt 0 65535 (roundDiv c.sum n)).toNat
        if pstate d p = 2 then portProgress p (applyDelay p loop dly d)
        else if fld d GLK_CTRL 15 0 < ((dly : Int) - dlyDn d p).natAbs then
          let d := setFld (GLK_GLnn_DLYCAND p) 15 0 dly (modPort p (fun x => { x with candidate := some loop }) d)
          raise Src.GLK_DLY_JUMP p (setFlag (GLK_GLnn_STATUS p) 5 true d)
        else applyDelay p loop dly d

/-- A write to `GLK_GLnn_DLYACC` (R254). -/
def delayAccept (p : Nat) (v : Word) (d : Dev) : Dev :=
  match (port d p).candidate with
  | some loop => if bit v 0 then applyDelay p loop (fld d (GLK_GLnn_DLYCAND p) 15 0) d else d
  | none => d

/-- FLS has GLK calibrate every READY port (R253). -/
def calibrateAll (d : Dev) : Dev :=
  forEach (idxWhere 64 (fun p => portReady d p && (port d p).cal.isNone)) startCalibration d

/-! ## Uplink (R263–R275) -/

/-- An uplink error is counted; 16 within 1 ms raise GLK_UP_ERR (R275). -/
def upError (p : Nat) (d : Dev) : Dev :=
  let d := incFld (GLK_GLnn_ERR_CNT p) 31 16 d
  let es := lastN 16 ((port d p).upErrs ++ [now d])
  let d := modPort p (fun x => { x with upErrs := es }) d
  if es.length = 16 ∧ now d ≤ listGet 0 es 0 + msTicks then
    raise Src.GLK_UP_ERR p (setFlag (GLK_GLnn_STATUS p) 4 true d)
  else d

/-- A malformed uplink word is discarded and counted (R275). -/
def uplinkBad (p : Nat) (d : Dev) : Dev :=
  if pstate d p = 0 then d else upError p (modPort p (fun x => { x with upRow := 0 }) d)

/-- The driver of port `p`. -/
def driver (d : Dev) (p : Nat) : Driver := vget d.glk.drivers p

/-- The driver of port `p` changed by `f`. -/
def modDriver (p : Nat) (f : Driver → Driver) (d : Dev) : Dev :=
  { d with glk := { d.glk with drivers := vset d.glk.drivers p (f (driver d p)) } }

/-- The driver's word of a TYPE and argument has gone out: it and every word queued before it leave the driver's queue. -/
def leftDriver (w : Nat × Nat) : List (Nat × Nat) → List (Nat × Nat)
  | [] => []
  | x :: r => if x = w then r else leftDriver w r

/-- A valid uplink word of port `p` with its SEQ, TYPE and argument arrives and is handled by `f`. A port in OFF is
silent. -/
def uplinkWord (p : Nat) (seq : BitVec 4) (typ arg : Nat) (f : Dev → Dev) (d : Dev) : Dev :=
  let d := modDriver p (fun x => { x with
    txSeq := seq + 1,
    uplink := if x.uplink.contains (typ, arg) then leftDriver (typ, arg) x.uplink else x.uplink }) d
  if pstate d p = 0 then d
  else
    let gap := match (port d p).rxSeq with | some e => decide (e ≠ seq) | none => false
    let d := if gap then upError p d else d
    let d := modPort p (fun x => { x with rxSeq := some (seq + 1), lastUp := now d, upRow := Nat.min 8 (x.upRow + 1) }) d
    portProgress p (f d)

/-- The word of SEQ `seq` among the last 16 sent on port `p`. -/
def sentWord (d : Dev) (p : Nat) (seq : BitVec 4) : Option SentWord :=
  (port d p).sent.reverse.find? (fun s => decide (s.seq = seq))

/-- An edge of port `p` is lost for good (R274). -/
def edgeLost (p : Nat) (d : Dev) : Dev := raise Src.GLK_EDGE_LOST p (setFlag (GLK_GLnn_STATUS p) 3 true d)

/-- A lost edge is sent again while its time is far enough ahead and PWM still owns the port (R274). -/
def resendEdge (p : Nat) (on : Bool) (t : Nat) (d : Dev) : Dev :=
  if !safeOwned d p && decide (linkNow d + 8 * 256 + dlyDn d p ≤ t) then
    incFld (GLK_GLnn_REFUSE_CNT p) 31 16 (modPort p (fun x => { x with edges := insertEdge ⟨on, t⟩ x.edges }) d)
  else edgeLost p d

/-- Is `w` the safe-state word of the command last accepted for port `p`? A later command replaces it. -/
def stillCommanded (d : Dev) (p : Nat) (level : Bool) : Bool :=
  safeOwned d p && (match (port d p).lastAccept with
    | some (c, _) => decide (c = if level then .holdOn else .holdOff)
    | none => false)

/-- The driver reports word `s` of port `p` lost (R274). -/
def lostWord (p : Nat) (s : SentWord) (d : Dev) : Dev :=
  match s.word with
  | .edgeOn _ => resendEdge p true s.edgeTime d
  | .edgeOff _ => resendEdge p false s.edgeTime d
  | .offNow => if safeOwned d p then d else modPort p (fun x => { x with offNowDue := true }) d
  | .prefApply b => if stillCommanded d p b then modPort p (fun x => { x with safeDue := x.safeDue ++ [.prefApply b] }) d else d
  | .prefProgram b => modPort p (fun x => { x with lowDue := x.lowDue ++ [.prefProgram b] }) d
  | .ackFault m => modPort p (fun x => { x with ackDue := x.ackDue ++ [m] }) d
  | .cfgWrite a v => modPort p (fun x => { x with lowDue := x.lowDue ++ [.cfgWrite a v] }) d
  | _ => d

/-- A gap of `n` words from SEQ `first` is reported (R273, R274). -/
def gapReported (p : Nat) (first : BitVec 4) (n : Nat) (d : Dev) : Dev :=
  let d := addFld (GLK_GLnn_ERR_CNT p) 15 0 n (setFlag (GLK_GLnn_STATUS p) 1 true d)
  forEach (List.range n) (fun k d =>
    match sentWord d p (first + BitVec.ofNat 4 k) with
    | some s => lostWord p s d
    | none => d) d

/-- A refused edge is reported (R274): its code and time. The time of a word that is no longer among the last 16 sent is
open. -/
def refusalReported (p code : Nat) (seq : BitVec 4) (d : Dev) : Dev :=
  let (t, d) := match sentWord d p seq with
    | some s => (s.edgeTime % 16777216, d)
    | none => let (w, d) := drawFree d; (w.toNat % 16777216, d)
  let d := wr (GLK_GLnn_LASTREF p) (setBits (setBits 0 26 24 code) 23 0 t) (incFld (GLK_GLnn_REFUSE_CNT p) 15 0 d)
  raise Src.GLK_EDGE_REFUSED p (setFlag (GLK_GLnn_STATUS p) 2 true d)

/-- The content of a STATUS (R264, R268, R273, R274). -/
def statusContent (p : Nat) (arg : Nat) (d : Dev) : Dev :=
  let w := wordOf arg
  let st := GLK_GLnn_STATE p
  let mode := bits w 3 2
  let was := fld d st 3 2
  let d := setFlag st 8 (bit w 20) (setFlag st 4 (bit w 4) (setFld st 3 2 mode (setFlag st 1 (bit w 1) (setFlag st 0 (bit w 0) d))))
  let pendingSet := (port d p).outstanding
  let d := modPort p (fun x => { x with
    latched := if bit w 4 then x.latched else 0,
    outstanding := if x.outstanding = some mode then none else x.outstanding }) d
  let d := if bits w 15 13 ≠ 0 then refusalReported p (bits w 15 13) (BitVec.ofNat 4 (bits w 19 16)) d else d
  let d := if bits w 8 5 ≠ 0 then gapReported p (BitVec.ofNat 4 (bits w 12 9)) (bits w 8 5) d else d
  if portReady d p && decide (mode = 3) && decide (was ≠ 3) && pendingSet.isNone then linkDown p d else d

/-- GLK receives a STATUS; one with a reserved bit set is malformed (R248). -/
def statusReceived (p : Nat) (seq : BitVec 4) (arg : BitVec 24) (d : Dev) : Dev :=
  if arg.toNat / 2097152 ≠ 0 then uplinkBad p d
  else uplinkWord p seq 0 arg.toNat (statusContent p arg.toNat) d

/-- The content of a FAULT (R268): newly latched bits go to the trip input, to the undervoltage rule and to PSP. -/
def faultContent (p : Nat) (arg : Nat) (d : Dev) : Dev :=
  let w := wordOf arg
  let latched : Byte := BitVec.ofNat 8 (bits w 15 8)
  let newly := latched &&& ~~~ (port d p).latched
  let d := modPort p (fun x => { x with latched := latched }) (wr (GLK_GLnn_FAULT p) w d)
  if newly = 0 then d
  else
    let d := match switchOfPort d p with
      | some (l, high) =>
        let d := if newly &&& 3 ≠ 0 ∧ flag d (PWM_PLnn_TRIPSEL1 l) 8 then modLeg l (fun x => { x with report := true }) d else d
        if high && newly.getLsbD 2 then bootUv l d else d
      | none => d
    pspReport p newly d

/-- GLK receives a FAULT; bit 7 of every mask is reserved (R248). -/
def faultReceived (p : Nat) (seq : BitVec 4) (arg : BitVec 24) (d : Dev) : Dev :=
  if arg &&& 0x808080 ≠ 0 then uplinkBad p d
  else uplinkWord p seq 1 arg.toNat (faultContent p arg.toNat) d

/-- A register value or a self-test result arrives (R269–R271, R276). -/
def readDataContent (p : Nat) (addr : Byte) (data : BitVec 16) (d : Dev) : Dev :=
  let x := port d p
  let d := if pstate d p = 3 ∧ addr.toNat ≤ 3 then
      modPort p (fun x => { x with
        prepReads := x.prepReads ||| 2 ^ addr.toNat, revOk := x.revOk || (decide (addr = 2) && decide (data = 1)) }) d
    else d
  let d := match x.cfg.find? (fun c => decide (c.addr = addr)) with
    | some c =>
      let v := setBit (setBit (setBits (setBits 0 23 16 addr.toNat) 15 0 data.toNat) 31 true) 30 (c.write && decide (data ≠ c.data))
      wr (GLK_GLnn_CFGRES p) v (modPort p (fun x => { x with cfg := x.cfg.erase c }) d)
    | none => d
  match x.diag with
  | some g =>
    if g.selftest ∧ addr.toNat = 0xF0 + g.item then
      let d := modPort p (fun x => { x with diag := none }) d
      let d := wr (GLK_GLnn_DIAG_RES p) (setBit (setBits (setBits 0 23 16 addr.toNat) 15 0 data.toNat) 31 true) d
      if data = 1 then raise Src.GLK_DIAG_FAIL p (setFlag (GLK_GLnn_STATUS p) 7 true d) else d
    else d
  | none => d

/-- GLK receives a READ_DATA. -/
def readDataReceived (p : Nat) (seq : BitVec 4) (addr : Byte) (data : BitVec 16) (d : Dev) : Dev :=
  uplinkWord p seq 2 (addr.toNat * 65536 + data.toNat) (readDataContent p addr data) d

/-- GLK receives a TEMP for the module NTC or the driver die (R271). -/
def tempReceived (p : Nat) (seq : BitVec 4) (die : Bool) (v : BitVec 16) (d : Dev) : Dev :=
  uplinkWord p seq 3 (b2n die * 65536 + v.toNat) (fun d =>
    if die then setFld (GLK_GLnn_TEMP p) 31 16 v.toNat d
    else modPort p (fun x => { x with ntcAt := some (now d) }) (setFld (GLK_GLnn_TEMP p) 15 0 v.toNat d)) d

/-- GLK receives a VGE; a KIND that is no MEAS item is malformed (R248, R270). -/
def vgeReceived (p : Nat) (seq : BitVec 4) (kind : Byte) (v : BitVec 16) (d : Dev) : Dev :=
  if 2 < kind.toNat then uplinkBad p d
  else uplinkWord p seq 4 (kind.toNat * 65536 + v.toNat) (fun d =>
    match (port d p).diag with
    | some g =>
      if !g.selftest && decide (g.item = kind.toNat) then
        wr (GLK_GLnn_DIAG_RES p) (setBit (setBits (setBits 0 23 16 kind.toNat) 15 0 v.toNat) 31 true)
          (modPort p (fun x => { x with diag := none }) d)
      else d
    | none => d) d

/-- GLK receives an ECHO. -/
def echoWord (p : Nat) (seq rseq : BitVec 4) (turn arrival : Nat) (d : Dev) : Dev :=
  uplinkWord p seq 5 (rseq.toNat * 1048576 + turn % 1048576) (echoReceived p rseq (turn % 1048576) arrival) d

/-! ## Requests of initiators (R268, R270, R271, R281) -/

/-- Is port `p` not in use (R281): no owner, and EN = 0? -/
def portUnused (d : Dev) (p : Nat) : Bool := decide (ownerOf d 0x03 p = 0) && !portEn d p

/-- Queue low-priority word `w` on port `p` and its mirrors (R277). -/
def queueLow (p : Nat) (w : LinkWord) (d : Dev) : Dev :=
  forEach (withMirrors d p) (modPort · (fun x => { x with lowDue := x.lowDue ++ [w] })) d

/-- A write to `GLK_GLnn_FACK`: refused while PWM owns the port (R268). -/
def faultAck (p : Nat) (v : Word) (d : Dev) : Bool × Dev :=
  if portUnused d p || !safeOwned d p then (true, d)
  else (false, forEach (withMirrors d p) (modPort · (fun x => { x with ackDue := x.ackDue ++ [BitVec.ofNat 8 (bits v 7 0)] })) d)

/-- The DIAG word of argument `arg`, where R248 allows the argument. -/
def diagWord (arg : Nat) : Option LinkWord :=
  let op := arg / 1048576
  let item := arg % 1048576
  if op = 0 ∧ item = 0 then some .echoReq
  else if op = 1 ∧ item ≤ 4 then some (.selftest item)
  else if op = 2 ∧ item ≤ 2 then some (.meas item)
  else none

/-- A write to `GLK_GLnn_DIAG_SLOT` (R270): refused while an answer is outstanding, and for an argument that R248 does
not allow. -/
def diagSlot (p : Nat) (v : Word) (d : Dev) : Bool × Dev :=
  if portUnused d p then (true, d)
  else if !bit v 31 then (false, d)
  else if (port d p).diag.isSome then
    (true, setFlag (GLK_GLnn_STATUS p) 8 true (modPort p (fun x => { x with diagRefused := x.diagRefused + 1 }) d))
  else match diagWord (bits v 23 0) with
    | none => (true, d)
    | some w =>
      let wait : Option DiagWait := match w with
        | .selftest i => some ⟨true, i, none⟩
        | .meas i => some ⟨false, i, none⟩
        | _ => none
      let d := wr (GLK_GLnn_DIAG_RES p) 0 (modPort p (fun x => { x with diag := wait }) d)
      (false, queueLow p w d)

/-- No answer to a DIAG within 25 µs (R270). -/
def diagTimeout (p : Nat) (d : Dev) : Dev :=
  match (port d p).diag with
  | some g =>
    match g.sent with
    | some t =>
      if elapsed d t 20000 then
        let d := setFlag (GLK_GLnn_DIAG_RES p) 30 true (modPort p (fun x => { x with diag := none }) d)
        raise Src.GLK_DIAG_FAIL p (setFlag (GLK_GLnn_STATUS p) 7 true d)
      else d
    | none => d
  | none => d

/-- Is the carrier group of the leg that port `p` serves running? -/
def portGroupRuns (d : Dev) (p : Nat) : Bool :=
  match switchOfPort d p with
  | some (l, _) => (group d (legGroup d l)).running
  | none => false

/-- A write to `GLK_GLnn_CFGACC` (R271): a register write is refused while PWM owns the port and its group runs. -/
def cfgAccess (p : Nat) (v : Word) (d : Dev) : Bool × Dev :=
  let rd_ := bit v 30
  let a : Byte := BitVec.ofNat 8 (bits v 23 16)
  let x : BitVec 16 := BitVec.ofNat 16 (bits v 15 0)
  if portUnused d p then (true, d)
  else if !bit v 31 then (false, d)
  else if !rd_ && !safeOwned d p && portGroupRuns d p then (true, d)
  else
    let d := setFlag (GLK_GLnn_CFGRES p) 31 false d
    let d := modPort p (fun y => { y with cfg := y.cfg ++ [⟨!rd_, a, x, none⟩] }) d
    (false, queueLow p (if rd_ then .cfgRead a else .cfgWrite a x) d)

/-- The answer to the oldest register request does not come within 2 µs (R271, R274): the request is given up. -/
def cfgTimeout (p : Nat) (d : Dev) : Dev :=
  match (port d p).cfg with
  | c :: r =>
    match c.sent with
    | some t => if elapsed d t 1600 then modPort p (fun x => { x with cfg := r }) d else d
    | none => d
  | [] => d

/-! ## Safe-state commands (R261, R262, R292) -/

/-- HALT before HOLD_OFF before HOLD_ON (R292). -/
def safeRank : SafeCmd → Nat
  | .halt => 0 | .holdOff => 1 | .holdOn => 2 | .release => 3

/-- Has a command that outranks `c` been accepted for port `p` in this tick (R292)? -/
def outranked (d : Dev) (p : Nat) (c : SafeCmd) : Bool :=
  match (port d p).lastAccept with
  | some (e, t) => decide (t = now d) && decide (safeRank e < safeRank c)
  | none => false

/-- The first acceptance of a HALT of PSP after a detection (R300). -/
def noteHalt (p : Nat) (d : Dev) : Dev :=
  match axisOfPort d p with
  | some a =>
    if (pspAxis d a).awaitHalt then wr (PSP_AXa_T_HALT a) (nowLo d) (modPspAxis a (fun x => { x with awaitHalt := false }) d)
    else d
  | none => d

/-- The tick at which GLK accepts HOLD_ON for the DS port of a resistor discharge starts its time (R298). -/
def noteDischarge (p : Nat) (d : Dev) : Dev :=
  forEach [0, 1, 2, 3] (fun l d =>
    if flag d (PSP_LKl_DIS l) 31 && decide (dsPort d l = p) && decide (disState d l = 1) && (pspLink d l).disT0.isNone then
      wr (PSP_LKl_DIS_T0 l) (nowLo d) (modPspLink l (fun x => { x with disT0 := some (now d) }) d)
    else d) d

/-- PSP issues the commands of a chosen state no earlier than the tick after the one in which GLK accepted its HALT
(R290): a HALT for the port is still to be accepted, or was accepted in this tick. -/
def haltFirst (d : Dev) (p : Nat) : Bool :=
  d.glk.orders.contains ⟨.psp, .halt, p⟩ || decide ((port d p).lastAccept = some (.halt, now d))

/-- GLK takes command `c` of `o` for port `p` off the path and, unless it is outranked, accepts it by `f`. -/
def safeAccept (o : SafeOrigin) (c : SafeCmd) (p : Nat) (f : Dev → Dev) (d : Dev) : Dev :=
  if d.glk.orders.contains ⟨o, c, p⟩ && !(decide (o = .psp) && decide (c ≠ .halt) && haltFirst d p) then
    let d := takeOrder o c p d
    if outranked d p c then d else f d
  else d

/-- HALT for port `p`. -/
def safeHalt (o : SafeOrigin) (p : Nat) (d : Dev) : Dev :=
  safeAccept o .halt p (fun d => (if o = .psp then noteHalt p else id) (acceptHalt p d)) d

/-- HOLD_OFF for port `p`. -/
def safeHoldOff (o : SafeOrigin) (p : Nat) (d : Dev) : Dev := safeAccept o .holdOff p (acceptHoldOff p) d

/-- HOLD_ON for port `p`. -/
def safeHoldOn (o : SafeOrigin) (p : Nat) (d : Dev) : Dev :=
  safeAccept o .holdOn p (fun d => noteDischarge p (acceptHoldOn p d)) d

/-- RELEASE for port `p`. -/
def safeRelease (p : Nat) (d : Dev) : Dev := safeAccept .sis .release p (acceptRelease p) d

/-! ## Registers (R281, R282) -/

/-- The port whose register stands at `a`, with the register's offset. -/
def glkPortAt (a : Nat) : Option (Nat × Nat) :=
  if GLK_GLnn_CFG 0 ≤ a ∧ a < GLK_GLnn_CFG 64 then some ((a - GLK_GLnn_CFG 0) / 0x100, a % 0x100) else none

/-- Is the register one of a port that is not in use (R281)? EN itself can be written in any port. -/
def glkUnused (d : Dev) (a : Nat) : Bool :=
  match glkPortAt a with
  | some (p, o) => decide (o ≠ 0) && portUnused d p
  | none => false

/-- A write of `v` to the GLK register at `a` (R254, R268, R270, R271): true where it is refused; none for a register
without side effects. -/
def glkSpecial (a : Nat) (v : Word) (d : Dev) : Option (Bool × Dev) :=
  match glkPortAt a with
  | some (p, 0x00) =>
    let was := portEn d p
    some (false, portEnChanged p was (storePlain a v d))
  | some (p, 0x18) => some (false, delayAccept p v d)
  | some (p, 0x1C) => some (diagSlot p v d)
  | some (p, 0x24) => some (cfgAccess p v d)
  | some (p, 0x2C) => some (faultAck p v d)
  | _ => none

/-- A checked transaction value takes its place in a GLK register. -/
def glkPut (a : Nat) (v : Word) (d : Dev) : Dev :=
  match glkSpecial a v d with
  | some (_, d) => d
  | none => storePlain a v d

end Sys2Proof.Machine
end

