-- ==== Sys2Proof/Machine/SisCore.lean ====
section
/-! DEFINITION. The safety island (R306–R336): straps and seal, mailbox, contactors and precharge, drive enable, STO and
SS1, the torque monitor, Lockout. -/

namespace Sys2Proof.Machine

open Reg

/-- SIS changed by `f`. -/
def modSis (f : SisState → SisState) (d : Dev) : Dev := { d with sis := f d.sis }

/-- A fault of SIS: its bit of `SIS_FAULT` (R336). -/
def sisFault (i : Nat) (d : Dev) : Dev := setFlag SIS_FAULT i true d

/-- SIS journals an event of code `k` with a value (R331; the payload is the model's). -/
def sisNote (k v : Nat) (d : Dev) : Dev := journal 0x05 0x08 (toLe32 k ++ toLe32 v) d

/-! ## Straps and seal (R309–R313) -/

/-- The level of a strap voltage in mV; none outside every band (R309). -/
def strapLevel (mv : Nat) : Option Nat :=
  if mv ≤ 100 then some 0
  else if 350 ≤ mv ∧ mv ≤ 550 then some 1
  else if 850 ≤ mv ∧ mv ≤ 1150 then some 2
  else if 1600 ≤ mv then some 3
  else none

/-- The level on which the readings of one pin agree. -/
def pinLevel : List Nat → Option Nat
  | [] => none
  | r :: rs =>
    match strapLevel r with
    | some l => if rs.all (fun x => decide (strapLevel x = some l)) then some l else none
    | none => none

/-- The safety configuration code of the readings of SCFG0 to SCFG7; none where it is invalid (R309, R310). -/
def strapCode (readings : List (List Nat)) : Option Nat :=
  let code := (List.range 8).foldr (fun k acc =>
    match acc, pinLevel (listGet [] readings k) with
    | some c, some l => some (c + l * 4 ^ k)
    | _, _ => none) (some 0)
  match code with
  | some c => if c % 4 ≤ 1 then some c else none
  | none => none

/-- SIS samples the straps at start-up (R40, R309). -/
def sampleStraps (readings : List (List Nat)) (d : Dev) : Dev :=
  let code := strapCode readings
  let d := modSis (fun s => { s with straps := code, strapBad := false }) d
  match code with
  | some c => setFld SIS_STO 9 8 (c % 4) (wr SIS_STRAP (setBits (setBits 0 17 16 1) 15 0 c) d)
  | none => setFld SIS_STO 9 8 0 (wr SIS_STRAP (setBits 0 17 16 2) d)

/-- SIS reads the straps again (R313): Lockout on a code that differs or has become invalid. -/
def recheckStraps (readings : List (List Nat)) (d : Dev) : Dev :=
  let code := strapCode readings
  let bad := decide (code ≠ d.sis.straps) || code.isNone
  let was := d.sis.strapBad
  let d := modSis (fun s => { s with strapBad := bad }) d
  if bad && !was then lockoutEntry 10 d else d

/-- `SIS_SEAL.RESULT` (R311): `hold` marks Configuration Hold. -/
def sealResult (d : Dev) (hold : Bool) : Nat :=
  let f := d.sis.fuses
  if hold then 6
  else if !f.isSealed then 2
  else match d.sis.straps with
    | none => 3
    | some c => if c ≠ f.code then 4 else if d.sis.safetyDigest ≠ f.digest then 5 else 1

/-- The seal check of start-up step 4 (R311); SIS, not in Lockout, runs from then on (R336). -/
def sealCheck (hold : Bool) (d : Dev) : Dev :=
  let r := sealResult d hold
  let d := if fld d SIS_STATE 2 0 = 0 then setFld SIS_STATE 2 0 1 d else d
  let d := setFlag SIS_SEAL 8 d.sis.fuses.isSealed (setFld SIS_SEAL 2 0 r d)
  if r = 1 then d else raise Src.SIS_SEAL 0 (sisFault 0 d)

/-- The seal is OK. -/
def sealOk (d : Dev) : Bool := decide (fld d SIS_SEAL 2 0 = 1)

/-! ## MAIN inputs (R324, R328, R334) -/

/-- USE of MAIN input `k`: 0 unused, 1 link voltage, 2 link current, 3 battery voltage. -/
def mainUse (d : Dev) (k : Nat) : Nat := saf8 d (0x250 + 8 * k)

/-- The link of MAIN input `k`. -/
def mainLink (d : Dev) (k : Nat) : Nat := saf8 d (0x250 + 8 * k + 1)

/-- The converted value of a sum of `n` codes of MAIN input `k` (R324). -/
def mainConvert (d : Dev) (k : Nat) (sum n : Nat) : Int :=
  let gain := signed 16 (saf16 d (0x250 + 8 * k + 2))
  let ofs := signed 16 (saf16 d (0x250 + 8 * k + 4))
  satQ15 (roundDiv (((sum : Int) - n * ofs) * gain) (4096 * (n : Int)))

/-- The present value of MAIN input `k`. -/
def mainValue (d : Dev) (k : Nat) : Int := sfld d (SIS_MAIN k) 15 0

/-- The voltage input of link `l`. -/
def linkMain (d : Dev) (l : Nat) : Option Nat :=
  (List.range 8).find? (fun k => decide (mainUse d k = 1) && decide (mainLink d k = l))

/-- The voltage of link `l` as SIS reads it. -/
def sisUdc (d : Dev) (l : Nat) : Int := match linkMain d l with | some k => mainValue d k | none => 0

/-! ## Contactors, precharge (R316–R318) -/

/-- The offset of the precharge record of link `l`. -/
def pchOfs (l : Nat) : Nat := 0x2D0 + 16 * l

/-- Command every contactor of link `l` open. -/
def openLink (l : Nat) (d : Dev) : Dev := forEach (linkCts d l) (commandCt false) d

/-- The sequence of link `l` stands at `q`. -/
def setSeq (l : Nat) (q : LinkSeq) (d : Dev) : Dev := modSisLink l (fun x => { x with seq := q }) d

/-- Has the voltage of link `l` reached the end value of its precharge (R317)? -/
def pchReached (d : Dev) (l : Nat) : Bool :=
  let bat := saf8 d (pchOfs l + 1)
  let ratio := signed 16 (saf16 d (pchOfs l + 6))
  if bat < 8 then decide (mainValue d bat * ratio ≤ sisUdc d l * 32768) else decide (ratio ≤ sisUdc d l)

/-- Does the voltage of link `l` exceed ULO? -/
def pchPath (d : Dev) (l : Nat) : Bool := decide (signed 16 (saf16 d (pchOfs l + 2)) < sisUdc d l)

/-- One step of the sequence of link `l`, where the feedback and the voltage that it waits for are there. -/
def advanceLink (l : Nat) (d : Dev) : Dev :=
  match (sisLink d l).seq with
  | .pcOpenAll =>
    if ctsConfirmed d (linkCts d l) false then setSeq l .pcNeg (forEach (ctsOf d l 2) (commandCt true) d) else d
  | .pcNeg =>
    if ctsConfirmed d (ctsOf d l 2) true then
      setSeq l (.pcPre (now d) false) (forEach (ctsOf d l 3) (commandCt true) d)
    else d
  | .pcPre t path =>
    let path := path || pchPath d l
    if path && pchReached d l && ctsConfirmed d (ctsOf d l 3) true then
      setSeq l .pcPos (forEach (ctsOf d l 1) (commandCt true) d)
    else setSeq l (.pcPre t path) d
  | .pcPos =>
    if ctsConfirmed d (ctsOf d l 1) true then setSeq l .pcPreOpen (forEach (ctsOf d l 3) (commandCt false) d) else d
  | .pcPreOpen =>
    if ctsConfirmed d (ctsOf d l 3) false then
      setLinkState l 2 (modSisLink l (fun x => { x with seq := .idle, fails := 0 }) d)
    else d
  | .openPos =>
    if ctsConfirmed d (ctsOf d l 1 ++ ctsOf d l 3) false then setSeq l .openNeg (forEach (ctsOf d l 2) (commandCt false) d)
    else d
  | .openNeg => if ctsConfirmed d (ctsOf d l 2) false then setLinkState l 0 (setSeq l .idle d) else d
  | .openAll => if ctsConfirmed d (linkCts d l) false then setLinkState l 0 (setSeq l .idle d) else d
  | .idle => d

/-- The sequence of link `l` moves on as far as it can. -/
def driveLink (l : Nat) (d : Dev) : Dev :=
  advanceLink l (advanceLink l (advanceLink l (advanceLink l (advanceLink l (advanceLink l d)))))

/-- A running precharge of link `l` ends with every contactor of the link open. -/
def endPrecharge (l : Nat) (d : Dev) : Dev :=
  if linkState d l = 1 then driveLink l (setLinkState l 3 (setSeq l .openAll (openLink l d))) else d

/-- A voltage failure in the precharge of link `l` (R317); the third in a row causes Lockout. -/
def prechargeFail (l : Nat) (d : Dev) : Dev :=
  let n := (sisLink d l).fails + 1
  let d := openLink l d
  let d := modSisLink l (fun x => { x with seq := .idle, fails := if 3 ≤ n then 0 else n, retryFrom := now d }) d
  let d := raise Src.SIS_PCH_FAIL l (sisFault 8 (setLinkState l 4 d))
  if 3 ≤ n then lockoutEntry 8 d else d

/-- T1 or TMAX of the precharge of link `l` has passed (R317). -/
def prechargeTimeout (l : Nat) (d : Dev) : Dev :=
  match (sisLink d l).seq with
  | .pcPre t path =>
    if (!path && elapsed d t (saf16 d (pchOfs l + 4) * msTicks)) || elapsed d t (saf16 d (pchOfs l + 8) * msTicks) then
      prechargeFail l d
    else d
  | _ => d

/-- RETRY has passed (R317). -/
def retryEnd (l : Nat) (d : Dev) : Dev :=
  if linkState d l = 4 ∧ elapsed d (sisLink d l).retryFrom (saf16 d (pchOfs l + 10) * msTicks) then setLinkState l 0 d else d

/-- A contactor fault: its bit, its source, Lockout (R316). -/
def ctFault (bit_ src k : Nat) (d : Dev) : Dev := lockoutEntry bit_ (raise src k (sisFault bit_ d))

/-- The feedback input of contactor `k` changes to `level` (R316). -/
def ctFeedback (k : Nat) (level : Bool) (d : Dev) : Dev :=
  if ctRole d k = 0 then d
  else
    let closed := decide (level = ctFbPol d k)
    let c := contactor d k
    let d := setFlag SIS_CT (8 + k) level d
    let settledNow := c.settled || decide (closed = c.close)
    let d := modCt k (fun c => { c with feedback := closed, checked := true, settled := settledNow }) d
    let d := if !c.checked && !c.ever && closed then ctFault 6 Src.SIS_CT_WELD k d
      else if c.settled && decide (closed ≠ c.feedback) && decide (closed ≠ c.close) then ctFault 7 Src.SIS_CT_CONTRA k d
      else d
    driveLink (ctLink d k) d

/-- The feedback of contactor `k` does not confirm its command within TFB (R316). -/
def ctTimeout (k : Nat) (d : Dev) : Dev :=
  let c := contactor d k
  if ctRole d k ≠ 0 ∧ !c.settled ∧ elapsed d c.cmdTick (ctTfb d k) then
    let d := modCt k (fun c => { c with settled := true }) d
    if c.close then ctFault 5 Src.SIS_CT_LATE k d else ctFault 6 Src.SIS_CT_WELD k d
  else d

/-- Does every main contactor of link `l` read open (R318)? -/
def mainsOpen (d : Dev) (l : Nat) : Bool :=
  (ctsOf d l 1 ++ ctsOf d l 2).all (fun k => !(contactor d k).feedback && !(contactor d k).close)

/-- Does PSP drive a discharge channel for link `l` (R298)? -/
def hasDischarge (d : Dev) (l : Nat) : Bool :=
  flag d (PSP_LKl_DIS l) 31 && decide (ownerOf d 0x02 (dischargeLeg d l) = 0x21)

/-- The discharge of link `l` that SIS has decided on starts once every main contactor reads open (R298, R318). -/
def startDischarge (l : Nat) (d : Dev) : Dev :=
  if (sisLink d l).wantDischarge && hasDischarge d l && mainsOpen d l then
    let d := modSisLink l (fun x => { x with wantDischarge := false }) d
    if disState d l = 1 ∨ disState d l = 2 then d else dischargeStart l d
  else d

/-! ## Monitor voltages (R317, R328) -/

/-- The two voltage paths of link `l` are compared (R328). -/
def udcPlaus (l : Nat) (d : Dev) : Dev :=
  match (pspLink d l).udc, linkMain d l with
  | some u, some k =>
    if ((mainValue d k - u).natAbs : Nat) ≤ saf16 d 0x310 then modSisLink l (fun x => { x with differs := none }) d
    else
      match (sisLink d l).differs with
      | none => modSisLink l (fun x => { x with differs := some (now d) }) d
      | some t =>
        if elapsed d t (saf16 d 0x312 * msTicks) ∧ !flag d SIS_FAULT 9 then
          lockoutEntry 9 (raise Src.SIS_UDC_PLAUS l (sisFault 9 d))
        else d
  | _, _ => d

/-- A monitor converter completes a sample of MAIN input `k` (R141, R324). -/
def madcSample (k : Nat) (code : Nat) (d : Dev) : Dev :=
  if !d.sis.running || decide (mainUse d k = 0) then d
  else
    let d := modSis (fun s => { s with madc := vset s.madc k (lastN 25 (vget s.madc k ++ [code])) }) d
    let d := setFld (SIS_MAIN k) 15 0 (unsigned 16 (mainConvert d k code 1)) d
    let l := mainLink d k
    let d := forEach [0, 1, 2, 3] driveLink d
    if mainUse d k = 1 then udcPlaus l d else d

/-! ## STO and SS1 (R321–R323) -/

/-- FILT in ticks. -/
def stoFilt (d : Dev) : Nat := saf16 d (0x290 + 2) * usTicks

/-- The axes in use on which STO acts. -/
def stoList (d : Dev) : List Nat := (axesInUse d).filter (fun a => (stoAxes d).testBit a)

/-- An STO input changes level (R321). -/
def stoEdge (inputB level : Bool) (d : Dev) : Dev :=
  let d := modSis (fun s =>
    if inputB then (if s.stoB = level then s else { s with stoB := level, stoBTick := now d })
    else (if s.stoA = level then s else { s with stoA := level, stoATick := now d })) d
  modSis (fun s => { s with
    stoDiffer := if s.stoA = s.stoB then none else some (s.stoDiffer.getD (now d)) }) d

/-- The filtered level of an input, from its raw level, the tick of its last change and its filtered level so far. -/
def filteredLevel (d : Dev) (raw : Bool) (since : Nat) (old : Bool) : Bool :=
  if elapsed d since (stoFilt d) then raw else old

/-- `SIS_STO` shows the filtered levels. -/
def stoFilter (d : Dev) : Dev :=
  let s := d.sis
  setFlag SIS_STO 0 (filteredLevel d s.stoA s.stoATick (flag d SIS_STO 0))
    (setFlag SIS_STO 1 (filteredLevel d s.stoB s.stoBTick (flag d SIS_STO 1)) d)

/-- The speed of axis `a` from SIS's own position channel, per unit of N_BASE: the change of the last 1 ms (R324). Until
1 ms has been observed it counts as 0. -/
def sisSpeed (d : Dev) (a : Nat) : Int :=
  let h := (vget d.sis.monitors a).angles
  let nb := (vget d.cfg.axes a).nBase
  if h.length < 11 ∨ nb = 0 then 0
  else
    let diff := signed 24 (unsigned 24 (((listGet 0 h 0 : Nat) : Int) - ((listGet 0 h 10 : Nat) : Int)))
    satQ15 (roundDiv (diff * 6000000) ((512 * nb : Nat) : Int))

/-- STO acts (R322): drive enable falls and every phase-leg port of the axes is held off; running precharges end. -/
def stoApply (d : Dev) : Dev :=
  let d := setFlag SIS_STO 3 false (setFlag SIS_STO 4 true d)
  let d := forEach (stoList d) (fun a d => showOff a (issue .sis .holdOff (axisPorts d a) (dropEnable a d))) d
  forEach [0, 1, 2, 3] endPrecharge d

/-- A demand acts according to STOMAP (R322). -/
def stoDemandAct (d : Dev) : Dev :=
  let d := setFlag SIS_STO 2 true d
  let d := forEach [0, 1, 2, 3] endPrecharge d
  if fld d SIS_STO 9 8 = 1 then
    let d := setFlag SIS_STO 3 true d
    let d := modSis (fun s => { s with
      ss1Since := now d, ss1Speed := (List.range 4).map (fun a => (sisSpeed d a).natAbs) }) d
    (stoList d).foldl (fun d a => raise Src.SIS_SS1 a d) d
  else stoApply d

/-- A filtered low on either input is a demand (R321). -/
def stoDemand (d : Dev) : Dev :=
  if !d.sis.running then d
  else
    let d := stoFilter d
    if (!flag d SIS_STO 0 || !flag d SIS_STO 1) && !flag d SIS_STO 2 then stoDemandAct d else d

/-- The inputs have differed for longer than DISC (R321). -/
def stoDiscrepancy (d : Dev) : Dev :=
  match d.sis.stoDiffer with
  | some t =>
    if d.sis.running && !flag d SIS_FAULT 3 && elapsed d t (saf16 d 0x290 * msTicks + 1) then
      lockoutEntry 3 (raise Src.SIS_STO_DISC 0 (sisFault 3 d))
    else d
  | none => d

/-- The state that an axis takes when STO ends (R307). -/
def stoRelease (a : Nat) (d : Dev) : Dev :=
  forEach (setsOf d a) (fun set d =>
    if isFixed d a set || lockout d then d
    else
      let st := if (pspLink d (axisLink d a)).ovState then ascState d a set else speedChoice d a set 4
      markSpeed a set true (applyState a set st 5 d)) d

/-- STO ends when both inputs have been high for FILT (R322). An SS1 that has begun runs to STO first. -/
def stoEnd (d : Dev) : Dev :=
  let s := d.sis
  if flag d SIS_STO 4 && s.stoA && s.stoB && elapsed d s.stoATick (stoFilt d) && elapsed d s.stoBTick (stoFilt d) then
    let d := stoFilter d
    let d := setFlag SIS_STO 2 false (setFlag SIS_STO 4 false d)
    forEach (stoList d) stoRelease d
  else d

/-- Has axis `a` breached its SS1 envelope (R322)? -/
def ss1Breach (d : Dev) (a : Nat) : Bool :=
  let v := (sisSpeed d a).natAbs
  let v0 := listGet 0 d.sis.ss1Speed a
  decide (v0 * 800000000 < v * 800000000 + saf16 d (0x290 + 6) * (now d - d.sis.ss1Since))

/-- Is axis `a` at or below SS1STOP? -/
def ss1Stopped (d : Dev) (a : Nat) : Bool := decide ((sisSpeed d a).natAbs ≤ saf16 d (0x290 + 8))

/-- SIS supervises the speed of axis `a` during SS1 (R322): STO when every axis has stopped, or at once on a breach. -/
def ss1Supervise (a : Nat) (d : Dev) : Dev :=
  if !flag d SIS_STO 3 || !(stoList d).contains a then d
  else if !ss1Stopped d a && ss1Breach d a then
    stoApply (raise Src.SIS_SS1_FAIL a (sisFault 4 d))
  else if (stoList d).all (ss1Stopped d) then stoApply d
  else d

/-- SS1TMAX has elapsed (R322). -/
def ss1Timeout (d : Dev) : Dev :=
  if flag d SIS_STO 3 && elapsed d d.sis.ss1Since (saf16 d (0x290 + 4) * msTicks) then stoApply d else d

/-! ## The torque monitor (R324–R327) -/

/-- The offset of the monitor record of axis `a`. -/
def monOfs (a : Nat) : Nat := 0x150 + 64 * a

/-- A gain of the monitor record of axis `a`: 16 fraction bits. -/
def monGain (d : Dev) (a o : Nat) : Int := signed 32 (saf32 d (monOfs a + o))

/-- Axis `a`'s monitor. -/
def monitor (d : Dev) (a : Nat) : TrqMon := vget d.sis.monitors a

/-- Axis `a`'s monitor changed by `f`. -/
def modMonitor (a : Nat) (f : TrqMon → TrqMon) (d : Dev) : Dev :=
  modSis (fun s => { s with monitors := vset s.monitors a (f (vget s.monitors a)) }) d

/-- The channel that SIS reads for axis `a`. -/
def monChan (d : Dev) (a : Nat) : Nat := saf8 d (monOfs a + 1) % 8

/-- Is that channel valid (R106)? -/
def monValid (d : Dev) (a : Nat) : Bool :=
  let c := posChan d (monChan d a)
  c.good && (match c.last with
    | some (_, t) => decide (now d ≤ t + fld d (ATB_AXn_TIMEOUT a) 23 0)
    | none => false)

/-- The fraction of that channel's last delivery. -/
def monAngle (d : Dev) (a : Nat) : Nat :=
  match (posChan d (monChan d a)).last with
  | some (th, _) => th.toNat % 16777216
  | none => 0

/-- The latest result of the current input of phase `k`. -/
def monCurrent (d : Dev) (a k : Nat) : Int :=
  let i := saf8 d (monOfs a + 4 + k)
  if i < 64 then sfld d (ADS_AINnn_RES i) 15 0 else 0

/-- The instance on which SIS runs a transform: only its inputs matter. -/
def monBlock (geom : Bool) (ins : List Int) : BlockIn :=
  { inst := ⟨0, ins.length, 2, b2n geom, 0, 0, 0, []⟩, raw := fun k => unsigned 16 (listGet 0 ins k), con := fun _ => true,
    par := fun _ => 0, st := fun _ => 0, word := fun _ => 0, wmin := 0 }

/-- The d and q currents of axis `a` at SIS's own angle (R325). -/
def monDq (d : Dev) (a : Nat) : Int × Int :=
  let six := decide (saf8 d (monOfs a + 2) = 6)
  let ab := if six then
      (blkVsd6 (monBlock (decide ((vget d.cfg.axes a).topology = 3)) ((List.range 6).map (monCurrent d a)))).run {}
    else (blkClarke (monBlock false ((List.range 3).map (monCurrent d a)))).run {}
  let th := (monAngle d a * saf8 d (monOfs a + 3)) % 16777216 / 256
  let dq := (blkPark (monBlock false [listGet 0 ab.1.outs 0, listGet 0 ab.1.outs 1, (th : Int)])).run {}
  (listGet 0 dq.1.outs 0, listGet 0 dq.1.outs 1)

/-- The flux-model estimate (R325). -/
def fluxEstimate (d : Dev) (a : Nat) : Int :=
  let (id, iq) := monDq d a
  satQ15 (roundDiv (monGain d a 24 * iq * 32768 + monGain d a 28 * id * iq) 2147483648)

/-- The mean of the MADC results of MAIN input `k` in the present period, converted; the last value where there is none. -/
def mainMean (d : Dev) (k : Nat) : Int :=
  let l := vget d.sis.madc k
  if l.isEmpty then mainValue d k else mainConvert d k (l.foldl (· + ·) 0) l.length

/-- The power-balance estimate (R325) at speed `w`, not 0. -/
def powerEstimate (d : Dev) (a : Nat) (w : Int) : Int :=
  let (id, iq) := monDq d a
  let i : Int := ((mag id iq).run {}).1
  let u := mainMean d (saf8 d (monOfs a + 10) % 8)
  let c := mainMean d (saf8 d (monOfs a + 11) % 8)
  let inner := u * c * 65536 - (monGain d a 36 * 1073741824 + monGain d a 40 * i * i + monGain d a 44 * i * u)
  satQ15 (nearest (monGain d a 32 * inner) (4294967296 * w))

/-- The commands of axis `a` that were in force within the last THOLD. -/
def heldCmds (d : Dev) (a : Nat) : List AppliedCmd :=
  let lim := now d - saf16 d (monOfs a + 20) * msTicks
  let recent := (monitor d a).cmds.filter (fun c => decide (lim < c.tick))
  recent ++ ((monitor d a).cmds.filter (fun c => decide (c.tick ≤ lim))).head?.toList

/-- The permitted band of axis `a` before clipping (R326): modes 1 torque, 2 speed. -/
def trqBand (d : Dev) (a : Nat) : Int × Int :=
  let tol : Int := (saf16 d (monOfs a + 16) : Int)
  let cs := heldCmds d a
  let up := cs.foldl (fun m c => max m (if c.mode = 1 then c.setpoint else if c.mode = 2 then c.posLim else 0)) 0
  let lo := cs.foldl (fun m c => min m (if c.mode = 1 then c.setpoint else if c.mode = 2 then c.negLim else 0)) 0
  (satQ15 (lo - tol), satQ15 (up + tol))

/-- The method at speed `w` (R325): true for power balance. -/
def trqMethod (d : Dev) (a : Nat) (w : Int) : Bool :=
  let cross := saf16 d (monOfs a + 12)
  let hyst := saf16 d (monOfs a + 14)
  if !(saf8 d (monOfs a)).testBit 1 then false
  else if cross ≤ w.natAbs then true
  else if w.natAbs + hyst < cross then false
  else (monitor d a).power

/-- The torque monitor of axis `a` trips (R327). -/
def trqTrip (bit_ src a : Nat) (d : Dev) : Dev :=
  raise src a (sisFault bit_ (sisSafe a (modMonitor a (fun m => { m with tripped := true }) d)))

/-- One evaluation of axis `a` (R324–R327). The power balance gives no value at speed 0: the estimate is then free. -/
def trqEvaluate (a : Nat) (d : Dev) : Dev :=
  let ttime := saf16 d (monOfs a + 18)
  if !(saf8 d (monOfs a)).testBit 0 then d
  else if !monValid d a then
    let n := (monitor d a).posRun + 1
    let d := modMonitor a (fun m => { m with posRun := n }) d
    if n = ttime then trqTrip 2 Src.SIS_POS a d else d
  else
    let w := sisSpeed d a
    let power := trqMethod d a w
    let (t, d) : Int × Dev :=
      if !power then (fluxEstimate d a, d)
      else if w = 0 then let (v, d) := drawFree d; (sbits v 15 0, d)
      else (powerEstimate d a w, d)
    let (lo, hi) := trqBand d a
    let inside := decide (lo ≤ t) && decide (t ≤ hi)
    let n := if inside then 0 else (monitor d a).outRun + 1
    let d := modMonitor a (fun m => { m with power, outRun := n, posRun := 0 }) d
    let d := wr (SIS_AXa_TRQ a) (setBit (setBit (wordOf (unsigned 16 t)) 17 power) 16 inside) d
    let d := wr (SIS_AXa_TBAND a) (setBits (setBits 0 31 16 (unsigned 16 hi)) 15 0 (unsigned 16 lo)) d
    if n ≠ 0 ∧ n = ttime then trqTrip 1 Src.SIS_TRQ a d else d

/-- The evaluation of every axis, each 100 µs (R324). -/
def torqueEvaluate (d : Dev) : Dev :=
  let due := match d.sis.lastEval with | none => true | some t => elapsed d t 80000
  if d.sis.running && due then
    let d := forEach (axesInUse d) (fun a d =>
      modMonitor a (fun m => { m with angles := (monAngle d a :: m.angles).take 11 }) d) d
    let d := forEach (axesInUse d) trqEvaluate d
    modSis (fun s => { s with lastEval := some (now d), madc := Vector.replicate 8 [] }) d
  else d

/-- SIS's copy of the command that CSQ applied to axis `a` (R306, R410): the newest first. -/
def sisNoteCmd (a : Nat) (c : AxisCmd) (d : Dev) : Dev :=
  modMonitor a (fun m => { m with cmds := (⟨now d, c.mode, c.setpoint, c.posLim, c.negLim⟩ :: m.cmds).take 4096 }) d

/-! ## Lockout (R306, R308, R329–R331) -/

/-- PHASE of Lockout. -/
def lockPhase (d : Dev) : Nat := fld d SIS_LOCK 2 0

/-- Set PHASE. -/
def setLockPhase (p : Nat) (d : Dev) : Dev := setFld SIS_LOCK 2 0 p d

/-- Has the cause of `SIS_FAULT` bit `i` cleared (R331, R336)? -/
def causeCleared (d : Dev) (i : Nat) : Bool :=
  match i with
  | 15 => !(setSources d).any (fun k => decide (srcClass d k = 7))
  | 11 => decide (d.sis.coreMissed = 0) && d.sys.deviates.isNone
  | 10 => !d.sis.strapBad
  | 9 => (List.range 4).all (fun l => (sisLink d l).differs.isNone)
  | 7 | 6 | 5 => (List.range 6).all (fun k =>
      decide (ctRole d k = 0) || decide ((contactor d k).feedback = (contactor d k).close))
  | 3 => decide (d.sis.stoA = d.sis.stoB)
  | 2 => d.sis.monitors.toList.all (fun m => decide (m.posRun = 0))
  | 1 => d.sis.monitors.toList.all (fun m => decide (m.outRun = 0))
  | 0 => sealOk d
  | _ => true

/-- SIS's cores disagree (R306): HALT to every port, the contactors drop, SIS restarts from ROM in Lockout. -/
def sisLockstep (d : Dev) : Dev :=
  let d := issue .sis .halt (List.range 64) d
  let d := forEach (List.range 6) (commandCt false) d
  let d := modSis (fun s => { s with
    lastEval := none, madc := Vector.replicate 8 [],
    monitors := s.monitors.map (fun m => { m with outRun := 0, posRun := 0, angles := [], power := false }) }) d
  lockoutEntry 14 d

/-- The heartbeat of the core domain (R308). -/
def coreHeartbeat (beat : Bool) (d : Dev) : Dev :=
  if !d.sis.running then d
  else if beat then modSis (fun s => { s with coreMissed := 0 }) d
  else
    let n := d.sis.coreMissed + 1
    let d := modSis (fun s => { s with coreMissed := Nat.min 10 n }) d
    if n = 10 then lockoutEntry 11 d else d

/-- The heartbeat of SIS as SYS sees it (R308): FCR applies ALL_SAFE through PSP. -/
def sisHeartbeat (beat : Bool) (d : Dev) : Dev :=
  if beat then modSis (fun s => { s with sisMissed := 0 }) d
  else
    let n := d.sis.sisMissed + 1
    let d := modSis (fun s => { s with sisMissed := Nat.min 10 n }) d
    if n = 10 then forEach (axesInUse d) sisSafe d else d

/-- LOCK_RST_N rises after `low` ticks (R331). -/
def lockPulse (low : Nat) (d : Dev) : Dev :=
  if low < 20 * msTicks then d
  else if low < 500 * msTicks ∨ 3000 * msTicks < low then sisNote 1 low d
  else if !lockout d ∨ lockPhase d ≠ 1 then d
  else if (List.range 16).all (fun i => !flag d SIS_LOCK (16 + i) || causeCleared d i) then
    modSis (fun s => { s with selfcheckFrom := now d }) (setLockPhase 2 d)
  else sisNote 2 low d

/-- SIS's self-check ends (R331 step 3); a failed one is a cause of Lockout. -/
def selfcheckDone (pass madc : Bool) (d : Dev) : Dev :=
  if pass && madc then
    if lockPhase d = 2 then modSis (fun s => { s with keyFrom := now d }) (setLockPhase 3 d) else d
  else
    let d := if lockPhase d = 2 then setLockPhase 1 d else d
    let d := if madc then d else lockoutEntry 13 d
    if pass then d else lockoutEntry 12 d

/-- The 10 s for the UNLOCK commands have passed (R331 step 4). -/
def keyExpired (d : Dev) : Bool := elapsed d d.sis.keyFrom (10000 * msTicks)

/-- The end of the unlock window. -/
def unlockExpire (d : Dev) : Dev := if (lockPhase d = 3 ∨ lockPhase d = 4) ∧ keyExpired d then setLockPhase 1 d else d

/-- The device leaves Lockout (R331). -/
def leaveLockout (d : Dev) : Dev :=
  let d := setFld SIS_STATE 2 0 1 (wr SIS_LOCK 0 d)
  modSis (fun s => { s with lockRecord := none }) d

/-! ## Mailbox commands (R315): each answers with its code -/

/-- The axes of a mask. -/
def maskAxes (arg : Word) : List Nat := idxWhere 4 (fun a => bit arg a)

/-- Is `arg` a mask of axes in use? -/
def axisMaskOk (d : Dev) (arg : Word) : Bool := decide (bits arg 31 4 = 0) && (maskAxes arg).all (axisInUse d)

/-- A failed key test, or a required one that has not passed, answers every ENABLE with BLOCKED (R499). -/
def keyBlocks (d : Dev) : Bool := flag d BST_KEY_STATUS 30 || (flag d BST_CFG 0 && !flag d BST_KEY_STATUS 29)

/-- The code of the first condition of R319 that axis `a` fails; 0 where it meets all. -/
def enableCode (d : Dev) (a : Nat) : Nat :=
  if lockout d then 4
  else if !sealOk d then 6
  else if fld d CFG_FEAT_STATUS 1 0 ≠ 1 then 5
  else if flag d CFG_DBG_STATUS 0 && !debugPerm d 5 then 7
  else if (stoAxes d).testBit a && (flag d SIS_STO 2 || flag d SIS_STO 3 || flag d SIS_STO 4) then 10
  else if linkState d (axisLink d a) ≠ 2 then 9
  else if !(axisPorts d a).all (portReady d) then 8
  else if relBlock d a || sisCause d a || keyBlocks d then 11
  else 0

/-- Drive enable is granted to axis `a` (R319, R354). -/
def grantAxis (a : Nat) (d : Dev) : Dev :=
  if granted d a then d
  else
    let d := setFlag SIS_STATE (8 + a) true d
    let d := modSis (fun s => { s with everEnabled := s.everEnabled ||| BitVec.ofNat 4 (2 ^ a) }) d
    let d := if sixPhase d a && decide (srcClass d Src.PSP_SWID = 3) then
        modPspAxis a (fun x => { x with standing := true }) d else d
    let ps := axisPorts d a
    issue .sis .release ps (withdraw .sis ps d)

/-- ENABLE (R319). -/
def mbEnable (arg : Word) (d : Dev) : Nat × Dev :=
  if !axisMaskOk d arg then (2, d)
  else
    let as := maskAxes arg
    let codes := as.map (fun a => if granted d a then 0 else enableCode d a)
    let code := (codes.find? (fun c => decide (c ≠ 0))).getD 0
    (code, as.foldl (fun d a => if !granted d a && decide (enableCode d a = 0) then grantAxis a d else d) d)

/-- DISABLE (R320). -/
def mbDisable (arg : Word) (d : Dev) : Nat × Dev :=
  if !axisMaskOk d arg then (2, d)
  else (0, forEach (maskAxes arg) sisSafe d)

/-- PRECHARGE (R317). -/
def mbPrecharge (arg : Word) (d : Dev) : Nat × Dev :=
  let l := bits arg 1 0
  if bits arg 31 2 ≠ 0 then (2, d)
  else if linkState d l ≠ 0 ∨ saf8 d (pchOfs l) = 0 then (3, d)
  else if !sealOk d then (6, d)
  else if lockout d then (4, d)
  else if (linkCts d l).any (fun k => (contactor d k).feedback) then (12, d)
  else (0, driveLink l (setLinkState l 1 (setSeq l .pcOpenAll (openLink l d))))

/-- OPEN (R318). -/
def mbOpen (arg : Word) (d : Dev) : Nat × Dev :=
  let l := bits arg 1 0
  if bits arg 31 2 ≠ 0 then (2, d)
  else if (linkAxes d l).any (granted d) then (3, d)
  else if linkState d l = 1 ∨ linkState d l = 2 then
    (0, driveLink l (setLinkState l 3 (setSeq l .openPos (forEach (ctsOf d l 1 ++ ctsOf d l 3) (commandCt false) d))))
  else (0, d)

/-- DISCHARGE (R318). -/
def mbDischarge (arg : Word) (d : Dev) : Nat × Dev :=
  let l := bits arg 1 0
  if bits arg 31 2 ≠ 0 then (2, d)
  else if !mainsOpen d l then (3, d)
  else (0, modSisLink l (fun x => { x with wantDischarge := true }) d)

/-- UNLOCK (R331 step 4). -/
def mbUnlock (arg : Word) (d : Dev) : Nat × Dev :=
  if !lockout d ∨ (lockPhase d ≠ 3 ∧ lockPhase d ≠ 4) then (4, d)
  else if keyExpired d then (4, setLockPhase 1 d)
  else if arg ≠ ~~~ rd d SIS_LOCK_CHAL then (13, setLockPhase 1 d)
  else if lockPhase d = 3 then (0, setLockPhase 4 d)
  else (0, leaveLockout d)

/-- SEAL (R312). -/
def mbSeal (arg : Word) (d : Dev) : Nat × Dev :=
  if arg ≠ 0 then (2, d)
  else match d.sis.straps with
    | some c =>
      if fld d SIS_SEAL 2 0 = 2 ∧ !d.sis.fuses.isSealed ∧ selCopy d ≠ 0 then
        (0, setFlag SIS_SEAL 8 true
          (modSis (fun s => { s with fuses := ⟨true, c, s.safetyDigest⟩ }) d))
      else (6, d)
    | none => (6, d)

/-- CLEAR (R315): refused while the cause of a named bit is still present. -/
def mbClear (arg : Word) (d : Dev) : Nat × Dev :=
  if bits arg 31 16 ≠ 0 then (2, d)
  else if (List.range 16).any (fun i => bit arg i && flag d SIS_FAULT i && !causeCleared d i) then (3, d)
  else
    let d := wr SIS_FAULT (rd d SIS_FAULT &&& ~~~ arg) d
    (0, if fld d SIS_FAULT 2 1 = 0 then
        forEach [0, 1, 2, 3] (fun a d => modMonitor a (fun m => { m with tripped := false }) d) d
      else d)

/-- The mailbox command of code `cmd` (R315). -/
def mbCommand (cmd : Nat) (arg : Word) (d : Dev) : Nat × Dev :=
  match cmd with
  | 1 => mbEnable arg d
  | 2 => mbDisable arg d
  | 3 => mbPrecharge arg d
  | 4 => mbOpen arg d
  | 5 => mbDischarge arg d
  | 6 => mbUnlock arg d
  | 7 => mbSeal arg d
  | 8 => mbClear arg d
  | _ => (1, d)

/-- SIS answers a request of initiator `i` (R314): a reserved bit set in a request word gives ARG, and a command other
than UNLOCK between the two UNLOCKs ends the unlocking (R331). -/
def mbAnswer (i : Initiator) (f : Dev → Nat × Dev) (d : Dev) : Dev :=
  let r0 := rd d (bank i (SIS_MB_REQ 0))
  let d := if lockPhase d = 4 ∧ bits r0 7 0 ≠ 6 then setLockPhase 1 d else d
  let reserved := decide (bits r0 31 16 ≠ 0) || decide (rd d (bank i (SIS_MB_REQ 2)) ≠ 0)
    || decide (rd d (bank i (SIS_MB_REQ 3)) ≠ 0)
  let (code, d) := if reserved then (2, d) else f d
  let d := wr (SIS_MB_RESP 0) (setBits (setBits 0 7 0 code) 15 8 (bits r0 15 8)) d
  wr SIS_MB_STATUS (setBits (setBit 0 1 true) 15 8 (initiatorId i)) d

/-- A ring of initiator `i` (R314). -/
def mbRing (i : Initiator) (d : Dev) : Dev :=
  if d.sis.running then
    let cmd := bits (rd d (bank i (SIS_MB_REQ 0))) 7 0
    mbAnswer i (mbCommand cmd (rd d (bank i (SIS_MB_REQ 1)))) d
  else d

/-- Initiator `i` writes a request of command `cmd` into its copy of the request registers and rings; SIS runs `f`. -/
def mailbox (i : Initiator) (cmd : Nat) (tag : Byte) (arg : Word) (f : Dev → Nat × Dev) (d : Dev) : Dev :=
  busWrite i SIS_MB_DOOR (fun d =>
    let d := wr (bank i (SIS_MB_REQ 0)) (setBits (setBits 0 7 0 cmd) 15 8 tag.toNat) d
    let d := wr (bank i (SIS_MB_REQ 3)) 0 (wr (bank i (SIS_MB_REQ 2)) 0 (wr (bank i (SIS_MB_REQ 1)) arg d))
    if d.sis.running then mbAnswer i f d else d) d

/-! ## Start of SIS (R37, R330) -/

/-- SIS executes its first ROM instruction: it starts in Lockout when its record says so (R330). -/
def sisStart (d : Dev) : Dev :=
  let d := wr SIS_ID Config.sisRomVersion d
  let d := modSis (fun s => { s with running := true }) d
  let d := stoFilter d
  match d.sis.lockRecord with
  | none => d
  | some (cause, _) =>
    let d := setFld SIS_STATE 2 0 2 d
    let d := setFld SIS_LOCK 31 16 cause (setLockPhase 1 d)
    let d := wr SIS_FAULT (rd d SIS_FAULT ||| wordOf cause) d
    let (c, d) := drawRandom d
    wr SIS_LOCK_CHAL c d

end Sys2Proof.Machine
end

