-- ==== Sys2Proof/Machine/CsqCore.lean ====
section
/-! DEFINITION. Commands (R408–R421): records, sequence order, acknowledgements, the command log and its copies, power
failure and restore, the CMD_IN pin. -/

namespace Sys2Proof.Machine

open Reg

/-- CSQ changed by `f`. -/
def modCsq (f : CsqState → CsqState) (d : Dev) : Dev := { d with csq := f d.csq }

/-- Slot `s` beside its registers. -/
def csqSlot (d : Dev) (s : Nat) : CsqSlot := vget d.csq.slots s

/-- Slot `s` changed by `f`; HELD in its register follows. -/
def modSlot (s : Nat) (f : CsqSlot → CsqSlot) (d : Dev) : Dev :=
  let d := modCsq (fun c => { c with slots := vset c.slots s (f (csqSlot d s)) }) d
  setFld (CSQ_SRCs_STATE s) 11 8 (csqSlot d s).held.length d

/-- STATE of slot `s`: 0 NEW, 1 SYNC, 2 RESYNC. -/
def slotState (d : Dev) (s : Nat) : Nat := fld d (CSQ_SRCs_STATE s) 1 0

/-- Set STATE of slot `s`. -/
def setSlotState (s v : Nat) (d : Dev) : Dev := setFld (CSQ_SRCs_STATE s) 1 0 v d

/-- PWRFAIL (R13, R514): nothing is acknowledged. -/
def pwrDown (d : Dev) : Bool := flag d CSQ_STATUS 8

/-! ## The copies in retention SRAM (R416, R417) -/

/-- Does the retention SRAM hold a word beyond correction among the bytes `lo` to `hi`? -/
def retBad (d : Dev) (lo hi : Nat) : Bool := d.icf.badWords.any (fun w => decide (lo / 8 ≤ w ∧ w ≤ hi / 8))

/-- The words of the bytes `lo` to `hi` are rewritten with good contents. -/
def retGood (lo hi : Nat) (d : Dev) : Dev :=
  { d with icf := { d.icf with badWords := d.icf.badWords.filter (fun w => !decide (lo / 8 ≤ w ∧ w ≤ hi / 8)) } }

/-- What reading two copies finds (R417): a bad copy is rewritten from the good one and CSQ_LOG_ECC raised; false where
both are bad. -/
def twoCopies (lo hi dist : Nat) (d : Dev) : Bool × Dev :=
  let a := retBad d lo hi
  let b := retBad d (lo + dist) (hi + dist)
  if a && b then (false, d)
  else if a || b then (true, raise Src.CSQ_LOG_ECC 0 (retGood lo hi (retGood (lo + dist) (hi + dist) d)))
  else (true, d)

/-- Slot `s` goes into RESYNC (R417): its held records are not applied any more. -/
def slotResync (s : Nat) (d : Dev) : Dev :=
  setSlotState s 2 (modSlot s (fun x => { x with held := [], stalled := false }) d)

/-- Record `i` of the log is read, for slot `s` (R417): false where both copies are bad. -/
def logRead (i s : Nat) (d : Dev) : Bool × Dev :=
  let (ok, d) := twoCopies (0x2C000000 + 16 * i) (0x2C00000F + 16 * i) 0x1C000 d
  if ok then (true, d) else (false, slotResync s (raise Src.CSQ_LOG_MISMATCH s d))

/-- The sequence state is read (R417): with both copies bad every slot goes into RESYNC. -/
def stateRead (d : Dev) : Bool × Dev :=
  let (ok, d) := twoCopies 0x2C03E000 0x2C03EFFF 0x1000 d
  if ok then (true, d)
  else (false, retGood 0x2C03E000 0x2C03FFFF (forEach (List.range 16) slotResync (raise Src.CSQ_LOG_MISMATCH 0 d)))

/-! ## The log (R416) -/

/-- SEQ of a record. -/
def recSeq (b : List Byte) : Nat := le32 b 2

/-- Is log record `l` one that is still held? -/
def logHeld (d : Dev) (l : LogRec) : Bool :=
  (csqSlot d l.slot).held.any (fun h => decide (h.1 = recSeq l.bytes)) && decide (byteAt l.bytes 15 / 2 % 2 = 0)

/-- A record enters the log at the head, past records that are still held; the oldest gives way. -/
def logPut (s path : Nat) (applied : Bool) (b : List Byte) (d : Dev) : Dev :=
  let h := fld d CSQ_LOG_HEAD 12 0
  let held (k : Nat) : Bool := d.csq.log.any (fun l => decide (l.index = k) && logHeld d l)
  let i := match (List.range 7168).find? (fun k => !held ((h + k) % 7168)) with
    | some k => (h + k) % 7168
    | none => h
  let l : LogRec := ⟨i, s, b.take 14 ++ [BitVec.ofNat 8 path, BitVec.ofNat 8 (1 + 2 * b2n applied)]⟩
  let d := retGood (0x2C000000 + 16 * i) (0x2C00000F + 16 * i) (retGood (0x2C01C000 + 16 * i) (0x2C01C00F + 16 * i) d)
  let d := modCsq (fun c => { c with log := c.log.filter (fun x => decide (x.index ≠ i)) ++ [l] }) d
  setFld CSQ_LOG_HEAD 12 0 ((i + 1) % 7168) d

/-- The log record of slot `s` with SEQ `q`. -/
def logFind (d : Dev) (s q : Nat) : Option LogRec :=
  d.csq.log.find? (fun l => decide (l.slot = s) && decide (recSeq l.bytes = q))

/-- Log record `i` is marked APPLIED. -/
def logApplied (i : Nat) (d : Dev) : Dev :=
  modCsq (fun c => { c with log := c.log.map (fun l =>
    if l.index = i then { l with bytes := listSet l.bytes 15 3 } else l) }) d

/-! ## Application (R410) -/

/-- The command signals of a record. -/
def recCmd (b : List Byte) : AxisCmd :=
  let ramp := le16 b 12
  { mode := byteAt b 1 % 16, setpoint := signed 16 (le16 b 6), posLim := signed 16 (le16 b 8), negLim := signed 16 (le16 b 10),
    ramp := if ramp = 0 then 32767 else ramp, cmdIn := false }

/-- The command signals of axis `a` become `c`, in the engines and in SIS's copy, in one tick. -/
def putCmd (a : Nat) (c : AxisCmd) (d : Dev) : Dev := sisNoteCmd a c { d with cmds := vset d.cmds a c }

/-- A record is applied to its axis. -/
def applyRec (b : List Byte) (d : Dev) : Dev :=
  let a := byteAt b 1 / 16
  let d := putCmd a (recCmd b) d
  let d := wr (CSQ_AXa_LAST a) (wordOf (recSeq b)) d
  modCsq (fun c => { c with applied := vset c.applied a (some b), appliedAt := vset c.appliedAt a (now d),
                            late := setWidthBit c.late a }) d
where
  /-- The timeout mark of axis `a` is cleared. -/
  setWidthBit (m : BitVec 4) (a : Nat) : BitVec 4 := m &&& ~~~(BitVec.ofNat 4 (2 ^ a))

/-- After an application of slot `s` its stall time starts anew (R415). -/
def slotApplied (s : Nat) (d : Dev) : Dev := modSlot s (fun x => { x with heldFrom := now d, stalled := false }) d

/-- The held records with SEQ = LAST + 1 are applied in turn (R414), at most `n` of them. -/
def drainHeld : Nat → Nat → Dev → Dev
  | 0, _, d => d
  | n + 1, s, d =>
    let q := (rd d (CSQ_SRCs_LAST s) + 1).toNat
    match (csqSlot d s).held.find? (fun h => decide (h.1 = q)) with
    | none => d
    | some h =>
      let (ok, d) := match logFind d s q with
        | some l => logRead l.index s d
        | none => (true, d)
      if ok then
        let d := modSlot s (fun x => { x with held := x.held.filter (fun y => decide (y.1 ≠ q)) }) d
        let d := match logFind d s q with | some l => logApplied l.index d | none => d
        drainHeld n s (wr (CSQ_SRCs_LAST s) (wordOf q) (applyRec h.2 d))
      else d

/-! ## Sequence order (R412, R414) -/

/-- Are bytes 1 and 6–13 of two records equal? -/
def sameContent (x y : List Byte) : Bool := decide (byteAt x 1 = byteAt y 1) && decide (slice x 6 8 = slice y 6 8)

/-- The handling of a valid record by its SEQ: the RESULT and the device after it. -/
def csqSequence (s path : Nat) (b : List Byte) (d : Dev) : Nat × Dev :=
  let q := recSeq b
  let take (d : Dev) : Dev := wr (CSQ_SRCs_LAST s) (wordOf q) (applyRec b (logPut s path true b d))
  if slotState d s = 0 then (0, slotApplied s (setSlotState s 1 (take d)))
  else
    let dist := (wordOf q - rd d (CSQ_SRCs_LAST s)).toNat
    if dist = 0 ∨ 2147483648 ≤ dist then
      match logFind d s q with
      | none => (1, d)
      | some l =>
        let (ok, d) := logRead l.index s d
        if !ok then (7, d) else if sameContent l.bytes b then (1, d) else (6, d)
    else if dist = 1 then (0, slotApplied s (drainHeld 8 s (take d)))
    else if dist ≤ 8 then
      match (csqSlot d s).held.find? (fun h => decide (h.1 = q)) with
      | some h => (if h.2.take 14 = b.take 14 then 0 else 6, d)
      | none =>
        let first := (csqSlot d s).held.isEmpty
        let d := modSlot s (fun x => { x with held := x.held ++ [(q, b)], heldFrom := if first then now d else x.heldFrom }) d
        (0, logPut s path false b d)
    else (2, d)

/-- Are the fields of a record legal (R408)? -/
def recLegal (d : Dev) (b : List Byte) : Bool :=
  let a := byteAt b 1 / 16
  decide (a < 4) && axisInUse d a && decide (byteAt b 1 % 16 ≤ 2) && decide (le16 b 8 ≤ 32767)
    && decide (le16 b 10 = 0 ∨ 32768 ≤ le16 b 10) && decide (le16 b 12 ≤ 32767)

/-- The enabled slot with ID `id`. -/
def slotOf (d : Dev) (id : Nat) : Option Nat :=
  (List.range 16).find? (fun s => flag d (CSQ_SRCs_CFG s) 31 && decide (fld d (CSQ_SRCs_CFG s) 7 0 = id))

/-- An acknowledgement (R412). -/
def ackBytes (src result seq : Nat) (last : Word) (count : Nat) : List Byte :=
  let b := [BitVec.ofNat 8 src, BitVec.ofNat 8 result] ++ toLe32 seq ++ toLe32 last.toNat ++ [BitVec.ofNat 8 count, 0, 0, 0]
  b ++ toLe16 (crc16 b)

/-- The counters and the source of a RESULT (R414, R437); DETAIL of CSQ_CONFLICT is the slot. -/
def countResult (result : Nat) (s : Option Nat) (d : Dev) : Dev :=
  let d := if result = 1 then incFld CSQ_DUP_CNT 15 0 d
    else if result = 2 then incFld CSQ_REFUSE_CNT 31 16 d
    else if 3 ≤ result ∧ result ≤ 7 then incFld CSQ_REFUSE_CNT 15 0 d
    else d
  if result = 6 then raise Src.CSQ_CONFLICT (match s with | some k => k | none => 0) d else d

/-! ## Batches of acknowledgements (R413) -/

/-- The batch of slot `s` on a path. -/
def batchOf (d : Dev) (s path : Nat) : Option AckBatch :=
  d.csq.batches.find? (fun x => decide (x.slot = s) && decide (x.path = path))

/-- The batches without that of slot `s` on a path. -/
def dropBatch (s path : Nat) (d : Dev) : Dev :=
  modCsq (fun c => { c with batches := c.batches.filter (fun x => !(decide (x.slot = s) && decide (x.path = path))) }) d

/-- The acknowledgement that a batch is sent as. -/
def batchBytes (d : Dev) (x : AckBatch) : List Byte :=
  ackBytes (fld d (CSQ_SRCs_CFG x.slot) 7 0) 0 x.seq (rd d (CSQ_SRCs_LAST x.slot)) x.count

/-- A RESULT for slot `s`: the acknowledgements that go out now. -/
def answer (s path src result seq : Nat) (sender : Sender) (d : Dev) : List (List Byte) × Dev :=
  let old := if featureOn d 0 then batchOf d s path else none
  let one := ackBytes src result seq (rd d (CSQ_SRCs_LAST s)) 1
  if !featureOn d 0 then ([one], d)
  else if result ≠ 0 then
    match old with
    | some x => ([batchBytes d x, one], dropBatch s path d)
    | none => ([one], d)
  else
    let put (x : AckBatch) (d : Dev) : Dev :=
      let d := dropBatch s path d
      modCsq (fun c => { c with batches := c.batches ++ [x] }) d
    match old with
    | some x =>
      if seq = (x.seq + 1) % 4294967296 ∧ x.sender = sender then
        let x := { x with seq, count := x.count + 1 }
        if 8 ≤ x.count then ([batchBytes d x], dropBatch s path d) else ([], put x d)
      else ([batchBytes d x], put ⟨s, path, seq, 1, now d, sender⟩ d)
    | none => ([], put ⟨s, path, seq, 1, now d, sender⟩ d)

/-- One record that arrives on a path: the acknowledgements that go out now. -/
def csqRecord (path : Nat) (sender : Sender) (b : List Byte) (d : Dev) : List (List Byte) × Dev :=
  if crc16 (b.take 14) ≠ le16 b 14 then ([], raise Src.CSQ_CRC 0 (incFld CSQ_CRC_CNT 15 0 d))
  else
    let src := byteAt b 0
    let refuse (result : Nat) (d : Dev) : List (List Byte) × Dev :=
      ([ackBytes src result (recSeq b) 0 1], countResult result none d)
    match slotOf d src with
    | none => refuse 4 d
    | some s =>
      if !flag d (CSQ_SRCs_CFG s) (8 + path) then refuse 4 d
      else
        let a := byteAt b 1 / 16
        let (result, d) :=
          if slotState d s = 2 then (7, d)
          else if !recLegal d b then (3, d)
          else if fld d (CSQ_AXa_SRC a) 3 0 ≠ s ∨ flag d (CSQ_AXa_SRC a) 31 then (5, d)
          else csqSequence s path b d
        answer s path src result (recSeq b) sender (countResult result (some s) d)

/-- Acknowledgements go out on the path and to the sender (R412, R443, R486). -/
def sendAcks (path : Nat) (sender : Sender) (acks : List (List Byte)) (d : Dev) : Dev :=
  if path < 4 then acks.foldl (fun d b => canAck path b d) d
  else if acks.isEmpty then d
  else udpSend (path - 4) 47860 (fld d (ETHn_VLAN (path - 4)) 10 8) sender acks.flatten d

/-- A record that arrives alone (R412–R415). After PWRFAIL_N has fallen nothing is taken (R13). -/
def axisCommand (path : Nat) (sender : Sender) (b : List Byte) (d : Dev) : Dev :=
  if pwrDown d then d
  else
    let (acks, d) := csqRecord path sender b d
    sendAcks path sender acks d

/-- The records of a datagram in order: their acknowledgements. -/
def datagramRecords (path : Nat) (sender : Sender) : List (List Byte) → Dev → List (List Byte) × Dev
  | [], d => ([], d)
  | b :: r, d =>
    let (x, d) := csqRecord path sender b d
    let (y, d) := datagramRecords path sender r d
    (x ++ y, d)

/-- A datagram to port 47860 on MAC `n` (R409). -/
def csqDatagram (n : Nat) (sender : Sender) (p : List Byte) (d : Dev) : Dev :=
  if pwrDown d then d
  else if p.length % 16 ≠ 0 ∨ p.length < 16 ∨ 128 < p.length then
    let d := incFld CSQ_LEN_CNT 15 0 d
    let d := journal 0x04 0x0A ([8, BitVec.ofNat 8 (4 + n)] ++ toLe32 p.length) d
    sendAcks (4 + n) sender [ackBytes 0xFF 8 0 0 1] d
  else
    let (acks, d) := datagramRecords (4 + n) sender ((List.range (p.length / 16)).map (fun k => slice p (16 * k) 16)) d
    sendAcks (4 + n) sender acks d

/-- BATCHT after the first ACK of a batch it is sent (R413). -/
def batchTimeout (s path : Nat) (d : Dev) : Dev :=
  match batchOf d s path with
  | some x =>
    if elapsed d x.since (fld d CSQ_CTRL 9 0 * usTicks) && !pwrDown d then
      sendAcks path x.sender [batchBytes d x] (dropBatch s path d)
    else d
  | none => d

/-- Records have been held for GAPTIME without any application (R415); DETAIL is the slot. -/
def gapStall (s : Nat) (d : Dev) : Dev :=
  let x := csqSlot d s
  if !x.held.isEmpty && !x.stalled && elapsed d x.heldFrom (fld d CSQ_CTRL 31 16 * msTicks) then
    raise Src.CSQ_GAP_STALL s (modSlot s (fun x => { x with stalled := true }) d)
  else d

/-- A write to `CSQ_SRCs_LAST` (R414): true where it gets an error response. Records held before are dropped. -/
def setLast (s : Nat) (v : Word) (d : Dev) : Bool × Dev :=
  if slotState d s = 1 then (true, d)
  else (false, setSlotState s 1 (modSlot s (fun x => { x with held := [], stalled := false }) (wr (CSQ_SRCs_LAST s) v d)))

/-! ## Power failure and restore (R12, R418) -/

/-- The state that a flush image and the retention SRAM hold. -/
def csqImage (d : Dev) : FlushImage :=
  { states := (List.range 16).map (slotState d), lasts := (List.range 16).map (fun s => rd d (CSQ_SRCs_LAST s)),
    slots := d.csq.slots.toList, applied := d.csq.applied.toList, seqs := (List.range 4).map (fun a => rd d (CSQ_AXa_LAST a)),
    overlay := d.cte.overlay, version := d.cte.version }

/-- The sequence state, the held records, the last applied records and the overlay come from an image; the last applied
records go back into the command signals. -/
def csqLoad (im : FlushImage) (d : Dev) : Dev :=
  let d := forEach (List.range 16) (fun s d =>
    let x : CsqSlot := listGet {} im.slots s
    modSlot s (fun _ => { x with heldFrom := now d, stalled := false })
      (setSlotState s (listGet 0 im.states s) (wr (CSQ_SRCs_LAST s) (listGet 0 im.lasts s) d))) d
  let d := forEach (List.range 4) (fun a d =>
    let r := listGet none im.applied a
    let d := wr (CSQ_AXa_LAST a) (listGet 0 im.seqs a) d
    let d := modCsq (fun c => { c with applied := vset c.applied a r, appliedAt := vset c.appliedAt a (now d) }) d
    match r with | some b => putCmd a (recCmd b) d | none => d) d
  { d with cte := { d.cte with overlay := im.overlay, version := im.version } }

/-- The slot of the flush area that the next flush uses, and its EPOCH. -/
def nextFlush (d : Dev) : Nat × Nat :=
  let best := (List.range 8).foldl (fun (acc : Option (Nat × Nat)) k =>
    let x := vget d.csq.flush k
    if !x.started then acc
    else match acc with
      | some (_, e) => if e < x.epoch then some (k, x.epoch) else acc
      | none => some (k, x.epoch)) none
  match best with
  | some (k, e) => ((k + 1) % 8, e + 1)
  | none => (0, 1)

/-- PWRFAIL_N falls (R13, R418, R514): acknowledgement stops, and the flush starts once the processors run. -/
def pwrfailFall (d : Dev) : Dev :=
  if !pwrDown d then
    let d := raise Src.SYS_PWRFAIL 0 (incFld SYS_PWRFAIL 31 16 (setFlag SYS_PWRFAIL 1 true (setFlag SYS_PWRFAIL 0 false d)))
    let d := setFlag CSQ_STATUS 8 true d
    if (d.phase = .programmed ∨ d.phase = .running) ∧ d.csq.flushing.isNone then
      let (_, d) := stateRead d
      let (k, e) := nextFlush d
      let x : FlushSlot := { epoch := e, started := true, image := csqImage d }
      modCsq (fun c => { c with flush := vset c.flush k x, flushing := some k }) d
    else d
  else d

/-- COMPLETE is written (R418). -/
def flushDone (d : Dev) : Dev :=
  match d.csq.flushing with
  | some k => modCsq (fun c => { c with flushing := none, flush := vset c.flush k { (vget c.flush k) with complete := true } }) d
  | none => d

/-- PWRFAIL_N rises (R418): operation resumes; a flush under way still completes. -/
def pwrfailRise (d : Dev) : Dev := setFlag CSQ_STATUS 8 false (setFlag SYS_PWRFAIL 0 true d)

/-- The restore at power-on (R418). -/
def csqRestore (d : Dev) : Dev :=
  let best := (nextFlush d).1
  let k := (best + 7) % 8
  let x := vget d.csq.flush k
  if !d.csq.flush.toList.any (fun y => y.started) then setFld CSQ_STATUS 2 0 0 d
  else if x.complete ∧ x.consumed = false then
    let d := modCsq (fun c => { c with flush := vset c.flush k { x with consumed := true } }) d
    setFld CSQ_STATUS 2 0 2 (csqLoad x.image d)
  else
    let d := forEach (List.range 16) slotResync d
    { (setFld CSQ_STATUS 2 0 3 d) with cfg := { d.cfg with startRaise := d.cfg.startRaise ++ [(Src.CSQ_FLUSH_STALE, 0)] } }

/-- The retained state of a warm reset is read (R417, R418). What the copies' check raises waits for FCR's map. -/
def csqRetain (im : FlushImage) (d : Dev) : Dev :=
  let d := setFld CSQ_STATUS 2 0 1 (csqLoad im d)
  let (_, e) := stateRead { d with raised := [] }
  { e with raised := d.raised,
           cfg := { e.cfg with startRaise := e.cfg.startRaise ++ e.raised.map (fun r => (r.source, r.detail)) } }

/-! ## Command timeout and CMD_IN (R419–R421) -/

/-- SP of R420 from the measured X. -/
def cmdSp (d : Dev) (x : Nat) : Int :=
  let lo : Int := (fld d CMD_XLO 19 0 : Int)
  let hi : Int := (fld d CMD_XHI 19 0 : Int)
  let outHi := sfld d CMD_OUT 31 16
  let outLo := sfld d CMD_OUT 15 0
  let c := clampInt lo hi (x : Int)
  if hi ≤ lo then outLo else outLo + roundDiv ((c - lo) * (outHi - outLo)) (hi - lo)

/-- Is the measured X valid (R419, R420)? `inRange` says that a period has ended in time and lies in its range. -/
def cmdValid (d : Dev) (x : Nat) (inRange : Bool) : Bool :=
  let inMode := match fld d CMD_CFG 1 0 with
    | 0 => decide (x ≤ 3000)
    | 1 => decide (x ≤ 32768)
    | _ => decide (10 ≤ x ∧ x ≤ 500000)
  inRange && inMode && decide (fld d CMD_LOSSLO 19 0 ≤ x ∧ x ≤ fld d CMD_LOSSHI 19 0)

/-- Does CMD_IN serve axis `a` (R421)? -/
def onCmdIn (d : Dev) (a : Nat) : Bool := axisInUse d a && flag d (CSQ_AXa_SRC a) 31

/-- The command signals of axis `a` in limp home, with setpoint `sp` (R421). -/
def limpCmd (d : Dev) (a : Nat) (sp : Int) : AxisCmd :=
  { mode := fld d (CSQ_AXa_LIMP0 a) 19 16, setpoint := sp, posLim := sfld d (CSQ_AXa_LIMP1 a) 31 16,
    negLim := sfld d (CSQ_AXa_LIMP1 a) 15 0, ramp := fld d (CSQ_AXa_LIMP0 a) 15 0, cmdIn := true }

/-- The difference of R420 on axis `a`, while a bus slot serves it. -/
def cmdPlaus (a : Nat) (valid : Bool) (d : Dev) : Dev :=
  let sp := sfld d CMD_SP 15 0
  let out := flag d CMD_CFG (8 + a) && axisInUse d a && !onCmdIn d a && valid
    && decide (fld d CMD_PTOL 15 0 < (sp - (vget d.cmds a).setpoint).natAbs)
  let n := if out then vget d.csq.plausRun a + 1 else 0
  let d := modCsq (fun c => { c with plausRun := vset c.plausRun a n }) d
  if n ≠ 0 ∧ n = fld d CMD_TIME 31 16 then raise Src.CMD_PLAUS 0 (setFlag CMD_STATUS 1 true d) else d

/-- One evaluation of CMD_IN (R419–R421), each 1 ms. -/
def cmdStep (x : Nat) (inRange : Bool) (d : Dev) : Dev :=
  if !flag d CMD_CFG 31 then d
  else
    let valid := cmdValid d x inRange
    let d := wr CMD_X (setBit (wordOf (x % 1048576)) 31 valid) d
    let d := if valid then wr CMD_SP (wordOf (unsigned 16 (cmdSp d x))) d else d
    let n := if valid then 0 else d.csq.lossRun + 1
    let d := modCsq (fun c => { c with lossRun := n }) d
    let served := idxWhere 4 (onCmdIn d)
    let lost := decide (fld d CMD_TIME 15 0 ≤ n)
    let d := if n ≠ 0 ∧ n = fld d CMD_TIME 15 0 then
        let d := raise Src.CMD_LOSS 0 (setFlag CMD_STATUS 0 true d)
        forEach served (fun a d => raise Src.CMD_LOSS_ACTIVE a d) d
      else d
    let d := forEach served (fun a d => putCmd a (limpCmd d a (if lost then 0 else sfld d CMD_SP 15 0)) d) d
    forEach [0, 1, 2, 3] (fun a d => cmdPlaus a valid d) d

/-- A command source change is journalled (R430): the axis, and the new SEL and SLOT. -/
def journalSource (a : Nat) (d : Dev) : Dev :=
  journal 0x06 0x0A [BitVec.ofNat 8 a, BitVec.ofNat 8 (fld d (CSQ_AXa_SRC a) 31 31), BitVec.ofNat 8 (fld d (CSQ_AXa_SRC a) 3 0)] d

/-- No record has been applied to axis `a` for TIMEOUT (R421). -/
def cmdTimeout (a : Nat) (d : Dev) : Dev :=
  let t := fld d (CSQ_AXa_SRC a) 23 8
  if axisInUse d a && decide (t ≠ 0) && !onCmdIn d a && elapsed d (vget d.csq.appliedAt a) (t * msTicks) then
    let was := d.csq.late.getLsbD a
    let d := if was then d else raise Src.CSQ_CMD_TIMEOUT a
      (modCsq (fun c => { c with late := c.late ||| BitVec.ofNat 4 (2 ^ a) }) d)
    if flag d (CSQ_AXa_SRC a) 30 && flag d CMD_CFG (8 + a) && flag d CMD_CFG 31 && flag d CMD_X 31 then
      let d := journalSource a (setFlag (CSQ_AXa_SRC a) 31 true d)
      let d := raise Src.CMD_LIMP a (setFlag CMD_STATUS 2 true d)
      putCmd a (limpCmd d a (sfld d CMD_SP 15 0)) d
    else d
  else d

/-! ## Register writes -/

/-- The rules over several registers of CSQ and CMD (R411, R438): no two enabled slots with one ID, XLO below XHI. -/
def csqCheck (d1 : Dev) (a : Nat) : Option CheckFail :=
  if CSQ_SRCs_CFG 0 ≤ a ∧ a ≤ CSQ_SRCs_CFG 15 then
    let s := (a - CSQ_SRCs_CFG 0) / 0x10
    failUnless (!(flag d1 a 31 && (List.range 16).any (fun k => decide (k ≠ s) && flag d1 (CSQ_SRCs_CFG k) 31 &&
      decide (fld d1 (CSQ_SRCs_CFG k) 7 0 = fld d1 a 7 0)))) failRange
  else if a = CMD_XLO ∨ a = CMD_XHI then failUnless (decide (fld d1 CMD_XLO 19 0 < fld d1 CMD_XHI 19 0)) failRange
  else none

/-- The store of `CSQ_AXa_SRC` (R421): only a committed write of SEL = 0 returns the axis to the bus. -/
def csqSource (a : Nat) (v : Word) (committed : Bool) (d : Dev) : Dev :=
  let old := rd d (CSQ_AXa_SRC a)
  let v := if bit old 31 && !bit v 31 && !committed then setBit v 31 true else v
  let d := storePlain (CSQ_AXa_SRC a) v d
  let new := rd d (CSQ_AXa_SRC a)
  if bit old 31 ≠ bit new 31 ∨ bits old 3 0 ≠ bits new 3 0 then
    let d := modCsq (fun c => { c with appliedAt := vset c.appliedAt a (now d), late := c.late &&& ~~~(BitVec.ofNat 4 (2 ^ a)) }) d
    journalSource a d
  else d

end Sys2Proof.Machine
end

