-- ==== Sys2Proof/Machine/CanCore.lean ====
section
/-! DEFINITION. The CAN FD controllers (R471–R489): transmit buffers and arbitration, error states and bus-off, filters and
the receive FIFO, the path to CSQ, the rules of bit timing. -/

namespace Sys2Proof.Machine

open Reg

/-- STATE of transmit buffer `b`: 0 EMPTY, 1 PENDING, 2 SENT, 3 SENT_CANCEL_LATE, 4 CANCELLED, 5 FAILED, 6 FLUSHED. -/
def txState (d : Dev) (c b : Nat) : Nat := fld d (CAN_TXBb_STATUS c b) 2 0

/-- Set STATE of transmit buffer `b`. -/
def setTxState (c b v : Nat) (d : Dev) : Dev := setFld (CAN_TXBb_STATUS c b) 2 0 v d

/-- Transmit buffer `b` of controller `c` beside its registers. -/
def canBuf (d : Dev) (c b : Nat) : CanBuf := vget (canOf d c).bufs b

/-- The same, changed by `f`. -/
def modBuf (c b : Nat) (f : CanBuf → CanBuf) (d : Dev) : Dev :=
  modCan c (fun x => { x with bufs := vset x.bufs b (f (vget x.bufs b)) }) d

/-! ## Requests (R475, R478) -/

/-- May the contents of buffer `b` be sent (R475)? -/
def goLegal (d : Dev) (c b : Nat) : Bool :=
  let w := rd d (CAN_TXBb_CTRL c b)
  if bit w 10 then !bit w 9 else decide (bits w 3 0 ≤ 8)

/-- GO of buffer `b`: true where it gets an error response. -/
def canGo (c b : Nat) (d : Dev) : Bool × Dev :=
  if txState d c b = 1 ∨ goLegal d c b = false then (true, d)
  else (false, modBuf c b (fun _ => {}) (wr (CAN_TXBb_STATUS c b) 1 d))

/-- CANCEL of buffer `b` (R478). -/
def canCancel (c b : Nat) (d : Dev) : Dev :=
  if txState d c b ≠ 1 then d
  else if (canOf d c).cur = some b then modBuf c b (fun x => { x with cancel := true }) d
  else setTxState c b 4 d

/-- A write of `v` to `CAN_TXBb_REQ`: true where it gets an error response. -/
def canReq (c b : Nat) (v : Word) (d : Dev) : Bool × Dev :=
  let (bad, d) := if bit v 0 then canGo c b d else (false, d)
  (bad, if bit v 1 then canCancel c b d else d)

/-- Every PENDING buffer becomes FLUSHED (R480, R481). -/
def canFlush (c : Nat) (d : Dev) : Dev :=
  forEach [0, 1, 2] (fun b d => if txState d c b = 1 then setTxState c b 6 d else d) d

/-! ## Arbitration (R476) -/

/-- The arbitration key: the bits in the order in which they meet on the bus; the lower goes first. -/
def arbKey (ide : Bool) (id : Nat) (rtr : Bool) : Nat :=
  let base := id / 262144
  if ide then base * 2097152 + 1572864 + id % 262144 * 2 + b2n rtr else base * 2097152 + b2n rtr * 1048576

/-- The key of buffer `b`. -/
def bufKey (d : Dev) (c b : Nat) : Nat :=
  let w := rd d (CAN_TXBb_ID c b)
  arbKey (bit w 31) (bits w 28 0) (flag d (CAN_TXBb_CTRL c b) 9)

/-- The key of CSQ's slot. -/
def ackKey (d : Dev) (c : Nat) : Nat := arbKey (flag d (CAN_CSQACK c) 30) (fld d (CAN_CSQACK c) 28 0) false

/-- The buffer that PRIO selects among the PENDING ones. -/
def candidate (d : Dev) (c : Nat) : Option Nat :=
  let p := idxWhere 3 (fun b => decide (txState d c b = 1))
  if flag d (CAN_CTRL c) 0 then p.head?
  else p.foldl (fun acc b => match acc with
    | none => some b
    | some x => if bufKey d c b < bufKey d c x then some b else some x) none

/-- What enters arbitration: a buffer, or 3 for CSQ's slot. -/
def nextAttempt (d : Dev) (c : Nat) : Option Nat :=
  let ack := flag d (CAN_CSQACK c) 31 && !(canOf d c).acks.isEmpty
  match candidate d c with
  | some b => if ack && decide (ackKey d c < bufKey d c b) then some 3 else some b
  | none => if ack then some 3 else none

/-- The bus becomes free (R476): one frame enters arbitration. -/
def arbitrate (c : Nat) (d : Dev) : Dev :=
  let x := canOf d c
  if !x.joined || x.leaving || x.cur.isSome || flag d (CAN_STATUS c) 2 || decide (fld d (CAN_CTRL c) 29 28 = 1) then d
  else match nextAttempt d c with
    | none => d
    | some b =>
      let d := modCan c (fun x => { x with cur := some b, sof := now d }) d
      if b < 3 then modBuf c b (fun x => { x with tried := x.tried + 1 }) (incFld (CAN_TXBb_STATUS c b) 11 8 d) else d

/-! ## Error states (R479, R480) -/

/-- The error counters take the values that ISO 11898-1 gives them; error passive and bus-off follow. -/
def setErrors (c tec rec_ : Nat) (d : Dev) : Dev :=
  let wasPassive := flag d (CAN_STATUS c) 1
  let wasOff := flag d (CAN_STATUS c) 2
  let d := setFld (CAN_ERRCNT c) 23 16 (Nat.min 255 rec_) (setFld (CAN_ERRCNT c) 8 0 (Nat.min 511 tec) d)
  let passive := decide (128 ≤ tec ∨ 128 ≤ rec_)
  let d := setFlag (CAN_STATUS c) 0 (decide (96 ≤ tec ∨ 96 ≤ rec_)) (setFlag (CAN_STATUS c) 1 passive d)
  let d := if passive && !wasPassive then raise Src.CAN_ERR_PASSIVE c d else d
  if 255 < tec ∧ wasOff = false then
    let d := raise Src.CAN_BUSOFF c (setFlag (CAN_STATUS c) 9 true (setFlag (CAN_STATUS c) 2 true d))
    let d := if flag d (CAN_CTRL c) 2 then canFlush c d else d
    if flag d (CAN_CTRL c) 1 then setFlag (CAN_STATUS c) 3 true d else d
  else d

/-- A write to `CAN_BO_RECOV` (R480): true where it gets an error response. -/
def boRecover (c : Nat) (v : Word) (d : Dev) : Bool × Dev :=
  if bit v 0 then
    if flag d (CAN_STATUS c) 2 then (false, setFlag (CAN_STATUS c) 3 true d) else (true, d)
  else (false, d)

/-- Recovery ends (R480). -/
def boRecovered (c : Nat) (d : Dev) : Dev :=
  if flag d (CAN_STATUS c) 2 && flag d (CAN_STATUS c) 3 then
    setFld (CAN_STATUS c) 3 0 0 (wr (CAN_ERRCNT c) 0 d)
  else d

/-! ## Reception (R482–R485) -/

/-- Does filter `f` match a frame? -/
def filterMatch (d : Dev) (c f : Nat) (fr : CanFrame) : Bool :=
  let w := rd d (CAN_FLTf_ID c f)
  let m := fld d (CAN_FLTf_MASK c f) 28 0
  let x := ((fr.id.toNat ^^^ bits w 28 0) &&& m)
  bit w 31 && decide (bit w 30 = fr.ide) && decide ((if fr.ide then x else x / 262144) = 0)

/-- Write a frame into FIFO slot `s`. -/
def fifoStore (c s filter : Nat) (fr : CanFrame) (sof : Nat) (d : Dev) : Dev :=
  let wc := (fld d (CAN_RXs_CTRL c s) 30 28 + 1) % 8
  let id := setBit (wordOf (if fr.ide then fr.id.toNat else fr.id.toNat / 262144 * 262144)) 31 fr.ide
  let d := forEach (List.range 16) (fun k d => wr (CAN_RXs_DATA c s k) (wordOf (le32 fr.data (4 * k))) d) d
  let d := wr (CAN_RXs_TS_HI c s) (if featureOn d 1 then wordOf (sof / 4294967296) else 0) (wr (CAN_RXs_TS_LO c s) (wordOf sof) d)
  let d := wr (CAN_RXs_ID c s) id d
  let w := setBits (setBits (setBit 0 31 true) 30 28 wc) 22 16 filter
  let w := setBit (setBit (setBit (setBit w 12 fr.esi) 11 fr.brs) 10 fr.fdf) 9 fr.rtr
  wr (CAN_RXs_CTRL c s) (setBits w 3 0 fr.dlc.toNat) d

/-- A frame goes to the receive FIFO (R483). -/
def fifoPut (c filter : Nat) (fr : CanFrame) (sof : Nat) (d : Dev) : Dev :=
  let g := fld d (CAN_RXF_STATUS c) 21 16
  let n := fld d (CAN_RXF_STATUS c) 6 0
  if n < 64 then setFld (CAN_RXF_STATUS c) 6 0 (n + 1) (fifoStore c ((g + n) % 64) filter fr sof d)
  else
    let d := raise Src.CAN_RXOVF c (setFlag (CAN_STATUS c) 8 true (incFld (CAN_RXF_STATUS c) 31 24 d))
    if flag d (CAN_RXF_CFG c) 1 then setFld (CAN_RXF_STATUS c) 21 16 ((g + 1) % 64) (fifoStore c g filter fr sof d) else d

/-- A frame is passed to CSQ (R485). -/
def canToCsq (c : Nat) (fr : CanFrame) (d : Dev) : Dev :=
  if fr.fdf ∧ fr.dlc = 10 ∧ fr.data.length = 16 then axisCommand c { ip := 0, port := 0, mac := 0 } fr.data d
  else raise Src.CAN_CSQ_DROP c (incFld (CAN_CSQ_DROP c) 15 0 d)

/-- A received frame is filtered and goes where its ACTION says (R482). -/
def canAccept (c : Nat) (fr : CanFrame) (sof : Nat) (d : Dev) : Dev :=
  match (List.range 128).find? (fun f => filterMatch d c f fr) with
  | none => if flag d (CAN_RXF_CFG c) 0 then fifoPut c 0 fr sof d else d
  | some f =>
    let act := fld d (CAN_FLTf_MASK c f) 31 30
    let d := if act = 1 ∨ act = 3 then fifoPut c f fr sof d else d
    if act = 2 ∨ act = 3 then canToCsq c fr d else d

/-- A frame from the bus (R471, R482): with FD = 0 an FD frame is a form error and is not received. -/
def canReceive (c : Nat) (fr : CanFrame) (sof tec rec_ : Nat) (d : Dev) : Dev :=
  if !(canOf d c).joined || flag d (CAN_STATUS c) 2 || decide (fld d (CAN_CTRL c) 29 28 = 2) then d
  else
    let d := setErrors c tec rec_ d
    if fr.fdf && !flag d (CAN_CTRL c) 30 then d else canAccept c fr sof d

/-- A write to `CAN_RXF_POP` (R484): true where it gets an error response. -/
def fifoPopCan (c : Nat) (v : Word) (d : Dev) : Bool × Dev :=
  let g := fld d (CAN_RXF_STATUS c) 21 16
  let n := fld d (CAN_RXF_STATUS c) 6 0
  if bits v 5 0 ≠ g ∨ n = 0 then (true, d)
  else (false, setFld (CAN_RXF_STATUS c) 21 16 ((g + 1) % 64) (setFld (CAN_RXF_STATUS c) 6 0 (n - 1)
    (setFlag (CAN_RXs_CTRL c g) 31 false d)))

/-! ## The end of an attempt (R477, R478) -/

/-- Bytes that a DLC stands for. -/
def dlcBytes (fdf : Bool) (dlc : Nat) : Nat :=
  if dlc ≤ 8 then dlc
  else if !fdf then 8
  else match dlc with | 9 => 12 | 10 => 16 | 11 => 20 | 12 => 24 | 13 => 32 | 14 => 48 | _ => 64

/-- The frame in buffer `b`, or the acknowledgement in CSQ's slot. -/
def attemptFrame (d : Dev) (c b : Nat) : CanFrame :=
  if b < 3 then
    let i := rd d (CAN_TXBb_ID c b)
    let w := rd d (CAN_TXBb_CTRL c b)
    let data := (List.range 16).flatMap (fun k => toLe32 (rd d (CAN_TXBb_DATA c b k)).toNat)
    { ide := bit i 31, id := BitVec.ofNat 29 (bits i 28 0), fdf := bit w 10, brs := bit w 11, rtr := bit w 9, esi := false,
      dlc := BitVec.ofNat 4 (bits w 3 0), data := data.take (dlcBytes (bit w 10) (bits w 3 0)) }
  else
    let w := rd d (CAN_CSQACK c)
    { ide := bit w 30, id := BitVec.ofNat 29 (bits w 28 0), fdf := true, brs := bit w 29, rtr := false, esi := false, dlc := 10,
      data := match (canOf d c).acks with | x :: _ => x | [] => [] }

/-- Buffer `b`'s attempt has failed: CANCELLED, FAILED, or another attempt to come. -/
def attemptFailed (c b : Nat) (d : Dev) : Dev :=
  let x := canBuf d c b
  let r := fld d (CAN_CTRL c) 11 8
  if x.cancel then setTxState c b 4 (modBuf c b (fun x => { x with cancel := false }) d)
  else if r ≠ 0 ∧ r + 1 ≤ x.tried then raise Src.CAN_TX_FAIL c (setTxState c b 5 d)
  else d

/-- An attempt ends (R473, R477–R479). A measured transmitter delay above 127 controller clocks is a bit error. -/
def attemptEnd (c : Nat) (result : CanResult) (tec rec_ delay : Nat) (d : Dev) : Dev :=
  match (canOf d c).cur with
  | none => d
  | some b =>
    let fr := attemptFrame d c b
    let sof := (canOf d c).sof
    let tdc := fr.fdf && flag d (CAN_TDC c) 31
    let d := if tdc then setFld (CAN_TDC c) 22 16 (Nat.min 127 delay) d else d
    let ok := decide (result = .sent) && !(tdc && decide (127 < delay))
    let d := modCan c (fun x => { x with cur := none }) d
    let d := if b < 3 then
        (if ok then setTxState c b (if (canBuf d c b).cancel then 3 else 2) d else attemptFailed c b d)
      else if ok then modCan c (fun x => { x with acks := x.acks.drop 1 }) d else d
    let d := setErrors c tec rec_ d
    if ok && decide (fld d (CAN_CTRL c) 29 28 = 2) then canAccept c fr sof d else d

/-! ## EN (R481) -/

/-- EN = 0 takes effect: every PENDING buffer is flushed. -/
def canDisableNow (c : Nat) (d : Dev) : Dev :=
  let x := canOf d c
  if x.leaving && x.cur.isNone then canFlush c (modCan c (fun x => { x with leaving := false, joined := false }) d) else d

/-- The controller joins the bus. -/
def canJoin (c : Nat) (d : Dev) : Dev :=
  if flag d (CAN_CTRL c) 31 then modCan c (fun x => { x with joined := true }) d else d

/-- The store of `CAN_CTRL`. -/
def canCtrl (c : Nat) (v : Word) (d : Dev) : Dev :=
  let was := flag d (CAN_CTRL c) 31
  let d := storePlain (CAN_CTRL c) v d
  let is := flag d (CAN_CTRL c) 31
  modCan c (fun x => { x with leaving := if is then false else x.leaving || was }) d

/-! ## Checks (R472–R475) -/

/-- The nominal rate's period, in controller clocks per bit. -/
def nominalBit (d : Dev) (c : Nat) : Nat :=
  let w := rd d (CAN_NBT c)
  (bits w 31 23 + 1) * (3 + bits w 22 15 + bits w 14 8)

/-- The data rate's period, in controller clocks per bit. -/
def dataBit (d : Dev) (c : Nat) : Nat :=
  let w := rd d (CAN_DBT c)
  (bits w 28 24 + 1) * (3 + bits w 20 16 + bits w 11 8)

/-- The rules of bit timing (R472–R474). -/
def timingOk (d : Dev) (c : Nat) : Bool :=
  let n := rd d (CAN_NBT c)
  let x := rd d (CAN_DBT c)
  let nb := nominalBit d c
  let db := dataBit d c
  decide (bits n 31 23 ≤ 255) && decide (1 ≤ bits n 22 15) && decide (1 ≤ bits n 14 8) && decide (bits n 6 0 ≤ bits n 14 8)
    && decide (bits x 3 0 ≤ bits x 11 8) && decide (80 ≤ nb) && decide (10 ≤ db) && decide (db ≤ nb)
    && (flag d (CAN_TDC c) 31 || decide (80 ≤ db)) && (!flag d (CAN_CTRL c) 12 || decide (320 ≤ nb))

/-- The rules over several registers for a write of the register at `a` of controller `c`. -/
def canCheck (d0 d1 : Dev) (a : Nat) : Option CheckFail :=
  let c := (a - CAN_CTRL 0) / 0x10000
  if a = CAN_NBT c ∨ a = CAN_DBT c ∨ a = CAN_TDC c then
    failUnless (timingOk d1 c && !(flag d0 (CAN_CTRL c) 31 && flag d1 (CAN_CTRL c) 31)) failRange
  else if a = CAN_CTRL c then failUnless (!flag d1 a 31 || timingOk d1 c) failRange
  else none

/-- Is the register at `a` of a transmit buffer that is PENDING, whose contents may not be written (R475)? -/
def txLocked (d : Dev) (a : Nat) : Bool :=
  let c := (a - CAN_CTRL 0) / 0x10000
  let o := (a - CAN_CTRL 0) % 0x10000
  decide (c < 4 ∧ 0x100 ≤ o ∧ o < 0x220) &&
    (let b := (o - 0x100) / 0x60
     let r := (o - 0x100) % 0x60
     decide (txState d c b = 1) && decide (r = 0 ∨ r = 4 ∨ 0x20 ≤ r))

end Sys2Proof.Machine
end

