-- ==== Sys2Proof/Machine/TrcCore.lean ====
section
/-! DEFINITION. Telemetry (R457–R465): datagrams, subscriptions and leases, credit, records, the local ring. -/

namespace Sys2Proof.Machine

open Reg

/-- Subscription `s` beside its registers. -/
def sub (d : Dev) (s : Nat) : Subscription := if h : s < 32 then d.trc.subs[s] else {}

/-- Subscription `s` changed by `f`. -/
def modSub (s : Nat) (f : Subscription → Subscription) (d : Dev) : Dev :=
  { d with trc := { d.trc with subs := vset d.trc.subs s (f (sub d s)) } }

/-- Is index `s` in use? -/
def subActive (d : Dev) (s : Nat) : Bool := flag d (TRC_SUBs_STATE s) 31

/-- STREAMS of subscription `s`. -/
def subStreams (d : Dev) (s : Nat) (k : Nat) : Bool := subActive d s && flag d (TRC_SUBs_STATE s) k

/-- `TRC_STATUS.ACTIVE` shows the number of subscriptions. -/
def showActive (d : Dev) : Dev := setFld TRC_STATUS 5 0 (idxWhere 32 (subActive d)).length d

/-- One MTS datagram is dropped and counted (R457). -/
def trcDrop (d : Dev) : Dev := incFld TRC_DROP_CNT 15 0 d

/-- The header of a datagram that the device sends (R457). -/
def mtsHeader (type s seq : Nat) : List Byte := [1, BitVec.ofNat 8 type, BitVec.ofNat 8 s, 0] ++ toLe32 seq

/-- TRC sends a datagram on MAC `n` (R443). -/
def mtsSend (n : Nat) (dest : Sender) (p : List Byte) (d : Dev) : Dev :=
  udpSend n (fld d TRC_CFG 15 0) (fld d TRC_CFG 18 16) dest p d

/-! ## The end of a subscription (R459) -/

/-- Subscription `s` ends with END and a REASON: 1 LEASE, 2 CLIENT, 3 REPLACED, 4 DISABLED. -/
def endSub (s reason : Nat) (d : Dev) : Dev :=
  if subActive d s then
    let x := sub d s
    let d := mtsSend (fld d (TRC_SUBs_STATE s) 30 30) x.sender
      (mtsHeader 0x84 s 0 ++ toLe32 x.nonce.toNat ++ [BitVec.ofNat 8 reason, 0, 0, 0]) d
    let d := modSub s (fun x => { x with buffer := [], gap := 0, shedding := false, ended := true }) d
    showActive (wr (TRC_SUBs_LEASE s) 0 (wr (TRC_SUBs_STATE s) 0 d))
  else d

/-- Has the lease of subscription `s` run out? -/
def leaseOver (d : Dev) (s : Nat) : Bool := subActive d s && elapsed d (sub d s).since (2000 * msTicks)

/-- A lease that has run out ends its subscription. -/
def leaseExpire (s : Nat) (d : Dev) : Dev := if leaseOver d s then endSub s 1 d else d

/-- Expiries of the tick are handled before a SUBSCRIBE or GRANT (R459). -/
def expireAll (d : Dev) : Dev := forEach (List.range 32) leaseExpire d

/-- Every subscription ends with DISABLED, at TRC EN = 0. -/
def endAll (d : Dev) : Dev := forEach (List.range 32) (fun s d => endSub s 4 d) d

/-- A write to `TRC_SUBs_END`: true where it gets an error response. -/
def subEndWrite (s : Nat) (v : Word) (d : Dev) : Bool × Dev :=
  if !subActive d s then (true, d) else (false, if bit v 0 then endSub s 4 d else d)

/-- The subscriptions whose buffer TRC no longer owns end at the commit boundary (R459). -/
def subOwners (d : Dev) : Dev :=
  forEach (List.range 32) (fun s d => if subActive d s && decide (ownerOf d 0x0D s ≠ 0x22) then endSub s 4 d else d) d

/-- LEASE of subscription `s` as a read shows it: the time that remains, in ms (R470). -/
def leaseLeft (d : Dev) (s : Nat) : Nat :=
  if subActive d s then (2000 * msTicks - (now d - (sub d s).since)) / msTicks else 0

/-! ## Messages of the clients (R457–R460) -/

/-- Does a subscription with this sender exist? -/
def subOfSender (d : Dev) (dest : Sender) : Option Nat :=
  (List.range 32).find? (fun s => subActive d s && decide ((sub d s).sender.ip = dest.ip ∧ (sub d s).sender.port = dest.port))

/-- The STREAMS value names no reserved bit and no axis that is not in use. -/
def streamsOk (d : Dev) (v : Nat) : Bool := decide (v < 64) && (List.range 4).all (fun a => !v.testBit a || axisInUse d a)

/-- REFUSE (R457). -/
def mtsRefuse (n reason nonce : Nat) (dest : Sender) (d : Dev) : Dev :=
  mtsSend n dest (mtsHeader 0x82 0 0 ++ toLe32 nonce ++ [BitVec.ofNat 8 reason, 0, 0, 0]) d

/-- SUBSCRIBE (R458). -/
def mtsSubscribe (n : Nat) (dest : Sender) (p : List Byte) (d : Dev) : Dev :=
  let d := expireAll d
  let d := match subOfSender d dest with | some s => endSub s 3 d | none => d
  let streams := le32 p 8
  let nonce := le32 p 12
  if !streamsOk d streams then mtsRefuse n 2 nonce dest d
  else match (List.range 32).find? (fun s => !subActive d s && decide (ownerOf d 0x0D s = 0x22)) with
  | none => mtsRefuse n 1 nonce dest d
  | some s =>
    let d := modSub s (fun _ => { nonce := wordOf nonce, sender := dest, since := now d }) d
    let d := wr (TRC_SUBs_STATE s) (setBit (setBit (wordOf streams) 31 true) 30 (decide (n = 1))) d
    let d := wr (TRC_SUBs_IP s) dest.ip (wr (TRC_SUBs_PORT s) (wordOf dest.port.toNat) d)
    let d := wr (TRC_SUBs_SENT s) 0 (wr (TRC_SUBs_LIMIT s) 0 (wr (TRC_SUBs_SHED s) 0 (wr (TRC_SUBs_LEASE s) 2000 d)))
    mtsSend n dest (mtsHeader 0x81 s 0 ++ toLe32 streams ++ toLe32 nonce ++ toLe16 2000 ++ toLe32 65536 ++ [0, 0]) (showActive d)

/-- The subscription that a GRANT or UNSUBSCRIBE names, if NONCE and sender are right. -/
def subNamed (d : Dev) (s nonce : Nat) (dest : Sender) : Bool :=
  decide (s < 32) && subActive d s &&
    (let x := sub d s; decide (x.nonce = wordOf nonce ∧ x.sender.ip = dest.ip ∧ x.sender.port = dest.port))

/-- GRANT (R460). -/
def mtsGrant (dest : Sender) (p : List Byte) (d : Dev) : Dev :=
  let d := expireAll d
  let s := byteAt p 2
  let limit := wordOf (le32 p 8)
  if subNamed d s (le32 p 12) dest && decide ((limit - rd d (TRC_SUBs_SENT s)).toNat ≤ 2147483648) then
    wr (TRC_SUBs_LEASE s) 2000 (wr (TRC_SUBs_LIMIT s) limit (modSub s (fun x => { x with since := now d }) d))
  else trcDrop d

/-- UNSUBSCRIBE (R459). -/
def mtsUnsubscribe (dest : Sender) (p : List Byte) (d : Dev) : Dev :=
  let s := byteAt p 2
  if subNamed d s (le32 p 8) dest then endSub s 2 d else trcDrop d

/-- May a client with this address talk to TRC (R457)? -/
def mtsAllowed (d : Dev) (dest : Sender) : Bool :=
  decide (dest.ip &&& rd d TRC_ALLOW_MASK = rd d TRC_ALLOW_NET &&& rd d TRC_ALLOW_MASK)

/-- A datagram to TRC's port on MAC `n` (R457). With EN = 0 TRC takes nothing. -/
def mtsReceive (n : Nat) (dest : Sender) (p : List Byte) (d : Dev) : Dev :=
  if !flag d TRC_CFG 31 then d
  else if !mtsAllowed d dest || decide (byteAt p 0 ≠ 1) || decide (p.length < 8) then trcDrop d
  else match byteAt p 1 with
    | 1 => if p.length = 16 then mtsSubscribe n dest p d else trcDrop d
    | 2 => if p.length = 16 then mtsGrant dest p d else trcDrop d
    | 3 => if p.length = 12 then mtsUnsubscribe dest p d else trcDrop d
    | _ => trcDrop d

/-! ## Records (R461, R464, R465) -/

/-- The records that a subscriber buffer of 64 KiB can hold, five bytes a record. -/
def bufferSize : Nat := 13107

/-- Records held in the buffer of subscription `s`. -/
def bufferUsed (x : Subscription) : Nat := x.buffer.foldl (fun n g => n + g.length) 0

/-- The GAP record for `n` shed records. -/
def gapRec (id n t : Nat) : TrcRec := { id, value := (Nat.min n 65535 : Nat), time := t }

/-- The GAP of subscription `s` enters its buffer as soon as there is room (R464). -/
def gapInsert (s : Nat) (d : Dev) : Dev :=
  let x := sub d s
  if subActive d s && decide (0 < x.gap) && decide (bufferUsed x < bufferSize) then
    modSub s (fun x => { x with buffer := x.buffer ++ [[gapRec 0xF8 x.gap (now d)]], gap := 0 }) d
  else d

/-- A group of records that stay together enters the buffer of subscription `s`, whole or not at all (R464). -/
def subPut (s : Nat) (g : List TrcRec) (d : Dev) : Dev :=
  let x := sub d s
  if bufferUsed x + b2n (decide (0 < x.gap)) + g.length ≤ bufferSize then
    modSub s (fun x => { x with buffer := x.buffer ++ [g], shedding := false }) (gapInsert s d)
  else
    let d := addFld (TRC_SUBs_SHED s) 31 0 g.length d
    let d := if x.shedding then d else raise Src.TRC_SHED s (setFlag TRC_STATUS 8 true d)
    modSub s (fun x => { x with gap := x.gap + g.length, shedding := true }) d

/-- A record enters the local ring (R465). -/
def ringPut (r : TrcRec) (d : Dev) : Dev :=
  let stop := flag d TRC_RING_CFG 30
  if stop && d.trc.ringFull then d
  else
    let h := fld d TRC_RING_HEAD 17 0
    let b : List Byte := [BitVec.ofNat 8 r.id, 0] ++ toLe16 (unsigned 16 r.value) ++ toLe32 (r.time % 4294967296)
    let d := { d with trc := { d.trc with ringOut := d.trc.ringOut ++ [(h, b)] } }
    let last := decide (h = 262143)
    let d := setFld TRC_RING_HEAD 17 0 (if last then 0 else h + 1) d
    if !last then d
    else if stop then
      raise Src.TRC_RING_FULL 0 (setFlag TRC_STATUS 9 true { d with trc := { d.trc with ringFull := true } })
    else setFlag TRC_RING_HEAD 31 true d

/-- A group of records of stream bit `k` goes to every subscription that selects it and, with its bit set, to the local
ring. -/
def trcPut (k : Nat) (g : List TrcRec) (d : Dev) : Dev :=
  if !flag d TRC_CFG 31 || g.isEmpty then d
  else
    let d := if flag d TRC_RING_CFG 31 && flag d TRC_RING_CFG k then g.foldl (fun d r => ringPut r d) d else d
    forEach (idxWhere 32 (fun s => subStreams d s k)) (fun s d => subPut s g d) d

/-- The entries of the local ring go to trace SRAM (R465). -/
def ringFlush (mem : List Host.Cell) (d : Dev) : List Host.Cell × Dev :=
  (d.trc.ringOut.foldl (fun m x => Memory.writeBytes m (0x24200000 + 8 * x.1) x.2) mem,
   { d with trc := { d.trc with ringOut := [] } })

/-- One content of engine staging goes to TRC (R174, R464). -/
def drainItem (x : StagingItem) (d : Dev) : Dev :=
  match x with
  | .sample recs =>
    let a := (match recs with | r :: _ => r.id | [] => 0) / 16
    trcPut a (recs.map (fun r => { id := r.id, value := r.value, time := r.time, delta := r.delta })) d
  | .gap a n =>
    let d := addFld TRC_STAGE_SHED 31 0 n d
    forEach (idxWhere 32 (fun s => subStreams d s a)) (fun s d => subPut s [gapRec (0xF0 + a) n (now d)] d) d

/-- The staging of engine `n` is drained; a gap marker that waits for space is written now (R174). -/
def stagingDrain (n : Nat) (d : Dev) : Dev :=
  let e := engine d n
  let items := e.staging ++ (if e.shed = 0 then [] else [StagingItem.gap e.shedAxis e.shed])
  items.foldl (fun d x => drainItem x d) (modEngine n (fun e => { e with staging := [], shed := 0 }) d)

/-- A write of `v` to `TRC_MARKn` (R461). -/
def trcMark (n : Nat) (v : Word) (d : Dev) : Dev :=
  trcPut 4 [{ id := 0x40 + n, value := sbits v 15 0, time := now d }] d

/-- A write of `v` to `TRC_FWREC` (R461, R470): true where it gets an error response. -/
def trcFwrec (v : Word) (d : Dev) : Bool × Dev :=
  let id := bits v 23 16
  if id < 0x80 ∨ 0xEF < id then (true, d) else (false, trcPut 5 [{ id, value := sbits v 15 0, time := now d }] d)

/-! ## DATA (R460, R462, R463) -/

/-- A DATA datagram as it is put together: its bytes after the header, BASE as a full count of 64 ticks, the last value of
each delta probe, and how many groups it has taken. -/
structure DataBuild where
  bytes : List Byte := []
  base : Nat := 0
  prev : List (Nat × Int) := []
  groups : Nat := 0
  deriving Repr

/-- TIME_EXT of a time base. -/
def timeExt (base : Nat) : List Byte := [0xFE] ++ toLe32 (base / 4294967296)

/-- TIME of a time base. -/
def timeRec (base : Nat) : List Byte := [0xFF] ++ toLe32 (base % 4294967296)

/-- Add one record; none where its difference does not fit, so that the datagram closes (R463). -/
def addRec (b : DataBuild) (r : TrcRec) : Option DataBuild :=
  let t := r.time / 64
  let (head, base) :=
    if b.bytes.isEmpty then (timeExt t ++ timeRec t, t)
    else if b.base ≤ t ∧ t - b.base ≤ 65535 then ([], b.base)
    else ((if t / 4294967296 ≠ b.base / 4294967296 then timeExt t else []) ++ timeRec t, t)
  let v := match (if r.delta then b.prev.find? (fun x => decide (x.1 = r.id)) else none) with
    | some x => r.value - x.2
    | none => r.value
  if r.delta ∧ (v < -32768 ∨ 32767 < v) then none
  else
    let body := [BitVec.ofNat 8 r.id] ++ toLe16 (unsigned 16 v) ++ toLe16 (t - base)
    some { b with bytes := b.bytes ++ head ++ body, base,
                  prev := if r.delta then (r.id, r.value) :: b.prev.filter (fun x => decide (x.1 ≠ r.id)) else b.prev }

/-- Add the records of one group. -/
def addGroup (b : DataBuild) : List TrcRec → Option DataBuild
  | [] => some { b with groups := b.groups + 1 }
  | r :: g => match addRec b r with | some b => addGroup b g | none => none

/-- Add whole groups while they fit in the 1,460 bytes of a datagram (R462). -/
def buildData (b : DataBuild) : List (List TrcRec) → DataBuild
  | [] => b
  | g :: q => match addGroup b g with
    | some x => if x.bytes.length ≤ 1460 then buildData x q else b
    | none => b

/-- TRC sends the DATA datagram of what the buffer of subscription `s` holds, if the credit covers it (R460, R462). -/
def sendData (s : Nat) (d : Dev) : Dev :=
  if !subActive d s || !flag d TRC_CFG 31 then d
  else
    let x := sub d s
    let b := buildData {} x.buffer
    let n := b.bytes.length
    let credit := (rd d (TRC_SUBs_LIMIT s) - rd d (TRC_SUBs_SENT s)).toNat
    if n = 0 ∨ credit < n ∨ 2147483648 < credit then d
    else
      let d := mtsSend (fld d (TRC_SUBs_STATE s) 30 30) x.sender (mtsHeader 0x83 s x.seq ++ b.bytes) d
      let d := wr (TRC_SUBs_SENT s) (rd d (TRC_SUBs_SENT s) + wordOf n) d
      modSub s (fun x => { x with seq := (x.seq + 1) % 4294967296, buffer := x.buffer.drop b.groups }) d

/-- The LEASE task of FLS: the buffers of ended subscriptions go back to TRC and their counters are cleared (R500). -/
def leaseTask (d : Dev) : Dev :=
  forEach (List.range 32) (fun s d =>
    if (sub d s).ended ∧ subActive d s = false then
      modSub s (fun x => { x with ended := false }) (wr (TRC_SUBs_SENT s) 0 (wr (TRC_SUBs_LIMIT s) 0 (wr (TRC_SUBs_SHED s) 0 d)))
    else d) d

end Sys2Proof.Machine
end

