-- ==== Sys2Proof/Machine/EthCore.lean ====
section
/-! DEFINITION. The Ethernet MACs (R441–R444, R453–R455, R467): received frames, the hardware paths, the firmware rings,
transmission, PTP timestamps, MDIO, the link. -/

namespace Sys2Proof.Machine

open Reg

/-! ## Frames -/

/-- Where the type field of a frame stands: after the addresses and at most one tag; none with more than one tag. -/
def etherOfs (f : List Byte) : Option Nat :=
  if be16 f 12 = 0x8100 then (if be16 f 16 = 0x8100 then none else some 16) else some 12

/-- Does the frame reach one of the two hardware ports: an IPv4 datagram of protocol 17 whose destination port it is? -/
def hwPort (d : Dev) (f : List Byte) : Option Nat :=
  match etherOfs f with
  | none => none
  | some o =>
    if be16 f o ≠ 0x0800 ∨ byteAt f (o + 2) / 16 ≠ 4 ∨ byteAt f (o + 11) ≠ 17 ∨ be16 f (o + 8) % 8192 ≠ 0 then none
    else
      let p := be16 f (o + 2 + 4 * (byteAt f (o + 2) % 16) + 2)
      if p = 47860 ∨ p = fld d TRC_CFG 15 0 then some p else none

/-- Does a frame that reaches a hardware port pass every other check of R442? -/
def hwGood (d : Dev) (n : Nat) (f : List Byte) : Bool :=
  match etherOfs f with
  | none => false
  | some o =>
    let ip := o + 2
    let total := be16 f (ip + 2)
    let src := slice f (ip + 12) 4
    let dst := slice f (ip + 16) 4
    let ulen := be16 f (ip + 24)
    let tagOk := if flag d (ETHn_VLAN n) 31 then decide (o = 16) && decide (be16 f 14 % 4096 = fld d (ETHn_VLAN n) 27 16)
      else decide (o = 12)
    decide (f.take 6 = macBytes d n) && tagOk && decide (byteAt f ip = 0x45) && decide (be16 f (ip + 6) % 16384 = 0)
      && decide (be32 f (ip + 16) = (rd d (ETHn_IPADDR n)).toNat) && decide (inetSum (slice f ip 20) = 0)
      && decide (28 ≤ total) && decide (ip + total ≤ f.length) && decide (ulen = total - 20)
      && (decide (be16 f (ip + 26) = 0) ||
          decide (inetSum (src ++ dst ++ [0, 17] ++ toBe16 ulen ++ slice f (ip + 20) ulen) = 0))

/-- The sender of a UDP frame. -/
def frameSender (f : List Byte) (o : Nat) : Sender :=
  { ip := wordOf (be32 f (o + 14)), port := BitVec.ofNat 16 (be16 f (o + 22)),
    mac := BitVec.ofNat 48 (be16 f 6 * 4294967296 + be32 f 8) }

/-- The UDP payload of a frame. -/
def framePayload (f : List Byte) (o : Nat) : List Byte := slice f (o + 30) (be16 f (o + 26) - 8)

/-! ## PTP (R452–R455) -/

/-- The PTP message of a frame with EtherType 0x88F7, with its offset. -/
def ptpOfs (f : List Byte) : Option Nat :=
  match etherOfs f with
  | some o => if be16 f o = 0x88F7 then some (o + 2) else none
  | none => none

/-- The timestamp of a frame whose first bit after SFD came at tick `sfd`, corrected by TSLAT (R453): NTU's counter in
2^-24 ns. -/
def frameStamp (d : Dev) (n sfd : Nat) (tx : Bool) : Int :=
  let lat := if tx then sfld d (ETHn_TSLAT n) 31 16 else sfld d (ETHn_TSLAT n) 15 0
  ntuAt d sfd + lat * 1048576

/-- A received PTP event message is timestamped; a Sync is seen by the servo's guard. -/
def ptpReceived (n : Nat) (f : List Byte) (sfd : Nat) (d : Dev) : Dev :=
  match ptpOfs f with
  | none => d
  | some p =>
    let msg := byteAt f p % 16
    if !flag d (ETHn_CFG n) 8 || decide (3 < msg) then d
    else
      let d := fifoPush n (2 * n) false msg (byteAt f (p + 4)) (be16 f (p + 30)) (frameStamp d n sfd false) d
      if msg = 0 then ntuSync (be32 f (p + 20)) (be32 f (p + 24)) d else d

/-- Bytes `b` put into `f` at offset `o`. -/
def patch (f : List Byte) (o : Nat) (b : List Byte) : List Byte := f.take o ++ b ++ f.drop (o + b.length)

/-- Sixty-four bits as eight bytes, most significant first. -/
def toBe64 (v : Nat) : List Byte := toBe32 (v / 4294967296 % 4294967296) ++ toBe32 (v % 4294967296)

/-- A frame is sent at `sfd`: the bytes that leave the device and the device with its timestamp (R453–R455). -/
def ptpSent (n : Nat) (f : List Byte) (sfd : Nat) (tsreq : Bool) (d : Dev) : List Byte × Dev :=
  let c := frameStamp d n sfd true
  let event := match ptpOfs f with
    | some p => if flag d (ETHn_CFG n) 8 && decide (byteAt f p % 16 ≤ 3) then some p else none
    | none => none
  match event with
  | none =>
    if tsreq then
      let p := match ptpOfs f with | some p => p | none => 0
      let isPtp := (ptpOfs f).isSome
      (f, fifoPush n (2 * n + 1) false (if isPtp then byteAt f p % 16 else 0) (if isPtp then byteAt f (p + 4) else 0)
        (if isPtp then be16 f (p + 30) else 0) c d)
    else (f, d)
  | some p =>
    let msg := byteAt f p % 16
    let one := flag d (ETHn_CFG n) 9 && decide (msg = 0) && decide (byteAt f (p + 6) / 2 % 2 = 0)
    let push (fb : Bool) (d : Dev) : Dev := fifoPush n (2 * n + 1) fb msg (byteAt f (p + 4)) (be16 f (p + 30)) c d
    if one then
      if flag d NTU_STATUS 9 then
        (patch f (p + 6) [BitVec.ofNat 8 (byteAt f (p + 6) + 2)], push true (setFlag NTU_STATUS 3 true d))
      else
        let (sec, ns, fr) := ptpTime d c
        let corr := be32 f (p + 8) * 4294967296 + be32 f (p + 12) + fr * 256
        let g := patch (patch f (p + 34) (toBe16 (sec / 4294967296) ++ toBe32 (sec % 4294967296) ++ toBe32 ns)) (p + 8) (toBe64 corr)
        (g, if tsreq then push false d else d)
    else (f, if !flag d (ETHn_CFG n) 9 || tsreq then push false d else d)

/-! ## The firmware rings (R444) -/

/-- The initiator that MAC `n` is. -/
def macInitiator (n : Nat) : Initiator := if n = 0 then .eth0 else .eth1

/-- The address of slot `i` of a ring. -/
def slotAddr (d : Dev) (base i : Nat) : Nat := (rd d base).toNat + 2048 * i

/-- Does the slot lie in system SRAM, where the firewall lets MAC `n` in? -/
def slotUsable (d : Dev) (n a : Nat) : Bool :=
  decide (0x20000000 ≤ a ∧ a + 2048 ≤ 0x20800000) && !fixedDeny d (macInitiator n) a true

/-- A received frame goes to the firmware ring, or is dropped where no slot is owned by hardware. -/
def ringReceive (n : Nat) (f : List Byte) (sfd : Nat) (mem : List Host.Cell) (d : Dev) : List Host.Cell × Dev :=
  let i := fld d (ETHn_RXR_HEAD n) 10 0
  let a := slotAddr d (ETHn_RXR_BASE n) i
  if slotUsable d n a && bit (Memory.readWord mem a) 31 then
    let w0 := toLe32 (f.length % 2048)
    let mem := Memory.writeBytes (Memory.writeBytes mem a (w0 ++ toLe32 (sfd % 4294967296))) (a + 16) f
    (mem, wr (ETHn_RXR_HEAD n) (wordOf (if fld d (ETHn_RXR_LEN n) 10 0 ≤ i + 1 then 0 else i + 1)) d)
  else
    (mem, raise Src.ETH_RXOVF n (setFlag (ETHn_STATUS n) 9 true (incFld (ETHn_RXOVF_CNT n) 15 0 d)))

/-- A frame arrives at MAC `n` (R441, R442): `f` its bytes without FCS. -/
def ethReceive (n : Nat) (f : List Byte) (fcsGood : Bool) (sfd : Nat) (mem : List Host.Cell) (d : Dev) :
    List Host.Cell × Dev :=
  let len := f.length + 4
  if !flag d (ETHn_CFG n) 31 then (mem, d)
  else if len < 64 ∨ 1522 < len then (mem, incFld (ETHn_ERRCNT n) 15 0 d)
  else if !fcsGood then (mem, incFld (ETHn_ERRCNT n) 31 16 d)
  else
    let d := ptpReceived n f sfd (incFld (ETHn_RXCNT n) 31 0 d)
    match hwPort d f with
    | none => ringReceive n f sfd mem d
    | some p =>
      if !hwGood d n f then (mem, incFld (ETHn_HWDROP n) 15 0 d)
      else
        let o := match etherOfs f with | some o => o | none => 12
        if p = 47860 then (mem, csqDatagram n (frameSender f o) (framePayload f o) d)
        else (mem, mtsReceive n (frameSender f o) (framePayload f o) d)

/-- The filled slots from `i` on enter the transmit queues, at most `k` of them, up to the tail. -/
def txTake : Nat → Nat → Nat → List Host.Cell → Dev → Dev
  | 0, _, _, _, d => d
  | k + 1, n, i, mem, d =>
    let tail := fld d (ETHn_TXR_TAIL n) 10 0
    let a := slotAddr d (ETHn_TXR_BASE n) i
    let w := Memory.readWord mem a
    if i = tail ∨ slotUsable d n a = false ∨ bit w 31 = false then modMac n (fun m => { m with taken := i }) d
    else
      let f := Memory.readBytes mem (a + 16) (Nat.min (bits w 10 0) 2032)
      let d := macQueue n { pcp := bits w 26 24, slot := some i, bytes := f, stamp := bit w 16 } d
      let j := if fld d (ETHn_TXR_LEN n) 10 0 ≤ i + 1 then 0 else i + 1
      txTake k n j mem (modMac n (fun m => { m with taken := j }) d)

/-- A write to `ETHn_TXR_TAIL` (R444): true where the slot lies outside the ring. -/
def txTail (n : Nat) (v : Word) (mem : List Host.Cell) (d : Dev) : Bool × Dev :=
  if fld d (ETHn_TXR_LEN n) 10 0 ≤ v.toNat then (true, d)
  else (false, txTake 1024 n (macOf d n).taken mem (wr (ETHn_TXR_TAIL n) v d))

/-- `ETHn_TXR_HEAD` moves past the slots that hardware has given back, at most `k`. -/
def headMove : Nat → Nat → List Host.Cell → Dev → Dev
  | 0, _, _, d => d
  | k + 1, n, mem, d =>
    let i := fld d (ETHn_TXR_HEAD n) 10 0
    let a := slotAddr d (ETHn_TXR_BASE n) i
    if i = (macOf d n).taken ∨ bit (Memory.readWord mem a) 31 = true then d
    else headMove k n mem (wr (ETHn_TXR_HEAD n) (wordOf (if fld d (ETHn_TXR_LEN n) 10 0 ≤ i + 1 then 0 else i + 1)) d)

/-- The frame in transmission at MAC `n` has been sent (R443, R444): its first bit after SFD left at tick `sfd`. -/
def frameSent (n sfd : Nat) (mem : List Host.Cell) (d : Dev) : List Host.Cell × Dev :=
  match (macOf d n).cur with
  | none => (mem, d)
  | some f =>
    let (out, d) := ptpSent n f.bytes sfd f.stamp d
    let d := modMac n (fun m => { m with cur := none, sent := out }) d
    match f.slot with
    | none => (mem, macNext n d)
    | some i =>
      let a := slotAddr d (ETHn_TXR_BASE n) i
      let mem := if slotUsable d n a then
          Memory.writeBytes mem a (toLe32 (setBit (Memory.readWord mem a) 31 false).toNat)
        else mem
      (mem, macNext n (headMove 1024 n mem d))

/-! ## MDIO and the link (R441, R466, R467) -/

/-- A write to `ETHn_MDIO`: true where it gets an error response, while a transaction runs. -/
def mdioWrite (n : Nat) (v : Word) (d : Dev) : Bool × Dev :=
  if flag d (ETHn_MDIO n) 29 then (true, d)
  else
    let d := wr (ETHn_MDIO n) (v &&& 0x43FFFFFF) d
    if bit v 31 then
      (false, modMac n (fun m => { m with mdio := some (bit v 30) }) (setFlag (ETHn_MDIO n) 31 true (setFlag (ETHn_MDIO n) 29 true d)))
    else (false, d)

/-- An MDIO transaction completes. -/
def mdioDone (n : Nat) (data : BitVec 16) (d : Dev) : Dev :=
  match (macOf d n).mdio with
  | none => d
  | some rdn =>
    let d := modMac n (fun m => { m with mdio := none }) (setFlag (ETHn_MDIO n) 31 false (setFlag (ETHn_MDIO n) 29 false d))
    if rdn then setFld (ETHn_MDIO n) 15 0 data.toNat d else d

/-- The link of MAC `n` is lost. -/
def linkLost (n : Nat) (d : Dev) : Dev :=
  if flag d (ETHn_STATUS n) 0 then
    raise Src.ETH_LINK_LOST n (setFlag (ETHn_STATUS n) 8 true (setFlag (ETHn_STATUS n) 0 false d))
  else d

/-- The link of MAC `n` comes up; SPEED 3 follows the in-band link word. -/
def linkUp (n : Nat) (speed : BitVec 2) (d : Dev) : Dev :=
  let s := fld d (ETHn_CFG n) 17 16
  setFlag (ETHn_STATUS n) 0 true (setFld (ETHn_STATUS n) 2 1 (if s = 3 then speed.toNat else s) d)

/-- The rules over several fields of MAC and TRC registers (R444, R467, R470). -/
def ethCheck (d1 : Dev) (a : Nat) : Option CheckFail :=
  let n := (a - ETHn_CFG 0) / 0x10000 % 2
  let v := rd d1 a
  if a = ETHn_CFG n then failUnless (decide (bits v 17 16 ≠ 3) || decide (bits v 25 24 = 1)) failRange
  else if a = ETHn_RXR_BASE n ∨ a = ETHn_TXR_BASE n then
    failUnless (decide (v.toNat % 2048 = 0) && decide (0x20000000 ≤ v.toNat ∧ v.toNat < 0x20800000)) failRange
  else if a = TRC_CFG then failUnless (decide (bits v 15 0 ≠ 47860)) failRange
  else none

end Sys2Proof.Machine
end

