-- ==== Sys2Proof/Machine/BstCore.lean ====
section
/-! DEFINITION. Self-test (R490–R499): logic slices of engines and pairs, memory blocks, key tests. -/

namespace Sys2Proof.Machine

open Reg

/-- The DETAIL number of a unit (R490). -/
def unitIndex : TestUnit → Nat
  | .engine n => n.val
  | .pair n => 8 + n.val

/-- Slices of a test of unit `u`. -/
def slicesOf (u : Nat) : Nat := if u < 8 then 16 else 32

/-- The code of a pair's ROLE (R405). -/
def pairRoleCode : PairRole → Nat
  | .spare => 0 | .serving => 1 | .underTest => 2 | .failed => 3 | .handover => 4

/-- The ROLE code of unit `u`. -/
def unitRole (d : Dev) (u : Nat) : Nat := if u < 8 then ceRole d u else pairRoleCode (pair d (u - 8)).role

/-- A pair's ROLE from its code. -/
def pairRoleOf : Nat → PairRole
  | 0 => .spare | 1 => .serving | 2 => .underTest | 3 => .failed | _ => .handover

/-- Put unit `u` into a ROLE by code. -/
def setUnitRole (u role : Nat) (d : Dev) : Dev :=
  if u < 8 then setFld (CEA_CEn_STATE u) 2 0 role d else modPp (u - 8) (fun p => { p with role := pairRoleOf role }) d

/-- The code of ROLE UNDER_TEST for unit `u`. -/
def testRole (u : Nat) : Nat := if u < 8 then 3 else 2

/-- Is unit `u` out of service, so that BST may test it (R490)? -/
def testable (d : Dev) (u : Nat) : Bool :=
  if u < 8 then decide (ceRole d u = 0 ∨ ceRole d u = 4 ∨ ceRole d u = 5)
  else decide ((pair d (u - 8)).role = .spare ∨ (pair d (u - 8)).role = .failed)

/-- A slice of test `t` starts (R491 steps 2 on). -/
def sliceRun (t : UnitTest) (d : Dev) : Dev :=
  let d := setTest { t with deferred := none } (setUnitRole t.unit (testRole t.unit) d)
  let d := setFld BST_STATUS 28 24 t.slice (setFld BST_STATUS 19 16 t.unit (setFlag BST_STATUS 0 true d))
  modBst (fun b => { b with running := some t.unit }) d

/-- The preconditions of a slice are checked (R491 step 1): it starts, or it is deferred. -/
def sliceTry (t : UnitTest) (good : Bool) (d : Dev) : Dev :=
  if good then sliceRun t d
  else bstWait { t with deferred := some (now d) } (incFld BST_DEFER_CNT 15 0 d)

/-- May BST start a slice now: EN, no key test, no slice running (R492, R498, R505)? -/
def sliceFree (d : Dev) : Bool := flag d BST_CTRL 0 && d.bst.key.isNone && d.bst.running.isNone

/-- A slice of unit `u` is due: the next of its test, or the first of a new one. -/
def sliceStart (u : Nat) (good : Bool) (d : Dev) : Dev :=
  if !sliceFree d then d
  else match unitTest d u with
    | some t => if t.deferred.isNone then sliceTry t good d else d
    | none => if testable d u then sliceTry { unit := u, role := unitRole d u } good d else d

/-- 100 µs after a deferral the preconditions are checked again (R491). -/
def deferRetry (good : Bool) (d : Dev) : Dev :=
  if !sliceFree d then d
  else match d.bst.tests.find? (fun t => match t.deferred with | some x => elapsed d x (100 * usTicks) | none => false) with
    | some t => sliceTry t good d
    | none => d

/-- The test of unit `u` has passed every slice (R493): the previous ROLE returns. -/
def testPassed (t : UnitTest) (d : Dev) : Dev :=
  let u := t.unit
  let d := dropTest u (setUnitRole u t.role d)
  let d := setFld (BST_UNITu_STATUS u) 9 8 1 (incFld (BST_UNITu_STATUS u) 31 16 d)
  if u < 8 then setFlag (CEA_CEn_STATE u) 9 true (setFlag (CEA_CEn_STATE u) 8 true d)
  else modPp (u - 8) (fun p => { p with tested := true, testPass := true }) d

/-- A slice of unit `u` has failed (R493). -/
def testFailed (t : UnitTest) (d : Dev) : Dev :=
  let u := t.unit
  let d := dropTest u d
  let d := setFld (BST_UNITu_STATUS u) 4 0 t.slice (setFld (BST_UNITu_STATUS u) 9 8 2 d)
  let d := if u < 8 then
      let d := setFlag (CEA_CEn_STATE u) 9 false (setFld (CEA_CEn_STATE u) 2 0 5 d)
      if spareEngine d = some u then nextSpare u d else d
    else modPp (u - 8) (fun p => { p with role := .failed, testPass := false }) d
  raise Src.BST_SIG_FAIL u d

/-- The running slice ends (R492): true with the test's record where the whole test has passed. -/
def sliceDone (applied : Nat) (held signatureGood : Bool) (d : Dev) : Option Nat × Dev :=
  match d.bst.running with
  | none => (none, d)
  | some u =>
    match unitTest d u with
    | none => (none, sliceOver d)
    | some t =>
      if applied = 4096 ∧ held = true then
        let d := sliceOver d
        if !signatureGood then (none, testFailed t d)
        else if t.slice + 1 = slicesOf u then (some u, testPassed t d)
        else (none, setTest { t with slice := t.slice + 1, waits := 0 } d)
      else (none, sliceIncomplete u d)

/-- The running slice is cut short (R492, R494). -/
def sliceAbort (d : Dev) : Dev :=
  match d.bst.running with
  | some u => sliceIncomplete u d
  | none => d

/-- `BST_CTRL.EN` has fallen (R492): the running slice is cut short, and every unit under test returns to its ROLE. -/
def bstStop (d : Dev) : Dev :=
  let d := sliceAbort d
  d.bst.tests.foldl (fun d t =>
    dropTest t.unit (if unitRole d t.unit = testRole t.unit then setUnitRole t.unit t.role d else d)) d

/-! ## Memory blocks (R495, R496) -/

/-- First address and blocks of 512 bytes of the four SRAMs, by R391 DETAIL. -/
def mbistMem (k : Nat) : Nat × Nat :=
  match k with
  | 0 => (0x20000000, 16384) | 1 => (0x24000000, 8192) | 2 => (0x28000000, 2560) | _ => (0x2C000000, 512)

/-- One block is tested: a failing word is recorded; where the block buffer is beyond correction every word of the block
gets an uncorrectable code; the position moves on. -/
def mbistBlock (failing : Option Word) (bufferBad : Bool) (d : Dev) : Dev :=
  let m := fld d BST_MB_POS 31 29
  let k := fld d BST_MB_POS 23 0
  let (base, n) := mbistMem m
  let a := base + 512 * k
  let d := match failing with
    | some w => raise Src.BST_MBIST_FAIL m (wr BST_MB_FAIL w d)
    | none => d
  let d := if bufferBad then forEach (List.range 64) (fun j d => markBad (a + 8 * j) d) d else d
  let d := modBst (fun b => { b with block := some a }) d
  if k + 1 < n then setFld BST_MB_POS 23 0 (k + 1) d
  else setFld BST_MB_POS 23 0 0 (setFld BST_MB_POS 31 29 ((m + 1) % 4) d)

/-- Is an initiator of the Urgent class (R393)? -/
def urgent (i : Initiator) : Bool := match i with | .sis => true | .fcr => true | .csq => true | .cea => true | _ => false

/-- An Urgent access to the block under test is served from the block buffer and counted (R496). -/
def mbYield (i : Initiator) (a : Nat) (d : Dev) : Dev :=
  match d.bst.block with
  | some b => if urgent i ∧ b ≤ a ∧ a < b + 512 then incFld BST_MB_YIELD 15 0 d else d
  | none => d

/-! ## Key tests (R498, R499) -/

/-- A write to `BST_KEY` (R498): true where it gets an error response. -/
def keyWrite (v : Word) (d : Dev) : Bool × Dev :=
  if !bit v 31 then (false, d)
  else
    let refuse (e : Nat) : Bool × Dev := (true, setFld BST_KEY_STATUS 2 0 e d)
    if d.bst.key.isSome then refuse 3
    else if anyGranted d then refuse 1
    else if (List.range 8).any (fun g => (vget d.pwm.groups g).running) then refuse 2
    else (false, modBst (fun b => { b with key := some (!bit v 0) })
      (wr BST_KEY_RESULT 0 (setFld BST_KEY_STATUS 2 0 0 (setFlag BST_KEY_STATUS 31 false d))))

/-- The code of a copy's result (R505). -/
def copyCode : CopyResult → Nat
  | .pass => 1 | .fail => 2 | .incomplete => 3

/-- A key test ends with the results of the twelve copies (R499). -/
def keyDone (results : List CopyResult) (d : Dev) : Dev :=
  match d.bst.key with
  | none => d
  | some on =>
    let codes := results.map copyCode
    let d := modBst (fun b => { b with key := none }) d
    let d := wr BST_KEY_RESULT (wordOf ((List.range 12).foldl (fun n k => n + listGet 0 codes k * 4 ^ k) 0)) d
    let d := setFlag BST_KEY_STATUS 31 true d
    let d := if codes.any (fun c => decide (c = 2)) then
        raise Src.BST_KEY_FAIL 0 (setFlag BST_KEY_STATUS 30 true d)
      else d
    if on && codes.all (fun c => decide (c = 1)) then setFlag BST_KEY_STATUS 29 true d else d

end Sys2Proof.Machine
end

