-- ==== Sys2Proof/Machine/FlsCore.lean ====
section
/-! DEFINITION. The Fulling Scheduler (R500–R502, R506): when its tasks run, and what each run does. -/

namespace Sys2Proof.Machine

open Reg

/-- FLS changed by `f`. -/
def modFls (f : FlsState → FlsState) (d : Dev) : Dev := { d with fls := f d.fls }

/-- Ticks of one unit of PERIOD of task `t` (R506). -/
def flsUnit (t : Nat) : Nat :=
  match t with
  | 0 => 1000 * msTicks | 1 => 3600000 * msTicks | 2 => msTicks | 3 => usTicks | 4 => msTicks | 5 => 1000 * msTicks
  | 6 => msTicks | 7 => msTicks | 8 => 1000 * msTicks | 9 => msTicks | _ => 100 * usTicks

/-- The period of task `t` in ticks; PPROT's default is 2.5 s (R500). -/
def flsPeriod (d : Dev) (t : Nat) : Nat :=
  if t = 5 ∧ d.fls.ppDefault = true then 2500 * msTicks else fld d (FLS_TASKt_CFG t) 23 0 * flsUnit t

/-- The range of PERIOD of task `t`; none where the period is fixed (R500, R506). -/
def flsRange (t : Nat) : Option (Nat × Nat) :=
  match t with
  | 0 => some (1, 10) | 1 => some (1, 168) | 4 => some (100, 1000) | 5 => some (1, 60) | 6 => some (1, 100)
  | 8 => some (10, 3600) | 10 => some (1, 1000) | _ => none

/-- Every task falls due one period from now: where FLS begins (the model's choice, log entry 85). -/
def flsBegin (d : Dev) : Dev :=
  forEach (List.range 11) (fun t d => modFls (fun f => { f with due := vset f.due t (now d + flsPeriod d t) }) d) d

/-- Is task `t` running? -/
def flsRunning (d : Dev) (t : Nat) : Bool := flag d FLS_STATUS t

/-- Task `t` falls due: it starts and does `work`, or the miss is counted where it still runs; a run that `skip` names is
left out (R501). -/
def flsRun (t : Nat) (skip : Dev → Bool) (work : Dev → Dev) (d : Dev) : Dev :=
  if !flag d FLS_CTRL 0 || !flag d (FLS_TASKt_CFG t) 31 || decide (now d < vget d.fls.due t) then d
  else
    let d := modFls (fun f => { f with due := vset f.due t (now d + flsPeriod d t) }) d
    if flsRunning d t then incFld (FLS_TASKt_STAT t) 31 16 d
    else if skip d then d
    else
      let d := modFls (fun f => { f with start := vset f.start t (now d) }) d
      let d := wr (FLS_TASKt_LAST t) (nowLo d) (incFld (FLS_TASKt_STAT t) 15 0 (setFlag FLS_STATUS t true d))
      work d

/-- A run of task `t` ends; one that ends more than a full period late raises FLS_TASK_LATE (R501). -/
def flsDone (t : Nat) (d : Dev) : Dev :=
  if !flsRunning d t then d
  else
    let d := setFlag FLS_STATUS t false d
    let d := if t = 10 then modBst (fun b => { b with block := none }) d else d
    if vget d.fls.start t + 2 * flsPeriod d t < now d then raise Src.FLS_TASK_LATE t d else d

/-- No run is left out. -/
def noSkip (_ : Dev) : Bool := false

/-- Reads that corrected a single-bit error are counted (R391). -/
def corrected (n : Nat) (d : Dev) : Dev := addFld ICF_ECC_CNT 15 0 n d

/-- SCRUB: the four SRAMs (R500): `fixed` words corrected, those at `failing` found beyond correction. Such a word is left
as it is and reported. -/
def scrubWork (fixed : Nat) (failing : List Word) (d : Dev) : Dev :=
  let d := failing.foldl (fun d a => match sramIndex a.toNat with
    | some k => if k < 4 then markBad a.toNat d else d
    | none => d) (corrected fixed d)
  d.icf.badWords.foldl (fun d w => match sramIndex (8 * w) with
    | some k => if k < 4 then raise Src.FLS_SCRUB_UE k d else d
    | none => d) d

/-- The MRAM partition of address `a`, in R390 order. -/
def mramPartition (a : Nat) : Option Nat :=
  if inRange a 0x10000000 0x105FFFFF then some 0
  else if inRange a 0x10600000 0x109FFFFF then some 1
  else if inRange a 0x10A00000 0x10DFFFFF then some 2
  else if inRange a 0x10E00000 0x10E3FFFF then some 3
  else if inRange a 0x10E40000 0x10FFFFFF then some 4
  else none

/-- MRAMREF: all MRAM (R500). Its corrections and errors go to JRN's count, the one that is MRAM's. -/
def mramrefWork (fixed : Nat) (failing : List Word) (d : Dev) : Dev :=
  let d := failing.foldl (fun d a => if (mramPartition a.toNat).isSome then markBad a.toNat d else d)
    (addFld JRN_ECC_CNT 15 0 fixed d)
  d.icf.badWords.foldl (fun d w => match mramPartition (8 * w) with
    | some k => raise Src.FLS_MRAM_UE k (incFld JRN_ECC_CNT 31 16 d)
    | none => d) d

/-- ADCCAL: a calibration request to each pair (R128, R500). -/
def adccalWork (d : Dev) : Dev := forEach (List.range 8) calRequest d

/-- CEROT skips a run while there is no spare engine, or during a takeover (R501). -/
def cerotSkip (d : Dev) : Bool :=
  (spareEngine d).isNone || (axesInUse d).any (fun a => decide ((ceAxis d a).takeover ≠ .none))

/-- PPROT skips a run while no pair is SPARE (R501). -/
def pprotSkip (d : Dev) : Bool := (sparePair d).isNone

/-- The next of the numbers below `n` that `p` accepts, from `k` on, round robin. -/
def nextRound (n k : Nat) (p : Nat → Bool) : Option Nat :=
  match ((List.range n).drop k).find? p with
  | some x => some x
  | none => (List.range n).find? p

/-- The spare engine `u` has passed its test: CEROT hands the next axis to it (R500, R501). -/
def cerotHandover (u : Nat) (d : Dev) : Dev :=
  if flsRunning d 4 ∧ spareEngine d = some u ∧ cerotSkip d = false then
    match nextRound 4 d.fls.axis (axisInUse d) with
    | some a => handoverRequest a u (modFls (fun f => { f with axis := (a + 1) % 4 }) d)
    | none => d
  else d

/-- The spare pair has passed its test: PPROT requests a yield of the next task set (R500). -/
def pprotYield (u : Nat) (d : Dev) : Dev :=
  if flsRunning d 5 ∧ sparePair d = some (u - 8) then
    requestYield d.fls.task (modFls (fun f => { f with task := (f.task + 1) % 3 }) d)
  else d

/-- What follows a test of unit `u` that passed as a whole. -/
def unitPassed (u : Nat) (d : Dev) : Dev := if u < 8 then cerotHandover u d else pprotYield u d

/-- The tick at the midpoint of the longest off-interval of the switch of leg `l` in the live period (R502), in that
period or, once it has passed, in the one after it. -/
def offMidpoint (d : Dev) (l : Nat) (high : Bool) : Nat :=
  let g := group d (legGroup d l)
  let len := 8 * g.period
  let a := fld d (PWM_PLnn_LIVE0 l) 22 0
  let b := fld d (PWM_PLnn_LIVE1 l) 22 0
  let mid :=
    if high then
      (if b ≤ a then len / 2 else if len - b < a then a / 2 else (b + len) / 2)
    else (a + b) / 2
  let t := g.start + mid / 8
  if now d < t then t else t + g.period

/-- The port and ITEM of the next comparator self-test: READY ports ascending, the ITEM moving on with each round
(R500). -/
def nextDrvTest (d : Dev) : Option (Nat × Nat) :=
  match ((List.range 64).drop d.fls.port).find? (portReady d) with
  | some p => some (p, d.fls.item)
  | none => ((List.range 64).find? (portReady d)).map (fun p => (p, (d.fls.item + 1) % 5))

/-- The first entry of block `b` that is not armed. -/
def freeEntry (d : Dev) (b : Nat) : Option Nat := ((List.range 64).map (64 * b + ·)).find? (fun n => !evsArmed d n)

/-- DRVTEST: arm a TIME entry that writes the DIAG slot of the port at the midpoint of the off-interval, or one that fires
at once where the leg is in HIZ or its group is stopped (R502). -/
def drvtestWork (d : Dev) : Dev :=
  match nextDrvTest d, freeEntry d (fld d FLS_CFG 5 0) with
  | some (p, item), some n =>
    let d := modFls (fun f => { f with port := p + 1, item := item }) d
    let timed := match switchOfPort d p with
      | some (l, high) =>
        if legState d l = 2 ∨ (group d (legGroup d l)).running = false then none else some (offMidpoint d l high)
      | none => none
    let sreg := (0x050 + p) * 4096
    let d := (evsWriteWord n 0 (wordOf (timed.getD 0)) d).2
    let d := (evsWriteWord n 1 0 d).2
    let d := (evsWriteWord n 3 (wordOf (0x80100000 + item)) d).2
    (evsWriteWord n 2 (wordOf (0x80000000 + (if timed.isSome then 0x40000000 else 0) + sreg)) d).2
  | _, _ => d

/-- MBIST: one block, unless a key test runs (R495, R498, R500). -/
def mbistWork (failing : Option Word) (bufferBad : Bool) (d : Dev) : Dev :=
  if d.bst.key.isSome then d else mbistBlock failing bufferBad d

/-! ## Registers (R506) -/

/-- What a write of `v` to the configuration of task `t` must satisfy: a fixed period is not written, another lies in
its range. -/
def flsTaskOk (d : Dev) (t : Nat) (v : Word) : Bool :=
  match flsRange t with
  | some (lo, hi) => decide (lo ≤ bits v 23 0 ∧ bits v 23 0 ≤ hi)
  | none => decide (bits v 23 0 = fld d (FLS_TASKt_CFG t) 23 0)

/-- The task whose configuration stands at `a`. -/
def flsTaskAt (a : Nat) : Option Nat := (List.range 11).find? (fun t => decide (FLS_TASKt_CFG t = a))

/-- The rules for the FLS register at `a`, `d1` with the values written: the EVS block is SYS's (R506). -/
def flsCheck (d0 d1 : Dev) (a : Nat) : Option CheckFail :=
  if a = FLS_CFG then failUnless (decide (ownerOf d1 0x0C (fld d1 FLS_CFG 5 0) = 0x20)) failRange
  else match flsTaskAt a with
    | some t => failUnless (flsTaskOk d0 t (rd d1 a)) failRange
    | none => none

/-- A checked value `v` takes its place in the FLS register at `a`. -/
def flsPut (a : Nat) (v : Word) (d : Dev) : Dev :=
  let d1 := storePlain a v d
  if a = FLS_CTRL then (if flag d FLS_CTRL 0 && !flag d1 FLS_CTRL 0 then sliceAbort d1 else d1)
  else if a = FLS_TASKt_CFG 5 then modFls (fun f => { f with ppDefault := false }) d1
  else d1

end Sys2Proof.Machine
end

