-- ==== Sys2Proof/Machine/PfcRegs.lean ====
section
/-! DEFINITION. The registers of ATB, EVS, PFC and EEM as writers see them (R81–R83, R86, R91, R99, R103, R112–R116): which
are not in use, checks, what a value that takes its place does, and the write-only registers; the excitation's zero
crossing (R102). -/

namespace Sys2Proof.Machine

open Reg

/-! ## Angle Timebases -/

/-- The axis whose ATB registers stand at `a`. -/
def atbAxisAt (a : Nat) : Option Nat := blockAt (ATB_AXn_CFG 0) 0x40 4 a

/-- Is the register one of an ATB that is not in use (R81)? -/
def atbUnused (d : Dev) (a : Nat) : Bool :=
  match atbAxisAt a with | some n => !axisInUse d n | none => false

/-- A checked value `v` takes its place in an ATB register: after a change of SRC the next update is a first one (R59). -/
def atbPut (a : Nat) (v : Word) (d : Dev) : Dev :=
  let d1 := storePlain a v d
  match elemAt (ATB_AXn_CFG 0) 0x40 4 a with
  | some n => whenD (decide (fld d1 a 29 28 ≠ fld d a 29 28)) (modAtb n (fun x => { x with prev := none })) d1
  | none => d1

/-! ## Position channels, vote, excitation -/

/-- Is the register one of a channel, an axis or an excitation output that is not in use (R112)? -/
def pfcUnused (d : Dev) (a : Nat) : Bool :=
  match blockAt (PFC_PFn_CFG 0) 0x1000 8 a with
  | some n => decide (ownerOf d 0x08 n = 0)
  | none =>
  match blockAt (PFC_AXa_VOTE_CFG 0) 0x100 4 a with
  | some x => !axisInUse d x
  | none =>
  match blockAt (PFC_EXCe_CFG 0) 0x40 4 a with
  | some e => decide (ownerOf d 0x09 e = 0)
  | none => false

/-- The first resource that a resolver channel `n` needs and its owner does not own: both halves of the pair and the
excitation output (R103). -/
def resolverOwner (d : Dev) (n : Nat) : Option CheckFail :=
  let own := ownerOf d 0x08 n
  let p := fld d (PFC_PFn_CPR n) 2 0
  let e := fld d (PFC_PFn_RES n) 19 18
  let need (c i : Nat) : Option CheckFail := failUnless (decide (ownerOf d c i = own)) (failOwner d c i own)
  if pfMode d n = 5 then firstFail (need 0x05 (2 * p)) (firstFail (need 0x05 (2 * p + 1)) (need 0x09 e)) else none

/-- The frame layout of channel `n` fits the frame (R99, R114). -/
def serialOk (d : Dev) (n : Nat) : Bool :=
  let len := fld d (PFC_PFn_SER2 n) 6 0
  decide (fld d (PFC_PFn_SER n) 13 8 + fld d (PFC_PFn_SER n) 5 0 + fld d (PFC_PFn_SER2 n) 12 8 ≤ len)
    && decide (fld d (PFC_PFn_SER n) 29 24 < len) && decide (fld d (PFC_PFn_SER n) 21 16 < len)

/-- CPR and IDX_REF of a QUAD channel (R91, R112). -/
def quadOk (d : Dev) (n : Nat) : Bool :=
  let cpr := fld d (PFC_PFn_CPR n) 24 0
  pfMode d n ≠ 1 || (decide (4 ≤ cpr) && decide (cpr ≤ 16777216) && decide (fld d (PFC_PFn_IDX n) 23 0 < cpr))

/-- The rules for the channel register at `a` of channel `n`. -/
def chanCheck (d1 : Dev) (n a : Nat) : Option CheckFail :=
  if a = PFC_PFn_CFG n ∨ a = PFC_PFn_CPR n ∨ a = PFC_PFn_IDX n then
    firstFail (failUnless (quadOk d1 n) failRange) (resolverOwner d1 n)
  else if a = PFC_PFn_SER n ∨ a = PFC_PFn_SER2 n then failUnless (serialOk d1 n) failRange
  else if a = PFC_PFn_RESLIM n then failUnless (decide (fld d1 a 15 0 < fld d1 a 31 16)) failRange
  else if a = PFC_PFn_RES n then
    firstFail (failUnless (decide (fld d1 a 15 0 < fld d1 (PFC_EXCe_PER (fld d1 a 19 18)) 18 0)) failRange)
      (resolverOwner d1 n)
  else none

/-- The rules for the PFC register at `a`, `d1` with the values written. -/
def pfcCheck (d1 : Dev) (a : Nat) : Option CheckFail :=
  match blockAt (PFC_PFn_CFG 0) 0x1000 8 a with
  | some n => chanCheck d1 n a
  | none =>
  match elemAt (PFC_EXCe_PER 0) 0x40 4 a with
  | some _ =>
    let p := fld d1 a 18 0
    failUnless (decide (40000 ≤ p ∧ p ≤ 400000 ∧ p % 64 = 0)) failRange
  | none => none

/-- Excitation output `e` changed by `f`. -/
def modExc (e : Nat) (f : Exc → Exc) (d : Dev) : Dev :=
  { d with pfc := { d.pfc with excs := vset d.pfc.excs e (f (vget d.pfc.excs e)) } }

/-- A positive-going zero crossing of excitation `e` at tick `t`: T0 and a pending PER (R102). -/
def excCross (e t : Nat) (d : Dev) : Dev :=
  wr (PFC_EXCe_T0 e) (wordOf t) (modExc e (fun _ => { t0 := t, per := fld d (PFC_EXCe_PER e) 18 0 }) d)

/-- The next zero crossing of excitation `e` falls due (R102). -/
def excZeroCrossing (e : Nat) (d : Dev) : Dev :=
  let x := vget d.pfc.excs e
  if flag d (PFC_EXCe_CFG e) 31 && elapsed d x.t0 x.per then excCross e (x.t0 + x.per) d else d

/-- A checked value `v` takes its place in the PFC register at `a`. -/
def pfcPut (a : Nat) (v : Word) (d : Dev) : Dev :=
  let d1 := storePlain a v d
  match elemAt (PFC_PFn_CFG 0) 0x1000 8 a with
  | some n => whenD (decide (pfMode d1 n ≠ pfMode d n)) (modeEntered n) d1
  | none =>
  match elemAt (PFC_PFn_FRAME 0) 0x1000 8 a with
  | some n => modChan n (fun c => { c with nextPer := now d1 + fld d1 a 23 0 }) d1
  | none =>
  match elemAt (PFC_EXCe_CFG 0) 0x40 4 a with
  | some e => whenD (flag d1 a 31 && !flag d a 31) (excCross e (now d)) d1
  | none => d1

/-- A write to `PFC_PFn_CNTCLR` (R112). -/
def pfcCountClear (n : Nat) (v : Word) (d : Dev) : Dev :=
  let d := whenD (bit v 0) (fun d => modChan n (fun c => { c with carded := false }) (wr (PFC_PFn_CARD_CNT n) 0 d)) d
  let d := whenD (bit v 1) (wr (PFC_PFn_SKIP_CNT n) 0) d
  whenD (bit v 2) (wr (PFC_PFn_REQBUSY_CNT n) 0) d

/-- A write to a write-only register of ATB or PFC, or to a word of the EVS table, by initiator or engine: true where it
gets an error response; none elsewhere. -/
def pfcSpecial (engine : Option Nat) (a : Nat) (v : Word) (d : Dev) : Option (Bool × Dev) :=
  match elemAt (ATB_AXn_SETPOS 0) 0x40 4 a with
  | some n => some (atbWritePos n engine v d)
  | none =>
  match elemAt (ATB_AXn_SETSPD 0) 0x40 4 a with
  | some n => some (atbWriteSpd n engine v d)
  | none =>
  match elemAt (PFC_PFn_REQ 0) 0x1000 8 a with
  | some n => some (false, whenD (bit v 0) (pfcRequestNow n) d)
  | none =>
  match elemAt (PFC_PFn_CNTCLR 0) 0x1000 8 a with
  | some n => some (false, pfcCountClear n v d)
  | none =>
  match elemAt (PFC_AXa_OBS_T 0) 0x100 4 a with
  | some x => some (false, obsTWrite x v d)
  | none =>
  match elemAt (PFC_AXa_OBS 0) 0x100 4 a with
  | some x => some (false, obsWrite x v d)
  | none =>
  match elemAt (PFC_AXa_VOTE_READMIT 0) 0x100 4 a with
  | some x => some (false, voteReadmit x v d)
  | none =>
  match elemAt 0x40120000 4 16384 a with
  | some w => some (evsWriteWord (w / 4) (w % 4) v d)
  | none => none

/-! ## Encoder emulation -/

/-- The rules for the EEM register at `a`, `d1` with the values written (R110, R116). -/
def eemCheck (d1 : Dev) (a : Nat) : Option CheckFail :=
  match blockAt (EEM_EMn_CFG 0) 0x100 4 a with
  | some n =>
    if a = EEM_EMn_CFG n then failUnless (!flag d1 a 31 || axisInUse d1 (fld d1 a 1 0)) failRange
    else if a = EEM_EMn_LINES n ∨ a = EEM_EMn_LAGTHR n then
      failUnless (decide (fld d1 (EEM_EMn_LAGTHR n) 23 0 < 2 * fld d1 (EEM_EMn_LINES n) 16 0)) failRange
    else none
  | none => none

/-- A checked value `v` takes its place in the EEM register at `a`; EN acts (R110, R111). -/
def eemPut (a : Nat) (v : Word) (d : Dev) : Dev :=
  match elemAt (EEM_EMn_CFG 0) 0x100 4 a with
  | some n => eemEnabled n (storePlain a v d)
  | none => storePlain a v d

end Sys2Proof.Machine
end

