-- ==== Sys2Proof/Machine/RegPut.lean ====
section
/-! DEFINITION. The registers of the whole device as one who writes them meets them: which are not in use, the checks of a
value, and what a checked value does when it takes its place, outside a transaction or at a commit (R15, R36, R423,
R425). -/

namespace Sys2Proof.Machine

open Reg

/-- A firewall region does not pass the last address (R406). -/
def icfCheck (d1 : Dev) (a : Nat) : Option CheckFail :=
  match blockAt (ICF_RGNn_BASE 0) 0x10 32 a with
  | some n =>
    failUnless (decide (fld d1 (ICF_RGNn_BASE n) 31 12 + fld d1 (ICF_RGNn_SIZE n) 19 0 < 0x100000)) failRange
  | none => none

/-- The rules over several registers and over owners for the register at `a`: `d0` the device before, `d1` with the values
written. -/
def unitCheck (d0 d1 : Dev) (a : Nat) : Option CheckFail :=
  match a / 0x10000 with
  | 0x4020 => pfcCheck d1 a
  | 0x4021 => eemCheck d1 a
  | 0x4030 | 0x4031 | 0x4032 => senseCheck d1 a
  | 0x4048 => ceaCheck d1 a
  | 0x4050 => pwmCheck d0 d1 a
  | 0x4080 => fcrCheck d1 a
  | 0x4090 => thmCheck d1 a
  | 0x4003 | 0x40C0 => csqCheck d1 a
  | 0x40B0 | 0x40B1 | 0x40B2 | 0x40B3 => canCheck d0 d1 a
  | 0x40A0 | 0x40A1 | 0x40D0 => ethCheck d1 a
  | 0x4005 => flsCheck d0 d1 a
  | 0x4007 => icfCheck d1 a
  | _ => none

/-- Is the register one of a channel, axis, group or port that is not in use (R15)? -/
def regUnused (d : Dev) (a : Nat) : Bool :=
  atbUnused d a || pfcUnused d a || ceaUnused d a || pwmUnused d a || glkUnused d a

/-- The entry and word of the EVS table at `a` (R63). -/
def evsAt (a : Nat) : Option (Nat × Nat) :=
  if evsWordAddr 0 0 ≤ a ∧ a < evsWordAddr 4096 0 then some ((a - evsWordAddr 0 0) / 16, (a - evsWordAddr 0 0) / 4 % 4) else none

/-- EN of `TRC_CFG` falls: every subscription ends (R459). -/
def trcCfgPut (v : Word) (d : Dev) : Dev :=
  let d1 := storePlain TRC_CFG v d
  whenD (flag d TRC_CFG 31 && !flag d1 TRC_CFG 31) endAll d1

/-- EN of `BST_CTRL` falls: the tests stop (R491). -/
def bstCtrlPut (v : Word) (d : Dev) : Dev :=
  let d1 := storePlain BST_CTRL v d
  whenD (flag d BST_CTRL 0 && !flag d1 BST_CTRL 0) bstStop d1

/-- A checked value `v` takes its place in the register or EVS word at `a`. `committed` says that a commit writes it;
`basis` is the tick on whose authority a PWM value stands (R219). -/
def regPut (committed : Bool) (basis a : Nat) (v : Word) (d : Dev) : Dev :=
  match evsAt a with
  | some (n, w) => (evsWriteWord n w v d).2
  | none =>
  match a / 0x10000 with
  | 0x4010 => atbPut a v d
  | 0x4020 => pfcPut a v d
  | 0x4021 => eemPut a v d
  | 0x4030 | 0x4031 | 0x4032 => sensePut a v d
  | 0x4050 => pwmPut a v basis d
  | 0x4060 => glkPut a v d
  | 0x4090 => thmPut a v d
  | 0x4005 => flsPut a v d
  | 0x4003 =>
    match elemAt (CSQ_AXa_SRC 0) 0x20 4 a with
    | some x => csqSource x v committed d
    | none => storePlain a v d
  | 0x40B0 | 0x40B1 | 0x40B2 | 0x40B3 =>
    match elemAt (CAN_CTRL 0) 0x10000 4 a with
    | some c => canCtrl c v d
    | none => storePlain a v d
  | _ =>
    if a = NTU_RATE then (ntuRate v d).2
    else if a = TRC_CFG then trcCfgPut v d
    else if a = BST_CTRL then bstCtrlPut v d
    else storePlain a v d

/-- Does the value `v` pass every check of the register at `a` on the device as it stands (R15, R423)? -/
def valueOk (d : Dev) (a : Nat) (v : Word) : Bool :=
  !regUnused d a && rangesOkAt a v && (unitCheck d (storePlain a v d) a).isNone

/-- The pair of adjustable words of engine memory at the aligned address `a`: axis and word offset (R152, R161). -/
def ceWordAt (a : Nat) : Option (Nat × Nat) :=
  if 0x28000000 ≤ a ∧ a < 0x28140000 ∧ a % 4 = 0 then
    let o := (a - 0x28000000) % 0x40000
    if 0x20000 ≤ o ∧ o < 0x38000 then some ((o - 0x20000) / 0x6000, (o - 0x20000) % 0x6000 / 2) else none
  else none

/-- Does word `w` of axis `x`'s partition lie in the ADJ region of the axis: the union over its variants (R161)? -/
def adjWord (d : Dev) (x w : Nat) : Bool :=
  d.cea.progs.any (fun p => decide (p.axis = x) && decide (p.adjOfs ≤ w ∧ w < p.adjOfs + p.adjLen))

/-- The address under which the shadow store and the overlay know a pair of adjustable words: that of engine 0's window. -/
def adjAddr (x w : Nat) : Nat := 0x28020000 + 0x6000 * x + 2 * w

/-- Are both words at `a` adjustable? -/
def adjAt (d : Dev) (a : Nat) : Bool :=
  match ceWordAt a with
  | some (x, w) => adjWord d x w && adjWord d x (w + 1)
  | none => false

/-- Is `a` an address whose writes inside a transaction go to the shadow store (R15, R66, R161, R423)? -/
def shadowed (d : Dev) (a : Nat) : Bool :=
  (isRwt a && decide (a ≠ NTU_SHD_CTRL)) || (evsAt a).isSome || adjAt d a

end Sys2Proof.Machine
end

