-- ==== Sys2Proof/Machine/CteCore.lean ====
section
/-! DEFINITION. The Configuration Transaction Engine (R36, R44, R66, R161, R422–R428, R439): opening, the shadow store,
validation against the projected state, boundaries, application, rollback, the overlay and its replay. -/

namespace Sys2Proof.Machine

open Reg

/-! ## Opening and the shadow store (R422–R424) -/

/-- May initiator `i` hold a transaction (R422)? -/
def mayHold (i : Initiator) : Bool := (pxIndex i).isSome || decide (i = .jtag)

/-- The next TOKEN (R422): one more than the last, never 0, not that of a transaction that is held. At most four are held,
so among six candidates one is free. -/
def nextToken (c : CteState) : Nat :=
  let next (k : Nat) : Nat := (c.token + k) % 65536
  (([1, 2, 3, 4, 5, 6].map next).find? (fun t => decide (t ≠ 0) && !c.txs.any (fun x => decide (x.token = t)))).getD (next 1)

/-- A write of `v` to `CTE_BEGIN` by initiator `i` (R44, R422). -/
def cteBegin (i : Initiator) (v : Word) (d : Dev) : Dev :=
  if !mayHold i then respErr d
  else if !bit v 0 then d
  else
    let err (e : Nat) : Dev := setFld (bank i CTE_TX) 15 8 e d
    if fld d CFG_FEAT_STATUS 1 0 ≠ 1 then err 1
    else if (txOf d i).isSome then err 2
    else if 4 ≤ d.cte.txs.length then err 3
    else
      let t := nextToken d.cte
      let tx : Tx := { by_ := i, token := t, lastWrite := now d }
      let d := showOpen (modCte (fun c => { c with token := t, txs := c.txs ++ [tx] }) d)
      wr (bank i CTE_TX_WRITES) 0 (wr (bank i CTE_TX) (wordOf (t * 65536 + 1)) d)

/-- Entries of the shadow store in use. -/
def shadowUsed (d : Dev) : Nat := d.cte.txs.foldl (fun n t => n + t.entries.length) 0

/-- A write of `v` to address `a` goes to the shadow store for transaction `t` (R423, R427). -/
def shadowPut (t : Tx) (a : Nat) (v : Word) (d : Dev) : Dev :=
  let i := t.by_
  let t := { t with lastWrite := now d }
  let show_ (t : Tx) (d : Dev) : Dev := wr (bank i CTE_TX_WRITES) (wordOf t.entries.length) (setTx t d)
  if a ≠ CTE_OWNSET ∧ t.entries.any (fun e => decide (e.addr = a)) = true then
    show_ { t with entries := t.entries.map (fun e => if e.addr = a then ⟨a, v⟩ else e) } d
  else if 1024 ≤ shadowUsed d then
    journal 0x03 0x0C (ctePayload 1 5 t.token i) (respErr (setTx { t with full := true } d))
  else show_ { t with entries := t.entries ++ [⟨a, v⟩] } d

/-- The open transaction of initiator `i`. -/
def openTx (d : Dev) (i : Initiator) : Option Tx := (txOf d i).filter (fun t => decide (t.phase = .opened))

/-- The address under which the shadow store knows `a`: a pair of adjustable words stands under engine 0's window. -/
def shadowKey (d : Dev) (a : Nat) : Nat :=
  match ceWordAt a with
  | some (x, w) => if adjAt d a then adjAddr x w else a
  | none => a

/-- A write of `v` to `CTE_OWNSET` by initiator `i` (R424): an error response outside a transaction. -/
def cteOwnset (i : Initiator) (v : Word) (d : Dev) : Dev :=
  match openTx d i with
  | none => respErr d
  | some t => shadowPut t CTE_OWNSET v d

/-! ## COMMIT (R425) -/

/-- A write of `CTE_COMMIT` with GO = 1 and KIND `kind` by initiator `i`: the argument already written is taken. -/
def cteCommit (i : Initiator) (kind : Nat) (d : Dev) : Dev :=
  if !mayHold i then respErr d
  else match openTx d i with
  | none => setFld (bank i CTE_TX) 15 8 4 d
  | some t =>
    let n := d.cte.commits
    let d := modCte (fun c => { c with commits := n + 1 }) d
    setFld (bank i CTE_TX) 2 0 2
      (setTx { t with phase := .validating, kind, arg := rd d (bank i CTE_COMMIT_ARG), order := n } d)

/-! ## Projection (R36, R425) -/

/-- The owner map after an OWNSET value (R424): the resource keeps its ADJ mark. -/
def ownsetApply (v : Word) (o : List (Nat × Owner)) : List (Nat × Owner) :=
  let id := v.toNat / 0x1000000 * 0x1000000 + v.toNat % 65536
  setOwnerIn o id { ownerIn o id with code := bits v 23 16 }

/-- The device as it stands once the value of entry `e` has been stored, nothing else happening. -/
def projectEntry (d : Dev) (e : CteEntry) : Dev :=
  if e.addr = CTE_OWNSET then { d with cfg := { d.cfg with owners := ownsetApply e.value d.cfg.owners } }
  else if (evsAt e.addr).isSome then wr e.addr e.value d
  else if (ceWordAt e.addr).isSome then d
  else storePlain e.addr e.value d

/-- The device with the registers and owners of `p`, all else its own. -/
def withRegs (d p : Dev) : Dev := { d with regs := p.regs, cfg := { d.cfg with owners := p.cfg.owners } }

/-- The transactions that are pending, in order of arrival. -/
def pendingTxs (d : Dev) : List Tx :=
  (d.cte.txs.filter (fun t => decide (t.phase = .pending))).mergeSort (fun x y => decide (x.order ≤ y.order))

/-- The device as it will stand after every earlier-accepted commit. -/
def projected (d : Dev) : Dev :=
  (pendingTxs d).foldl (fun d t => t.entries.foldl projectEntry d) d

/-! ## The overlay (R428) -/

/-- What an entry is in the overlay. -/
def ovlEntry (e : CteEntry) : OvlEntry :=
  if e.addr = CTE_OWNSET then
    ⟨true, e.value.toNat / 0x1000000 * 0x1000000 + e.value.toNat % 65536, wordOf (bits e.value 23 16)⟩
  else ⟨false, e.addr, e.value⟩

/-- Does an overlay entry write back the value that the Former gave? -/
def ovlSame (d : Dev) (o : OvlEntry) : Bool :=
  if o.own then decide ((ownerIn d.cfg.formerOwners o.key).code = o.value.toNat)
  else match ceWordAt o.key with
    | some (x, w) =>
      let p := vget d.cfg.formerParts x
      decide (wordAt p w = o.value.toNat % 65536 ∧ wordAt p (w + 1) = o.value.toNat / 65536)
    | none =>
      let was := regGet d.cfg.formerRegs o.key
      if (evsAt o.key).isSome then decide (was = o.value)
      else match regRow? o.key with
        | some r => decide (r.stored was o.value = was)
        | none => false

/-- The overlay after an entry takes its place in it. -/
def ovlPut (d : Dev) (l : List OvlEntry) (e : CteEntry) : List OvlEntry :=
  let o := ovlEntry e
  let l := l.filter (fun x => !(decide (x.own = o.own) && decide (x.key = o.key)))
  if ovlSame d o then l else l ++ [o]

/-- `CTE_OVL` shows the overlay's length. -/
def showOvl (d : Dev) : Dev := setFld CTE_OVL 10 0 d.cte.overlay.length d

/-! ## Validation (R36, R66, R425) -/

/-- The checks of one OWNSET value against the projected owners `o` (R36). -/
def ownsetFail (o : List (Nat × Owner)) (v : Word) : Option CheckFail :=
  let id := v.toNat / 0x1000000 * 0x1000000 + v.toNat % 65536
  let new := bits v 23 16
  let cur := ownerIn o id
  if !resIdOk id || !ownerCodeOk new then some ⟨6, 0, 0, 0⟩
  else if cur.code = new then none
  else if !cur.adj then some ⟨8, id, new, cur.code⟩
  else if cur.code ≠ 0 ∧ new ≠ 0 then some ⟨7, id, new, cur.code⟩
  else none

/-- The checks of one entry: `p` has every register of the transaction, `q` the owners and EVS words as they stand after
the entries up to this one, `before` the owners as they stand before it. -/
def entryFail (p0 p q before : Dev) (e : CteEntry) : Option CheckFail :=
  let view := { p with cfg := q.cfg }
  if e.addr = CTE_OWNSET then ownsetFail before.cfg.owners e.value
  else match evsAt e.addr with
  | some (n, w) =>
    if w = 2 ∧ bit e.value 31 = true then
      let c := evsArmCode view n (evsWord q n 0) (evsWord q n 1) e.value
      failUnless (decide (c = 0)) failRange
    else none
  | none =>
    if (ceWordAt e.addr).isSome then none
    else if regUnused view e.addr || !rangesOkAt e.addr e.value then some failRange
    else unitCheck p0 view e.addr

/-- The owner rules that hold for the whole device (R103, R151, R159, R213): each with the failure that breaking it is. -/
def ownerRules (d : Dev) : List (Option CheckFail) :=
  (List.range 8).map (fun n => if ownerOf d 0x08 n = 0 then none else resolverOwner d n) ++
  (List.range 32).map (fun k => if ownerOf d 0x07 k = 0 then none else
    match fcmpSourceRes d k with
    | some (c, i) => failUnless (decide (ownerOf d c i = ownerOf d 0x07 k)) (failOwner d c i (ownerOf d 0x07 k))
    | none => none) ++
  (List.range 32).map (fun l => if ownerOf d 0x02 l = 0 then none else failUnless (legGroupOwned d l) failRange)

/-- The resource of an OUTREG target (R33, R159). -/
def targetRes (addr : Nat) : Nat × Nat :=
  match evsAt addr, pwmLegAt addr, pwmGroupAt addr with
  | some (n, _), _, _ => (0x0C, n / 64)
  | none, some l, _ => (0x02, l)
  | none, none, some g => (0x0B, g)
  | none, none, none => (0, 0)

/-- The OUTREG targets of the programs of the axes in use, with their axis. -/
def outTargets (d : Dev) : List (Nat × Nat) :=
  d.cea.progs.flatMap (fun p =>
    let part := match servingEngine d p.axis with | some n => partition_ d n p.axis | none => vget d.cfg.formerParts p.axis
    (p.insts.flatMap (instTargets part)).map (fun t => (p.axis, t)))

/-- The first OUTREG target that was owned by its axis in `d0` and is not in `d1` (R159). -/
def targetFail (d0 d1 : Dev) : Option CheckFail :=
  (outTargets d0).findSome? (fun x =>
    if targetOk d0 x.1 x.2 && !targetOk d1 x.1 x.2 then
      some (failOwner d1 (targetRes x.2).1 (targetRes x.2).2 (axisCode x.1))
    else none)

/-- The first owner rule that `d1` breaks and `d0` does not: what the transaction's changes of owner break. -/
def ownerFail (d0 d1 : Dev) : Option CheckFail :=
  firstFail (((ownerRules d0).zip (ownerRules d1)).findSome? (fun x => if x.1.isNone then x.2 else none)) (targetFail d0 d1)

/-- The entries checked one after another in entry order: the first failure and the address of its entry. -/
def entriesFail (p0 p : Dev) : Dev → List OvlEntry → List CteEntry → Option (CheckFail × Nat)
  | _, _, [] => none
  | q, ovl, e :: r =>
    let q' := projectEntry q e
    let ovl' := ovlPut p0 ovl e
    match entryFail p0 p q' q e with
    | some f => some (f, e.addr)
    | none => if 1536 < ovl'.length then some ({ code := 11 }, e.addr) else entriesFail p0 p q' ovl' r

/-- The first failure of the entries of transaction `t` (R36, R425, R428), with the address of the failing entry. -/
def txFail (d : Dev) (t : Tx) : Option (CheckFail × Nat) :=
  let p0 := projected d
  let p := t.entries.foldl projectEntry p0
  let ovl := (pendingTxs d).foldl (fun l x => x.entries.foldl (ovlPut d) l) d.cte.overlay
  if t.full then some ({ code := 5 }, 0)
  else match entriesFail p0 p p0 ovl t.entries with
  | some f => some f
  | none =>
    if t.entries.any (fun e => decide (e.addr = CTE_OWNSET)) then (ownerFail p0 p).map (fun f => (f, CTE_OWNSET)) else none

/-- The first Load Instant L of group `g` with L − 16 no earlier than now (R425): the next one, or the one after it, whose
period the group has staged (R220). -/
def loadInstantFor (d : Dev) (g : Nat) : Nat :=
  let x := vget d.pwm.groups g
  if now d + 16 ≤ x.nextLi then x.nextLi
  else
    let p := if x.staged then x.stagedPeriod else fld d (PWM_CGg_PERIOD g) 19 0
    x.nextStart + p - fld d (PWM_CGg_LEAD g) 13 0

/-- Has group `g` a Load Instant at tick `l`? -/
def hasLoadInstant (d : Dev) (g l : Nat) : Bool := decide ((vget d.pwm.groups g).nextLi = l ∨ loadInstantFor d g = l)

/-- The boundary of a commit whose validation ends now: a failure code, or the tick, none while the crossing of KIND ANGLE
is awaited (R425). -/
def boundaryOf (d : Dev) (t : Tx) : Nat ⊕ Option Nat :=
  match t.kind with
  | 0 => .inr (some (now d))
  | 1 =>
    let gs := idxWhere 8 (fun g => bit t.arg g)
    match gs with
    | [] => .inl 6
    | g :: _ =>
      if gs.any (fun g => !(vget d.pwm.groups g).running) then .inl 6
      else
        let l := loadInstantFor d g
        if gs.all (fun g => hasLoadInstant d g l) then .inr (some (l - 16)) else .inl 9
  | 2 =>
    let ahead := (t.arg - nowLo d).toNat
    if 16 ≤ ahead ∧ ahead ≤ 2147483647 then .inr (some (now d + ahead)) else .inl 10
  | _ =>
    let dir := bits t.arg 27 26
    if !axisInUse d (bits t.arg 25 24) || decide (dir = 0 ∨ dir = 3) then .inl 6 else .inr none

/-- The commit of transaction `t` fails (R425, R439). -/
def commitFails (t : Tx) (f : CheckFail) (addr : Nat) (d : Dev) : Dev :=
  let i := t.by_
  let d := showTx i 5 f.code (dropTx i d)
  let d := wr (bank i CTE_TX_WRITES) 0 (wr (bank i CTE_ERR_ADDR) (wordOf addr) d)
  let owner := if f.code = 7 ∨ f.code = 8 then wordOf (t.token * 65536 + f.requested * 256 + f.current) else 0
  let d := wr (bank i CTE_ERR_RES) (wordOf f.res) (wr (bank i CTE_ERR_OWNER) owner d)
  raise Src.CTE_FAIL 0 (journal 0x03 0x0C (ctePayload 1 f.code t.token i) (incFld CTE_FAIL_CNT 15 0 d))

/-! ## Waiting (R425, R426) -/

/-- Do two transactions share an address or a resource? -/
def txShare (x y : Tx) : Bool :=
  x.entries.any (fun e => y.entries.any (fun f =>
    decide ((ovlEntry e).own = (ovlEntry f).own) && decide ((ovlEntry e).key = (ovlEntry f).key)))

/-- Does a later-arrived commit wait on transaction `t`? -/
def waitedOn (d : Dev) (t : Tx) : Bool :=
  d.cte.txs.any (fun x => decide (x.phase ≠ .opened) && decide (t.order < x.order) && txShare t x)

/-- Does transaction `t` wait on an earlier-arrived commit that has not applied? -/
def waitsOn (d : Dev) (t : Tx) : Bool :=
  d.cte.txs.any (fun x => decide (x.phase = .pending) && decide (x.order < t.order) && txShare t x)

/-- A rollback that transaction `t`, OPEN or PENDING, has been asked for (R426). -/
def rollbackNow (t : Tx) (d : Dev) : Dev :=
  if t.phase = .pending ∧ waitedOn d t = true then setFld (bank t.by_ CTE_TX) 15 8 14 d else rollbackTx t.by_ 0 d

/-- A write of `v` to `CTE_ROLLBACK` by initiator `i` (R426, R439). -/
def cteRollback (i : Initiator) (v : Word) (d : Dev) : Dev :=
  if !mayHold i then respErr d
  else if !bit v 0 then d
  else match txOf d i with
  | none => setFld (bank i CTE_TX) 15 8 4 d
  | some t => if t.phase = .validating then setTx { t with rollback := true } d else rollbackNow t d

/-- TXTIME has passed without a write of the OPEN transaction of initiator `i` (R426). -/
def cteTimeout (i : Initiator) (d : Dev) : Dev :=
  match openTx d i with
  | some t => if elapsed d t.lastWrite (fld d CTE_CTRL 13 0 * msTicks) then rollbackTx i 12 d else d
  | none => d

/-! ## Application (R425) -/

/-- Is `a` a register of PWM? -/
def isPwm (a : Nat) : Bool := decide (a / 0x10000 = 0x4050)

/-- One entry that is no PWM register takes its place at the boundary. -/
def applyEntry (e : CteEntry) (d : Dev) : Dev :=
  if e.addr = CTE_OWNSET then { d with cfg := { d.cfg with owners := ownsetApply e.value d.cfg.owners } }
  else match ceWordAt e.addr with
  | some (x, w) => adjCommit x [(w, e.value.toNat % 65536), (w + 1, e.value.toNat / 65536)] d
  | none => if isPwm e.addr then d else regPut true (now d) e.addr e.value d

/-- The PWM registers of a commit apply as one batch (R222); only a commit at a Load Instant comes in time for it. -/
def applyPwm (t : Tx) (d : Dev) : Dev :=
  let ws := (t.entries.filter (fun e => isPwm e.addr)).map (fun e => (e.addr, e.value))
  if ws.isEmpty then d
  else if t.kind = 1 then ws.foldl (fun d w => pwmPut w.1 w.2 (now d) d) d
  else pwmBatch ws (now d) d

/-- `CFG_RES_OWNER` shows the owner and the ADJ mark of the resource in `CFG_RES_QUERY` (R50). -/
def showResOwner (d : Dev) : Dev :=
  let id := (rd d CFG_RES_QUERY).toNat
  if resIdOk id then
    let o := ownerIn d.cfg.owners id
    wr CFG_RES_OWNER (wordOf (o.code + 256 * b2n o.adj)) d
  else d

/-- Transaction `t` applies, every entry in this tick, and is recorded in the overlay (R425, R428). -/
def applyTx (t : Tx) (d : Dev) : Dev :=
  let i := t.by_
  let d := applyPwm t (t.entries.foldl (fun d e => applyEntry e d) d)
  let d := if t.entries.any (fun e => decide (e.addr = CTE_OWNSET)) then showResOwner (subOwners d) else d
  let d := showOvl (modCte (fun c => { c with overlay := t.entries.foldl (ovlPut d) c.overlay }) d)
  wr (bank i CTE_TX_WRITES) 0 (wr (bank i CTE_BOUNDARY) (nowLo d) (showTx i 4 0 (dropTx i d)))

/-- The boundary of the pending transaction of initiator `i` has come: it applies unless it waits on an earlier one. -/
def boundaryApply (i : Initiator) (d : Dev) : Dev :=
  match txOf d i with
  | none => d
  | some t =>
    match t.boundary with
    | none => d
    | some b => if t.phase = .pending ∧ b ≤ now d ∧ waitsOn d t = false then applyTx t d else d

/-- Is `t` the earliest-arrived of the transactions under validation? Commits are checked one at a time (R36). -/
def firstToValidate (d : Dev) (t : Tx) : Bool :=
  !d.cte.txs.any (fun x => decide (x.phase = .validating) && decide (x.order < t.order))

/-- Validation of the transaction of initiator `i` ends (R425, R426). -/
def validationDone (i : Initiator) (d : Dev) : Dev :=
  match txOf d i with
  | none => d
  | some t =>
    if t.phase ≠ .validating ∨ firstToValidate d t = false then d
    else match txFail d t with
    | some (f, addr) => commitFails t f addr d
    | none =>
      match boundaryOf d t with
      | .inl code => commitFails t { code } 0 d
      | .inr b =>
        let t := { t with phase := .pending, boundary := b }
        let d := setFld (bank i CTE_TX) 2 0 3 (setTx t d)
        if t.kind = 0 then boundaryApply i d
        else if t.rollback then rollbackNow { t with rollback := false } d else d

/-- Commits at a Load Instant whose boundary has come apply before the stage copy of their groups (R425, R222). -/
def loadInstantCommits (d : Dev) : Dev :=
  (pendingTxs d).foldl (fun d t => if t.kind = 1 then boundaryApply t.by_ d else d) d

/-! ## Replay at start-up (R428, R528) -/

/-- One overlay entry is replayed: EVS word 2 with ARM = 0. -/
def replayEntry (o : OvlEntry) (d : Dev) : Dev :=
  if o.own then
    { d with cfg := { d.cfg with owners := setOwnerIn d.cfg.owners o.key { ownerIn d.cfg.owners o.key with code := o.value.toNat } } }
  else match ceWordAt o.key with
  | some (x, w) => adjPut x [(w, o.value.toNat % 65536), (w + 1, o.value.toNat / 65536)] d
  | none =>
    match evsAt o.key with
    | some (_, w) => wr o.key (if w = 2 then setBit o.value 31 false else o.value) d
    | none => storePlain o.key o.value d

/-- The overlay is replayed at the end of start-up step 4 (R428): one bad copy is rewritten from the other; with both
bad, or under another Former VERSION `v`, nothing is replayed and the overlay starts empty. -/
def overlayReplay (v : Word) (d : Dev) : Dev :=
  let d := wr CTE_OVL 0 d
  let badA := retBad d 0x2C038000 0x2C03AFFF
  let badB := retBad d 0x2C03B000 0x2C03DFFF
  let d := retGood 0x2C038000 0x2C03DFFF d
  let empty (d : Dev) : Dev := modCte (fun c => { c with overlay := [], version := v }) d
  if badA && badB then raise Src.CTE_OVERLAY 0 (setFlag CTE_OVL 31 true (empty d))
  else if d.cte.overlay.isEmpty then empty d
  else if d.cte.version ≠ v then setFlag CTE_OVL 30 true (empty d)
  else showOvl (d.cte.overlay.foldl (fun d o => replayEntry o d) d)

end Sys2Proof.Machine
end

