-- ==== Sys2Proof/Machine/CfgCore.lean ====
section
/-! DEFINITION. The Former loader after the copy checks (R20, R26, R31, R32, R37, R428, R528): selection, the structure and
the maps in place, what the Former starts; feature negotiation (R41–R45) and debug access (R46–R49). -/

namespace Sys2Proof.Machine

open Reg

/-- The Former loader changed by `f`. -/
def modCfg (f : CfgState → CfgState) (d : Dev) : Dev := { d with cfg := f d.cfg }

/-! ## Checked copies and selection (R30–R32) -/

/-- The result of the check of copy `k` in a register form: code, SECT and OFFSET. -/
def rejWord (r : Option Rej) : Nat × Word :=
  match r with
  | none => (0, 0)
  | some (c, t, o) => (c, wordOf (t * 0x1000000 + o % 0x1000000))

/-- The code that `CFG_STATUS` shows for copy `k`. -/
def shownCode (d : Dev) (k : Nat) : Nat := fld d CFG_STATUS (11 + 4 * k) (8 + 4 * k)

/-- The result of the check of copy `k` is recorded and journalled with the copy's header (R30). -/
def recordCopy (mem : List Host.Cell) (k : Nat) (r : Option Rej) (d : Dev) : Dev :=
  let (c, w) := rejWord r
  let h := Memory.readBytes mem (copyBase k) 32
  let readable := decide (c ≠ 1) && (mediaIn d (copyBase k) 0 0 32).isNone
  let d := setFld CFG_STATUS (11 + 4 * k) (8 + 4 * k) c d
  let d := wr (if k = 0 then CFG_REJ0 else CFG_REJ1) w d
  let d := wr (if k = 0 then CFG_COPY0_VERSION else CFG_COPY1_VERSION) (if readable then wordOf (le32 h 8) else 0) d
  journal 0x02 0x20 (h ++ [BitVec.ofNat 8 c] ++ toLe32 w.toNat) d

/-- Copy `k` is selected for use. -/
def selectCopy (mem : List Host.Cell) (k : Nat) (degraded : Bool) (d : Dev) : Dev :=
  let d := setFld CFG_STATUS 21 20 (k + 1) (setFlag CFG_STATUS 16 degraded d)
  wr CFG_FMR_VERSION (wordOf (le32 (Memory.readBytes mem (copyBase k) 32) 8)) { d with phase := .checked }

/-- A Configuration Hold state: 2 HOLD_NONE, 3 HOLD_CONFLICT (R32). -/
def enterHold (st : Nat) (d : Dev) : Dev :=
  let d := setFld CFG_STATUS 21 20 0 (setFld CFG_STATUS 2 0 st d)
  let d := wr CFG_FMR_VERSION 0 { d with phase := .hold, sis := { d.sis with safety := [], safetyDigest := [] } }
  sealCheck true d

/-- The selection rule of R31 over the two recorded codes. -/
def chooseCopy (mem : List Host.Cell) (d : Dev) : Dev :=
  let ver (k : Nat) : Nat := le32 (Memory.readBytes mem (copyBase k) 32) 8
  match shownCode d 0, shownCode d 1 with
  | 0, 0 =>
    if ver 1 < ver 0 then selectCopy mem 0 false d
    else if ver 0 < ver 1 then selectCopy mem 1 false d
    else if signedDigest (copyImage mem 0) = signedDigest (copyImage mem 1) then selectCopy mem 0 false d
    else enterHold 3 d
  | 0, _ => selectCopy mem 0 true d
  | _, 0 => selectCopy mem 1 true d
  | _, _ => enterHold 2 d

/-- CFG has checked both copies (R31): not while a clock fault holds the reset (R516). -/
def formerChecked (mem : List Host.Cell) (d : Dev) : Dev :=
  if d.phase ≠ .strapped ∨ d.sys.clockReset then d
  else chooseCopy mem (recordCopy mem 1 (copyRej mem d 1) (recordCopy mem 0 (copyRej mem d 0) d))

/-! ## Values of the Former that the image format of this manual gives no place (log entry 12) -/

/-- The registers, by the address of their first element, whose fields marked "from Former" come to the model with the
command, and those fields. -/
def formerFields : List (Nat × Word) := [
  (ATB_AXn_CFG 0, 0x30000000), (PFC_PFn_CFG 0, 0xF), (ADS_Pp_CFG 0, 0x33), (PWM_PLnn_CFG 0, 0xF0300000),
  (PWM_PLnn_PORT 0, 0x3F3F), (PWM_CGg_CFG 0, 0x80000000), (GLK_GLnn_CFG 0, 0x80BF0000), (CSQ_SRCs_CFG 0, 0x80003FFF),
  (CSQ_AXa_SRC 0, 0xC0FFFF0F), (ETHn_CFG 0, 0x83030300), (ETHn_MAC_LO 0, 0xFFFFFFFF), (ETHn_MAC_HI 0, 0xFFFF),
  (ETHn_IPADDR 0, 0xFFFFFFFF), (CAN_CTRL 0, 0xC0000000), (CAN_NBT 0, 0xFFFFFF7F), (CAN_DBT 0, 0x1F1F0F0F),
  (CAN_CSQACK 0, 0xFFFFFFFF), (CAN_FLTf_ID 0 0, 0xDFFFFFFF), (CAN_FLTf_MASK 0 0, 0xDFFFFFFF), (BST_CFG, 1), (FLS_CFG, 0x3F)]

/-- The fields of the register at `a` that the Former gives in this way. -/
def formerMask (a : Nat) : Word :=
  let base := (regKey a).1
  match formerFields.find? (fun x => decide (x.1 = base)) with
  | some (_, m) => if base = 0 then 0 else m
  | none => 0

/-- A value of the Former takes its place: fields that are not the Former's keep their reset value. -/
def formerPut (d : Dev) (x : Nat × Word) : Dev :=
  let m := formerMask x.1
  if m = 0 then d else wr x.1 ((rd d x.1 &&& ~~~m) ||| (x.2 &&& m)) d

/-- The banks (true = high) in which PREF may be 1 for axis `a` (R285, R287). -/
def prefBankOk (d : Dev) (a : Nat) (high : Bool) : Bool :=
  match fld d (PSP_AXa_SEL a) 1 0 with
  | 0 => false
  | 1 => !high
  | 2 => high
  | _ => decide (high = flag d (PSP_AXa_SEL a) 4)

/-- The balls that an enabled unit uses, under R86 and R527. -/
def usedBalls (d : Dev) : List Nat :=
  (List.range 8).flatMap (fun n =>
    let b := 544 + 8 * n
    match pfMode d n with
    | 1 | 2 => [b, b + 2, b + 4]
    | 3 | 4 => [b, b + 6]
    | _ => []) ++
  (List.range 4).flatMap (fun c => if flag d (CAN_CTRL c) 31 then [620 + 2 * c, 621 + 2 * c] else []) ++
  (List.range 2).flatMap (fun n =>
    if !flag d (ETHn_CFG n) 31 then []
    else if fld d (ETHn_CFG n) 25 24 = 0 then (List.range 12).map (682 + 18 * n + ·)
    else (List.range 4).map (694 + 18 * n + ·))

/-- The mirror rules of port `p` (R277, R278). -/
def mirrorOk (d : Dev) (p : Nat) : Bool :=
  let s := fld d (GLK_GLnn_CFG p) 21 16
  !flag d (GLK_GLnn_CFG p) 23 ||
    (decide (ownerOf d 0x03 s = ownerOf d 0x03 p) && decide (flag d (GLK_GLnn_CFG s) 8 = flag d (GLK_GLnn_CFG p) 8))

/-- PREF of the ports of leg `l` (R278, R287): not on both, and on an axis's leg only in a bank that R287 allows. -/
def prefLegOk (d : Dev) (l : Nat) : Bool :=
  let pref (p : Nat) : Bool := flag d (GLK_GLnn_CFG p) 8
  let h := pref (highPort d l)
  let lo := pref (lowPort d l)
  if !legOwned d l || singleSwitch d l then true
  else !(h && lo) && (match ownerAxis d 0x02 l with
    | some a => (!h || prefBankOk d a true) && (!lo || prefBankOk d a false)
    | none => true)

/-- The checks on the Former's values that the image's bytes alone do not decide (R86, R277, R278, R287, R509), the device
`d` having them in place. -/
def formerRej (former : List (Nat × Word)) (m : List Byte) (d : Dev) : Option Rej :=
  firstRej [
    need (former.all (fun x => decide (formerMask x.1 = 0) || rangesOkAt x.1 (rd d x.1))) (0xA, 1, secOfs m 1),
    need ((List.range 64).all (mirrorOk d) && (List.range 32).all (prefLegOk d)) (0xA, 8, secOfs m 8 + 8),
    firstOver (usedBalls d) (fun b => secNeed m 0xC 3 (decide (listGet 0 d.cfg.pinMap b ≠ 3)) (4 * b))]

/-! ## The structure in place (R26, R37 step 4) -/

/-- Write the words `ws` to the registers from `base` on, those equal to the reset value left out. -/
def loadWords (base : Nat) (ws : List Word) (d : Dev) : Dev :=
  ws.zipIdx.foldl (fun d x => if x.1 = resetValue (base + 4 * x.2) then d else wr (base + 4 * x.2) x.1 d) d

/-- The 32-bit words of a section. -/
def secWords (m : List Byte) (t : Nat) : List Word := (entriesOf 4 (sec m t)).map (fun e => wordOf (le32 e 0))

/-- PSP's registers marked "from Former", from SAFETY (R301, R333). -/
def loadPsp (m : List Byte) (d : Dev) : Dev :=
  let w := secWords m 8
  let d := forEach [0, 1, 2, 3] (fun a => loadWords (PSP_AXa_SEL a) ((w.drop (4 + 4 * a)).take 3)) d
  forEach [0, 1, 2, 3] (fun l => loadWords (PSP_LKl_UDC l) ((w.drop (20 + 16 * l)).take 16)) d

/-- Roles, serving engines, partitions (R26, R152). -/
def loadCea (m : List Byte) (d : Dev) : Dev :=
  let d := forEach (List.range 5) (fun n d =>
    match (axesInUse d).find? (fun a => decide ((vget d.cfg.axes a).ce = n)) with
    | some a => setFld (CEA_AXa_STATUS a) 2 0 n (setRole n 1 a d)
    | none => setRole n 0 0 d) d
  let d := nextSpare 5 d
  forEach (axesInUse d) (fun a d =>
    let p := imgPart m a
    let x := vget d.cfg.axes a
    let d := forEach (List.range 5) (fun n => setPartition n a p) d
    let d := setFlag (CEA_AXa_FC_CFG a) 16 x.flyingRestart (setFlag (CEA_AXa_FC_CFG a) 17 x.rollbackCatch d)
    let d := setFld (ATB_AXn_CFG a) 6 0 x.polePairs d
    modCfg (fun c => { c with formerParts := vset c.formerParts a p }) d) d

/-- The period of every carrier group that an axis owns (R213). -/
def loadPeriods (d : Dev) : Dev :=
  forEach (List.range 8) (fun g d =>
    match ownerAxis d 0x0B g with
    | some a => wr (PWM_CGg_PERIOD g) (wordOf (800000000 / (vget d.cfg.axes a).carrierHz)) d
    | none => d) d

/-- The entries of EVS_TABLE whose word 2 asks for arming (R528). -/
def armMarks (m : List Byte) : List Nat :=
  ((entriesOf 16 (sec m 5)).zipIdx.filter (fun x => decide (128 ≤ byteAt x.1 11))).map (fun x => x.2)

/-- Everything of image `m` in place, as the Former gives it: EVS words with their marks still in them. -/
def loadImage (m : List Byte) (former : List (Nat × Word)) (d : Dev) : Dev :=
  let d := withImage m d
  let d := modCfg (fun c => { c with pinMap := (List.range 900).map (funcOf (sec m 3)) }) d
  let d := { d with sis := { d.sis with safetyDigest := sha256 (sec m 8) } }
  let dg := d.sis.safetyDigest
  let d := loadWords (CFG_SAFETY_HASH 0)
    ((List.range 8).map (fun k => wordOf (be32 dg (4 * k)))) d
  let d := loadPsp m d
  let d := former.foldl formerPut d
  let d := forEach (List.range 64) (fun p => whenD (safPref m p) (setFlag (GLK_GLnn_CFG p) 8 true)) d
  let d := loadPeriods (loadCea m d)
  let d := ((entriesOf 4 (sec m 6)).zipIdx).foldl (fun d x =>
    if le32 x.1 0 = 0 then d else wr (FCR_SRCkkkk_CFG x.2) (fcrMapWord x.1) d) d
  let d := loadWords (THM_DIE_STAGE 0) (secWords m 7) d
  loadWords (evsWordAddr 0 0) (secWords m 5) d

/-- The registers that act from the end of step 4 on: position channels, excitations, emulation outputs, carrier groups,
ports (R37, R102, R110, R215, R276). -/
def startUnits (d : Dev) : Dev :=
  let d := forEach (List.range 8) (fun n d =>
    let d := whenD (decide (pfMode d n ≠ 0)) (modeEntered n) d
    modChan n (fun c => { c with nextPer := now d + fld d (PFC_PFn_FRAME n) 23 0 }) d) d
  let d := forEach (List.range 4) (fun e d => whenD (flag d (PFC_EXCe_CFG e) 31) (excCross e (now d)) d) d
  let d := forEach (List.range 4) (fun n d => whenD (flag d (EEM_EMn_CFG n) 31) (eemEnabled n) d) d
  let d := forEach (List.range 8) (fun g d => whenD (flag d (PWM_CGg_CFG g) 31) (groupStart g (now d)) d) d
  forEach (List.range 64) (fun p d => whenD (portEn d p && !flag d SYS_VMON 2) (setPstate p 1) d) d

/-- EVS arms the marked entries that the overlay does not hold, at the present tick (R528). -/
def startArming (marks : List Nat) (d : Dev) : Dev :=
  marks.foldl (fun d n =>
    if d.cte.overlay.any (fun o => !o.own && decide (o.key = evsWordAddr n 2)) then d
    else (evsTryArm n (setBit (evsWord d n 2) 31 true) (now d : Int) d).2) d

/-- What the start found before FCR had its map is raised (the model's choice, log entry 60). -/
def raiseStart (d : Dev) : Dev :=
  d.cfg.startRaise.foldl (fun d x => raise x.1 x.2 d) (modCfg (fun c => { c with startRaise := [] }) d)

/-- The end of step 4 and the release of the processor pairs (R37, R428, R528), the image's contents being in place. -/
def finishStart (m : List Byte) (d : Dev) : Dev :=
  let d := modCfg (fun c => { c with formerRegs := d.regs, formerOwners := c.owners }) d
  let marks := armMarks m
  let d := marks.foldl (fun d n => setFlag (evsWordAddr n 2) 31 false d) d
  let d := overlayReplay (rd d CFG_FMR_VERSION) d
  let d := sealCheck false d
  let d := startUnits (startArming marks d)
  let d := modCsq (fun c => { c with appliedAt := Vector.replicate 4 (now d), late := 0 }) d
  flsBegin (raiseStart (setFld CFG_STATUS 2 0 1 { d with phase := .programmed }))

/-- CFG finishes programming the selected copy; a copy whose values contradict each other fails its check after all, and
the selection is made again. -/
def structureProgrammed (mem : List Host.Cell) (former : List (Nat × Word)) (d : Dev) : Dev :=
  if d.phase ≠ .checked then d
  else
    let k := selCopy d - 1
    let m := copyImage mem k
    let d1 := loadImage m former d
    match formerRej former m d1 with
    | none => finishStart m d1
    | some r => chooseCopy mem (recordCopy mem k (some r) d)

/-- The boot ROM has verified the firmware and enters it (R37 step 5). -/
def firmwareVerified (d : Dev) : Dev := if d.phase = .programmed then { d with phase := .running } else d

/-! ## CFG registers written by firmware (R20, R43, R50, R52) -/

/-- A write of `CFG_UPD_CTRL` by `i`: one that would unlock the copy in use is ignored and recorded as a violation. -/
def updCtrl (i : Initiator) (v : Word) (d : Dev) : Dev :=
  if bit v 0 && decide (selCopy d = bits v 4 4 + 1) then violation i CFG_UPD_CTRL .fixed 1 d
  else storePlain CFG_UPD_CTRL v d

/-- A write of `CFG_RES_QUERY`. -/
def resQuery (v : Word) (d : Dev) : Dev :=
  if resIdOk v.toNat then showResOwner (wr CFG_RES_QUERY v d) else respErr d

/-- A write of `CFG_DRVFEAT` word `k` (R43, R52). -/
def drvFeat (k : Nat) (v : Word) (d : Dev) : Dev :=
  if fld d CFG_FEAT_STATUS 1 0 = 1 then d
  else
    let d := wr (CFG_DRVFEAT k) v d
    if fld d CFG_FEAT_STATUS 1 0 = 2 then setFld CFG_FEAT_STATUS 1 0 0 d else d

/-- The lowest accepted bit that `CFG_DEVFEAT` does not offer. -/
def unoffered (d : Dev) : Option Nat :=
  (List.range 256).find? (fun i => flag d (CFG_DRVFEAT (i / 32)) (i % 32) && !bit (Config.devFeat (i / 32)) (i % 32))

/-- A write of `CFG_FEAT_COMMIT` (R43). -/
def featCommit (v : Word) (d : Dev) : Dev :=
  if !bit v 0 then d
  else if fld d CFG_FEAT_STATUS 1 0 = 1 then setFld CFG_FEAT_STATUS 6 4 2 d
  else match unoffered d with
  | some i => wr CFG_FEAT_STATUS (wordOf (256 * i + 16 + 2)) d
  | none => wr CFG_FEAT_STATUS 1 d

/-! ## Debug access (R46–R49) -/

/-- The ERR code of R53 that token `t` deserves; 0 where every check passes. -/
def tokenErr (d : Dev) (t : List Byte) : Nat :=
  let uid := toLe32 Config.uid0.toNat ++ toLe32 Config.uid1.toNat
  let nonce := toLe32 (rd d CFG_DBG_NONCE0).toNat ++ toLe32 (rd d CFG_DBG_NONCE1).toNat
  if t.length ≠ 160 ∨ slice t 0 4 ≠ [0x4D, 0x44, 0x42, 0x47] ∨ 64 ≤ le32 t 20 ∨ zeroAt t 25 7 = false then 1
  else if slice t 4 8 ≠ uid then 2
  else if d.cfg.nonceUsed ∨ slice t 12 8 ≠ nonce then 3
  else if keyOk d (byteAt t 24) (fun s => s.debug) (slice t 32 64) = false then 4
  else if Config.ecdsaP256 (slice t 32 64) (sha256 (t.take 96)) (slice t 96 64) = false then 5
  else 0

/-- A complete token has been written through JTAG (R46–R49). -/
def tokenWritten (t : List Byte) (d : Dev) : Dev :=
  let e := tokenErr d t
  if e ≠ 0 then journal 0x07 0x20 [BitVec.ofNat 8 e] (setFld CFG_DBG_STATUS 6 4 e d)
  else
    let perms := le32 t 20
    let d := modCfg (fun c => { c with nonceUsed := true }) (wr CFG_DBG_STATUS (wordOf (perms * 256 + 1)) d)
    if perms.testBit 5 || !anyGranted d then d else forEach (axesInUse d) sisSafe d

/-- One word arrives at the token port: the fortieth completes a token (R50). -/
def tokenWord (v : Word) (d : Dev) : Dev :=
  let ws := d.cfg.tokenWords ++ [v]
  if ws.length < 40 then modCfg (fun c => { c with tokenWords := ws }) d
  else tokenWritten (ws.flatMap (fun w => toLe32 w.toNat)) (modCfg (fun c => { c with tokenWords := [] }) d)

/-- A write of `CFG_DBG_CLOSE` (R49). -/
def debugCloseWrite (v : Word) (d : Dev) : Dev :=
  if bit v 0 then
    modCfg (fun c => { c with nonceUsed := true })
      (setFlag CFG_DBG_CLOSE 0 true (setFld CFG_DBG_STATUS 15 8 0 (setFlag CFG_DBG_STATUS 0 false d)))
  else d

end Sys2Proof.Machine
end

