-- ==== Sys2Proof/Machine/SysCore.lean ====
section
/-! DEFINITION. Resets, supplies and clocks (R37, R39, R47, R308, R330, R418, R426, R510–R518, R524, R525), the restart of
SIS (R306, R513) and the strap sampling of start-up (R309). -/

namespace Sys2Proof.Machine

open Reg

/-! ## What a reset keeps (R517) -/

/-- Is a key of the register file one of the SIS window or of a copy of it? -/
def sisKey (k : Nat) : Bool := inRange (k % 0x100000000) 0x50000000 0x5000FFFF

/-- SIS after its own reset: the fuses, the Lockout record of MRAM, the levels at its pins, and the SAFETY section, which
it reads again from the copy in use. -/
def sisFresh (s : SisState) : SisState :=
  { safety := s.safety, safetyDigest := s.safetyDigest, fuses := s.fuses, lockRecord := s.lockRecord,
    stoA := s.stoA, stoB := s.stoB, stoATick := s.stoATick, stoBTick := s.stoBTick,
    contactors := s.contactors.map (fun c => { feedback := c.feedback }) }

/-- The registers of SIS leave the register file. -/
def dropSisRegs (d : Dev) : Dev := { d with regs := d.regs.filter (fun r => !sisKey r.1) }

/-- A fresh 64-bit debug nonce (R47). -/
def newNonce (d : Dev) : Dev :=
  let (x, d) := drawRandom d
  let (y, d) := drawRandom d
  wr CFG_DBG_NONCE0 x (wr CFG_DBG_NONCE1 y d)

/-- The device as every reset leaves it, power-on or warm: units at their reset state; SIS, MRAM's stores, fuses, the far
end of the links and the levels at pins as they were, with the registers whose key `keep` names. -/
def resetUnits (keep : Nat → Bool) (d : Dev) : Dev :=
  { phase := .held
    ltb := d.ltb
    draws := d.draws
    raised := d.raised
    regs := d.regs.filter (fun r => keep r.1)
    cfg := { keys := d.cfg.keys }
    pwm := { pins := d.pwm.pins }
    glk := { drivers := d.glk.drivers }
    sis := d.sis
    jrn := { ring := d.jrn.ring, wrapsA := d.jrn.wrapsA, wrapsB := d.jrn.wrapsB }
    icf := { badWords := d.icf.badWords }
    pfc := { chans := d.pfc.chans.map (fun c => { lines := c.lines.map (fun l => { ball := l.ball, level := l.ball }) }) }
    csq := { flush := d.csq.flush }
    sys := { d.sys with warmWaits := none, clockReset := false } }

/-! ## Power-on reset -/

/-- Ticks recorded before the LTB restarts from 0 (R55) count as 0. -/
def rebase (n t : Nat) : Nat := t - n

/-- SIS's and the drivers' own times after the LTB has restarted from 0. -/
def ltbRestart (d : Dev) : Dev :=
  let n := now d
  let r := rebase n
  let s := d.sis
  let seq (q : LinkSeq) : LinkSeq := match q with | .pcPre t p => .pcPre (r t) p | q => q
  { d with
    ltb := 0
    sis := { s with
      stoATick := r s.stoATick, stoBTick := r s.stoBTick, stoDiffer := s.stoDiffer.map r, ss1Since := r s.ss1Since
      contactors := s.contactors.map (fun c => { c with cmdTick := r c.cmdTick })
      links := s.links.map (fun l => { l with seq := seq l.seq, retryFrom := r l.retryFrom, differs := l.differs.map r })
      monitors := s.monitors.map (fun m => { m with cmds := m.cmds.map (fun c => { c with tick := r c.tick }) })
      selfcheckFrom := r s.selfcheckFrom, keyFrom := r s.keyFrom, lastEval := s.lastEval.map r }
    glk := { d.glk with drivers := d.glk.drivers.map (fun x => { x with
      lastSync := r x.lastSync, lastValid := r x.lastValid, lolSince := r x.lolSince, lastFault := r x.lastFault }) }
    sys := { d.sys with refFrom := d.sys.refFrom.map r, pllFrom := d.sys.pllFrom.map r, deviates := d.sys.deviates.map r } }

/-- The SRAMs lose their contents at a power-on reset; the retention SRAM is zeroed (R391). -/
def clearSram (mem : List Host.Cell) : List Host.Cell := Memory.clear mem 0x20000000 0x2FFFFFFF

/-- The part of a power-on reset that SIS's supply decides: SIS is reset too unless `keepSis`. -/
def powerReset (keepSis : Bool) (d : Dev) : Dev :=
  let d := resetUnits (fun k => keepSis && sisKey k) d
  let d := { d with icf := { badWords := d.icf.badWords.filter (fun w => decide (w < 0x4000000)) } }
  if keepSis then d else { d with sis := { sisFresh d.sis with safety := [], safetyDigest := [] } }

/-- Power-on reset is released (R37 step 1, R418, R430, R510, R514): `porst` by PORST_N, which resets SIS as well; else after
the supply monitor of `domain` or the ramp. With TEST_MODE high the device stays in reset. -/
def powerOnRelease (porst : Bool) (domain : Nat) (testMode : Bool) (s : State) : State :=
  if !porst && decide (s.dev.phase ≠ .held) then s
  else
    let d := ltbRestart (powerReset (!porst && s.dev.sis.running) s.dev)
    let mem := clearSram s.mem
    if testMode then { s with mem, dev := settle d }
    else
      let d := wr SYS_RST_CAUSE (if porst then 2 else wordOf (domain * 0x10000 + 1)) { d with phase := .released }
      let d := wr SYS_CLK_STATUS (wordOf (b2n d.sys.pllFrom.isNone + 2 * b2n d.sys.refFrom.isNone)) d
      let d := setFlag CSQ_STATUS 8 d.sys.pinLow (setFlag SYS_PWRFAIL 0 (!d.sys.pinLow) d)
      { s with mem, dev := settle (csqRestore (jrnStart (newNonce d))) }

/-! ## Warm reset (R39, R517, R518) -/

/-- The registers that a warm reset keeps: those of SIS, the NTU counter, the live monitor bits, and the overlay's flags
(R428). -/
def warmKeeps (k : Nat) : Bool :=
  sisKey k || [NTU_CNT, NTU_WRAPCNT, SYS_VMON, SYS_CLK_STATUS, CTE_OVL].contains k

/-- The open transactions of `d` are journalled as rolled back with RESET (R426). -/
def journalResets (txs : List Tx) (d : Dev) : Dev :=
  txs.foldl (fun d t => journal 0x03 0x0C (ctePayload 2 15 t.token t.by_) d) d

/-- A warm reset with the causes `cause` takes effect: steps 4 to 7 are repeated. -/
def warmNow (cause : Word) (d0 : Dev) : Dev :=
  match d0.phase with
  | .held | .released | .sisUp => d0
  | _ =>
    let d := forEach [0, 1, 2, 3] dropEnable d0
    let im := csqImage d
    let log := d.csq.log
    let d := resetUnits warmKeeps d
    let d := { d with phase := .strapped, csq := { d.csq with log }, ntu := { frac := d0.ntu.frac } }
    let d := setFld SYS_CLK_STATUS 9 8 0 (setFld CTE_OVL 29 0 0 d)
    let d := setFlag CSQ_STATUS 8 d.sys.pinLow (setFlag SYS_PWRFAIL 0 (!d.sys.pinLow) d)
    let d := wr SYS_RST_CAUSE cause (newNonce d)
    journalResets d0.cte.txs (csqRetain im (jrnStart d))

/-- A warm reset is due for the causes `cause`; one requested while a flush runs waits (R518). -/
def warmDue (cause : Word) (d : Dev) : Dev :=
  if d.csq.flushing.isSome then { d with sys := { d.sys with warmWaits := some (setBit cause 5 true) } }
  else warmNow cause { d with sys := { d.sys with warmWaits := none } }

/-- A warm reset is released: RESET_N rises, or the reset asked for by software takes effect. -/
def warmRelease (pin : Bool) (d : Dev) : Dev :=
  match d.sys.warmWaits with
  | some c => warmDue (if pin then setBit c 2 true else c) d
  | none => if pin then warmDue 4 d else d

/-- A write of `SYS_RST_CTRL` (R524). -/
def rstCtrl (v : Word) (d : Dev) : Dev :=
  if bits v 31 16 ≠ 0x6D54 then respErr d
  else if bit v 0 then
    { d with sys := { d.sys with warmWaits := some ((d.sys.warmWaits.getD 0) ||| 8) } }
  else d

/-- The flush is COMPLETE (R418): a warm reset that waited for it takes effect (R518). -/
def flushComplete (d : Dev) : Dev :=
  let d := flushDone d
  match d.sys.warmWaits with
  | some c => if bit c 5 then warmDue c d else d
  | none => d

/-! ## SIS (R37, R306, R308, R513) -/

/-- SIS loses its supply: CT0 to CT5 drop, every grant is gone, SIS waits for its ROM start. -/
def sisLost (d : Dev) : Dev :=
  let d := forEach (List.range 6) (commandCt false) (forEach [0, 1, 2, 3] dropEnable d)
  let d := dropSisRegs { d with sis := sisFresh d.sis }
  { d with glk := { d.glk with orders := d.glk.orders.filter (fun o => decide (o.origin ≠ .sis)) } }

/-- SIS executes its first ROM instruction (R37 step 2). -/
def sisRomBegin (d : Dev) : Dev :=
  let d := if d.phase = .released then { d with phase := .sisUp } else d
  if d.sis.running then d else sisStart d

/-- `SYS_STRAP` shows a copy of `SIS_STRAP` (R524). -/
def copyStrap (d : Dev) : Dev := wr SYS_STRAP (rd d SIS_STRAP) d

/-- SIS samples the straps (R37 step 3). After a restart of SIS alone, the seal check follows at once, on the copy in use. -/
def strapStep (readings : List (List Nat)) (d : Dev) : Dev :=
  if !d.sis.running then d
  else match d.phase with
  | .held | .released => d
  | .sisUp => copyStrap (sampleStraps readings { d with phase := .strapped })
  | .strapped | .checked => if fld d SIS_STRAP 17 16 = 0 then copyStrap (sampleStraps readings d) else d
  | .hold => if fld d SIS_STRAP 17 16 = 0 then sealCheck true (copyStrap (sampleStraps readings d)) else d
  | .programmed | .running =>
    if fld d SIS_STRAP 17 16 = 0 then sealCheck false (copyStrap (sampleStraps readings d)) else d

/-- SIS counts the reference against its own oscillator (R516); `dev` in units of 10 ppm. -/
def sisClockCheck (dev : Int) (d : Dev) : Dev :=
  if !d.sis.running then d
  else if dev.natAbs ≤ 3000 then { d with sys := { d.sys with deviates := none } }
  else
    let t := d.sys.deviates.getD (now d)
    let d := { d with sys := { d.sys with deviates := some t } }
    if elapsed d t msTicks && !flag d SIS_LOCK 27 then lockoutEntry 11 d else d

/-! ## Supplies (R511, R513) -/

/-- The live and the sticky bit of a monitor. -/
def vmonSet (i : Nat) (d : Dev) : Dev := setFlag SYS_VMON i true (setFlag SYS_VMON_STICKY i true d)

/-- Every link port falls silent; each READY one raises GLK_LINK_DOWN. -/
def linksSilent (d : Dev) : Dev :=
  let d := forEach (idxWhere 64 (portReady d)) linkDown d
  forEach (idxWhere 64 (fun p => decide (pstate d p ≠ 0))) (fun p => quietPort p 0) d

/-- The monitor of domain `x` trips under its range. -/
def underVoltage (x : Nat) (d : Dev) : Dev :=
  match x with
  | 1 => vmonSet 1 (sisLost d)
  | 2 => raise Src.SYS_VMON_LINK 0 (linksSilent (vmonSet 2 d))
  | 5 => raise Src.SYS_VMON_A 0 (forEach (List.range 8) refLost (vmonSet 5 d))
  | _ => vmonSet x (powerReset d.sis.running d)

/-- The monitor of domain `x` trips above its range. -/
def overVoltage (x : Nat) (d : Dev) : Dev := raise Src.SYS_VMON_OV x (vmonSet (8 + x) d)

/-- Domain `x` is in range again: its live bits clear, and with VDD_LINK the ports leave OFF (R276). -/
def supplyBack (x : Nat) (d : Dev) : Dev :=
  let was := flag d SYS_VMON x
  let d := setFlag SYS_VMON x false (setFlag SYS_VMON (8 + x) false d)
  if x = 2 ∧ was ∧ (d.phase = .programmed ∨ d.phase = .running) then
    forEach (idxWhere 64 (fun p => portEn d p && decide (pstate d p = 0))) (fun p => setPstate p 1) d
  else d

/-! ## Clocks (R516) -/

/-- The reference is out of order: REF_OK clears, REF_FAIL sets, SYS_CLK_REF is raised. -/
def refFault (d : Dev) : Dev :=
  raise Src.SYS_CLK_REF 0 (setFlag SYS_CLK_STATUS 8 true (setFlag SYS_CLK_STATUS 1 false d))

/-- No reference edge for 400 ns. -/
def refLoss (d : Dev) : Dev := refFault { d with sys := { d.sys with refFrom := some (d.sys.refFrom.getD (now d)) } }

/-- The deviation of the reference from SIS's oscillator, in units of 10 ppm: measured, and a fault above 3%. -/
def refDeviation (dev : Int) (d : Dev) : Dev :=
  let d := setFld SYS_CLK_MEAS 15 0 (unsigned 16 (clampInt (-32768) 32767 dev)) d
  if 3000 < dev.natAbs then refFault d else setFlag SYS_CLK_STATUS 1 d.sys.refFrom.isNone d

/-- The PLL has lost lock or deviates. -/
def pllLoss (d : Dev) : Dev :=
  let d := { d with sys := { d.sys with pllFrom := some (d.sys.pllFrom.getD (now d)) } }
  raise Src.SYS_PLL 0 (setFlag SYS_CLK_STATUS 9 true (setFlag SYS_CLK_STATUS 0 false d))

/-- A clock fault has lasted 20 µs: SYS asserts a warm reset and holds it until the clocks are back. -/
def clockFaultReset (d : Dev) : Dev :=
  let old (t : Option Nat) : Bool := match t with | some t => elapsed d t (20 * usTicks) | none => false
  if (old d.sys.refFrom || old d.sys.pllFrom) && !d.sys.clockReset then
    let d := warmDue ((d.sys.warmWaits.getD 0) ||| 16) d
    { d with sys := { d.sys with clockReset := true } }
  else d

/-- The reference is back and the PLL has been locked for 100 µs. -/
def clockBack (d : Dev) : Dev :=
  setFld SYS_CLK_STATUS 1 0 3 { d with sys := { d.sys with refFrom := none, pllFrom := none, clockReset := false } }

/-! ## PWRFAIL_N (R514) -/

/-- The filtered level of PWRFAIL_N falls. -/
def pwrfailLow (d : Dev) : Dev := pwrfailFall { d with sys := { d.sys with pinLow := true } }

/-- It rises. -/
def pwrfailHigh (d : Dev) : Dev := pwrfailRise { d with sys := { d.sys with pinLow := false } }

/-! ## GPIO (R510, R524) -/

/-- The bits of a GPIO register whose ball is in use. -/
def gpioMask (d : Dev) : Word := wordOf ((List.range 16).foldl (fun m k =>
  if listGet 0 d.cfg.pinMap (650 + k) = 3 then m else m + 2 ^ k) 0)

end Sys2Proof.Machine
end

