-- ==== Sys2Proof/Machine/RegWrite.lean ====
section
/-! DEFINITION. A write over the interconnect, whole (R15, R391–R398, R422–R424, R497): who may make it, the shadow store of
an open transaction, registers whose write does more than store, the checks of the others, and the addressed memories. -/

namespace Sys2Proof.Machine

open Reg

/-- The answer of a write that may be refused: an error response where it is. -/
def answered (r : Bool × Dev) : Dev := if r.1 then respErr r.2 else r.2

/-- The engine behind an initiator, if it is one. -/
def engineOf : Initiator → Option Nat
  | .engine n => some n.val
  | _ => none

/-- The tick on whose authority initiator `i` writes a PWM value now (R222): an engine's sample start, else this tick. -/
def basisOf (d : Dev) (i : Initiator) : Nat :=
  match i with
  | .engine n => match (engine d n.val).run with | some r => r.start | none => now d
  | _ => now d

/-! ## Registers whose write does more than store -/

/-- CFG's (R43, R50, R52). -/
def cfgSpecial (i : Initiator) (a : Nat) (v : Word) (d : Dev) : Option Dev :=
  if a = CFG_UPD_CTRL then some (updCtrl i v d)
  else if a = CFG_RES_QUERY then some (resQuery v d)
  else if a = CFG_FEAT_COMMIT then some (featCommit v d)
  else if a = CFG_DBG_TOKEN then some (tokenWord v d)
  else if a = CFG_DBG_CLOSE then some (debugCloseWrite v d)
  else match elemAt (CFG_DRVFEAT 0) 4 8 a with
  | some k => some (drvFeat k v d)
  | none => none

/-- CTE's (R422–R426, R439). -/
def cteSpecial (i : Initiator) (a : Nat) (v : Word) (d : Dev) : Option Dev :=
  if a = CTE_BEGIN then some (cteBegin i v d)
  else if a = CTE_COMMIT then some (if bit v 31 then cteCommit i (bits v 1 0) d else d)
  else if a = CTE_COMMIT_ARG then some (wr (bank i a) v d)
  else if a = CTE_ROLLBACK then some (cteRollback i v d)
  else if a = CTE_OWNSET then some (cteOwnset i v d)
  else none

/-- JRN's (R432, R434). -/
def jrnSpecial (i : Initiator) (a : Nat) (v : Word) (d : Dev) : Option Dev :=
  if a = JRN_FW_WRITE then some (jrnFwWrite i v d)
  else if a = JRN_SEQ_Q then some (jrnSeqQuery v d)
  else match elemAt (JRN_FW_DATA 0) 4 11 a with
  | some k => some (wr (bank i (JRN_FW_DATA k)) v d)
  | none => none

/-- CEA's (R73, R172, R173, R177). -/
def ceaSpecial (a : Nat) (v : Word) (d : Dev) : Option Dev :=
  match elemAt (CEA_AXa_START 0) (CEA_AXa_START 1 - CEA_AXa_START 0) 4 a with
  | some x => some (answered (ceStartWrite x v d))
  | none =>
  if a = CEA_HANDOVER then some (whenD (bit v 31) (handoverRequest (bits v 1 0) (bits v 6 4)) d)
  else if a = CEA_READMIT then some (readmit v d)
  else match elemAt (CEA_CEn_FLAGCLR 0) (CEA_CEn_FLAGCLR 1 - CEA_CEn_FLAGCLR 0) 5 a with
  | some n => some (flagClear n v d)
  | none =>
  match elemAt (CEA_CEn_STICKY 0) (CEA_CEn_STICKY 1 - CEA_CEn_STICKY 0) 5 a with
  | some n => some (stickyWrite n v d)
  | none => none

/-- ICF's (R398, R406): once LOCK is set the region registers, the default and LOCK itself are read-only. -/
def icfSpecial (a : Nat) (d : Dev) : Option Dev :=
  if flag d ICF_CTRL 0 ∧ (a = ICF_CTRL ∨ a = ICF_DEFAULT ∨ (ICF_RGNn_BASE 0 ≤ a ∧ a < ICF_RGNn_BASE 32)) then some d else none

/-- NTU's (R450–R458). -/
def ntuSpecial (a : Nat) (v : Word) (d : Dev) : Option Dev :=
  if a = NTU_SHD_CTRL then some (answered (ntuShadowCtrl v d))
  else if a = NTU_SHD_SEC_LO ∨ a = NTU_SHD_SEC_HI ∨ a = NTU_SHD_NS then some (answered (ntuShadowReg a v d))
  else if a = NTU_STEP then some (answered (ntuStep v d))
  else if a = NTU_STEP_AUTH then some (ntuArm v d)
  else if a = NTU_SET_GO then some (ntuSet v d)
  else if a = NTU_RATE then some (answered (ntuRate v d))
  else if a = NTU_HOLD_CLR then some (ntuHoldClear v d)
  else if a = NTU_XS_REQ then some (ntuCross v d)
  else if a = NTU_GM_ID_LO ∨ a = NTU_GM_ID_HI then some (ntuGm a v d)
  else none

/-- TRC's (R459, R464, R465). -/
def trcSpecial (a : Nat) (v : Word) (d : Dev) : Option Dev :=
  match elemAt (TRC_MARK 0) 4 4 a with
  | some n => some (trcMark n v d)
  | none =>
  if a = TRC_FWREC then some (answered (trcFwrec v d))
  else match elemAt (TRC_SUBs_END 0) 0x20 32 a with
  | some s => some (answered (subEndWrite s v d))
  | none => none

/-- The transmit buffer whose request register stands at `a`. -/
def txReqAt (a : Nat) : Option (Nat × Nat) :=
  ((List.range 4).flatMap (fun c => (List.range 3).map (fun b => (c, b)))).find? (fun x => decide (CAN_TXBb_REQ x.1 x.2 = a))

/-- CAN's (R473, R475, R480). -/
def canSpecial (a : Nat) (v : Word) (d : Dev) : Option Dev :=
  match txReqAt a with
  | some (c, b) => some (answered (canReq c b v d))
  | none =>
  match elemAt (CAN_BO_RECOV 0) 0x10000 4 a with
  | some c => some (answered (boRecover c v d))
  | none =>
  match elemAt (CAN_RXF_POP 0) 0x10000 4 a with
  | some c => some (answered (fifoPopCan c v d))
  | none => none

/-- SIS's mailbox (R303): each initiator has its own copy. -/
def sisSpecial (i : Initiator) (a : Nat) (v : Word) (d : Dev) : Option Dev :=
  if a = SIS_MB_DOOR then some (whenD (bit v 0) (mbRing i) d)
  else match elemAt (SIS_MB_REQ 0) 4 4 a with
  | some k => some (wr (bank i (SIS_MB_REQ k)) v d)
  | none => none

/-- `SYS`'s (R524): the reset request; GPIO bits whose pin serves another use stay 0. -/
def sysSpecial (a : Nat) (v : Word) (d : Dev) : Option Dev :=
  if a = SYS_RST_CTRL then some (rstCtrl v d)
  else if a = SYS_GPIO_OUT ∨ a = SYS_GPIO_OE then some (storePlain a (v &&& gpioMask d) d)
  else none

/-- A write by initiator `i` to a register whose write does more than store; none for the others. -/
def specialWrite (i : Initiator) (a : Nat) (v : Word) (d : Dev) : Option Dev :=
  match a / 0x10000 with
  | 0x4000 => sysSpecial a v d
  | 0x4001 => cfgSpecial i a v d
  | 0x4002 => cteSpecial i a v d
  | 0x4003 => (elemAt (CSQ_SRCs_LAST 0) 0x10 16 a).map (fun s => answered (setLast s v d))
  | 0x4004 => jrnSpecial i a v d
  | 0x4006 => if a = BST_KEY then some (answered (keyWrite v d)) else none
  | 0x4007 => icfSpecial a d
  | 0x4010 | 0x4012 | 0x4020 => (pfcSpecial (engineOf i) a v d).map answered
  | 0x4030 | 0x4031 | 0x4032 => (senseSpecial a v d).map answered
  | 0x4040 | 0x4041 | 0x4042 | 0x4043 | 0x4044 | 0x4048 => ceaSpecial a v d
  | 0x4050 => some (answered (pwmStore a v (basisOf d i) d))
  | 0x4060 => (glkSpecial a v d).map answered
  | 0x4080 => (fcrSpecial a v d).map answered
  | 0x40A0 | 0x40A1 => (elemAt (ETHn_MDIO 0) 0x10000 2 a).map (fun n => answered (mdioWrite n v d))
  | 0x40A2 => ntuSpecial a v d
  | 0x40B0 | 0x40B1 | 0x40B2 | 0x40B3 => canSpecial a v d
  | 0x40D0 => trcSpecial a v d
  | 0x5000 => sisSpecial i a v d
  | _ => none

/-- Does a plain write change nothing of the register at `a`? -/
def readOnlyAt (a : Nat) : Bool :=
  match regRow? a with
  | some r => decide (r.rw = 0 ∧ r.w1c = 0)
  | none => true

/-- A write of `v` by initiator `i` to the register or EVS word at `a`, outside the shadow store, takes effect (R15): a
register of a unit that is not in use, a locked transmit buffer, and a value outside its range get the error response. -/
def registerStore (i : Initiator) (a : Nat) (v : Word) (d : Dev) : Dev :=
  if regUnused d a || txLocked d a then respErr d
  else match specialWrite i a v d with
  | some d => d
  | none =>
    if readOnlyAt a then d
    else if valueOk d a v then regPut false (now d) a v d else respErr d

/-- Is a write of `i` to `a` one to an adjustable word inside its open transaction (R161)? -/
def adjShadowed (d : Dev) (i : Initiator) (a : Nat) : Bool := (openTx d i).isSome && adjAt d a

/-- Why ICF forbids a write, if it does: an adjustable word inside a transaction passes the rule that closes engine memory. -/
def writeDenied (d : Dev) (i : Initiator) (a : Nat) (w : Width) : Option VKind :=
  if adjShadowed d i a then
    if w ≠ .w32 ∨ jtagDeny d i a true = true then some .fixed
    else if regionDeny d i a true then some .region
    else none
  else denied d i a w true

/-- A write that ICF has let through reaches a register, or the shadow store of its initiator's open transaction (R423). -/
def registerWrite (i : Initiator) (a : Nat) (v : Word) (d : Dev) : Dev :=
  if underTestAt d a then underTest i a d
  else match openTx d i with
  | some t => if shadowed d a then shadowPut t (shadowKey d a) v d else registerStore i a v d
  | none => registerStore i a v d

/-- A 32-bit write of `v` to address `a` by initiator `i`: the command of a row that writes one register. -/
def regWrite (i : Initiator) (a : Nat) (v : Word) (d : Dev) : Dev :=
  if initiatorLive d i then
    match writeDenied d i a .w32 with
    | some k => respErr (violation i a k 1 d)
    | none => registerWrite i a v (respOk d)
  else d

/-! ## Latency and the addressed memories (R391, R395, R496) -/

/-- An Urgent access to a peripheral register or an SRAM took `t` ticks (R395, R406). -/
def urgentLatency (i : Initiator) (a t : Nat) (d : Dev) : Dev :=
  if urgent i && (inRange a 0x40000000 0x40DFFFFF || isSram a) then
    let d := setFld ICF_URG_MAX 15 0 (Nat.max (fld d ICF_URG_MAX 15 0) (Nat.min t 65535)) d
    whenD (decide (120 < t)) (fun d => raise Src.ICF_URG_LATE (initiatorId i) (setFlag ICF_STATUS 1 true d)) d
  else d

/-- Memory that units hold as data of their own (CSQ's and CTE's retention, the journal, the flush area, engine memory): the
bytes there are written by those units alone. -/
def unitMemory (a : Nat) : Bool :=
  inRange a 0x10A00000 0x10E3FFFF || inRange a 0x28000000 0x2813FFFF || inRange a 0x2C000000 0x2C03FFFF

/-- The bytes of a write of a width. -/
def writeBytesOf (w : Width) (v : Word) : List Byte :=
  let b := toLe32 v.toNat
  match w with | .w8 => b.take 1 | .w16 => b.take 2 | .w32 => b

/-- A write to an addressed memory. A word beyond correction discards it with a bus error (R391); what the external flash
holds after a write to its window is its own affair, a free value. -/
def memoryWrite (i : Initiator) (a : Nat) (w : Width) (v : Word) (mem : List Host.Cell) (d : Dev) : List Host.Cell × Dev :=
  let d := mbYield i a d
  if isSram a && badAt d a then (mem, respErr d)
  else if unitMemory a then (mem, d)
  else if inRange a 0x30000000 0x3FFFFFFF then
    let x := drawFree d
    (Memory.writeBytes mem a (writeBytesOf w x.1), x.2)
  else (Memory.writeBytes mem a (writeBytesOf w v), d)

/-- A write that ICF has let through, to any address. -/
def placeWrite (i : Initiator) (a : Nat) (w : Width) (v : Word) (mem : List Host.Cell) (d : Dev) : List Host.Cell × Dev :=
  if adjShadowed d i a then (mem, registerWrite i a v d)
  else if isPeripheral a then
    if inRange a 0x40120000 0x4012FFFF && badAt d a then (mem, respErr d)
    else
      match elemAt (ETHn_TXR_TAIL 0) 0x10000 2 a with
      | some n => (mem, answered (txTail n v mem d))
      | none => ringFlush mem (registerWrite i a v d)
  else memoryWrite i a w v mem d

/-- A write of any width to any address by initiator `i`, which took `t` ticks. -/
def busStore (i : Initiator) (a : Nat) (w : Width) (v : Word) (t : Nat) (mem : List Host.Cell) (d : Dev) :
    List Host.Cell × Dev :=
  if initiatorLive d i then
    match writeDenied d i a w with
    | some k => (mem, respErr (violation i a k 1 d))
    | none => placeWrite i a w v mem (urgentLatency i a t (respOk d))
  else (mem, d)

end Sys2Proof.Machine
end

