-- ==== Sys2Proof/Machine/Angle.lean ====
section
/-! DEFINITION. The Local Timebase, the Angle Timebases and the Event Scheduler (R55–R85, R528, R529): the commands. -/

namespace Sys2Proof.Machine

open Reg

/-- Initiator `i` reads `ATB_LTB_LO`: the upper half is latched for it (R56). -/
def ltbRead (i : Initiator) (d : Dev) : Dev :=
  busRead i ATB_LTB_LO (fun d => respData (nowLo d) (wr (bank i ATB_LTB_HI) (wordOf (now d / 4294967296)) d)) d

/-- Initiator `i` reads `ATB_AXn_ANG_LO`: bits 39:32 are latched for it; an axis not in use reads 0 (R81). -/
def angRead (i : Initiator) (a : Nat) (d : Dev) : Dev :=
  busRead i (ATB_AXn_ANG_LO a) (fun d =>
    if axisInUse d a then
      respData (wordOf (angle40 d a)) (wr (bank i (ATB_AXn_ANG_HI a)) (wordOf (angle40 d a / 4294967296)) d)
    else respData 0 d) d

/-- The trigger instant of entry `n` has been reached (R68): for an ANGLE entry, and before the instant, nothing. -/
def evsTriggerNow (n : Nat) (d : Dev) : Dev :=
  match evsLive? d n with
  | none => d
  | some l =>
    match evsFixed d l with
    | some t => if t ≤ (now d : Int) then evsFire l t d else d
    | none => d

/-- A write of `v` on the event bus to the schedulable register of SREG `r` (R72, R122). -/
def evsDeliver (r : Nat) (v : Word) (d : Dev) : Dev :=
  if r ≤ 0x7 then adsStartEvs r v d
  else if 0x10 ≤ r ∧ r ≤ 0x27 then (sdmWindow (r - 0x10) v d).2
  else if 0x30 ≤ r ∧ r ≤ 0x33 then (ceStartWrite (r - 0x30) v d).2
  else if 0x38 ≤ r ∧ r ≤ 0x3F then whenD (bit v 0) (pfcRequestNow (r - 0x38)) d
  else if 0x48 ≤ r ∧ r ≤ 0x4B then trcMark (r - 0x48) v d
  else if 0x50 ≤ r ∧ r ≤ 0x8F then (diagSlot (r - 0x50) v d).2
  else if 0xA0 ≤ r ∧ r ≤ 0xBF then fcmpTest (r - 0xA0) v d
  else d

/-- The dispatch queue delivers its oldest write (R78). -/
def evsDeliverNext (d : Dev) : Dev :=
  match d.evs.queue with
  | [] => d
  | (r, v) :: q => evsDeliver r v (modEvs (fun e => { e with queue := q }) d)

/-- The two copies of EVS disagree (R62, R84). -/
def evsMismatch (d : Dev) : Dev := raise Src.EVS_CMP 0 (setFlag EVS_STATUS 6 true d)

/-- Initiator `i` reads `EVS_LATELOG1`, which pops the record (R85). -/
def evsLateRead (i : Initiator) (d : Dev) : Dev :=
  busRead i EVS_LATELOG1 (fun d => evsLatePop (respData (evsLateLog1 d) d)) d

/-- ATB_LTB_LO_READ (R56). -/
def execAtbLtbLoRead (by_ : Initiator) (s : State) : Host.Outcome State Fault Refusal :=
  act s (ltbRead by_)

/-- ATB_ANG_LO_READ (R81). -/
def execAtbAngLoRead (by_ : Initiator) (axis : Fin 4) (s : State) : Host.Outcome State Fault Refusal :=
  act s (angRead by_ axis.val)

/-- ANGLE_INTERPOLATION (R57). One tick of the LTB. -/
def execAngleInterpolation (s : State) : Host.Outcome State Fault Refusal :=
  act s (ltbTick)

/-- ATB_POSITION_UPDATE (R59). -/
def execAtbPositionUpdate (axis : Fin 4) (theta : BitVec 40) (tk : Nat)
    (s : State) : Host.Outcome State Fault Refusal :=
  act s (atbUpdate axis.val theta.toNat (tk : Int))

/-- ATB_SETPOS (R60). -/
def execAtbSetpos (by_ : Initiator) (axis : Fin 4) (value : Word) (s : State) : Host.Outcome State Fault Refusal :=
  act s (regWrite by_ (ATB_AXn_SETPOS axis.val) value)

/-- ATB_SETSPD (R60). -/
def execAtbSetspd (by_ : Initiator) (axis : Fin 4) (value : Word) (s : State) : Host.Outcome State Fault Refusal :=
  act s (regWrite by_ (ATB_AXn_SETSPD axis.val) value)

/-- ATB_STALE_TIMEOUT (R61). -/
def execAtbStaleTimeout (axis : Fin 4) (s : State) : Host.Outcome State Fault Refusal :=
  act s (atbStaleCheck axis.val)

/-- ATB_CMP_MISMATCH (R62). -/
def execAtbCmpMismatch (detail : Fin 5) (s : State) : Host.Outcome State Fault Refusal :=
  act s (raise Src.ATB_CMP detail.val)

/-- EVS_CMP_MISMATCH (R62). -/
def execEvsCmpMismatch (s : State) : Host.Outcome State Fault Refusal :=
  act s (evsMismatch)

/-- EVS_ARM (R64). -/
def execEvsArm (by_ : Initiator) (entry : Fin 4096) (value : Word) (s : State) : Host.Outcome State Fault Refusal :=
  act s (regWrite by_ (evsWordAddr entry.val 2) (setBit value 31 true))

/-- EVS_DISARM (R65). -/
def execEvsDisarm (by_ : Initiator) (entry : Fin 4096) (value : Word) (s : State) : Host.Outcome State Fault Refusal :=
  act s (regWrite by_ (evsWordAddr entry.val 2) (setBit value 31 false))

/-- EVS_ENTRY_WORD_WRITE (R65). -/
def execEvsEntryWordWrite (by_ : Initiator) (entry : Fin 4096) (word : Fin 4) (value : Word)
    (s : State) : Host.Outcome State Fault Refusal :=
  act s (regWrite by_ (evsWordAddr entry.val word.val) value)

/-- EVS_TRIGGER (R68). -/
def execEvsTrigger (entry : Fin 4096) (s : State) : Host.Outcome State Fault Refusal :=
  act s (evsTriggerNow entry.val)

/-- EVS_TABLE_SCAN (R77). -/
def execEvsTableScan (s : State) : Host.Outcome State Fault Refusal :=
  act s (evsScan)

/-- EVS_DISPATCH (R78). -/
def execEvsDispatch (s : State) : Host.Outcome State Fault Refusal :=
  act s (evsDispatchOne)

/-- EVS_ACTION_DELIVERY (R72). -/
def execEvsActionDelivery (s : State) : Host.Outcome State Fault Refusal :=
  actMem s (fun m d => ringFlush m (evsDeliverNext d))

/-- EVS_ENABLE (R83). -/
def execEvsEnable (by_ : Initiator) (value : Word) (s : State) : Host.Outcome State Fault Refusal :=
  act s (regWrite by_ EVS_CTRL (setBit value 0 true))

/-- EVS_LATELOG_POP (R85). -/
def execEvsLatelogPop (by_ : Initiator) (s : State) : Host.Outcome State Fault Refusal :=
  act s (evsLateRead by_)

end Sys2Proof.Machine
end

