-- ==== Sys2Proof/Machine/CanBus.lean ====
section
/-! DEFINITION. CAN FD (R471–R489): the commands. -/

namespace Sys2Proof.Machine

open Reg

/-- CAN_TX_REQUEST (R475). -/
def execCanTxRequest (by_ : Initiator) (can : Fin 4) (buf : Fin 3) (value : Word)
    (s : State) : Host.Outcome State Fault Refusal :=
  act s (regWrite by_ (CAN_TXBb_REQ can.val buf.val) (setBit value 0 true))

/-- CAN_TX_CANCEL (R478). -/
def execCanTxCancel (by_ : Initiator) (can : Fin 4) (buf : Fin 3) (value : Word)
    (s : State) : Host.Outcome State Fault Refusal :=
  act s (regWrite by_ (CAN_TXBb_REQ can.val buf.val) (setBit value 1 true))

/-- CAN_ARBITRATION (R476). -/
def execCanArbitration (can : Fin 4) (s : State) : Host.Outcome State Fault Refusal :=
  act s (arbitrate can.val)

/-- CAN_ATTEMPT_END (R477). -/
def execCanAttemptEnd (can : Fin 4) (result : CanResult) (tec : Nat) (rec_ : Nat) (delay : Nat)
    (s : State) : Host.Outcome State Fault Refusal :=
  act s (attemptEnd can.val result tec rec_ delay)

/-- CAN_FRAME_RECEIVE (R482). A frame has at most 64 data bytes. -/
def execCanFrameReceive (can : Fin 4) (frame : CanFrame) (sof : Nat) (tec : Nat) (rec_ : Nat)
    (s : State) : Host.Outcome State Fault Refusal :=
  if frame.data.length ≤ 64 then act s (canReceive can.val frame sof tec rec_) else .fault (.illFormed "CAN_FRAME_RECEIVE")

/-- CAN_BUSOFF_RECOVERY_REQUEST (R480). -/
def execCanBusoffRecoveryRequest (by_ : Initiator) (can : Fin 4) (value : Word)
    (s : State) : Host.Outcome State Fault Refusal :=
  act s (regWrite by_ (CAN_BO_RECOV can.val) value)

/-- CAN_BUSOFF_RECOVERED (R480). -/
def execCanBusoffRecovered (can : Fin 4) (s : State) : Host.Outcome State Fault Refusal :=
  act s (boRecovered can.val)

/-- CAN_RX_POP (R484). -/
def execCanRxPop (by_ : Initiator) (can : Fin 4) (value : Word) (s : State) : Host.Outcome State Fault Refusal :=
  act s (regWrite by_ (CAN_RXF_POP can.val) value)

/-- CAN_DISABLE (R481). -/
def execCanDisable (can : Fin 4) (s : State) : Host.Outcome State Fault Refusal :=
  act s (canDisableNow can.val)

/-- CAN_BUS_JOIN (R481). -/
def execCanBusJoin (can : Fin 4) (s : State) : Host.Outcome State Fault Refusal :=
  act s (canJoin can.val)

end Sys2Proof.Machine
end

