-- ==== Sys2Proof/Machine/Commands.lean ====
section
/-! DEFINITION. Axis Commands, configuration transactions and the journal (R408–R440, R514): the commands. -/

namespace Sys2Proof.Machine

open Reg

/-- AXIS_COMMAND (R414). A record has 16 bytes. -/
def execAxisCommand (path : Fin 6) (sender : Sender) (record : List Byte)
    (s : State) : Host.Outcome State Fault Refusal :=
  if record.length = 16 then act s (axisCommand path.val sender record) else .fault (.illFormed "AXIS_COMMAND")

/-- CSQ_DATAGRAM (R409). -/
def execCsqDatagram (eth : Fin 2) (sender : Sender) (payload : List Byte)
    (s : State) : Host.Outcome State Fault Refusal :=
  act s (csqDatagram eth.val sender payload)

/-- CSQ_ACK_BATCH_TIMEOUT (R413). -/
def execCsqAckBatchTimeout (slot : Fin 16) (path : Fin 6) (s : State) : Host.Outcome State Fault Refusal :=
  act s (batchTimeout slot.val path.val)

/-- CSQ_GAP_STALL (R415). -/
def execCsqGapStall (slot : Fin 16) (s : State) : Host.Outcome State Fault Refusal :=
  act s (gapStall slot.val)

/-- CSQ_SET_LAST (R414). -/
def execCsqSetLast (by_ : Initiator) (slot : Fin 16) (value : Word) (s : State) : Host.Outcome State Fault Refusal :=
  act s (regWrite by_ (CSQ_SRCs_LAST slot.val) value)

/-- PWRFAIL_FALL (R514). -/
def execPwrfailFall (s : State) : Host.Outcome State Fault Refusal :=
  act s (pwrfailLow)

/-- FLUSH_COMPLETE (R418). -/
def execFlushComplete (s : State) : Host.Outcome State Fault Refusal :=
  act s (flushComplete)

/-- PWRFAIL_RISE (R514). -/
def execPwrfailRise (s : State) : Host.Outcome State Fault Refusal :=
  act s (pwrfailHigh)

/-- CMD_STEP (R420). -/
def execCmdStep (x : Nat) (inRange : Bool) (s : State) : Host.Outcome State Fault Refusal :=
  act s (cmdStep x inRange)

/-- CSQ_CMD_TIMEOUT (R421). -/
def execCsqCmdTimeout (axis : Fin 4) (s : State) : Host.Outcome State Fault Refusal :=
  act s (cmdTimeout axis.val)

/-- CTE_BEGIN (R422). -/
def execCteBegin (by_ : Initiator) (value : Word) (s : State) : Host.Outcome State Fault Refusal :=
  act s (regWrite by_ Reg.CTE_BEGIN value)

/-- CTE_SHADOW_WRITE (R423). -/
def execCteShadowWrite (by_ : Initiator) (addr : Word) (value : Word) (s : State) : Host.Outcome State Fault Refusal :=
  actMem s (busStore by_ addr.toNat .w32 value 0)

/-- CTE_OWNSET (R424). -/
def execCteOwnset (by_ : Initiator) (value : Word) (s : State) : Host.Outcome State Fault Refusal :=
  act s (regWrite by_ Reg.CTE_OWNSET value)

/-- CTE_COMMIT_IMMEDIATE (R425). -/
def execCteCommitImmediate (by_ : Initiator) (s : State) : Host.Outcome State Fault Refusal :=
  act s (regWrite by_ CTE_COMMIT 0x80000000)

/-- CTE_COMMIT_LOAD_INSTANT (R425). -/
def execCteCommitLoadInstant (by_ : Initiator) (s : State) : Host.Outcome State Fault Refusal :=
  act s (regWrite by_ CTE_COMMIT 0x80000001)

/-- CTE_COMMIT_TIME (R425). -/
def execCteCommitTime (by_ : Initiator) (s : State) : Host.Outcome State Fault Refusal :=
  act s (regWrite by_ CTE_COMMIT 0x80000002)

/-- CTE_COMMIT_ANGLE (R425). -/
def execCteCommitAngle (by_ : Initiator) (s : State) : Host.Outcome State Fault Refusal :=
  act s (regWrite by_ CTE_COMMIT 0x80000003)

/-- CTE_VALIDATION_DONE (R425). -/
def execCteValidationDone (by_ : Initiator) (s : State) : Host.Outcome State Fault Refusal :=
  act s (validationDone by_)

/-- CTE_BOUNDARY_APPLY (R425). -/
def execCteBoundaryApply (by_ : Initiator) (s : State) : Host.Outcome State Fault Refusal :=
  act s (boundaryApply by_)

/-- CTE_ROLLBACK (R426). -/
def execCteRollback (by_ : Initiator) (value : Word) (s : State) : Host.Outcome State Fault Refusal :=
  act s (regWrite by_ Reg.CTE_ROLLBACK value)

/-- CTE_TX_TIMEOUT (R426). -/
def execCteTxTimeout (by_ : Initiator) (s : State) : Host.Outcome State Fault Refusal :=
  act s (cteTimeout by_)

/-- JRN_FW_WRITE (R432). -/
def execJrnFwWrite (by_ : Initiator) (value : Word) (s : State) : Host.Outcome State Fault Refusal :=
  act s (regWrite by_ Reg.JRN_FW_WRITE value)

/-- JRN_ADMIT (R430). -/
def execJrnAdmit (s : State) : Host.Outcome State Fault Refusal :=
  act s (jrnAdmit)

/-- JRN_SEQ_QUERY (R434). -/
def execJrnSeqQuery (by_ : Initiator) (value : Word) (s : State) : Host.Outcome State Fault Refusal :=
  act s (regWrite by_ JRN_SEQ_Q value)

end Sys2Proof.Machine
end

