-- ==== Sys2Proof/Machine/Engines.lean ====
section
/-! DEFINITION. The Control Engines (R152–R205, R354): the commands. -/

namespace Sys2Proof.Machine

open Reg

/-- No instance of engine `n` has completed for 2,000 ticks during a sample (R169). -/
def ceHang (n : Nat) (d : Dev) : Dev :=
  match (engine d n).run with
  | some r => if r.result.isNone && elapsed d r.start 2000 then ceFault n 2 Src.CEA_HANG d else d
  | none => d

/-- A read of engine `n`'s memory during a sample meets an uncorrectable error (R169). -/
def ceEcc (n : Nat) (d : Dev) : Dev :=
  match (engine d n).run with
  | some r => if r.result.isNone then ceFault n 3 Src.CEA_ECC d else d
  | none => d

/-- CE_SAMPLE_START (R165). -/
def execCeSampleStart (by_ : Initiator) (axis : Fin 4) (value : Word) (s : State) : Host.Outcome State Fault Refusal :=
  act s (regWrite by_ (CEA_AXa_START axis.val) value)

/-- CE_EXECUTION_DONE (R165). -/
def execCeExecutionDone (engine : Fin 5) (cycles : Nat) (flowsig : Word)
    (s : State) : Host.Outcome State Fault Refusal :=
  act s (executionDone engine.val cycles flowsig)

/-- CE_RELEASE_COMPLETE (R165). -/
def execCeReleaseComplete (engine : Fin 5) (s : State) : Host.Outcome State Fault Refusal :=
  act s (releaseComplete engine.val)

/-- FR_ASC_HOLD_END (R202). -/
def execFrAscHoldEnd (axis : Fin 4) (s : State) : Host.Outcome State Fault Refusal :=
  act s (ascHoldEnd axis.val)

/-- FR_WINDOW_END (R202). -/
def execFrWindowEnd (axis : Fin 4) (s : State) : Host.Outcome State Fault Refusal :=
  act s (windowEnd axis.val)

/-- CE_DEADLINE (R166). -/
def execCeDeadline (axis : Fin 4) (s : State) : Host.Outcome State Fault Refusal :=
  act s (ceDeadline axis.val)

/-- CE_CHECKPOINT_ARRIVE (R170). -/
def execCeCheckpointArrive (axis : Fin 4) (crcGood : Bool) (s : State) : Host.Outcome State Fault Refusal :=
  act s (checkpointArrive axis.val crcGood)

/-- CE_RESIDUE_ERROR (R169). -/
def execCeResidueError (engine : Fin 5) (s : State) : Host.Outcome State Fault Refusal :=
  act s (ceFault engine.val 0 Src.CEA_RESIDUE)

/-- CE_HANG_TIMEOUT (R169). -/
def execCeHangTimeout (engine : Fin 5) (s : State) : Host.Outcome State Fault Refusal :=
  act s (ceHang engine.val)

/-- CE_ECC_ERROR (R169). -/
def execCeEccError (engine : Fin 5) (s : State) : Host.Outcome State Fault Refusal :=
  act s (ceEcc engine.val)

/-- CE_TAKEOVER_SELECTED (R172). -/
def execCeTakeoverSelected (axis : Fin 4) (s : State) : Host.Outcome State Fault Refusal :=
  act s (takeoverSelected axis.val)

/-- CE_OUT_OF_CYCLE_START (R354). -/
def execCeOutOfCycleStart (axis : Fin 4) (s : State) : Host.Outcome State Fault Refusal :=
  act s (outOfCycleStart axis.val)

/-- CE_HANDOVER_REQUEST (R171). -/
def execCeHandoverRequest (by_ : Initiator) (value : Word) (s : State) : Host.Outcome State Fault Refusal :=
  act s (regWrite by_ CEA_HANDOVER value)

/-- CE_READMIT (R173). -/
def execCeReadmit (by_ : Initiator) (value : Word) (s : State) : Host.Outcome State Fault Refusal :=
  act s (regWrite by_ CEA_READMIT value)

/-- CE_FLAG_CLEAR (R164). -/
def execCeFlagClear (by_ : Initiator) (engine : Fin 5) (value : Word) (s : State) : Host.Outcome State Fault Refusal :=
  act s (regWrite by_ (CEA_CEn_FLAGCLR engine.val) value)

end Sys2Proof.Machine
end

