-- ==== Sys2Proof/Machine/FaultThermal.lean ====
section
/-! DEFINITION. Fault collection and reaction (R337–R362) and thermal management (R363–R381): the commands. -/

namespace Sys2Proof.Machine

open Reg

/-- Initiator `i` reads FIRST_LO or LAST_LO of source `k` (R360). -/
def fcrTimeRead (i : Initiator) (k : Nat) (last : Bool) (d : Dev) : Dev :=
  busRead i (if last then FCR_SRCkkkk_LAST_LO k else FCR_SRCkkkk_FIRST_LO k) (fcrLoRead i k last) d

/-- FCR_SOURCE_RAISE (R340). -/
def execFcrSourceRaise (source : Fin 1024) (detail : Byte) (s : State) : Host.Outcome State Fault Refusal :=
  act s (raise source.val detail.toNat)

/-- FCR_FORCE (R345). -/
def execFcrForce (by_ : Initiator) (source : Fin 1024) (value : Word) (s : State) : Host.Outcome State Fault Refusal :=
  act s (regWrite by_ (FCR_SRCkkkk_FORCE source.val) value)

/-- FCR_STATUS_CLEAR (R346). -/
def execFcrStatusClear (by_ : Initiator) (source : Fin 1024) (value : Word)
    (s : State) : Host.Outcome State Fault Refusal :=
  act s (regWrite by_ (FCR_SRCkkkk_STATUS source.val) value)

/-- FCR_SELF_FAULT (R349). -/
def execFcrSelfFault (kind : SelfFault) (s : State) : Host.Outcome State Fault Refusal :=
  act s (fcrSelfFault kind)

/-- FCR_LO_READ (R360). -/
def execFcrLoRead (by_ : Initiator) (source : Fin 1024) (last : Bool) (s : State) : Host.Outcome State Fault Refusal :=
  act s (fcrTimeRead by_ source.val last)

/-- THM_STEP (R363). -/
def execThmStep (sensors : List Int) (powers : List Nat) (s : State) : Host.Outcome State Fault Refusal :=
  if sensors.length = 9 ∧ powers.length = 9 then act s (thmStep sensors powers) else .fault (.illFormed "THM_STEP")

end Sys2Proof.Machine
end

