-- ==== Sys2Proof/WellFormed.lean ====
section
/-! DEFINITION. Which command terms a sender can produce. Indexes of units are bounded by their types; the checks here are
those on operands that are lists. -/

namespace Sys2Proof

/-- Eight readings of each of the eight strap pins (R309). -/
def readingsOk (r : List (List Nat)) : Bool := decide (r.length = 8) && r.all (fun l => decide (l.length = 8))

/-- A command term that a sender can produce: the token is 160 bytes long (R46), the strap readings are eight of each of
eight pins (R309), an Axis Command record has 16 bytes (R408), a temperature step brings nine sensor readings and nine
domain powers (R363), a CAN frame carries at most 64 bytes (R471), a key test ends with twelve results (R498). Every
other operand is bounded by its type. -/
def Instr.wellFormed : Instr → Bool
  | .debugToken token => decide (token.length = 160)
  | .strapSampling r => readingsOk r
  | .sisStrapRecheck r => readingsOk r
  | .axisCommand _ _ record => decide (record.length = 16)
  | .thmStep sensors powers => decide (sensors.length = 9) && decide (powers.length = 9)
  | .canFrameReceive _ f _ _ _ => decide (f.data.length ≤ 64)
  | .bstKeyDone r => decide (r.length = 12)
  | _ => true

end Sys2Proof
end

