-- ==== Sys2Proof/Machine/Island.lean ====
section
/-! DEFINITION. The Safety Island (R303–R336, R516): the commands. -/

namespace Sys2Proof.Machine

open Reg

/-- SIS_LOCKSTEP_MISMATCH (R306). -/
def execSisLockstepMismatch (s : State) : Host.Outcome State Fault Refusal :=
  act s (sisLockstep)

/-- SIS_HEARTBEAT_CHECK (R308). -/
def execSisHeartbeatCheck (beat : Bool) (s : State) : Host.Outcome State Fault Refusal :=
  act s (coreHeartbeat beat)

/-- SYS_SIS_HEARTBEAT_CHECK (R308). -/
def execSysSisHeartbeatCheck (beat : Bool) (s : State) : Host.Outcome State Fault Refusal :=
  act s (sisHeartbeat beat)

/-- SIS_CLOCK_CHECK (R516). -/
def execSisClockCheck (deviation : Int) (s : State) : Host.Outcome State Fault Refusal :=
  act s (sisClockCheck deviation)

/-- SIS_STRAP_RECHECK (R313). Eight readings of each of the eight straps. -/
def execSisStrapRecheck (readings : List (List Nat)) (s : State) : Host.Outcome State Fault Refusal :=
  if readingsOk readings then act s (recheckStraps readings) else .fault (.illFormed "SIS_STRAP_RECHECK")

/-- ENABLE (R319). -/
def execEnable (by_ : Initiator) (tag : Byte) (arg : Word) (s : State) : Host.Outcome State Fault Refusal :=
  act s (mailbox by_ 1 tag arg (mbEnable arg))

/-- DISABLE (R320). -/
def execDisable (by_ : Initiator) (tag : Byte) (arg : Word) (s : State) : Host.Outcome State Fault Refusal :=
  act s (mailbox by_ 2 tag arg (mbDisable arg))

/-- PRECHARGE (R317). -/
def execPrecharge (by_ : Initiator) (tag : Byte) (arg : Word) (s : State) : Host.Outcome State Fault Refusal :=
  act s (mailbox by_ 3 tag arg (mbPrecharge arg))

/-- OPEN (R318). -/
def execOpen (by_ : Initiator) (tag : Byte) (arg : Word) (s : State) : Host.Outcome State Fault Refusal :=
  act s (mailbox by_ 4 tag arg (mbOpen arg))

/-- DISCHARGE (R318). -/
def execDischarge (by_ : Initiator) (tag : Byte) (arg : Word) (s : State) : Host.Outcome State Fault Refusal :=
  act s (mailbox by_ 5 tag arg (mbDischarge arg))

/-- UNLOCK (R331). -/
def execUnlock (by_ : Initiator) (tag : Byte) (arg : Word) (s : State) : Host.Outcome State Fault Refusal :=
  act s (mailbox by_ 6 tag arg (mbUnlock arg))

/-- SEAL (R312). -/
def execSeal (by_ : Initiator) (tag : Byte) (arg : Word) (s : State) : Host.Outcome State Fault Refusal :=
  act s (mailbox by_ 7 tag arg (mbSeal arg))

/-- CLEAR (R315). -/
def execClear (by_ : Initiator) (tag : Byte) (arg : Word) (s : State) : Host.Outcome State Fault Refusal :=
  act s (mailbox by_ 8 tag arg (mbClear arg))

/-- CONTACTOR_FEEDBACK (R316). -/
def execContactorFeedback (ct : Fin 6) (level : Bool) (s : State) : Host.Outcome State Fault Refusal :=
  act s (ctFeedback ct.val level)

/-- CONTACTOR_FB_TIMEOUT (R316). -/
def execContactorFbTimeout (ct : Fin 6) (s : State) : Host.Outcome State Fault Refusal :=
  act s (ctTimeout ct.val)

/-- PRECHARGE_VOLTAGE_TIMEOUT (R317). -/
def execPrechargeVoltageTimeout (link : Fin 4) (s : State) : Host.Outcome State Fault Refusal :=
  act s (prechargeTimeout link.val)

/-- PRECHARGE_RETRY_END (R317). -/
def execPrechargeRetryEnd (link : Fin 4) (s : State) : Host.Outcome State Fault Refusal :=
  act s (retryEnd link.val)

/-- STO_INPUT_EDGE (R321). -/
def execStoInputEdge (inputB : Bool) (level : Bool) (s : State) : Host.Outcome State Fault Refusal :=
  act s (stoEdge inputB level)

/-- STO_DEMAND (R322). -/
def execStoDemand (s : State) : Host.Outcome State Fault Refusal :=
  act s (stoDemand)

/-- STO_DISCREPANCY (R321). -/
def execStoDiscrepancy (s : State) : Host.Outcome State Fault Refusal :=
  act s (stoDiscrepancy)

/-- STO_END (R322). -/
def execStoEnd (s : State) : Host.Outcome State Fault Refusal :=
  act s (stoEnd)

/-- SS1_SUPERVISE (R322). -/
def execSs1Supervise (axis : Fin 4) (s : State) : Host.Outcome State Fault Refusal :=
  act s (ss1Supervise axis.val)

/-- SS1_TIMEOUT (R322). -/
def execSs1Timeout (s : State) : Host.Outcome State Fault Refusal :=
  act s (ss1Timeout)

/-- SIS_TORQUE_EVALUATE (R327). -/
def execSisTorqueEvaluate (s : State) : Host.Outcome State Fault Refusal :=
  act s (torqueEvaluate)

/-- LOCK_RST_RELEASE (R331). -/
def execLockRstRelease (lowTicks : Nat) (s : State) : Host.Outcome State Fault Refusal :=
  act s (lockPulse lowTicks)

/-- SIS_SELFCHECK_DONE (R331). -/
def execSisSelfcheckDone (pass : Bool) (madcPass : Bool) (s : State) : Host.Outcome State Fault Refusal :=
  act s (selfcheckDone pass madcPass)

/-- UNLOCK_WINDOW_EXPIRE (R331). -/
def execUnlockWindowExpire (s : State) : Host.Outcome State Fault Refusal :=
  act s (unlockExpire)

end Sys2Proof.Machine
end

