-- ==== Sys2Proof/Machine/Modulation.lean ====
section
/-! DEFINITION. Modulation and edge generation (R206–R241): the commands, and the TRIP pins. -/

namespace Sys2Proof.Machine

open Reg

/-- The two copies of PWM disagree: CMP of every running group, and PWM_CMP (R350). -/
def pwmMismatch (d : Dev) : Dev :=
  raise Src.PWM_CMP 0 (forEach (idxWhere 8 (fun g => (group d g).running)) (fun g d => setFlag (PWM_CGg_STATUS g) 8 true d) d)

/-- The level of TRIP pin `k` after its filter (R228). -/
def tripPin (k : Nat) (level : Bool) (d : Dev) : Dev :=
  { d with pwm := { d.pwm with pins := if level then d.pwm.pins ||| BitVec.ofNat 8 (2 ^ k)
                                        else d.pwm.pins &&& ~~~ BitVec.ofNat 8 (2 ^ k) } }

/-- PWM_STAGE_COPY (R220). Commits at this Load Instant apply first (R222). -/
def execPwmStageCopy (group : Fin 8) (s : State) : Host.Outcome State Fault Refusal :=
  act s (fun d => stageCopy group.val (loadInstantCommits d))

/-- PWM_LOAD_INSTANT (R220). -/
def execPwmLoadInstant (group : Fin 8) (s : State) : Host.Outcome State Fault Refusal :=
  act s (loadInstant group.val)

/-- PWM_PERIOD_START (R214). -/
def execPwmPeriodStart (group : Fin 8) (s : State) : Host.Outcome State Fault Refusal :=
  act s (periodStart group.val)

/-- PWM_SHADOW_WRITE (R221). -/
def execPwmShadowWrite (by_ : Initiator) (reg : PwmShadow) (value : Word)
    (s : State) : Host.Outcome State Fault Refusal :=
  act s (regWrite by_ (shadowAddr reg) value)

/-- PWM_TRIP (R229). -/
def execPwmTrip (leg : Fin 32) (source : TripSource) (s : State) : Host.Outcome State Fault Refusal :=
  act s (tripInput leg.val source)

/-- PWM_BLANK_END (R228). -/
def execPwmBlankEnd (leg : Fin 32) (s : State) : Host.Outcome State Fault Refusal :=
  act s (blankEnd leg.val)

/-- PWM_LATCH_CLEAR (R231). -/
def execPwmLatchClear (by_ : Initiator) (leg : Fin 32) (value : Word) (s : State) : Host.Outcome State Fault Refusal :=
  act s (regWrite by_ (PWM_PLnn_STATUS leg.val) value)

/-- PWM_CMP_MISMATCH (R350). -/
def execPwmCmpMismatch (s : State) : Host.Outcome State Fault Refusal :=
  act s (pwmMismatch)

/-- TRIP_PIN_EDGE (R228). -/
def execTripPinEdge (pin : Fin 8) (level : Bool) (s : State) : Host.Outcome State Fault Refusal :=
  act s (tripPin pin.val level)

end Sys2Proof.Machine
end

