-- ==== Sys2Proof/Machine/Network.lean ====
section
/-! DEFINITION. Ethernet, network time and telemetry (R441–R470): the commands. -/

namespace Sys2Proof.Machine

open Reg

/-- Initiator `i` reads word 3 of a timestamp FIFO, which pops the entry (R455). -/
def tsRead (i : Initiator) (k : Nat) (d : Dev) : Dev := busRead i (fifoReg k 3) (fifoPop k) d

/-- An MTS datagram of the message TYPE that the row names (R457, R458–R460). -/
def mtsOf (type : Byte) (p : List Byte) : List Byte := match p with | a :: _ :: r => a :: type :: r | _ => p

/-- ETH_FRAME_RECEIVE (R442). -/
def execEthFrameReceive (eth : Fin 2) (frame : List Byte) (fcsGood : Bool) (sfd : Nat)
    (s : State) : Host.Outcome State Fault Refusal :=
  actMem s (ethReceive eth.val frame fcsGood sfd)

/-- ETH_TX_TAIL_WRITE (R444). -/
def execEthTxTailWrite (by_ : Initiator) (eth : Fin 2) (value : Word) (s : State) : Host.Outcome State Fault Refusal :=
  actMem s (busStore by_ (ETHn_TXR_TAIL eth.val) .w32 value 0)

/-- ETH_FRAME_SENT (R444). -/
def execEthFrameSent (eth : Fin 2) (sfd : Nat) (s : State) : Host.Outcome State Fault Refusal :=
  actMem s (frameSent eth.val sfd)

/-- ETH_MDIO_READ (R467). -/
def execEthMdioRead (by_ : Initiator) (eth : Fin 2) (value : Word) (s : State) : Host.Outcome State Fault Refusal :=
  act s (regWrite by_ (ETHn_MDIO eth.val) (setBit value 30 true))

/-- ETH_MDIO_WRITE (R467). -/
def execEthMdioWrite (by_ : Initiator) (eth : Fin 2) (value : Word) (s : State) : Host.Outcome State Fault Refusal :=
  act s (regWrite by_ (ETHn_MDIO eth.val) (setBit value 30 false))

/-- ETH_MDIO_DONE (R467). -/
def execEthMdioDone (eth : Fin 2) (data : BitVec 16) (s : State) : Host.Outcome State Fault Refusal :=
  act s (mdioDone eth.val data)

/-- ETH_LINK_LOST (R466). -/
def execEthLinkLost (eth : Fin 2) (s : State) : Host.Outcome State Fault Refusal :=
  act s (linkLost eth.val)

/-- ETH_LINK_UP (R467). -/
def execEthLinkUp (eth : Fin 2) (speed : BitVec 2) (s : State) : Host.Outcome State Fault Refusal :=
  act s (linkUp eth.val speed)

/-- NTU_WRAP (R448). -/
def execNtuWrap (s : State) : Host.Outcome State Fault Refusal :=
  act s (ntuWrap)

/-- NTU_SHADOW_ARM (R447). -/
def execNtuShadowArm (by_ : Initiator) (value : Word) (s : State) : Host.Outcome State Fault Refusal :=
  act s (regWrite by_ NTU_SHD_CTRL (setBit value 31 true))

/-- NTU_SHADOW_NOW (R448). -/
def execNtuShadowNow (by_ : Initiator) (value : Word) (s : State) : Host.Outcome State Fault Refusal :=
  act s (regWrite by_ NTU_SHD_CTRL (setBit value 30 true))

/-- NTU_STEP (R449). -/
def execNtuStep (by_ : Initiator) (value : Word) (s : State) : Host.Outcome State Fault Refusal :=
  act s (regWrite by_ Reg.NTU_STEP value)

/-- NTU_STEP_ARM (R449). -/
def execNtuStepArm (by_ : Initiator) (value : Word) (s : State) : Host.Outcome State Fault Refusal :=
  act s (regWrite by_ NTU_STEP_AUTH value)

/-- NTU_SET (R450). -/
def execNtuSet (by_ : Initiator) (value : Word) (s : State) : Host.Outcome State Fault Refusal :=
  act s (regWrite by_ NTU_SET_GO value)

/-- NTU_RATE_WRITE (R451). -/
def execNtuRateWrite (by_ : Initiator) (value : Word) (s : State) : Host.Outcome State Fault Refusal :=
  act s (regWrite by_ NTU_RATE value)

/-- NTU_HOLD_CLEAR (R452). -/
def execNtuHoldClear (by_ : Initiator) (value : Word) (s : State) : Host.Outcome State Fault Refusal :=
  act s (regWrite by_ NTU_HOLD_CLR value)

/-- NTU_SYNC_TIMEOUT (R452). -/
def execNtuSyncTimeout (s : State) : Host.Outcome State Fault Refusal :=
  act s (ntuSyncTimeout)

/-- NTU_TS_POP (R455). -/
def execNtuTsPop (by_ : Initiator) (port : Fin 2) (tx : Bool) (s : State) : Host.Outcome State Fault Refusal :=
  act s (tsRead by_ (2 * port.val + b2n tx))

/-- NTU_CROSS_STAMP (R456). -/
def execNtuCrossStamp (by_ : Initiator) (value : Word) (s : State) : Host.Outcome State Fault Refusal :=
  act s (regWrite by_ NTU_XS_REQ value)

/-- SUBSCRIBE (R458). -/
def execSubscribe (eth : Fin 2) (sender : Sender) (payload : List Byte)
    (s : State) : Host.Outcome State Fault Refusal :=
  act s (mtsReceive eth.val sender (mtsOf 0x01 payload))

/-- GRANT (R460). -/
def execGrant (eth : Fin 2) (sender : Sender) (payload : List Byte) (s : State) : Host.Outcome State Fault Refusal :=
  act s (mtsReceive eth.val sender (mtsOf 0x02 payload))

/-- UNSUBSCRIBE (R459). -/
def execUnsubscribe (eth : Fin 2) (sender : Sender) (payload : List Byte)
    (s : State) : Host.Outcome State Fault Refusal :=
  act s (mtsReceive eth.val sender (mtsOf 0x03 payload))

/-- DATA (R462). -/
def execData (sub : Fin 32) (s : State) : Host.Outcome State Fault Refusal :=
  act s (sendData sub.val)

/-- LEASE_EXPIRE (R459). -/
def execLeaseExpire (sub : Fin 32) (s : State) : Host.Outcome State Fault Refusal :=
  act s (leaseExpire sub.val)

/-- TRC_SUB_END (R459). -/
def execTrcSubEnd (by_ : Initiator) (sub : Fin 32) (value : Word) (s : State) : Host.Outcome State Fault Refusal :=
  act s (regWrite by_ (TRC_SUBs_END sub.val) value)

/-- TRC_MARK (R461). -/
def execTrcMark (by_ : Initiator) (marker : Fin 4) (value : Word) (s : State) : Host.Outcome State Fault Refusal :=
  actMem s (fun m d => ringFlush m (regWrite by_ (Reg.TRC_MARK marker.val) value d))

/-- TRC_FWREC (R461). -/
def execTrcFwrec (by_ : Initiator) (value : Word) (s : State) : Host.Outcome State Fault Refusal :=
  actMem s (fun m d => ringFlush m (regWrite by_ Reg.TRC_FWREC value d))

/-- TRC_STAGING_DRAIN (R174). -/
def execTrcStagingDrain (engine : Fin 5) (s : State) : Host.Outcome State Fault Refusal :=
  actMem s (fun m d => ringFlush m (stagingDrain engine.val d))

/-- TRC_GAP_INSERT (R464). -/
def execTrcGapInsert (sub : Fin 32) (s : State) : Host.Outcome State Fault Refusal :=
  act s (gapInsert sub.val)

end Sys2Proof.Machine
end

