-- ==== Sys2Proof/Machine/Position.lean ====
section
/-! DEFINITION. Position feedback channels, excitation, the position vote, encoder emulation (R86–R116): the commands. -/

namespace Sys2Proof.Machine

open Reg

/-- PER of channel `n` has passed: a periodic start (R101). -/
def framePeriod (n : Nat) (d : Dev) : Dev :=
  let per := fld d (PFC_PFn_FRAME n) 23 0
  if (pfMode d n = 3 ∨ pfMode d n = 4) ∧ per ≠ 0 ∧ (posChan d n).nextPer ≤ now d then
    serialStart n (modChan n (fun c => { c with nextPer := c.nextPer + per }) d)
  else d

/-- The Carding count of channel `n` decays (R90): on the LTB's multiples of 2^(CDECAY + 9). -/
def cardDecay (n : Nat) (d : Dev) : Dev :=
  let k := fld d (PFC_PFn_CFG n) 19 16
  let step := 2 ^ (k + 9)
  if k ≠ 0 ∧ (posChan d n).decayFrom / step < now d / step then
    let d := modChan n (fun c => { c with decayFrom := now d }) d
    cardCheck n (setFld (PFC_PFn_CARD_CNT n) 15 0 (fld d (PFC_PFn_CARD_CNT n) 15 0 - 1) d)
  else d

/-- PFC_LINE_TRANSITION (R88). -/
def execPfcLineTransition (ch : Fin 8) (line : Fin 3) (level : Bool) (s : State) : Host.Outcome State Fault Refusal :=
  act s (lineTransition ch.val line.val level)

/-- PFC_TRANSITION_ACCEPTED (R88). -/
def execPfcTransitionAccepted (ch : Fin 8) (s : State) : Host.Outcome State Fault Refusal :=
  act s (acceptDue ch.val 3)

/-- PFC_CARD_DECAY (R90). -/
def execPfcCardDecay (ch : Fin 8) (s : State) : Host.Outcome State Fault Refusal :=
  act s (cardDecay ch.val)

/-- PFC_REQUEST (R101). -/
def execPfcRequest (by_ : Initiator) (ch : Fin 8) (value : Word) (s : State) : Host.Outcome State Fault Refusal :=
  act s (regWrite by_ (PFC_PFn_REQ ch.val) value)

/-- PFC_FRAME_PERIOD (R101). -/
def execPfcFramePeriod (ch : Fin 8) (s : State) : Host.Outcome State Fault Refusal :=
  act s (framePeriod ch.val)

/-- PFC_FRAME_DECODE (R99). -/
def execPfcFrameDecode (ch : Fin 8) (frame : BitVec 64) (lineDelay : Nat) (idleHigh : Bool)
    (s : State) : Host.Outcome State Fault Refusal :=
  act s (frameDecode ch.val frame.toNat lineDelay idleHigh)

/-- PFC_SER_TIMEOUT (R100). -/
def execPfcSerTimeout (ch : Fin 8) (lineDelay : Nat) (s : State) : Host.Outcome State Fault Refusal :=
  act s (frameTimeout ch.val lineDelay)

/-- EXC_ZERO_CROSSING (R102). -/
def execExcZeroCrossing (exc : Fin 4) (s : State) : Host.Outcome State Fault Refusal :=
  act s (excZeroCrossing exc.val)

/-- PFC_OBS_WRITE (R106). -/
def execPfcObsWrite (by_ : Initiator) (axis : Fin 4) (value : Word) (s : State) : Host.Outcome State Fault Refusal :=
  act s (regWrite by_ (PFC_AXa_OBS axis.val) value)

/-- PFC_SOURCE_TIMEOUT (R106). -/
def execPfcSourceTimeout (axis : Fin 4) (source : Fin 3) (s : State) : Host.Outcome State Fault Refusal :=
  act s (voteTimeout axis.val source.val)

/-- PFC_VOTE_READMIT (R109). -/
def execPfcVoteReadmit (by_ : Initiator) (axis : Fin 4) (value : Word) (s : State) : Host.Outcome State Fault Refusal :=
  act s (regWrite by_ (PFC_AXa_VOTE_READMIT axis.val) value)

/-- PFC_CNTCLR (R112). -/
def execPfcCntclr (by_ : Initiator) (ch : Fin 8) (value : Word) (s : State) : Host.Outcome State Fault Refusal :=
  act s (regWrite by_ (PFC_PFn_CNTCLR ch.val) value)

/-- EEM_OUTPUT_STEP (R110). -/
def execEemOutputStep (em : Fin 4) (s : State) : Host.Outcome State Fault Refusal :=
  act s (eemStep em.val)

/-- EEM_ENABLE (R110). -/
def execEemEnable (by_ : Initiator) (em : Fin 4) (value : Word) (s : State) : Host.Outcome State Fault Refusal :=
  act s (regWrite by_ (EEM_EMn_CFG em.val) (setBit value 31 true))

end Sys2Proof.Machine
end

