-- ==== Sys2Proof/Machine/PowerStage.lean ====
section
/-! DEFINITION. Power-stage protection (R284–R302): the commands. -/

namespace Sys2Proof.Machine

open Reg

/-- PSP_DCOC_BLANK_END (R291). -/
def execPspDcocBlankEnd (axis : Fin 4) (s : State) : Host.Outcome State Fault Refusal :=
  act s (dcocBlankEnd axis.val)

/-- PSP_ID_WINDOW_EXPIRE (R294). -/
def execPspIdWindowExpire (axis : Fin 4) (s : State) : Host.Outcome State Fault Refusal :=
  act s (idWindowExpire axis.val)

/-- PSP_SPEED_EVALUATE (R288). -/
def execPspSpeedEvaluate (s : State) : Host.Outcome State Fault Refusal :=
  act s (speedEvaluate)

/-- PSP_UDC_STALE_TIMEOUT (R296). -/
def execPspUdcStaleTimeout (link : Fin 4) (s : State) : Host.Outcome State Fault Refusal :=
  act s (udcStale link.val)

/-- PSP_CHOPPER_CHECK (R297). -/
def execPspChopperCheck (link : Fin 4) (s : State) : Host.Outcome State Fault Refusal :=
  act s (chopperCheck link.val)

/-- PSP_DISCHARGE_START (R298, R318): SIS starts a discharge that it has decided on once the main contactors read open. -/
def execPspDischargeStart (link : Fin 4) (s : State) : Host.Outcome State Fault Refusal :=
  act s (startDischarge link.val)

/-- PSP_DCURVE_MISSED (R298). -/
def execPspDcurveMissed (link : Fin 4) (s : State) : Host.Outcome State Fault Refusal :=
  act s (dcurveMissed link.val)

/-- PSP_DISCHARGE_TIMEOUT (R298). -/
def execPspDischargeTimeout (link : Fin 4) (s : State) : Host.Outcome State Fault Refusal :=
  act s (dischargeTimeout link.val)

end Sys2Proof.Machine
end

