-- ==== Sys2Proof/Machine/Processors.lean ====
section
/-! DEFINITION. The processor pairs and the interconnect (R382–R407): the commands, and any register write that has no row of its own. -/

namespace Sys2Proof.Machine

open Reg

/-- Initiator `i` reads `ICF_VLOG2`, which pops the oldest violation record (R406, R407). -/
def vlogPop (i : Initiator) (d : Dev) : Dev :=
  busRead i ICF_VLOG2 (fun d =>
    match d.icf.vlog with
    | [] => respData 0 d
    | r :: q => respData r.time { d with icf := { d.icf with vlog := q, vlost := d.icf.vlost && !q.isEmpty } }) d

/-- A 100 µs window of the share that FLS and BST have of the bandwidth ends (R395, R406). -/
def shareWindow (share held : Nat) (d : Dev) : Dev := addFld ICF_FLS_SHARE 31 16 held (setFld ICF_FLS_SHARE 15 0 share d)

/-- The two copies of ICF disagree (R399). -/
def icfMismatch (d : Dev) : Dev := raise Src.ICF_CMP 0 (setFlag ICF_STATUS 0 true d)

/-- Initiator `i` reads SRAM and meets a word beyond correction at `a` (R391). -/
def sramRead (i : Initiator) (a : Nat) (d : Dev) : Dev :=
  if initiatorLive d i then
    match denied d i a .w32 false with
    | some k => respErr (violation i a k 0 d)
    | none => sramError a d
  else d

/-- CPX_LOCKSTEP_MISMATCH (R387). -/
def execCpxLockstepMismatch (pair : Fin 4) (s : State) : Host.Outcome State Fault Refusal :=
  act s (lockstepMismatch pair.val)

/-- SPARE_HANDOVER_ENTRY (R387). -/
def execSpareHandoverEntry (s : State) : Host.Outcome State Fault Refusal :=
  act s (handoverEntry s.mem)

/-- MHOSTATUS_RESUMED (R387). -/
def execMhostatusResumed (pair : Fin 4) (value : Word) (s : State) : Host.Outcome State Fault Refusal :=
  act s (hoResumed pair.val value)

/-- CPX_HO_SLOW (R387). -/
def execCpxHoSlow (s : State) : Host.Outcome State Fault Refusal :=
  act s (hoSlow)

/-- MHOYIELD (R388). -/
def execMhoyield (pair : Fin 4) (value : Word) (s : State) : Host.Outcome State Fault Refusal :=
  act s (hoYield pair.val value)

/-- YIELD_WITHDRAW (R388). -/
def execYieldWithdraw (s : State) : Host.Outcome State Fault Refusal :=
  act s (yieldWithdraw)

/-- MCPXREADMIT (R389). A CSR write of a pair that runs firmware. -/
def execMcpxreadmit (pair : Fin 4) (value : Word) (s : State) : Host.Outcome State Fault Refusal :=
  act s (fun d => if (Machine.pair d pair.val).role = .serving then pairReadmit value d else d)

/-- L1_UE (R385). -/
def execL1Ue (pair : Fin 4) (addr : Word) (s : State) : Host.Outcome State Fault Refusal :=
  act s (l1Error pair.val addr.toNat)

/-- SRAM_UE (R391). -/
def execSramUe (by_ : Initiator) (addr : Word) (s : State) : Host.Outcome State Fault Refusal :=
  act s (sramRead by_ addr.toNat)

/-- ICF_VLOG_POP (R406). -/
def execIcfVlogPop (by_ : Initiator) (s : State) : Host.Outcome State Fault Refusal :=
  act s (vlogPop by_)

/-- ICF_LOCK (R398). -/
def execIcfLock (by_ : Initiator) (value : Word) (s : State) : Host.Outcome State Fault Refusal :=
  act s (regWrite by_ ICF_CTRL (setBit value 0 true))

/-- ICF_SHARE_WINDOW (R395). -/
def execIcfShareWindow (share : BitVec 16) (held : Nat) (s : State) : Host.Outcome State Fault Refusal :=
  act s (shareWindow share.toNat held)

/-- ICF_CMP_MISMATCH (R399). -/
def execIcfCmpMismatch (s : State) : Host.Outcome State Fault Refusal :=
  act s (icfMismatch)

/-- REGISTER_WRITE (R15). -/
def execRegisterWrite (by_ : Initiator) (addr : Word) (width : Width) (value : Word) (latency : Nat)
    (s : State) : Host.Outcome State Fault Refusal :=
  actMem s (busStore by_ addr.toNat width value latency)

end Sys2Proof.Machine
end

