-- ==== Sys2Proof/Machine/SelfTest.lean ====
section
/-! DEFINITION. Self-test and fulling (R490–R508): the commands. -/

namespace Sys2Proof.Machine

open Reg

/-- A slice ends; a test that passed as a whole lets CEROT or PPROT go on (R492, R500). -/
def sliceEnd (applied : Nat) (held good : Bool) (d : Dev) : Dev :=
  let r := sliceDone applied held good d
  match r.1 with
  | some u => unitPassed u r.2
  | none => r.2

/-- SCRUB (R500). -/
def execScrub (corrected : Nat) (failing : List Word) (s : State) : Host.Outcome State Fault Refusal :=
  act s (flsRun 0 noSkip (scrubWork corrected failing))

/-- MRAMREF (R500). -/
def execMramref (corrected : Nat) (failing : List Word) (s : State) : Host.Outcome State Fault Refusal :=
  act s (flsRun 1 noSkip (mramrefWork corrected failing))

/-- ADCCAL (R500). -/
def execAdccal (s : State) : Host.Outcome State Fault Refusal :=
  act s (flsRun 2 noSkip adccalWork)

/-- LINKCAL (R500). -/
def execLinkcal (s : State) : Host.Outcome State Fault Refusal :=
  act s (flsRun 3 noSkip calibrateAll)

/-- CEROT (R500). -/
def execCerot (s : State) : Host.Outcome State Fault Refusal :=
  act s (flsRun 4 cerotSkip id)

/-- PPROT (R500). -/
def execPprot (s : State) : Host.Outcome State Fault Refusal :=
  act s (flsRun 5 pprotSkip id)

/-- DRVTEST (R502). -/
def execDrvtest (s : State) : Host.Outcome State Fault Refusal :=
  act s (flsRun 6 noSkip drvtestWork)

/-- THMCHK (R500). -/
def execThmchk (s : State) : Host.Outcome State Fault Refusal :=
  act s (flsRun 7 noSkip thmModelCheck)

/-- WEAR (R500). -/
def execWear (s : State) : Host.Outcome State Fault Refusal :=
  act s (flsRun 8 noSkip wearCheck)

/-- LEASE (R500). -/
def execLease (s : State) : Host.Outcome State Fault Refusal :=
  act s (flsRun 9 noSkip leaseTask)

/-- MBIST (R500). -/
def execMbist (failing : Option Word) (bufferBad : Bool) (s : State) : Host.Outcome State Fault Refusal :=
  act s (flsRun 10 noSkip (mbistWork failing bufferBad))

/-- FLS_TASK_DONE (R501). -/
def execFlsTaskDone (task : Fin 11) (s : State) : Host.Outcome State Fault Refusal :=
  act s (flsDone task.val)

/-- BST_SLICE_START (R491). -/
def execBstSliceStart (unit : TestUnit) (supplyGood : Bool) (clocksGood : Bool)
    (s : State) : Host.Outcome State Fault Refusal :=
  act s (sliceStart (unitIndex unit) (supplyGood && clocksGood))

/-- BST_DEFER_RETRY (R491). -/
def execBstDeferRetry (supplyGood : Bool) (clocksGood : Bool) (s : State) : Host.Outcome State Fault Refusal :=
  act s (deferRetry (supplyGood && clocksGood))

/-- BST_SLICE_DONE (R492). -/
def execBstSliceDone (applied : Nat) (held : Bool) (signatureGood : Bool)
    (s : State) : Host.Outcome State Fault Refusal :=
  act s (sliceEnd applied held signatureGood)

/-- BST_SLICE_ABORT (R494). -/
def execBstSliceAbort (s : State) : Host.Outcome State Fault Refusal :=
  act s (sliceAbort)

/-- BST_KEY_ON (R498). -/
def execBstKeyOn (by_ : Initiator) (value : Word) (s : State) : Host.Outcome State Fault Refusal :=
  act s (regWrite by_ BST_KEY (setBit value 0 false))

/-- BST_KEY_OFF (R498). -/
def execBstKeyOff (by_ : Initiator) (value : Word) (s : State) : Host.Outcome State Fault Refusal :=
  act s (regWrite by_ BST_KEY (setBit value 0 true))

/-- BST_KEY_DONE (R499). One result for each copy. -/
def execBstKeyDone (results : List CopyResult) (s : State) : Host.Outcome State Fault Refusal :=
  if results.length = 12 then act s (keyDone results) else .fault (.illFormed "BST_KEY_DONE")

end Sys2Proof.Machine
end

