-- ==== Sys2Proof/Machine/Sense.lean ====
section
/-! DEFINITION. Current and voltage sensing (R117–R151): the commands. -/

namespace Sys2Proof.Machine

open Reg

/-- The reference monitor of pair `p` leaves its range (R120). -/
def refExcursion (p : Nat) (d : Dev) : Dev := raise Src.ADS_REF p (refLost p d)

/-- Initiator `i` reads `ADS_AINnn_RES`: its timestamp is latched for it, and the result has been read (R127). -/
def adsResRead (i : Initiator) (n : Nat) (d : Dev) : Dev :=
  busRead i (ADS_AINnn_RES n) (fun d =>
    let d := wr (bank i (ADS_AINnn_TS n)) (rd d (ADS_AINnn_TS n)) d
    let d := modPair (n / 8) (fun x => { x with unread := x.unread &&& ~~~ BitVec.ofNat 8 (2 ^ (n % 8)) }) d
    respData (rd d (ADS_AINnn_RES n)) d) d

/-- Initiator `i` reads `SDM_SDnn_RES`: its timestamp is latched for it, and the result has been read (R147). -/
def sdmResRead (i : Initiator) (n : Nat) (d : Dev) : Dev :=
  busRead i (SDM_SDnn_RES n) (fun d =>
    let d := wr (bank i (SDM_SDnn_TS n)) (rd d (SDM_SDnn_TS n)) d
    let d := modSdm n (fun x => { x with unread := false }) d
    respData (rd d (SDM_SDnn_RES n)) d) d

/-- The input of comparator `k` has stood at `x` for `lasting` (R135): outside its window past the filter it asserts. -/
def fcmpInput (k : Nat) (x : BitVec 16) (lasting : Nat) (d : Dev) : Dev :=
  if fcmpEn d k && !fcmpInvalid d k && fcmpOutside d k x && fcmpFiltered d k lasting then fcmpAssert k d else d

/-- The input of comparator `k` is `x`: inside its window the output deasserts (R135). -/
def fcmpBack (k : Nat) (x : BitVec 16) (d : Dev) : Dev :=
  if fcmpEn d k && !fcmpInvalid d k && !fcmpOutside d k x then fcmpDeassert k d else d

/-- ADS_START (R122). -/
def execAdsStart (by_ : Initiator) (pair : Fin 8) (value : Word) (s : State) : Host.Outcome State Fault Refusal :=
  act s (regWrite by_ (ADS_Pp_START pair.val) value)

/-- ADS_ACQUISITION_START (R124). -/
def execAdsAcquisitionStart (pair : Fin 8) (half : Bool) (s : State) : Host.Outcome State Fault Refusal :=
  act s (adsAcquire pair.val half)

/-- ADS_CONVERSION_DONE (R126). -/
def execAdsConversionDone (pair : Fin 8) (half : Bool) (code : BitVec 14)
    (s : State) : Host.Outcome State Fault Refusal :=
  act s (adsDone pair.val half code.toNat)

/-- ADS_REF_READY (R120). -/
def execAdsRefReady (pair : Fin 8) (s : State) : Host.Outcome State Fault Refusal :=
  act s (refReady pair.val)

/-- ADS_REF_EXCURSION (R120). -/
def execAdsRefExcursion (pair : Fin 8) (s : State) : Host.Outcome State Fault Refusal :=
  act s (refExcursion pair.val)

/-- ADS_CAL_REQUEST (R128). -/
def execAdsCalRequest (by_ : Initiator) (pair : Fin 8) (value : Word) (s : State) : Host.Outcome State Fault Refusal :=
  act s (regWrite by_ (ADS_Pp_CAL pair.val) value)

/-- ADS_CAL_START (R128). -/
def execAdsCalStart (pair : Fin 8) (s : State) : Host.Outcome State Fault Refusal :=
  act s (calStart pair.val)

/-- ADS_CAL_HALF_DONE (R130). -/
def execAdsCalHalfDone (pair : Fin 8) (coef : Word) (s : State) : Host.Outcome State Fault Refusal :=
  act s (calHalfDone pair.val coef)

/-- ADS_CAL_LATE (R130). -/
def execAdsCalLate (pair : Fin 8) (half : Bool) (s : State) : Host.Outcome State Fault Refusal :=
  act s (calLateCheck pair.val half)

/-- ADS_RES_READ (R127). -/
def execAdsResRead (by_ : Initiator) (ain : Fin 64) (s : State) : Host.Outcome State Fault Refusal :=
  act s (adsResRead by_ ain.val)

/-- SDM_MAIN_OUTPUT (R132). -/
def execSdmMainOutput (ch : Fin 24) (bits : List Bool) (ts : Nat) (s : State) : Host.Outcome State Fault Refusal :=
  act s (sdmOutput ch.val bits ts)

/-- SDM_WINDOW_OPEN (R133). -/
def execSdmWindowOpen (by_ : Initiator) (ch : Fin 24) (value : Word) (s : State) : Host.Outcome State Fault Refusal :=
  act s (regWrite by_ (SDM_SDnn_WIN ch.val) value)

/-- SDM_RES_READ (R147). -/
def execSdmResRead (by_ : Initiator) (ch : Fin 24) (s : State) : Host.Outcome State Fault Refusal :=
  act s (sdmResRead by_ ch.val)

/-- SDM_CLOCK_LOSS (R134). -/
def execSdmClockLoss (ch : Fin 24) (s : State) : Host.Outcome State Fault Refusal :=
  act s (sdmInvalid ch.val 0 Src.SDM_CLK_LOSS)

/-- SDM_STUCK_BITS (R134). -/
def execSdmStuckBits (ch : Fin 24) (s : State) : Host.Outcome State Fault Refusal :=
  act s (sdmInvalid ch.val 1 Src.SDM_STUCK)

/-- SDM_MANCHESTER_ERROR (R134). -/
def execSdmManchesterError (ch : Fin 24) (s : State) : Host.Outcome State Fault Refusal :=
  act s (sdmInvalid ch.val 2 Src.SDM_MAN_ERR)

/-- SDM_VALID_RESTORE (R134). -/
def execSdmValidRestore (ch : Fin 24) (s : State) : Host.Outcome State Fault Refusal :=
  act s (sdmValid ch.val)

/-- FCMP_ASSERT (R135). -/
def execFcmpAssert (cmp : Fin 32) (input : BitVec 16) (lasting : Nat) (s : State) : Host.Outcome State Fault Refusal :=
  act s (fcmpInput cmp.val input lasting)

/-- FCMP_DEASSERT (R135). -/
def execFcmpDeassert (cmp : Fin 32) (input : BitVec 16) (s : State) : Host.Outcome State Fault Refusal :=
  act s (fcmpBack cmp.val input)

/-- FCMP_SELF_TEST (R137). -/
def execFcmpSelfTest (by_ : Initiator) (cmp : Fin 32) (value : Word) (s : State) : Host.Outcome State Fault Refusal :=
  act s (regWrite by_ (FCMP_CMPkk_TEST cmp.val) value)

/-- FCMP_TEST_RESULT (R137). -/
def execFcmpTestResult (cmp : Fin 32) (asserted : Bool) (s : State) : Host.Outcome State Fault Refusal :=
  act s (fcmpTestEnd cmp.val asserted)

/-- RS_PERIOD_END (R140). -/
def execRsPeriodEnd (axis : Fin 4) (s : State) : Host.Outcome State Fault Refusal :=
  act s (rsPeriodEnd axis.val)

/-- MADC_SAMPLE (R141). -/
def execMadcSample (main : Fin 8) (code : BitVec 12) (s : State) : Host.Outcome State Fault Refusal :=
  act s (madcSample main.val code.toNat)

end Sys2Proof.Machine
end

