-- ==== Sys2Proof/Machine/DriverCore.lean ====
section
/-! DEFINITION. The conforming gate driver at the far end of a port (R251–R273): link time, held edges, modes, faults,
self-test, registers. -/

namespace Sys2Proof.Machine

open Reg

/-- The code of MODE in STATUS (R248). -/
def drvModeCode : DrvMode → Nat
  | .run => 0 | .halt => 1 | .safe => 2 | .lol => 3

/-- LATCHED bits that are not acknowledged. -/
def drvUnack (x : Driver) : Byte := x.latched &&& ~~~ x.acked

/-- The argument of a STATUS with one event: REFSEQ and REFUSE, GAPSEQ and GAPCNT (R248). -/
def statusArg (x : Driver) (refseq refuse gapseq gapcnt : Nat) : Nat :=
  b2n x.lock * 1048576 + refseq * 65536 + refuse * 8192 + gapseq * 512 + gapcnt * 32
    + b2n (decide (x.latched ≠ 0)) * 16 + drvModeCode x.mode * 4 + b2n x.level * 2 + b2n x.pref

/-- The argument of a FAULT. -/
def faultArg (x : Driver) : Nat := x.active.toNat * 65536 + x.latched.toNat * 256 + (drvUnack x).toNat

/-- Queue a word behind every other one. -/
def queueUp (typ arg : Nat) (x : Driver) : Driver := { x with uplink := x.uplink ++ [(typ, arg)] }

/-- Queue a FAULT ahead of every other word (R266). -/
def queueFault (x : Driver) : Driver := { x with uplink := (1, faultArg x) :: x.uplink }

/-- Queue a STATUS ahead of every word except FAULT and an earlier STATUS (R263, R273). -/
def queueStatus (arg : Nat) (x : Driver) : Driver :=
  let ahead := x.uplink.filter (fun w => decide (w.1 ≤ 1))
  let behind := x.uplink.filter (fun w => decide (1 < w.1))
  { x with uplink := ahead ++ (0, arg) :: behind }

/-- How many events wait to be reported: each stands in a STATUS of its own. -/
def waitingEvents (x : Driver) : Nat :=
  (x.uplink.filter (fun w => decide (w.1 = 0) && (decide (bits (wordOf w.2) 15 13 ≠ 0) || decide (bits (wordOf w.2) 8 5 ≠ 0)))).length

/-- An event is reported, or counted at address 0x06 where four wait (R273). -/
def drvEvent (refseq refuse gapseq gapcnt : Nat) (x : Driver) : Driver :=
  if waitingEvents x < 4 then queueStatus (statusArg x refseq refuse gapseq gapcnt) x
  else { x with unreported := satInc 65535 x.unreported }

/-- A valid word with SEQ `seq` reaches the driver of port `p`: a gap is noted (R246, R263). -/
def drvWord (p : Nat) (seq : BitVec 4) (f : Driver → Driver) (d : Dev) : Dev :=
  modDriver p (fun x =>
    let gap := (seq - x.rxSeq).toNat
    let x := if gap = 0 then x else drvEvent 0 0 x.rxSeq.toNat gap x
    f { x with rxSeq := seq + 1, lastValid := now d }) d

/-- A recognised Halt or Release reaches the driver. -/
def drvSet (p : Nat) (f : Driver → Driver) (d : Dev) : Dev := modDriver p (fun x => f { x with lastValid := now d }) d

/-- The driver refuses the edge of SEQ `seq` (R257). -/
def drvRefuse (seq : BitVec 4) (code : Nat) (x : Driver) : Driver := drvEvent seq.toNat code 0 0 x

/-- An EDGE word (R256, R257): `on` the kind, `t` its argument, `link` the driver's link time at the word's K28.1. -/
def drvEdge (on : Bool) (seq : BitVec 4) (t link : BitVec 24) (x : Driver) : Driver :=
  let delta := (t - link).toNat
  if x.mode ≠ .run then drvRefuse seq 4 x
  else if !x.lock then drvRefuse seq 6 x
  else if delta < 1280 ∨ 8388608 ≤ delta then drvRefuse seq 2 x
  else if 6400000 < delta then drvRefuse seq 1 x
  else if x.held.any (fun e => decide (e.1 = on) && decide (e.2 = t)) then x
  else if x.held.any (fun e => decide (e.2 = t)) then drvRefuse seq 7 x
  else if 8 ≤ x.held.length then drvRefuse seq 3 x
  else if on ∧ x.latched ≠ 0 ∧ drvUnack x ≠ 0 then drvRefuse seq 5 x
  else { x with held := x.held ++ [(on, t)] }

/-- OFF_NOW (R260). -/
def drvOffNow (x : Driver) : Driver := { x with level := false, held := [] }

/-- Fault conditions `c` are detected (R266): those of the comparator under test raise nothing (R269). -/
def drvFault (c : Byte) (t : Nat) (x : Driver) : Driver :=
  let under : Byte := match x.selftest with | some i => BitVec.ofNat 8 (2 ^ i) | none => 0
  let c := c &&& 0x7F &&& ~~~ under
  if c = 0 then x
  else queueFault { x with
    active := x.active ||| c, latched := x.latched ||| c, acked := x.acked &&& ~~~ c, level := false, lastFault := t }

/-- The driver loses link time: LOCK clears and SYNC latches (R251). -/
def drvSyncLost (t : Nat) (x : Driver) : Driver := drvFault 0x20 t { x with lock := false, goodSyncs := 0 }

/-- TIME_SYNC (R251): the error is the argument minus the driver's link time. -/
def drvSync (arg link : BitVec 24) (t : Nat) (x : Driver) : Driver :=
  let e := (signed 24 (arg - link).toNat).natAbs
  let x := { x with lastSync := t }
  if x.lock then (if 64 < e then drvSyncLost t x else x)
  else
    let n := if e ≤ 8 then x.goodSyncs + 1 else 0
    if 4 ≤ n then { x with lock := true, goodSyncs := 0, active := x.active &&& ~~~ 0x20 } else { x with goodSyncs := n }

/-- The value that the driver of port `p` holds at `addr` (R271). Its identity, capabilities, data and unwritten
settings are its maker's. -/
def drvRead (p : Nat) (addr : Byte) (x : Driver) : Nat :=
  let a := addr.toNat
  match x.settings.find? (fun s => decide (s.1 = a)) with
  | some s => s.2
  | none =>
    if a = 2 then 1
    else if a = 4 then x.malformed
    else if a = 5 then x.stray
    else if a = 6 then x.unreported
    else if a ≤ 3 ∨ (0x10 ≤ a ∧ a ≤ 0xEF) then (Config.driverRegister p a).toNat
    else 0

/-- Set a driver register. -/
def drvSet16 (a v : Nat) (x : Driver) : Driver := { x with settings := (a, v) :: x.settings.filter (fun s => decide (s.1 ≠ a)) }

/-- The answer to CFG_READ and CFG_WRITE: a READ_DATA with the value now held. -/
def drvAnswer (p : Nat) (addr : Byte) (x : Driver) : Driver := queueUp 2 (addr.toNat * 65536 + drvRead p addr x) x

/-- CFG_WRITE (R271): a read-only address keeps its value. -/
def drvCfgWrite (p : Nat) (addr : Byte) (v : BitVec 16) (x : Driver) : Driver :=
  let a := addr.toNat
  drvAnswer p addr (if 0x10 ≤ a ∧ a ≤ 0x7F then drvSet16 a v.toNat x else x)

/-- A self-test ends with result `r` (R269). -/
def drvTestResult (item r : Nat) (x : Driver) : Driver :=
  queueUp 2 ((0xF0 + item) * 65536 + r) (drvSet16 (0xF0 + item) r { x with selftest := none })

/-- SELFTEST (R269): it runs only while the switch is off. -/
def drvSelftest (item : Nat) (x : Driver) : Driver :=
  if x.level then queueUp 2 ((0xF0 + item) * 65536 + 2) (drvSet16 (0xF0 + item) 2 x) else { x with selftest := some item }

/-- ACK_FAULT (R267): bits that are not latched are ignored. -/
def drvAck (m : Byte) (x : Driver) : Driver := { x with acked := x.acked ||| (m &&& x.latched) }

/-- SAFE_PREF APPLY (R260): the fault latch holds the switch off. -/
def drvApply (level : Bool) (x : Driver) : Driver :=
  { x with mode := .safe, level := level && decide (x.latched = 0), held := [] }

/-- Halt (R260): one received in HALT changes nothing. -/
def drvHalt (x : Driver) : Driver :=
  if x.mode = .halt then x else { x with mode := .halt, level := false, held := [] }

/-- Release (R260): ignored and counted as stray in RUN, and in LOL without LOCK. -/
def drvRelease (x : Driver) : Driver :=
  if x.mode = .run ∨ (x.mode = .lol ∧ !x.lock) then { x with stray := satInc 65535 x.stray } else { x with mode := .run }

/-- No valid word for 1.9 µs (R263): LOL, off, reported at once. -/
def drvLossOfLink (t : Nat) (x : Driver) : Driver :=
  if x.mode ≠ .lol ∧ x.lastValid + 1520 ≤ t then
    let x := { x with mode := .lol, level := false, held := [], lolSince := t }
    queueStatus (statusArg x 0 0 0 0) x
  else x

/-- 1 µs after entry into LOL the switch turns on with PREF = 1 (R263). -/
def drvPrefOn (t : Nat) (x : Driver) : Driver :=
  if x.mode = .lol ∧ x.pref ∧ x.lolSince + 800 ≤ t ∧ x.latched = 0 ∧ x.active &&& 0x0C = 0 then { x with level := true }
  else x

/-- How far the time of a held edge lies behind link time `link`, as a signed 24-bit number. -/
def edgeAge (link : Nat) (t : BitVec 24) : Int := signed 24 ((BitVec.ofNat 24 link) - t).toNat

/-- The held edge that is first in time. -/
def firstHeld (link : Nat) (x : Driver) : Option (Bool × BitVec 24) :=
  x.held.foldl (fun acc e =>
    match acc with
    | none => some e
    | some f => if edgeAge link f.2 < edgeAge link e.2 then some e else some f) none

/-- An EDGE_ON executes (R267, R269): it aborts a self-test, and clears a latch whose every bit is acknowledged and no
longer active. -/
def drvOn (x : Driver) : Driver :=
  let x := match x.selftest with | some i => drvTestResult i 3 x | none => x
  if x.latched = 0 then { x with level := true }
  else if drvUnack x = 0 ∧ x.latched &&& x.active = 0 then { x with latched := 0, acked := 0, level := true }
  else x

/-- The first held edge whose time has come executes (R257). -/
def drvExecute (link : Nat) (x : Driver) : Driver :=
  match firstHeld link x with
  | some e =>
    if -8 < edgeAge link e.2 then
      let x := { x with held := x.held.erase e }
      if e.1 then drvOn x else { x with level := false }
    else x
  | none => x

/-- FAULT is sent again every 10 µs while UNACK is not 0 (R266); `active` is what is present now. -/
def drvRepeat (active : Byte) (t : Nat) (x : Driver) : Driver :=
  let x := { x with active := active &&& 0x7F }
  let new := x.active &&& ~~~ x.latched
  if new ≠ 0 then drvFault new t x
  else if drvUnack x ≠ 0 ∧ x.lastFault + 8000 ≤ t then queueFault { x with lastFault := t }
  else x

/-- 40 µs without a TIME_SYNC (R251). -/
def drvSyncTimeout (t : Nat) (x : Driver) : Driver :=
  if x.lock ∧ x.lastSync + 32000 ≤ t then drvSyncLost t x else x

/-- The self-test of the driver ends (R269). -/
def drvTestDone (pass : Bool) (x : Driver) : Driver :=
  match x.selftest with
  | some i => drvTestResult i (if pass then 0 else 1) x
  | none => x

/-- A malformed word is counted at address 0x04 (R272). -/
def drvMalformed (x : Driver) : Driver := { x with malformed := satInc 65535 x.malformed }

end Sys2Proof.Machine
end

