-- ==== Sys2Proof/Machine/ShaoreLink.lean ====
section
/-! DEFINITION. The Shaore Link (R242–R283): the controller's commands, the words that reach a driver and those it sends. -/

namespace Sys2Proof.Machine

open Reg

/-- The two copies of the GLK core disagree (R279). -/
def glkMismatch (d : Dev) : Dev := raise Src.GLK_CMP 0 (setFlag GLK_CMP_STATUS 0 true d)

/-- A request register write with RD as the row says (R271). -/
def cfgRequest (v : Word) (read : Bool) : Word := setBit v 30 read

/-- GLK_WORD_SCHEDULE (R258). -/
def execGlkWordSchedule (port : Fin 64) (s : State) : Host.Outcome State Fault Refusal :=
  act s (wordSchedule port.val)

/-- NOP (R244). -/
def execNop (port : Fin 64) (seq : BitVec 4) (s : State) : Host.Outcome State Fault Refusal :=
  act s (drvWord port.val seq id)

/-- EDGE_ON (R257). -/
def execEdgeOn (port : Fin 64) (seq : BitVec 4) (time : BitVec 24) (linkTime : BitVec 24)
    (s : State) : Host.Outcome State Fault Refusal :=
  act s (drvWord port.val seq (drvEdge true seq time linkTime))

/-- EDGE_OFF (R257). -/
def execEdgeOff (port : Fin 64) (seq : BitVec 4) (time : BitVec 24) (linkTime : BitVec 24)
    (s : State) : Host.Outcome State Fault Refusal :=
  act s (drvWord port.val seq (drvEdge false seq time linkTime))

/-- OFF_NOW (R260). -/
def execOffNow (port : Fin 64) (seq : BitVec 4) (s : State) : Host.Outcome State Fault Refusal :=
  act s (drvWord port.val seq drvOffNow)

/-- TIME_SYNC (R251). -/
def execTimeSync (port : Fin 64) (seq : BitVec 4) (arg : BitVec 24) (linkTime : BitVec 24)
    (s : State) : Host.Outcome State Fault Refusal :=
  act s fun d => drvWord port.val seq (drvSync arg linkTime (now d)) d

/-- CFG_WRITE (R271). -/
def execCfgWrite (port : Fin 64) (seq : BitVec 4) (addr : Byte) (data : BitVec 16)
    (s : State) : Host.Outcome State Fault Refusal :=
  act s (drvWord port.val seq (drvCfgWrite port.val addr data))

/-- CFG_READ (R271). -/
def execCfgRead (port : Fin 64) (seq : BitVec 4) (addr : Byte) (s : State) : Host.Outcome State Fault Refusal :=
  act s (drvWord port.val seq (drvAnswer port.val addr))

/-- ECHO_REQ (R253). The TURN of the answer is the driver's own. -/
def execEchoReq (port : Fin 64) (seq : BitVec 4) (turn : Nat) (s : State) : Host.Outcome State Fault Refusal :=
  act s (drvWord port.val seq (queueUp 5 (seq.toNat * 1048576 + turn % 1048576)))

/-- SELFTEST (R269). -/
def execSelftest (port : Fin 64) (seq : BitVec 4) (item : Fin 5) (s : State) : Host.Outcome State Fault Refusal :=
  act s (drvWord port.val seq (drvSelftest item.val))

/-- MEAS (R269). -/
def execMeas (port : Fin 64) (seq : BitVec 4) (kind : Fin 3) (millivolts : BitVec 16)
    (s : State) : Host.Outcome State Fault Refusal :=
  act s (drvWord port.val seq (queueUp 4 (kind.val * 65536 + millivolts.toNat)))

/-- ACK_FAULT (R267). -/
def execAckFault (port : Fin 64) (seq : BitVec 4) (mask : Byte) (s : State) : Host.Outcome State Fault Refusal :=
  act s (drvWord port.val seq (drvAck mask))

/-- SAFE_PREF_PROGRAM (R263). -/
def execSafePrefProgram (port : Fin 64) (seq : BitVec 4) (level : Bool)
    (s : State) : Host.Outcome State Fault Refusal :=
  act s (drvWord port.val seq (fun x => { x with pref := level }))

/-- SAFE_PREF_APPLY (R260). -/
def execSafePrefApply (port : Fin 64) (seq : BitVec 4) (level : Bool) (s : State) : Host.Outcome State Fault Refusal :=
  act s (drvWord port.val seq (drvApply level))

/-- HALT (R260). -/
def execHalt (port : Fin 64) (s : State) : Host.Outcome State Fault Refusal :=
  act s (drvSet port.val drvHalt)

/-- RELEASE (R260). -/
def execRelease (port : Fin 64) (s : State) : Host.Outcome State Fault Refusal :=
  act s (drvSet port.val drvRelease)

/-- STATUS (R264). -/
def execStatus (port : Fin 64) (seq : BitVec 4) (arg : BitVec 24) (s : State) : Host.Outcome State Fault Refusal :=
  act s (statusReceived port.val seq arg)

/-- FAULT (R268). -/
def execFault (port : Fin 64) (seq : BitVec 4) (arg : BitVec 24) (s : State) : Host.Outcome State Fault Refusal :=
  act s (faultReceived port.val seq arg)

/-- READ_DATA (R271). -/
def execReadData (port : Fin 64) (seq : BitVec 4) (addr : Byte) (data : BitVec 16)
    (s : State) : Host.Outcome State Fault Refusal :=
  act s (readDataReceived port.val seq addr data)

/-- TEMP (R271). -/
def execTemp (port : Fin 64) (seq : BitVec 4) (die : Bool) (value : BitVec 16)
    (s : State) : Host.Outcome State Fault Refusal :=
  act s (tempReceived port.val seq die value)

/-- VGE (R269). -/
def execVge (port : Fin 64) (seq : BitVec 4) (kind : Byte) (value : BitVec 16)
    (s : State) : Host.Outcome State Fault Refusal :=
  act s (vgeReceived port.val seq kind value)

/-- ECHO (R253). -/
def execEcho (port : Fin 64) (seq : BitVec 4) (rseq : BitVec 4) (turn : Nat) (arrival : Nat)
    (s : State) : Host.Outcome State Fault Refusal :=
  act s (echoWord port.val seq rseq turn arrival)

/-- GLK_CALIBRATION_DONE (R253). -/
def execGlkCalibrationDone (port : Fin 64) (s : State) : Host.Outcome State Fault Refusal :=
  act s (calibrationDone port.val)

/-- GLK_DLY_ACCEPT (R254). -/
def execGlkDlyAccept (by_ : Initiator) (port : Fin 64) (value : Word) (s : State) : Host.Outcome State Fault Refusal :=
  act s (regWrite by_ (GLK_GLnn_DLYACC port.val) value)

/-- GLK_UPLINK_TIMEOUT (R264). -/
def execGlkUplinkTimeout (port : Fin 64) (s : State) : Host.Outcome State Fault Refusal :=
  act s (uplinkTimeout port.val)

/-- GLK_UPLINK_MALFORMED (R275). -/
def execGlkUplinkMalformed (port : Fin 64) (s : State) : Host.Outcome State Fault Refusal :=
  act s (uplinkBad port.val)

/-- GLK_PORT_LIMIT_TIMEOUT (R276). -/
def execGlkPortLimitTimeout (port : Fin 64) (s : State) : Host.Outcome State Fault Refusal :=
  act s (portLimit port.val)

/-- SAFE_STATE_HALT (R261). -/
def execSafeStateHalt (origin : SafeOrigin) (port : Fin 64) (s : State) : Host.Outcome State Fault Refusal :=
  act s (safeHalt origin port.val)

/-- SAFE_STATE_HOLD_OFF (R261). -/
def execSafeStateHoldOff (origin : SafeOrigin) (port : Fin 64) (s : State) : Host.Outcome State Fault Refusal :=
  act s (safeHoldOff origin port.val)

/-- SAFE_STATE_HOLD_ON (R262). -/
def execSafeStateHoldOn (origin : SafeOrigin) (port : Fin 64) (s : State) : Host.Outcome State Fault Refusal :=
  act s (safeHoldOn origin port.val)

/-- GLK_HOLD_ON_SEND (R262). -/
def execGlkHoldOnSend (port : Fin 64) (s : State) : Host.Outcome State Fault Refusal :=
  act s (sendHoldOn port.val)

/-- SAFE_STATE_RELEASE (R261). -/
def execSafeStateRelease (port : Fin 64) (s : State) : Host.Outcome State Fault Refusal :=
  act s (safeRelease port.val)

/-- GLK_FACK (R268). -/
def execGlkFack (by_ : Initiator) (port : Fin 64) (value : Word) (s : State) : Host.Outcome State Fault Refusal :=
  act s (regWrite by_ (GLK_GLnn_FACK port.val) value)

/-- GLK_DIAG_SLOT (R270). -/
def execGlkDiagSlot (by_ : Initiator) (port : Fin 64) (value : Word) (s : State) : Host.Outcome State Fault Refusal :=
  act s (regWrite by_ (GLK_GLnn_DIAG_SLOT port.val) value)

/-- GLK_DIAG_TIMEOUT (R270). -/
def execGlkDiagTimeout (port : Fin 64) (s : State) : Host.Outcome State Fault Refusal :=
  act s (diagTimeout port.val)

/-- GLK_CFG_READ_REQUEST (R271). -/
def execGlkCfgReadRequest (by_ : Initiator) (port : Fin 64) (value : Word)
    (s : State) : Host.Outcome State Fault Refusal :=
  act s (regWrite by_ (GLK_GLnn_CFGACC port.val) (cfgRequest value true))

/-- GLK_CFG_WRITE_REQUEST (R271). -/
def execGlkCfgWriteRequest (by_ : Initiator) (port : Fin 64) (value : Word)
    (s : State) : Host.Outcome State Fault Refusal :=
  act s (regWrite by_ (GLK_GLnn_CFGACC port.val) (cfgRequest value false))

/-- GLK_CMP_MISMATCH (R279). -/
def execGlkCmpMismatch (s : State) : Host.Outcome State Fault Refusal :=
  act s (glkMismatch)

/-- DRIVER_LOSS_OF_LINK (R263). -/
def execDriverLossOfLink (port : Fin 64) (s : State) : Host.Outcome State Fault Refusal :=
  act s fun d => modDriver port.val (drvLossOfLink (now d)) d

/-- DRIVER_PREF_ON (R263). -/
def execDriverPrefOn (port : Fin 64) (s : State) : Host.Outcome State Fault Refusal :=
  act s fun d => modDriver port.val (drvPrefOn (now d)) d

/-- DRIVER_EDGE_EXECUTE (R257). -/
def execDriverEdgeExecute (port : Fin 64) (s : State) : Host.Outcome State Fault Refusal :=
  act s fun d => modDriver port.val (drvExecute (linkNow d)) d

/-- DRIVER_FAULT_DETECT (R266). -/
def execDriverFaultDetect (port : Fin 64) (conditions : Byte) (s : State) : Host.Outcome State Fault Refusal :=
  act s fun d => modDriver port.val (drvFault conditions (now d)) d

/-- DRIVER_FAULT_REPEAT (R266). -/
def execDriverFaultRepeat (port : Fin 64) (active : Byte) (s : State) : Host.Outcome State Fault Refusal :=
  act s fun d => modDriver port.val (drvRepeat active (now d)) d

/-- DRIVER_TEMP_REPORT (R271). -/
def execDriverTempReport (port : Fin 64) (die : Bool) (value : BitVec 16)
    (s : State) : Host.Outcome State Fault Refusal :=
  act s (modDriver port.val (queueUp 3 (b2n die * 65536 + value.toNat)))

/-- DRIVER_SYNC_TIMEOUT (R251). -/
def execDriverSyncTimeout (port : Fin 64) (s : State) : Host.Outcome State Fault Refusal :=
  act s fun d => modDriver port.val (drvSyncTimeout (now d)) d

/-- DRIVER_SELFTEST_DONE (R269). -/
def execDriverSelftestDone (port : Fin 64) (pass : Bool) (s : State) : Host.Outcome State Fault Refusal :=
  act s (modDriver port.val (drvTestDone pass))

/-- GLK_CFG_REQUEST_TIMEOUT (R274). -/
def execGlkCfgRequestTimeout (port : Fin 64) (s : State) : Host.Outcome State Fault Refusal :=
  act s (cfgTimeout port.val)

/-- DRIVER_MALFORMED_WORD (R272). -/
def execDriverMalformedWord (port : Fin 64) (s : State) : Host.Outcome State Fault Refusal :=
  act s (modDriver port.val drvMalformed)

end Sys2Proof.Machine
end

