-- ==== Sys2Proof/Machine/Start.lean ====
section
/-! DEFINITION. Reset, start-up, the Former copies, feature negotiation and debug access (R19–R53, R309, R524): the commands. -/

namespace Sys2Proof.Machine

open Reg

/-- POWER_ON_RESET_RELEASE (R37). -/
def execPowerOnResetRelease (porst : Bool) (domain : Fin 6) (testMode : Bool)
    (s : State) : Host.Outcome State Fault Refusal :=
  .next (powerOnRelease porst domain.val testMode s)

/-- SIS_ROM_START (R37). -/
def execSisRomStart (s : State) : Host.Outcome State Fault Refusal :=
  act s (sisRomBegin)

/-- STRAP_SAMPLING (R309). Eight readings of each of the eight straps. -/
def execStrapSampling (readings : List (List Nat)) (s : State) : Host.Outcome State Fault Refusal :=
  if readingsOk readings then act s (strapStep readings) else .fault (.illFormed "STRAP_SAMPLING")

/-- FORMER_CHECK_DONE (R31). -/
def execFormerCheckDone (s : State) : Host.Outcome State Fault Refusal :=
  act s (formerChecked s.mem)

/-- STRUCTURE_PROGRAMMED (R37). `former` brings the values that the image format of the manual gives no place. -/
def execStructureProgrammed (former : List (Nat × Word)) (s : State) : Host.Outcome State Fault Refusal :=
  act s (structureProgrammed s.mem former)

/-- FIRMWARE_VERIFIED (R37). -/
def execFirmwareVerified (s : State) : Host.Outcome State Fault Refusal :=
  act s (firmwareVerified)

/-- WARM_RESET (R39). -/
def execWarmReset (pin : Bool) (s : State) : Host.Outcome State Fault Refusal :=
  act s (warmRelease pin)

/-- SYS_RST_CTRL_WARM (R524). -/
def execSysRstCtrlWarm (by_ : Initiator) (value : Word) (s : State) : Host.Outcome State Fault Refusal :=
  act s (regWrite by_ SYS_RST_CTRL value)

/-- CFG_UPD_CTRL_WRITE (R50). -/
def execCfgUpdCtrlWrite (by_ : Initiator) (value : Word) (s : State) : Host.Outcome State Fault Refusal :=
  act s (regWrite by_ CFG_UPD_CTRL value)

/-- CFG_RES_QUERY_WRITE (R50). -/
def execCfgResQueryWrite (by_ : Initiator) (value : Word) (s : State) : Host.Outcome State Fault Refusal :=
  act s (regWrite by_ CFG_RES_QUERY value)

/-- CFG_DRVFEAT_WRITE (R52). -/
def execCfgDrvfeatWrite (by_ : Initiator) (k : Fin 8) (value : Word) (s : State) : Host.Outcome State Fault Refusal :=
  act s (regWrite by_ (CFG_DRVFEAT k.val) value)

/-- FEATURE_COMMIT (R43). -/
def execFeatureCommit (by_ : Initiator) (value : Word) (s : State) : Host.Outcome State Fault Refusal :=
  act s (regWrite by_ CFG_FEAT_COMMIT value)

/-- DEBUG_TOKEN (R46). -/
def execDebugToken (token : List Byte) (s : State) : Host.Outcome State Fault Refusal :=
  if token.length = 160 then act s (fun d => tokenWritten token (modCfg (fun c => { c with tokenWords := [] }) d)) else .fault (.illFormed "DEBUG_TOKEN")

/-- DEBUG_CLOSE (R49). -/
def execDebugClose (by_ : Initiator) (value : Word) (s : State) : Host.Outcome State Fault Refusal :=
  act s (regWrite by_ CFG_DBG_CLOSE value)

end Sys2Proof.Machine
end

