-- ==== Sys2Proof/Machine/Supply.lean ====
section
/-! DEFINITION. Supplies and clocks (R509–R524): the commands. -/

namespace Sys2Proof.Machine

open Reg

/-- SUPPLY_UNDERVOLTAGE (R513). -/
def execSupplyUndervoltage (domain : Fin 6) (s : State) : Host.Outcome State Fault Refusal :=
  act s (underVoltage domain.val)

/-- SUPPLY_OVERVOLTAGE (R513). -/
def execSupplyOvervoltage (domain : Fin 6) (s : State) : Host.Outcome State Fault Refusal :=
  act s (overVoltage domain.val)

/-- REFERENCE_LOSS (R516). -/
def execReferenceLoss (s : State) : Host.Outcome State Fault Refusal :=
  act s (refLoss)

/-- REFERENCE_DEVIATION (R516). -/
def execReferenceDeviation (deviation : Int) (s : State) : Host.Outcome State Fault Refusal :=
  act s (refDeviation deviation)

/-- PLL_FAULT (R516). -/
def execPllFault (s : State) : Host.Outcome State Fault Refusal :=
  act s (pllLoss)

/-- CLOCK_FAULT_RESET (R516). -/
def execClockFaultReset (s : State) : Host.Outcome State Fault Refusal :=
  act s (clockFaultReset)

/-- CLOCK_RECOVERED (R516). -/
def execClockRecovered (s : State) : Host.Outcome State Fault Refusal :=
  act s (clockBack)

/-- SUPPLY_RETURN (R513). -/
def execSupplyReturn (domain : Fin 6) (s : State) : Host.Outcome State Fault Refusal :=
  act s (supplyBack domain.val)

end Sys2Proof.Machine
end

