-- ==== Sys2Proof/Machine/Dispatch.lean ====
section
/-! DEFINITION. The dispatch: one arm per command, each a direct call of its meaning. -/

namespace Sys2Proof.Machine

/-- A command's effect on everything but the queue of waiting commands. -/
def exec (i : Instr) (s : State) : Host.Outcome State Fault Refusal :=
  match i with
  | .powerOnResetRelease porst domain testMode => Sys2Proof.Machine.execPowerOnResetRelease porst domain testMode s
  | .sisRomStart => Sys2Proof.Machine.execSisRomStart s
  | .strapSampling readings => Sys2Proof.Machine.execStrapSampling readings s
  | .formerCheckDone => Sys2Proof.Machine.execFormerCheckDone s
  | .structureProgrammed former => Sys2Proof.Machine.execStructureProgrammed former s
  | .firmwareVerified => Sys2Proof.Machine.execFirmwareVerified s
  | .warmReset pin => Sys2Proof.Machine.execWarmReset pin s
  | .sysRstCtrlWarm by_ value => Sys2Proof.Machine.execSysRstCtrlWarm by_ value s
  | .cfgUpdCtrlWrite by_ value => Sys2Proof.Machine.execCfgUpdCtrlWrite by_ value s
  | .cfgResQueryWrite by_ value => Sys2Proof.Machine.execCfgResQueryWrite by_ value s
  | .cfgDrvfeatWrite by_ k value => Sys2Proof.Machine.execCfgDrvfeatWrite by_ k value s
  | .featureCommit by_ value => Sys2Proof.Machine.execFeatureCommit by_ value s
  | .debugToken token => Sys2Proof.Machine.execDebugToken token s
  | .debugClose by_ value => Sys2Proof.Machine.execDebugClose by_ value s
  | .atbLtbLoRead by_ => Sys2Proof.Machine.execAtbLtbLoRead by_ s
  | .atbAngLoRead by_ axis => Sys2Proof.Machine.execAtbAngLoRead by_ axis s
  | .angleInterpolation => Sys2Proof.Machine.execAngleInterpolation s
  | .atbPositionUpdate axis theta tk => Sys2Proof.Machine.execAtbPositionUpdate axis theta tk s
  | .atbSetpos by_ axis value => Sys2Proof.Machine.execAtbSetpos by_ axis value s
  | .atbSetspd by_ axis value => Sys2Proof.Machine.execAtbSetspd by_ axis value s
  | .atbStaleTimeout axis => Sys2Proof.Machine.execAtbStaleTimeout axis s
  | .atbCmpMismatch detail => Sys2Proof.Machine.execAtbCmpMismatch detail s
  | .evsCmpMismatch => Sys2Proof.Machine.execEvsCmpMismatch s
  | .evsArm by_ entry value => Sys2Proof.Machine.execEvsArm by_ entry value s
  | .evsDisarm by_ entry value => Sys2Proof.Machine.execEvsDisarm by_ entry value s
  | .evsEntryWordWrite by_ entry word value => Sys2Proof.Machine.execEvsEntryWordWrite by_ entry word value s
  | .evsTrigger entry => Sys2Proof.Machine.execEvsTrigger entry s
  | .evsTableScan => Sys2Proof.Machine.execEvsTableScan s
  | .evsDispatch => Sys2Proof.Machine.execEvsDispatch s
  | .evsActionDelivery => Sys2Proof.Machine.execEvsActionDelivery s
  | .evsEnable by_ value => Sys2Proof.Machine.execEvsEnable by_ value s
  | .evsLatelogPop by_ => Sys2Proof.Machine.execEvsLatelogPop by_ s
  | .pfcLineTransition ch line level => Sys2Proof.Machine.execPfcLineTransition ch line level s
  | .pfcTransitionAccepted ch => Sys2Proof.Machine.execPfcTransitionAccepted ch s
  | .pfcCardDecay ch => Sys2Proof.Machine.execPfcCardDecay ch s
  | .pfcRequest by_ ch value => Sys2Proof.Machine.execPfcRequest by_ ch value s
  | .pfcFramePeriod ch => Sys2Proof.Machine.execPfcFramePeriod ch s
  | .pfcFrameDecode ch frame lineDelay idleHigh => Sys2Proof.Machine.execPfcFrameDecode ch frame lineDelay idleHigh s
  | .pfcSerTimeout ch lineDelay => Sys2Proof.Machine.execPfcSerTimeout ch lineDelay s
  | .excZeroCrossing exc => Sys2Proof.Machine.execExcZeroCrossing exc s
  | .pfcObsWrite by_ axis value => Sys2Proof.Machine.execPfcObsWrite by_ axis value s
  | .pfcSourceTimeout axis source => Sys2Proof.Machine.execPfcSourceTimeout axis source s
  | .pfcVoteReadmit by_ axis value => Sys2Proof.Machine.execPfcVoteReadmit by_ axis value s
  | .pfcCntclr by_ ch value => Sys2Proof.Machine.execPfcCntclr by_ ch value s
  | .eemOutputStep em => Sys2Proof.Machine.execEemOutputStep em s
  | .eemEnable by_ em value => Sys2Proof.Machine.execEemEnable by_ em value s
  | .adsStart by_ pair value => Sys2Proof.Machine.execAdsStart by_ pair value s
  | .adsAcquisitionStart pair half => Sys2Proof.Machine.execAdsAcquisitionStart pair half s
  | .adsConversionDone pair half code => Sys2Proof.Machine.execAdsConversionDone pair half code s
  | .adsRefReady pair => Sys2Proof.Machine.execAdsRefReady pair s
  | .adsRefExcursion pair => Sys2Proof.Machine.execAdsRefExcursion pair s
  | .adsCalRequest by_ pair value => Sys2Proof.Machine.execAdsCalRequest by_ pair value s
  | .adsCalStart pair => Sys2Proof.Machine.execAdsCalStart pair s
  | .adsCalHalfDone pair coef => Sys2Proof.Machine.execAdsCalHalfDone pair coef s
  | .adsCalLate pair half => Sys2Proof.Machine.execAdsCalLate pair half s
  | .adsResRead by_ ain => Sys2Proof.Machine.execAdsResRead by_ ain s
  | .sdmMainOutput ch bits ts => Sys2Proof.Machine.execSdmMainOutput ch bits ts s
  | .sdmWindowOpen by_ ch value => Sys2Proof.Machine.execSdmWindowOpen by_ ch value s
  | .sdmResRead by_ ch => Sys2Proof.Machine.execSdmResRead by_ ch s
  | .sdmClockLoss ch => Sys2Proof.Machine.execSdmClockLoss ch s
  | .sdmStuckBits ch => Sys2Proof.Machine.execSdmStuckBits ch s
  | .sdmManchesterError ch => Sys2Proof.Machine.execSdmManchesterError ch s
  | .sdmValidRestore ch => Sys2Proof.Machine.execSdmValidRestore ch s
  | .fcmpAssert cmp input lasting => Sys2Proof.Machine.execFcmpAssert cmp input lasting s
  | .fcmpDeassert cmp input => Sys2Proof.Machine.execFcmpDeassert cmp input s
  | .fcmpSelfTest by_ cmp value => Sys2Proof.Machine.execFcmpSelfTest by_ cmp value s
  | .fcmpTestResult cmp asserted => Sys2Proof.Machine.execFcmpTestResult cmp asserted s
  | .rsPeriodEnd axis => Sys2Proof.Machine.execRsPeriodEnd axis s
  | .madcSample main code => Sys2Proof.Machine.execMadcSample main code s
  | .ceSampleStart by_ axis value => Sys2Proof.Machine.execCeSampleStart by_ axis value s
  | .ceExecutionDone engine cycles flowsig => Sys2Proof.Machine.execCeExecutionDone engine cycles flowsig s
  | .ceReleaseComplete engine => Sys2Proof.Machine.execCeReleaseComplete engine s
  | .frAscHoldEnd axis => Sys2Proof.Machine.execFrAscHoldEnd axis s
  | .frWindowEnd axis => Sys2Proof.Machine.execFrWindowEnd axis s
  | .ceDeadline axis => Sys2Proof.Machine.execCeDeadline axis s
  | .ceCheckpointArrive axis crcGood => Sys2Proof.Machine.execCeCheckpointArrive axis crcGood s
  | .ceResidueError engine => Sys2Proof.Machine.execCeResidueError engine s
  | .ceHangTimeout engine => Sys2Proof.Machine.execCeHangTimeout engine s
  | .ceEccError engine => Sys2Proof.Machine.execCeEccError engine s
  | .ceTakeoverSelected axis => Sys2Proof.Machine.execCeTakeoverSelected axis s
  | .ceOutOfCycleStart axis => Sys2Proof.Machine.execCeOutOfCycleStart axis s
  | .ceHandoverRequest by_ value => Sys2Proof.Machine.execCeHandoverRequest by_ value s
  | .ceReadmit by_ value => Sys2Proof.Machine.execCeReadmit by_ value s
  | .ceFlagClear by_ engine value => Sys2Proof.Machine.execCeFlagClear by_ engine value s
  | .pwmStageCopy group => Sys2Proof.Machine.execPwmStageCopy group s
  | .pwmLoadInstant group => Sys2Proof.Machine.execPwmLoadInstant group s
  | .pwmPeriodStart group => Sys2Proof.Machine.execPwmPeriodStart group s
  | .pwmShadowWrite by_ reg value => Sys2Proof.Machine.execPwmShadowWrite by_ reg value s
  | .pwmTrip leg source => Sys2Proof.Machine.execPwmTrip leg source s
  | .pwmBlankEnd leg => Sys2Proof.Machine.execPwmBlankEnd leg s
  | .pwmLatchClear by_ leg value => Sys2Proof.Machine.execPwmLatchClear by_ leg value s
  | .pwmCmpMismatch => Sys2Proof.Machine.execPwmCmpMismatch s
  | .glkWordSchedule port => Sys2Proof.Machine.execGlkWordSchedule port s
  | .nop port seq => Sys2Proof.Machine.execNop port seq s
  | .edgeOn port seq time linkTime => Sys2Proof.Machine.execEdgeOn port seq time linkTime s
  | .edgeOff port seq time linkTime => Sys2Proof.Machine.execEdgeOff port seq time linkTime s
  | .offNow port seq => Sys2Proof.Machine.execOffNow port seq s
  | .timeSync port seq arg linkTime => Sys2Proof.Machine.execTimeSync port seq arg linkTime s
  | .cfgWrite port seq addr data => Sys2Proof.Machine.execCfgWrite port seq addr data s
  | .cfgRead port seq addr => Sys2Proof.Machine.execCfgRead port seq addr s
  | .echoReq port seq turn => Sys2Proof.Machine.execEchoReq port seq turn s
  | .selftest port seq item => Sys2Proof.Machine.execSelftest port seq item s
  | .meas port seq kind millivolts => Sys2Proof.Machine.execMeas port seq kind millivolts s
  | .ackFault port seq mask => Sys2Proof.Machine.execAckFault port seq mask s
  | .safePrefProgram port seq level => Sys2Proof.Machine.execSafePrefProgram port seq level s
  | .safePrefApply port seq level => Sys2Proof.Machine.execSafePrefApply port seq level s
  | .halt port => Sys2Proof.Machine.execHalt port s
  | .release port => Sys2Proof.Machine.execRelease port s
  | .status port seq arg => Sys2Proof.Machine.execStatus port seq arg s
  | .fault port seq arg => Sys2Proof.Machine.execFault port seq arg s
  | .readData port seq addr data => Sys2Proof.Machine.execReadData port seq addr data s
  | .temp port seq die value => Sys2Proof.Machine.execTemp port seq die value s
  | .vge port seq kind value => Sys2Proof.Machine.execVge port seq kind value s
  | .echo port seq rseq turn arrival => Sys2Proof.Machine.execEcho port seq rseq turn arrival s
  | .glkCalibrationDone port => Sys2Proof.Machine.execGlkCalibrationDone port s
  | .glkDlyAccept by_ port value => Sys2Proof.Machine.execGlkDlyAccept by_ port value s
  | .glkUplinkTimeout port => Sys2Proof.Machine.execGlkUplinkTimeout port s
  | .glkUplinkMalformed port => Sys2Proof.Machine.execGlkUplinkMalformed port s
  | .glkPortLimitTimeout port => Sys2Proof.Machine.execGlkPortLimitTimeout port s
  | .safeStateHalt origin port => Sys2Proof.Machine.execSafeStateHalt origin port s
  | .safeStateHoldOff origin port => Sys2Proof.Machine.execSafeStateHoldOff origin port s
  | .safeStateHoldOn origin port => Sys2Proof.Machine.execSafeStateHoldOn origin port s
  | .glkHoldOnSend port => Sys2Proof.Machine.execGlkHoldOnSend port s
  | .safeStateRelease port => Sys2Proof.Machine.execSafeStateRelease port s
  | .glkFack by_ port value => Sys2Proof.Machine.execGlkFack by_ port value s
  | .glkDiagSlot by_ port value => Sys2Proof.Machine.execGlkDiagSlot by_ port value s
  | .glkDiagTimeout port => Sys2Proof.Machine.execGlkDiagTimeout port s
  | .glkCfgReadRequest by_ port value => Sys2Proof.Machine.execGlkCfgReadRequest by_ port value s
  | .glkCfgWriteRequest by_ port value => Sys2Proof.Machine.execGlkCfgWriteRequest by_ port value s
  | .glkCmpMismatch => Sys2Proof.Machine.execGlkCmpMismatch s
  | .driverLossOfLink port => Sys2Proof.Machine.execDriverLossOfLink port s
  | .driverPrefOn port => Sys2Proof.Machine.execDriverPrefOn port s
  | .driverEdgeExecute port => Sys2Proof.Machine.execDriverEdgeExecute port s
  | .driverFaultDetect port conditions => Sys2Proof.Machine.execDriverFaultDetect port conditions s
  | .driverFaultRepeat port active => Sys2Proof.Machine.execDriverFaultRepeat port active s
  | .driverTempReport port die value => Sys2Proof.Machine.execDriverTempReport port die value s
  | .driverSyncTimeout port => Sys2Proof.Machine.execDriverSyncTimeout port s
  | .driverSelftestDone port pass => Sys2Proof.Machine.execDriverSelftestDone port pass s
  | .pspDcocBlankEnd axis => Sys2Proof.Machine.execPspDcocBlankEnd axis s
  | .pspIdWindowExpire axis => Sys2Proof.Machine.execPspIdWindowExpire axis s
  | .pspSpeedEvaluate => Sys2Proof.Machine.execPspSpeedEvaluate s
  | .pspUdcStaleTimeout link => Sys2Proof.Machine.execPspUdcStaleTimeout link s
  | .pspChopperCheck link => Sys2Proof.Machine.execPspChopperCheck link s
  | .pspDischargeStart link => Sys2Proof.Machine.execPspDischargeStart link s
  | .pspDcurveMissed link => Sys2Proof.Machine.execPspDcurveMissed link s
  | .pspDischargeTimeout link => Sys2Proof.Machine.execPspDischargeTimeout link s
  | .sisLockstepMismatch => Sys2Proof.Machine.execSisLockstepMismatch s
  | .sisHeartbeatCheck beat => Sys2Proof.Machine.execSisHeartbeatCheck beat s
  | .sysSisHeartbeatCheck beat => Sys2Proof.Machine.execSysSisHeartbeatCheck beat s
  | .sisClockCheck deviation => Sys2Proof.Machine.execSisClockCheck deviation s
  | .sisStrapRecheck readings => Sys2Proof.Machine.execSisStrapRecheck readings s
  | .enable by_ tag arg => Sys2Proof.Machine.execEnable by_ tag arg s
  | .disable by_ tag arg => Sys2Proof.Machine.execDisable by_ tag arg s
  | .precharge by_ tag arg => Sys2Proof.Machine.execPrecharge by_ tag arg s
  | .open_ by_ tag arg => Sys2Proof.Machine.execOpen by_ tag arg s
  | .discharge by_ tag arg => Sys2Proof.Machine.execDischarge by_ tag arg s
  | .unlock by_ tag arg => Sys2Proof.Machine.execUnlock by_ tag arg s
  | .seal by_ tag arg => Sys2Proof.Machine.execSeal by_ tag arg s
  | .clear by_ tag arg => Sys2Proof.Machine.execClear by_ tag arg s
  | .contactorFeedback ct level => Sys2Proof.Machine.execContactorFeedback ct level s
  | .contactorFbTimeout ct => Sys2Proof.Machine.execContactorFbTimeout ct s
  | .prechargeVoltageTimeout link => Sys2Proof.Machine.execPrechargeVoltageTimeout link s
  | .prechargeRetryEnd link => Sys2Proof.Machine.execPrechargeRetryEnd link s
  | .stoInputEdge inputB level => Sys2Proof.Machine.execStoInputEdge inputB level s
  | .stoDemand => Sys2Proof.Machine.execStoDemand s
  | .stoDiscrepancy => Sys2Proof.Machine.execStoDiscrepancy s
  | .stoEnd => Sys2Proof.Machine.execStoEnd s
  | .ss1Supervise axis => Sys2Proof.Machine.execSs1Supervise axis s
  | .ss1Timeout => Sys2Proof.Machine.execSs1Timeout s
  | .sisTorqueEvaluate => Sys2Proof.Machine.execSisTorqueEvaluate s
  | .lockRstRelease lowTicks => Sys2Proof.Machine.execLockRstRelease lowTicks s
  | .sisSelfcheckDone pass madcPass => Sys2Proof.Machine.execSisSelfcheckDone pass madcPass s
  | .unlockWindowExpire => Sys2Proof.Machine.execUnlockWindowExpire s
  | .fcrSourceRaise source detail => Sys2Proof.Machine.execFcrSourceRaise source detail s
  | .fcrForce by_ source value => Sys2Proof.Machine.execFcrForce by_ source value s
  | .fcrStatusClear by_ source value => Sys2Proof.Machine.execFcrStatusClear by_ source value s
  | .fcrSelfFault kind => Sys2Proof.Machine.execFcrSelfFault kind s
  | .fcrLoRead by_ source last => Sys2Proof.Machine.execFcrLoRead by_ source last s
  | .thmStep sensors powers => Sys2Proof.Machine.execThmStep sensors powers s
  | .cpxLockstepMismatch pair => Sys2Proof.Machine.execCpxLockstepMismatch pair s
  | .spareHandoverEntry => Sys2Proof.Machine.execSpareHandoverEntry s
  | .mhostatusResumed pair value => Sys2Proof.Machine.execMhostatusResumed pair value s
  | .cpxHoSlow => Sys2Proof.Machine.execCpxHoSlow s
  | .mhoyield pair value => Sys2Proof.Machine.execMhoyield pair value s
  | .yieldWithdraw => Sys2Proof.Machine.execYieldWithdraw s
  | .mcpxreadmit pair value => Sys2Proof.Machine.execMcpxreadmit pair value s
  | .l1Ue pair addr => Sys2Proof.Machine.execL1Ue pair addr s
  | .sramUe by_ addr => Sys2Proof.Machine.execSramUe by_ addr s
  | .icfVlogPop by_ => Sys2Proof.Machine.execIcfVlogPop by_ s
  | .icfLock by_ value => Sys2Proof.Machine.execIcfLock by_ value s
  | .icfShareWindow share held => Sys2Proof.Machine.execIcfShareWindow share held s
  | .icfCmpMismatch => Sys2Proof.Machine.execIcfCmpMismatch s
  | .registerWrite by_ addr width value latency => Sys2Proof.Machine.execRegisterWrite by_ addr width value latency s
  | .axisCommand path sender record => Sys2Proof.Machine.execAxisCommand path sender record s
  | .csqDatagram eth sender payload => Sys2Proof.Machine.execCsqDatagram eth sender payload s
  | .csqAckBatchTimeout slot path => Sys2Proof.Machine.execCsqAckBatchTimeout slot path s
  | .csqGapStall slot => Sys2Proof.Machine.execCsqGapStall slot s
  | .csqSetLast by_ slot value => Sys2Proof.Machine.execCsqSetLast by_ slot value s
  | .pwrfailFall => Sys2Proof.Machine.execPwrfailFall s
  | .flushComplete => Sys2Proof.Machine.execFlushComplete s
  | .pwrfailRise => Sys2Proof.Machine.execPwrfailRise s
  | .cmdStep x inRange => Sys2Proof.Machine.execCmdStep x inRange s
  | .csqCmdTimeout axis => Sys2Proof.Machine.execCsqCmdTimeout axis s
  | .cteBegin by_ value => Sys2Proof.Machine.execCteBegin by_ value s
  | .cteShadowWrite by_ addr value => Sys2Proof.Machine.execCteShadowWrite by_ addr value s
  | .cteOwnset by_ value => Sys2Proof.Machine.execCteOwnset by_ value s
  | .cteCommitImmediate by_ => Sys2Proof.Machine.execCteCommitImmediate by_ s
  | .cteCommitLoadInstant by_ => Sys2Proof.Machine.execCteCommitLoadInstant by_ s
  | .cteCommitTime by_ => Sys2Proof.Machine.execCteCommitTime by_ s
  | .cteCommitAngle by_ => Sys2Proof.Machine.execCteCommitAngle by_ s
  | .cteValidationDone by_ => Sys2Proof.Machine.execCteValidationDone by_ s
  | .cteBoundaryApply by_ => Sys2Proof.Machine.execCteBoundaryApply by_ s
  | .cteRollback by_ value => Sys2Proof.Machine.execCteRollback by_ value s
  | .cteTxTimeout by_ => Sys2Proof.Machine.execCteTxTimeout by_ s
  | .jrnFwWrite by_ value => Sys2Proof.Machine.execJrnFwWrite by_ value s
  | .jrnAdmit => Sys2Proof.Machine.execJrnAdmit s
  | .jrnSeqQuery by_ value => Sys2Proof.Machine.execJrnSeqQuery by_ value s
  | .ethFrameReceive eth frame fcsGood sfd => Sys2Proof.Machine.execEthFrameReceive eth frame fcsGood sfd s
  | .ethTxTailWrite by_ eth value => Sys2Proof.Machine.execEthTxTailWrite by_ eth value s
  | .ethFrameSent eth sfd => Sys2Proof.Machine.execEthFrameSent eth sfd s
  | .ethMdioRead by_ eth value => Sys2Proof.Machine.execEthMdioRead by_ eth value s
  | .ethMdioWrite by_ eth value => Sys2Proof.Machine.execEthMdioWrite by_ eth value s
  | .ethMdioDone eth data => Sys2Proof.Machine.execEthMdioDone eth data s
  | .ethLinkLost eth => Sys2Proof.Machine.execEthLinkLost eth s
  | .ntuWrap => Sys2Proof.Machine.execNtuWrap s
  | .ntuShadowArm by_ value => Sys2Proof.Machine.execNtuShadowArm by_ value s
  | .ntuShadowNow by_ value => Sys2Proof.Machine.execNtuShadowNow by_ value s
  | .ntuStep by_ value => Sys2Proof.Machine.execNtuStep by_ value s
  | .ntuStepArm by_ value => Sys2Proof.Machine.execNtuStepArm by_ value s
  | .ntuSet by_ value => Sys2Proof.Machine.execNtuSet by_ value s
  | .ntuRateWrite by_ value => Sys2Proof.Machine.execNtuRateWrite by_ value s
  | .ntuHoldClear by_ value => Sys2Proof.Machine.execNtuHoldClear by_ value s
  | .ntuSyncTimeout => Sys2Proof.Machine.execNtuSyncTimeout s
  | .ntuTsPop by_ port tx => Sys2Proof.Machine.execNtuTsPop by_ port tx s
  | .ntuCrossStamp by_ value => Sys2Proof.Machine.execNtuCrossStamp by_ value s
  | .subscribe eth sender payload => Sys2Proof.Machine.execSubscribe eth sender payload s
  | .grant eth sender payload => Sys2Proof.Machine.execGrant eth sender payload s
  | .unsubscribe eth sender payload => Sys2Proof.Machine.execUnsubscribe eth sender payload s
  | .data sub => Sys2Proof.Machine.execData sub s
  | .leaseExpire sub => Sys2Proof.Machine.execLeaseExpire sub s
  | .trcSubEnd by_ sub value => Sys2Proof.Machine.execTrcSubEnd by_ sub value s
  | .trcMark by_ marker value => Sys2Proof.Machine.execTrcMark by_ marker value s
  | .trcFwrec by_ value => Sys2Proof.Machine.execTrcFwrec by_ value s
  | .trcStagingDrain engine => Sys2Proof.Machine.execTrcStagingDrain engine s
  | .trcGapInsert sub => Sys2Proof.Machine.execTrcGapInsert sub s
  | .canTxRequest by_ can buf value => Sys2Proof.Machine.execCanTxRequest by_ can buf value s
  | .canTxCancel by_ can buf value => Sys2Proof.Machine.execCanTxCancel by_ can buf value s
  | .canArbitration can => Sys2Proof.Machine.execCanArbitration can s
  | .canAttemptEnd can result tec rec_ delay => Sys2Proof.Machine.execCanAttemptEnd can result tec rec_ delay s
  | .canFrameReceive can frame sof tec rec_ => Sys2Proof.Machine.execCanFrameReceive can frame sof tec rec_ s
  | .canBusoffRecoveryRequest by_ can value => Sys2Proof.Machine.execCanBusoffRecoveryRequest by_ can value s
  | .canBusoffRecovered can => Sys2Proof.Machine.execCanBusoffRecovered can s
  | .canRxPop by_ can value => Sys2Proof.Machine.execCanRxPop by_ can value s
  | .canDisable can => Sys2Proof.Machine.execCanDisable can s
  | .canBusJoin can => Sys2Proof.Machine.execCanBusJoin can s
  | .scrub corrected failing => Sys2Proof.Machine.execScrub corrected failing s
  | .mramref corrected failing => Sys2Proof.Machine.execMramref corrected failing s
  | .adccal => Sys2Proof.Machine.execAdccal s
  | .linkcal => Sys2Proof.Machine.execLinkcal s
  | .cerot => Sys2Proof.Machine.execCerot s
  | .pprot => Sys2Proof.Machine.execPprot s
  | .drvtest => Sys2Proof.Machine.execDrvtest s
  | .thmchk => Sys2Proof.Machine.execThmchk s
  | .wear => Sys2Proof.Machine.execWear s
  | .lease => Sys2Proof.Machine.execLease s
  | .mbist failing bufferBad => Sys2Proof.Machine.execMbist failing bufferBad s
  | .flsTaskDone task => Sys2Proof.Machine.execFlsTaskDone task s
  | .bstSliceStart unit supplyGood clocksGood => Sys2Proof.Machine.execBstSliceStart unit supplyGood clocksGood s
  | .bstDeferRetry supplyGood clocksGood => Sys2Proof.Machine.execBstDeferRetry supplyGood clocksGood s
  | .bstSliceDone applied held signatureGood => Sys2Proof.Machine.execBstSliceDone applied held signatureGood s
  | .bstSliceAbort => Sys2Proof.Machine.execBstSliceAbort s
  | .bstKeyOn by_ value => Sys2Proof.Machine.execBstKeyOn by_ value s
  | .bstKeyOff by_ value => Sys2Proof.Machine.execBstKeyOff by_ value s
  | .bstKeyDone results => Sys2Proof.Machine.execBstKeyDone results s
  | .supplyUndervoltage domain => Sys2Proof.Machine.execSupplyUndervoltage domain s
  | .supplyOvervoltage domain => Sys2Proof.Machine.execSupplyOvervoltage domain s
  | .referenceLoss => Sys2Proof.Machine.execReferenceLoss s
  | .referenceDeviation deviation => Sys2Proof.Machine.execReferenceDeviation deviation s
  | .pllFault => Sys2Proof.Machine.execPllFault s
  | .clockFaultReset => Sys2Proof.Machine.execClockFaultReset s
  | .clockRecovered => Sys2Proof.Machine.execClockRecovered s
  | .tripPinEdge pin level => Sys2Proof.Machine.execTripPinEdge pin level s
  | .glkCfgRequestTimeout port => Sys2Proof.Machine.execGlkCfgRequestTimeout port s
  | .driverMalformedWord port => Sys2Proof.Machine.execDriverMalformedWord port s
  | .supplyReturn domain => Sys2Proof.Machine.execSupplyReturn domain s
  | .ethLinkUp eth speed => Sys2Proof.Machine.execEthLinkUp eth speed s

end Sys2Proof.Machine
end

