-- ==== Sys2Proof/Machine/Views.lean ====
section
/-! DEFINITION. What a read of a register returns (R15): registers that show what another part of the state holds, copies
that each initiator has of its own, write-only registers, and registers of what is not in use. No command of the table
is a plain read: claims about what software sees are stated over `regView`. -/

namespace Sys2Proof.Machine

open Reg

/-- `CFG_DEVID`, `CFG_UID0`, `CFG_UID1` and the offered features are the part's own (R45, R50, R54). -/
def viewIdentity (a : Nat) : Option Word :=
  if a = CFG_DEVID then some Config.devId
  else if a = CFG_UID0 then some Config.uid0
  else if a = CFG_UID1 then some Config.uid1
  else (elemAt (CFG_DEVFEAT 0) 4 8 a).map Config.devFeat

/-- Registers of ATB (R56, R58, R81). -/
def viewAtb (i : Initiator) (d : Dev) (a : Nat) : Option Word :=
  if a = ATB_LTB_LO then some (nowLo d)
  else if a = ATB_LTB_HI then some (rd d (bank i a))
  else match elemAt (ATB_AXn_ANG_LO 0) 0x40 4 a with
  | some x => some (wordOf (angle40 d x))
  | none =>
  match elemAt (ATB_AXn_ANG_HI 0) 0x40 4 a with
  | some _ => some (rd d (bank i a))
  | none => (elemAt (ATB_AXn_ELEC 0) 0x40 4 a).map (fun x => wordOf (elecAngle d x))

/-- Registers of EVS and the words of its table (R67, R83, R85). -/
def viewEvs (d : Dev) (a : Nat) : Option Word :=
  if a = EVS_ARMED then some (evsArmedReg d)
  else if a = EVS_LATELOG0 then some (evsLateLog0 d)
  else if a = EVS_LATELOG1 then some (evsLateLog1 d)
  else (evsAt a).map (fun e => evsReadWord d e.1 e.2)

/-- The timestamps that reading a result latches (R127, R147). -/
def viewSense (i : Initiator) (d : Dev) (a : Nat) : Option Word :=
  match elemAt (ADS_AINnn_TS 0) (ADS_AINnn_TS 1 - ADS_AINnn_TS 0) 64 a with
  | some _ => some (rd d (bank i a))
  | none => (elemAt (SDM_SDnn_TS 0) 0x40 24 a).map (fun _ => rd d (bank i a))

/-- The numbers of the sources with status set that stand in `FCR_SET00` to `FCR_SET31` (R360). -/
def setWord (d : Dev) (w : Nat) : Word :=
  wordOf (((setSources d).filter (fun k => k / 32 = w)).foldl (fun m k => m + 2 ^ (k % 32)) 0)

/-- Registers of FCR (R360). -/
def viewFcr (i : Initiator) (d : Dev) (a : Nat) : Option Word :=
  if a = FCR_STATUS then
    some (setBit (setBit (setBits 0 10 0 (setSources d).length) 16 (!faultLow d)) 17 (!safeLow d))
  else if a = FCR_FIRST_SET then
    some (match setSources d with | [] => 0 | k :: _ => setBit (setBits 0 9 0 k) 31 true)
  else match elemAt (FCR_SET 0) 4 32 a with
  | some w => some (setWord d w)
  | none =>
  match elemAt (FCR_SRCkkkk_FIRST_HI 0) 0x20 1024 a with
  | some _ => some (rd d (bank i a))
  | none => (elemAt (FCR_SRCkkkk_LAST_HI 0) 0x20 1024 a).map (fun _ => rd d (bank i a))

/-- The violation log's head (R406, R407). -/
def viewIcf (d : Dev) (a : Nat) : Option Word :=
  if a = ICF_VLOG0 then
    some (match d.icf.vlog with
      | [] => 0
      | r :: _ => setBits (setBits (setBits (setBit (setBit 0 31 true) 30 d.icf.vlost) 15 13 r.kind) 12 11 r.access)
          4 0 r.init)
  else if a = ICF_VLOG1 then some (match d.icf.vlog with | [] => 0 | r :: _ => wordOf r.addr)
  else if a = ICF_VLOG2 then some (match d.icf.vlog with | [] => 0 | r :: _ => r.time)
  else none

/-- The registers of which each initiator has a copy of its own: CTE's transaction registers, JRN's firmware port, the
mailbox requests (R314, R439, R440). -/
def viewOwnCopy (i : Initiator) (d : Dev) (a : Nat) : Option Word :=
  if a = CTE_TX ∨ a = CTE_TX_WRITES ∨ a = CTE_BOUNDARY ∨ a = CTE_COMMIT_ARG ∨ a = CTE_ERR_ADDR ∨ a = CTE_ERR_OWNER
      ∨ a = CTE_ERR_RES ∨ a = JRN_FW_STATUS ∨ a = JRN_FW_SEQ ∨ (elemAt (JRN_FW_DATA 0) 4 11 a).isSome
      ∨ (elemAt (SIS_MB_REQ 0) 4 4 a).isSome then some (rd d (bank i a))
  else none

/-- The leases of the telemetry subscriptions (R470). -/
def viewTrc (d : Dev) (a : Nat) : Option Word :=
  (elemAt (TRC_SUBs_LEASE 0) 0x20 32 a).map (fun s => wordOf (leaseLeft d s))

/-- Levels and voltages at pins and supplies (R524): the balls that serve another use read 0; a ball that the device
drives reads its output level; the others and the voltages are what stands outside, free values. -/
def viewSys (d : Dev) (a : Nat) : Option Word :=
  if a = SYS_GPIO_IN then
    let oe := rd d SYS_GPIO_OE
    some (((rd d SYS_GPIO_OUT &&& oe) ||| (Config.gpioLevels (now d) &&& ~~~ oe)) &&& gpioMask d)
  else if a = SYS_VMEAS0 then some (Config.supplyMillivolts (now d) 0)
  else if a = SYS_VMEAS1 then some (Config.supplyMillivolts (now d) 1)
  else if a = SYS_VMEAS2 then some (Config.supplyMillivolts (now d) 2)
  else none

/-- `SIS_ID` is the ROM version (R335). -/
def viewSis (a : Nat) : Option Word := if a = SIS_ID then some Config.sisRomVersion else none

/-- Is the register at `a` write-only (WO, or W1S, which nothing holds)? -/
def writeOnlyAt (a : Nat) : Bool :=
  match regRow? a with
  | some r => decide (r.acc = .wo ∨ r.acc = .w1s)
  | none => false

/-- What a register shows that is not what the register file holds. -/
def derivedView (i : Initiator) (d : Dev) (a : Nat) : Option Word :=
  match a / 0x10000 with
  | 0x4000 => viewSys d a
  | 0x4001 => viewIdentity a
  | 0x4002 | 0x4004 => viewOwnCopy i d a
  | 0x4007 => viewIcf d a
  | 0x4010 => viewAtb i d a
  | 0x4011 | 0x4012 => viewEvs d a
  | 0x4030 | 0x4031 => viewSense i d a
  | 0x4080 => viewFcr i d a
  | 0x40D0 => viewTrc d a
  | 0x5000 => match viewSis a with | some v => some v | none => viewOwnCopy i d a
  | _ => none

/-- The value that initiator `i` gets when it reads the register or EVS word at `a` and ICF lets the access through. -/
def regView (i : Initiator) (d : Dev) (a : Nat) : Word :=
  if regUnused d a || writeOnlyAt a then 0
  else match derivedView i d a with
  | some v => v
  | none => rd d a

end Sys2Proof.Machine
end

