-- ==== Sys2Proof/Safety.lean ====
section
/-! DEFINITION. What counts as a safe run, and the conditions and frames in whose terms the claims are stated. -/

namespace Sys2Proof

open Sys2Proof.Machine

/-- The step answers a next state. -/
def Completes (s : State) : Prop := ∃ t, Sys2Proof.Machine.step s = .next t

/-- Every raising of the step has been handled: nothing waits for FCR between steps. -/
def Collected (s : State) : Prop := s.dev.raised = []

/-- The memory is in its canonical form. -/
def MemoryCanonical (s : State) : Prop := Memory.wf s.mem

/-- The invariant of the model: between steps no raising waits for FCR, and the memory is in its canonical form. -/
def Between (s : State) : Prop := Collected s ∧ MemoryCanonical s

/-- The device is out of power-on reset, or SIS runs, so that commands have their effect; and no raising waits. -/
def Acts (s : State) : Prop := inert s.dev = false ∧ s.dev.raised = []

/-- `s` with another device: the same queue, the same memory. -/
def withDev (s : State) (d : Dev) : State := { s with dev := d }

/-- A 32-bit write by `i` to address `a` reaches the register itself: the initiator is running, ICF lets the access
through, `i` has no transaction open, no unit under test answers for it, and the register is in use. -/
def WriteReaches (d : Dev) (i : Initiator) (a : Nat) : Prop :=
  initiatorLive d i = true ∧ denied d i a .w32 true = none ∧ openTx d i = none ∧ underTestAt d a = false ∧
    regUnused d a = false ∧ txLocked d a = false

/-- A 32-bit read by `i` of address `a` reaches the register. -/
def ReadReaches (d : Dev) (i : Initiator) (a : Nat) : Prop :=
  initiatorLive d i = true ∧ denied d i a .w32 false = none

/-- FCR collects source `k` (R361). -/
def Collects (d : Dev) (k : Nat) : Prop := flag d (Reg.FCR_SRCkkkk_CFG k) 30 = true

/-- Every register but those in `l` holds in `t` what it holds in `s`. -/
def RegsExcept (l : List Nat) (s t : Dev) : Prop := ∀ a, a ∉ l → rd t a = rd s a

/-- The registers that the reactions of FCR, SIS and PSP to a raising can change: those of FCR's and PSP's windows,
`SIS_STATE`, `SIS_CT`, `SIS_LINK`, `SIS_LOCK`, `SIS_LOCK_CHAL` and `SIS_FAULT`, and `CEA_AXa_FC_STATUS`, whose flying-restart
fields end with drive enable (R203, R320, R329, R340). -/
def reactionTouches (a : Nat) : Bool :=
  decide (a / 0x10000 = 0x4070 ∨ a / 0x10000 = 0x4080
    ∨ a = 0x50000004 ∨ a = 0x50000014 ∨ a = 0x50000018 ∨ a = 0x50000060 ∨ a = 0x50000064 ∨ a = 0x50000068
    ∨ (a / 0x10000 = 0x4048 ∧ a % 0x100 = 0x8C))

/-- What handling the raisings of a step leaves alone, whatever the classes of the sources are: time, every register
outside `reactionTouches`, and every unit but FCR, SIS, PSP, the orders that GLK has not accepted, CEA's axes and JRN. -/
structure ReactionFrame (d e : Dev) : Prop where
  regs : ∀ a, reactionTouches a = false → rd e a = rd d a
  phase : e.phase = d.phase
  ltb : e.ltb = d.ltb
  response : e.response = d.response
  cfg : e.cfg = d.cfg
  pwm : e.pwm = d.pwm
  ports : e.glk.ports = d.glk.ports
  drivers : e.glk.drivers = d.glk.drivers
  cpx : e.cpx = d.cpx
  icf : e.icf = d.icf
  engines : e.cea.engines = d.cea.engines
  atb : e.atb = d.atb
  evs : e.evs = d.evs
  pfc : e.pfc = d.pfc
  sense : e.sense = d.sense
  thm : e.thm = d.thm
  sys : e.sys = d.sys
  bst : e.bst = d.bst
  fls : e.fls = d.fls
  csq : e.csq = d.csq
  cte : e.cte = d.cte
  eth : e.eth = d.eth
  ntu : e.ntu = d.ntu
  trc : e.trc = d.trc
  can : e.can = d.can
  cmds : e.cmds = d.cmds

/-- Source `k` has been raised with DETAIL `x` at the time of `d`, as FCR shows it in `e`, where FCR collects the source
(R344, R360, R362): ST is 1, DLAST is the DETAIL, LAST is the time. -/
def Reported (k x : Nat) (d e : Dev) : Prop :=
  Collects d k →
    flag e (Reg.FCR_SRCkkkk_STATUS k) 0 = true ∧ fld e (Reg.FCR_SRCkkkk_STATUS k) 31 24 = x ∧
      rd e (Reg.FCR_SRCkkkk_LAST_LO k) = nowLo d

/-- The outcome is the next state in which the device is `d` and nothing else of `s` has changed. -/
def Goes (o : Host.Outcome State Fault Refusal) (s : State) (d : Dev) : Prop := o = .next (withDev s d)

/-- The outcome is a next state: the device has become `d`, and then FCR has handled one raising, that of source `k` with
DETAIL `x`. Queue and memory are those of `s`; the reactions leave everything of `ReactionFrame` as it is in `d`; FCR shows
the raising; and a source that FCR does not collect changes nothing at all (R340, R344, R361). -/
def GoesRaising (o : Host.Outcome State Fault Refusal) (s : State) (d : Dev) (k x : Nat) : Prop :=
  ∃ t, o = .next t ∧ t.pending = s.pending ∧ t.mem = s.mem ∧ ReactionFrame d t.dev ∧ Reported k x d t.dev
    ∧ (¬Collects d k → t.dev = d)

/-- Every register keeps its value from `d` to `e` but those in the 64-Kbyte windows `ws` and those that reactions touch. -/
def RegsWithin (ws : List Nat) (d e : Dev) : Prop :=
  ∀ a, a / 0x10000 ∉ ws → reactionTouches a = false → rd e a = rd d a

/-- The outcome is a next state with the queue and the memory of `s`, whose device has `P`; no register changes outside the
windows `ws` and what reactions touch. -/
def GoesWithin (o : Host.Outcome State Fault Refusal) (s : State) (ws : List Nat) (P : Dev → Prop) : Prop :=
  ∃ t, o = .next t ∧ t.pending = s.pending ∧ t.mem = s.mem ∧ RegsWithin ws s.dev t.dev ∧ P t.dev

end Sys2Proof
end

