-- ==== Sys2Proof/Certificates/Slice0/Obligations.lean ====
section
/-! DEFINITION. The statements about the model, for the provers. Commands are grouped by unit; `Goes o s d` says that the
outcome `o` is the next state in which only the device has changed, to `d`; `GoesRaising o s d k x` says the same before
FCR has handled the raising of source `k` with DETAIL `x`. -/

open Sys2Proof Sys2Proof.Machine Sys2Proof.Machine.Reg

/-! ## The block as a whole -/
/-- A step runs the command at the front of the queue on the state with the queue's rest; an empty queue idles (the
model's own choice of interface, log entry 1). Rests on choices of the model: log entry 1. -/
def Obligations.FrontCommandRuns : Prop :=
  (∀ (s : State) (c : Instr) (q : List Instr), s.pending = c :: q → step s = exec c { s with pending := q }) ∧
    ∀ s : State, s.pending = [] → step s = .next s

/-- Every command that a sender can produce completes in every state, and leaves the waiting commands alone; a term
that no sender can produce stops by name. Rests on choices of the model: log entries 1, 5. -/
def Obligations.EveryCommandCompletes : Prop :=
  ∀ (c : Instr) (s : State),
    (c.wellFormed = true → ∃ t, exec c s = .next t ∧ t.pending = s.pending) ∧
      (c.wellFormed = false → ∃ m, exec c s = .fault (.illFormed m))

/-- Between steps no raising waits for FCR and the memories keep their canonical form, whatever command runs. Rests on
choices of the model: log entries 14, 58. -/
def Obligations.StepKeepsInvariant : Prop :=
  ∀ s t : State, Between s → step s = .next t → Between t

/-- Before power-on reset is released, with SIS not running, the only command that changes anything is
POWER_ON_RESET_RELEASE: no other step of the start-up begins before it (R37). Rests on choices of the model: log entry
3. -/
def Obligations.NothingActsBeforeRelease : Prop :=
  ∀ (c : Instr) (s t : State), inert s.dev = true → exec c s = .next t →
    (∀ p x m, c ≠ .powerOnResetRelease p x m) → t = s
/-- The commands that can change the addressed memories: accesses of the processors and of JTAG, the shadow store's host
path, Ethernet rings, trace rings, and power-on reset. -/
def writesMemory : Instr → Bool
  | .powerOnResetRelease _ _ _ | .evsActionDelivery | .cteShadowWrite _ _ _ | .ethFrameReceive _ _ _ _
  | .ethTxTailWrite _ _ _ | .ethFrameSent _ _ | .trcMark _ _ _ | .trcFwrec _ _ | .trcStagingDrain _
  | .registerWrite _ _ _ _ _ => true
  | _ => false
/-- A command other than POWER_ON_RESET_RELEASE, EVS_ACTION_DELIVERY, CTE_SHADOW_WRITE, ETH_FRAME_RECEIVE,
ETH_TX_TAIL_WRITE, ETH_FRAME_SENT, TRC_MARK, TRC_FWREC, TRC_STAGING_DRAIN and REGISTER_WRITE changes no byte of the
addressed memories. Rests on choices of the model: log entry 15. -/
def Obligations.OtherCommandsLeaveMemory : Prop :=
  ∀ (c : Instr) (s t : State), writesMemory c = false → exec c s = .next t → t.mem = s.mem

/-! ## Reset, start-up and configuration -/

/-- FORMER_CHECK_DONE and STRUCTURE_PROGRAMMED: the selection rule of R31 over the codes of the two checks, with the
hold states of R32, and the end of step 4 (R37). Rests on choices of the model: log entries 3, 12, 23. -/
def Obligations.FormerCopySelection : Prop :=
  (∀ (s : State) (c0 c1 v0 v1 : Nat), Acts s → s.dev.phase = .strapped → s.dev.sys.clockReset = false →
    c0 = (rejWord (copyRej s.mem s.dev 0)).1 % 16 → c1 = (rejWord (copyRej s.mem s.dev 1)).1 % 16 →
    v0 = le32 (Memory.readBytes s.mem (copyBase 0) 32) 8 → v1 = le32 (Memory.readBytes s.mem (copyBase 1) 32) 8 →
    ∃ t, exec .formerCheckDone s = .next t ∧ t.mem = s.mem ∧ t.pending = s.pending
      ∧ fld t.dev CFG_STATUS 11 8 = c0 ∧ fld t.dev CFG_STATUS 15 12 = c1
      ∧ (c0 = 0 → c1 ≠ 0 → t.dev.phase = .checked ∧ fld t.dev CFG_STATUS 21 20 = 1 ∧ flag t.dev CFG_STATUS 16 = true)
      ∧ (c0 ≠ 0 → c1 = 0 → t.dev.phase = .checked ∧ fld t.dev CFG_STATUS 21 20 = 2 ∧ flag t.dev CFG_STATUS 16 = true)
      ∧ (c0 = 0 → c1 = 0 → v1 < v0 → t.dev.phase = .checked ∧ fld t.dev CFG_STATUS 21 20 = 1)
      ∧ (c0 = 0 → c1 = 0 → v0 < v1 → t.dev.phase = .checked ∧ fld t.dev CFG_STATUS 21 20 = 2)
      ∧ (c0 = 0 → c1 = 0 → v0 = v1 → signedDigest (copyImage s.mem 0) = signedDigest (copyImage s.mem 1) →
          t.dev.phase = .checked ∧ fld t.dev CFG_STATUS 21 20 = 1)
      ∧ (c0 = 0 → c1 = 0 → v0 = v1 → signedDigest (copyImage s.mem 0) ≠ signedDigest (copyImage s.mem 1) →
          t.dev.phase = .hold ∧ fld t.dev CFG_STATUS 21 20 = 0 ∧ fld t.dev CFG_STATUS 2 0 = 3)
      ∧ (c0 ≠ 0 → c1 ≠ 0 → t.dev.phase = .hold ∧ fld t.dev CFG_STATUS 21 20 = 0 ∧ fld t.dev CFG_STATUS 2 0 = 2)) ∧
  (∀ (s : State) (former : List (Nat × Word)) (m : List Byte), Acts s → s.dev.phase = .checked →
    m = copyImage s.mem (fld s.dev CFG_STATUS 21 20 - 1) → formerRej former m (loadImage m former s.dev) = none →
    ∃ t, exec (.structureProgrammed former) s = .next t ∧ t.mem = s.mem ∧ t.dev.phase = .programmed) ∧
  (∀ (s : State) (former : List (Nat × Word)), Acts s → s.dev.phase ≠ .checked →
    Goes (exec (.structureProgrammed former) s) s s.dev)

/-- POWER_ON_RESET_RELEASE, SIS_ROM_START, STRAP_SAMPLING and FIRMWARE_VERIFIED: the steps of the start-up order, and
what each leaves (R37, R55, R309, R391, R510). The release clears the SRAMs and nothing else of the memories.
WARM_RESET, SYS_RST_CTRL_WARM, CFG_UPD_CTRL_WRITE, CFG_RES_QUERY_WRITE, CFG_DRVFEAT_WRITE and FEATURE_COMMIT: a warm
reset repeats the start-up from step 4 and keeps the LTB and the memories (R39, R55, R517); the registers of R43, R50,
R52 and R524. Rests on choices of the model: log entries 3, 17, 18, 20, 21, 22, 27, 28. -/
def Obligations.StartUpAndWarmReset : Prop :=
  ((∀ (s : State) (porst : Bool) (domain : Fin 6), porst = true ∨ s.dev.phase = .held →
    ∃ t, exec (.powerOnResetRelease porst domain false) s = .next t ∧ t.pending = s.pending
      ∧ t.dev.phase = .released ∧ t.dev.ltb = 0
      ∧ rd t.dev SYS_RST_CAUSE = (if porst then 2 else BitVec.ofNat 32 (domain.val * 65536 + 1))
      ∧ ∀ a, Memory.read t.mem a =
          if 0x20000000 ≤ a ∧ a ≤ 0x2FFFFFFF then memDefault a else Memory.read s.mem a) ∧
  (∀ (s : State) (porst : Bool) (domain : Fin 6), porst = true ∨ s.dev.phase = .held →
    ∃ t, exec (.powerOnResetRelease porst domain true) s = .next t ∧ t.dev.phase = .held) ∧
  (∀ s : State, Acts s → s.dev.phase = .released → s.dev.sis.running = false →
    ∃ t, exec .sisRomStart s = .next t ∧ t.dev.phase = .sisUp ∧ t.dev.sis.running = true ∧ t.mem = s.mem) ∧
  (∀ (s : State) (r : List (List Nat)), Acts s → readingsOk r = true → s.dev.sis.running = true → s.dev.phase = .sisUp →
    ∃ d w, Goes (exec (.strapSampling r) s) s d ∧ d.phase = .strapped ∧ d.sis.straps = strapCode r
      ∧ w = (match strapCode r with | some c => setBits 0x10000 15 0 c | none => 0x20000)
      ∧ rd d SIS_STRAP = w ∧ rd d SYS_STRAP = w
      ∧ RegsExcept [SIS_STRAP, SYS_STRAP, SIS_STO] s.dev d) ∧
  (∀ s : State, Acts s → Goes (exec .firmwareVerified s) s
    (if s.dev.phase = .programmed then { s.dev with phase := .running } else s.dev))) ∧
  ((∀ s : State, Acts s → s.dev.sys.warmWaits = none → s.dev.csq.flushing = none →
    s.dev.phase ≠ .held → s.dev.phase ≠ .released → s.dev.phase ≠ .sisUp →
    ∃ t, exec (.warmReset true) s = .next t ∧ t.mem = s.mem ∧ t.dev.phase = .strapped ∧ t.dev.ltb = s.dev.ltb
      ∧ rd t.dev SYS_RST_CAUSE = 4 ∧ t.dev.cte.txs = [] ∧ t.dev.evs.queue = []) ∧
  (∀ (s : State) (i : Initiator) (v : Word), Acts s → WriteReaches s.dev i SYS_RST_CTRL →
    Goes (exec (.sysRstCtrlWarm i v) s) s
      (if bits v 31 16 ≠ 0x6D54 then respErr s.dev
       else if bit v 0 then
        { respOk s.dev with sys := { s.dev.sys with warmWaits := some ((s.dev.sys.warmWaits.getD 0) ||| 8) } }
       else respOk s.dev)) ∧
  (∀ (s : State) (i : Initiator) (v : Word), Acts s → WriteReaches s.dev i CFG_UPD_CTRL →
    ¬(bit v 0 = true ∧ fld s.dev CFG_STATUS 21 20 = bits v 4 4 + 1) →
    Goes (exec (.cfgUpdCtrlWrite i v) s) s
      (wr CFG_UPD_CTRL ((rd s.dev CFG_UPD_CTRL &&& ~~~0x11) ||| (v &&& 0x11)) (respOk s.dev))) ∧
  (∀ (s : State) (i : Initiator) (v : Word), Acts s → WriteReaches s.dev i CFG_UPD_CTRL →
    bit v 0 = true → fld s.dev CFG_STATUS 21 20 = bits v 4 4 + 1 →
    ∃ t, exec (.cfgUpdCtrlWrite i v) s = .next t ∧ rd t.dev CFG_UPD_CTRL = rd s.dev CFG_UPD_CTRL) ∧
  (∀ (s : State) (i : Initiator) (v : Word), Acts s → WriteReaches s.dev i CFG_RES_QUERY → resIdOk v.toNat = true →
    (ownerIn s.dev.cfg.owners v.toNat).code < 256 →
    ∃ d, Goes (exec (.cfgResQueryWrite i v) s) s d ∧ rd d CFG_RES_QUERY = v ∧ d.response = ⟨false, 0⟩
      ∧ fld d CFG_RES_OWNER 7 0 = (ownerIn s.dev.cfg.owners v.toNat).code
      ∧ flag d CFG_RES_OWNER 8 = (ownerIn s.dev.cfg.owners v.toNat).adj
      ∧ RegsExcept [CFG_RES_QUERY, CFG_RES_OWNER] s.dev d) ∧
  (∀ (s : State) (i : Initiator) (v : Word), Acts s → WriteReaches s.dev i CFG_RES_QUERY → resIdOk v.toNat = false →
    Goes (exec (.cfgResQueryWrite i v) s) s (respErr s.dev)) ∧
  (∀ (s : State) (i : Initiator) (k : Fin 8) (v : Word), Acts s → WriteReaches s.dev i (CFG_DRVFEAT k) →
    Goes (exec (.cfgDrvfeatWrite i k v) s) s
      (if fld s.dev CFG_FEAT_STATUS 1 0 = 1 then respOk s.dev
       else if fld s.dev CFG_FEAT_STATUS 1 0 = 2 then
        setFld CFG_FEAT_STATUS 1 0 0 (wr (CFG_DRVFEAT k) v (respOk s.dev))
       else wr (CFG_DRVFEAT k) v (respOk s.dev))) ∧
  (∀ (s : State) (i : Initiator) (v : Word), Acts s → WriteReaches s.dev i CFG_FEAT_COMMIT → bit v 0 = true →
    Goes (exec (.featureCommit i v) s) s
      (if fld s.dev CFG_FEAT_STATUS 1 0 = 1 then setFld CFG_FEAT_STATUS 6 4 2 (respOk s.dev)
       else match unoffered s.dev with
        | some b => wr CFG_FEAT_STATUS (BitVec.ofNat 32 (256 * b + 18)) (respOk s.dev)
        | none => wr CFG_FEAT_STATUS 1 (respOk s.dev))))

/-- DEBUG_TOKEN: a token that passes every check of R46 opens debug with its permissions and uses up the nonce; while
no axis is enabled nothing else changes. One that fails leaves debug as it was, sets ERR and is journalled (R47).
Rests on choices of the model: log entry 29. -/
def Obligations.DebugToken : Prop :=
  (∀ (s : State) (t : List Byte), Acts s → t.length = 160 → tokenErr s.dev t = 0 → anyGranted s.dev = false →
    Goes (exec (.debugToken t) s) s
      { wr CFG_DBG_STATUS (BitVec.ofNat 32 (le32 t 20 * 256 + 1)) s.dev with
        cfg := { s.dev.cfg with tokenWords := [], nonceUsed := true } }) ∧
  (∀ (s : State) (t : List Byte) (e : Nat), Acts s → t.length = 160 → tokenErr s.dev t = e → e ≠ 0 →
    Goes (exec (.debugToken t) s) s
      (journal 0x07 0x20 [BitVec.ofNat 8 e] (setFld CFG_DBG_STATUS 6 4 e
        { s.dev with cfg := { s.dev.cfg with tokenWords := [] } })))

/-- DEBUG_CLOSE (R49): writing 1 closes debug and ends every permission; another token of the same start that gets as
far as the nonce check is refused with ERR = NONCE. Writing 0 changes nothing. -/
def Obligations.DebugClose : Prop :=
  ∀ (s : State) (i : Initiator) (v : Word), Acts s → WriteReaches s.dev i CFG_DBG_CLOSE →
    (bit v 0 = false → Goes (exec (.debugClose i v) s) s (respOk s.dev)) ∧
    (bit v 0 = true →
      ∃ d, Goes (exec (.debugClose i v) s) s d ∧ flag d CFG_DBG_STATUS 0 = false ∧ fld d CFG_DBG_STATUS 15 8 = 0
        ∧ d.cfg.nonceUsed = true ∧ RegsExcept [CFG_DBG_STATUS, CFG_DBG_CLOSE] s.dev d
        ∧ ∀ t : List Byte, tokenErr s.dev t ≠ 1 → tokenErr s.dev t ≠ 2 → tokenErr d t = 3)

/-! ## Local and Angle Timebases, Event Scheduler -/
/-- ATB_LTB_LO_READ (R56): a read answers the low 32 bits of the Local Timebase and latches the upper 32 bits of the
same count into `ATB_LTB_HI` for the initiator that read; the latch of every other initiator keeps its value. -/
def Obligations.LocalTimebaseRead : Prop :=
  ∀ (s : State) (i : Initiator), Acts s → ReadReaches s.dev i ATB_LTB_LO →
    ∃ d, Goes (exec (.atbLtbLoRead i) s) s d ∧ d.response = ⟨false, BitVec.ofNat 32 s.dev.ltb.toNat⟩
      ∧ rd d (bank i ATB_LTB_HI) = BitVec.ofNat 32 (s.dev.ltb.toNat / 4294967296)
      ∧ (∀ j : Initiator, initiatorId j ≠ initiatorId i → rd d (bank j ATB_LTB_HI) = rd s.dev (bank j ATB_LTB_HI))
      ∧ RegsExcept [bank i ATB_LTB_HI] s.dev d

/-- ATB_ANG_LO_READ and ANGLE_INTERPOLATION: a read of the low word of the angle latches the high word for its reader
(R81); a tick counts the LTB up by one and moves the angle of each axis in use by its speed (R55, R57).
ATB_POSITION_UPDATE, ATB_SETPOS, ATB_SETSPD, ATB_STALE_TIMEOUT, ATB_CMP_MISMATCH and EVS_CMP_MISMATCH (R59–R62): the
angle and speed after an update, who may set them, and what each report leaves. Rests on choices of the model: log
entries 2, 30. -/
def Obligations.TimebaseTickAndUpdates : Prop :=
  ((∀ (s : State) (i : Initiator) (a : Fin 4), Acts s → ReadReaches s.dev i (ATB_AXn_ANG_LO a) →
    axisInUse s.dev a = true →
    Goes (exec (.atbAngLoRead i a) s) s
      (respData (BitVec.ofNat 32 ((atb s.dev a).acc.toNat / 65536))
        (wr (bank i (ATB_AXn_ANG_HI a)) (BitVec.ofNat 32 ((atb s.dev a).acc.toNat / 65536 / 4294967296)) s.dev))) ∧
  (∀ (s : State), Acts s →
    ∃ t, exec .angleInterpolation s = .next t ∧ t.mem = s.mem ∧ t.dev.ltb = s.dev.ltb + 1
      ∧ t.dev.phase = s.dev.phase
      ∧ ∀ a : Fin 4, (axisInUse s.dev a = true → (atb s.dev a).pendPos = none →
            (atb t.dev a).acc = (atb s.dev a).acc + BitVec.ofInt 56 (sfld s.dev (ATB_AXn_SPEED a) 31 0)) ∧
          (axisInUse s.dev a = false → atb t.dev a = atb s.dev a) ∧
          (axisInUse s.dev a = true → (atb s.dev a).pendSpd = none →
            rd t.dev (ATB_AXn_SPEED a) = rd s.dev (ATB_AXn_SPEED a)) ∧
          (∀ v, axisInUse s.dev a = true → (atb s.dev a).pendSpd = some v → rd t.dev (ATB_AXn_SPEED a) = v))) ∧
  ((∀ (s : State) (a : Fin 4) (th : BitVec 40) (tk : Nat), Acts s → fld s.dev (ATB_AXn_CFG a) 29 28 = 1 →
    (atb s.dev a).prev = none →
    ∃ t, exec (.atbPositionUpdate a th tk) s = .next t ∧ t.mem = s.mem
      ∧ (atb t.dev a).acc = BitVec.ofNat 56 (th.toNat * 65536) ∧ (atb t.dev a).prev = some (th, tk)
      ∧ (atb t.dev a).lastUpdate = s.dev.ltb.toNat ∧ (atb t.dev a).staleNow = false
      ∧ rd t.dev (ATB_AXn_SPEED a) = rd s.dev (ATB_AXn_SPEED a)
      ∧ ∀ b : Fin 4, b ≠ a → atb t.dev b = atb s.dev b) ∧
  (∀ (s : State) (a : Fin 4) (th th0 : BitVec 40) (tk tk0 : Nat) (raw sp : Int), Acts s →
    fld s.dev (ATB_AXn_CFG a) 29 28 = 1 → (atb s.dev a).prev = some (th0, tk0) → tk0 < tk →
    raw = sat32 (((th - th0).toInt * 65536).tdiv ((tk : Int) - tk0)) →
    sp = sfld s.dev (ATB_AXn_SPEED a) 31 0 +
      (raw - sfld s.dev (ATB_AXn_SPEED a) 31 0) / 2 ^ fld s.dev (ATB_AXn_CFG a) 26 24 →
    ∃ t, exec (.atbPositionUpdate a th tk) s = .next t
      ∧ rd t.dev (ATB_AXn_SPEED a) = BitVec.ofInt 32 sp
      ∧ (atb t.dev a).acc = BitVec.ofInt 56 ((th.toNat : Int) * 65536 + sp * ((s.dev.ltb.toNat : Int) - tk))
      ∧ (atb t.dev a).prev = some (th, tk)) ∧
  (∀ (s : State) (a : Fin 4) (th : BitVec 40) (tk : Nat), Acts s → fld s.dev (ATB_AXn_CFG a) 29 28 ≠ 1 →
    Goes (exec (.atbPositionUpdate a th tk) s) s s.dev) ∧
  (∀ (s : State) (i : Initiator) (a : Fin 4) (v : Word), Acts s → WriteReaches s.dev i (ATB_AXn_SETPOS a) →
    fld s.dev (ATB_AXn_CFG a) 29 28 = 2 →
    Goes (exec (.atbSetpos i a v) s) s
      (modAtb a (fun x => { x with pendPos := some (v.setWidth 24) }) (respOk s.dev))) ∧
  (∀ (s : State) (i : Initiator) (a : Fin 4) (v : Word), Acts s → WriteReaches s.dev i (ATB_AXn_SETSPD a) →
    fld s.dev (ATB_AXn_CFG a) 29 28 = 2 →
    Goes (exec (.atbSetspd i a v) s) s
      (modAtb a (fun x => { x with pendSpd := some v }) (respOk s.dev))) ∧
  (∀ (s : State) (i : Initiator) (a : Fin 4) (v : Word), Acts s → fld s.dev (ATB_AXn_CFG a) 29 28 ≠ 2 →
    fld s.dev (CEA_AXa_FC_STATUS a) 15 13 ≠ 2 →
    (WriteReaches s.dev i (ATB_AXn_SETPOS a) → Goes (exec (.atbSetpos i a v) s) s (respErr s.dev)) ∧
      (WriteReaches s.dev i (ATB_AXn_SETSPD a) → Goes (exec (.atbSetspd i a v) s) s (respErr s.dev))) ∧
  (∀ (s : State) (a : Fin 4), Acts s → axisInUse s.dev a = true → fld s.dev (ATB_AXn_CFG a) 29 28 ≠ 0 →
    (atb s.dev a).staleNow = false →
    (atb s.dev a).lastUpdate + fld s.dev (ATB_AXn_TIMEOUT a) 23 0 ≤ s.dev.ltb.toNat →
    GoesRaising (exec (.atbStaleTimeout a) s) s
      (setFlag (ATB_AXn_STATUS a) 2 true (modAtb a (fun x => { x with staleNow := true }) s.dev)) Src.ATB_STALE a) ∧
  (∀ (s : State) (x : Fin 5), Acts s → GoesRaising (exec (.atbCmpMismatch x) s) s s.dev Src.ATB_CMP x) ∧
  (∀ s : State, Acts s →
    GoesRaising (exec .evsCmpMismatch s) s (setFlag EVS_STATUS 6 true s.dev) Src.EVS_CMP 0))

/-- EVS_ARM, EVS_DISARM and EVS_ENTRY_WORD_WRITE (R64, R65): an entry that passes every arming check becomes armed
with its pending target and repeats; one that fails stays disarmed, is recorded and raised; a write to an armed entry
is discarded with an error response, and a disarm ends the entry with what it still owed. EVS_TRIGGER, EVS_TABLE_SCAN,
EVS_DISPATCH, EVS_ACTION_DELIVERY, EVS_ENABLE and EVS_LATELOG_POP (R68, R74, R76–R79, R83, R85): a firing becomes due
with its trigger instant, a repeating entry moves to its next target and a final firing disarms it; the dispatcher
queues the earliest due firing of the window and reports a late one; the queue delivers in order. Rests on choices of
the model: log entry 31. -/
def Obligations.EventEntriesAndFiring : Prop :=
  ((∀ (s : State) (i : Initiator) (n : Fin 4096) (v w2 : Word), Acts s → WriteReaches s.dev i (evsWordAddr n 2) →
    w2 = setBit v 31 true → evsLive? s.dev n = none →
    evsArmCode s.dev n (evsWord s.dev n 0) (evsWord s.dev n 1) w2 = 0 →
    ∃ d l, Goes (exec (.evsArm i n v) s) s d ∧ d.response = ⟨false, 0⟩ ∧ rd d (evsWordAddr n 2) = w2
      ∧ RegsExcept [evsWordAddr n 2] s.dev d ∧ evsLive? d n = some l ∧ l.rpt = bits (evsWord s.dev n 1) 7 0
      ∧ (bits w2 30 29 = 0 → l.target = ((s.dev.ltb.toNat + bits (evsWord s.dev n 0) 30 0 : Nat) : Int))
      ∧ (bits w2 30 29 = 1 → l.target = ((bits (evsWord s.dev n 0) 23 0 : Nat) : Int))
      ∧ (bits w2 30 29 = 2 → l.target =
          (if ((nowLo s.dev) - evsWord s.dev n 0).toNat < 2147483648 then
            (s.dev.ltb.toNat : Int) - ((nowLo s.dev) - evsWord s.dev n 0).toNat
           else (s.dev.ltb.toNat : Int) + (evsWord s.dev n 0 - nowLo s.dev).toNat))
      ∧ (bits w2 30 29 = 3 → l.target = ((bits (evsWord s.dev n 0) 15 0 : Nat) : Int))
      ∧ ∀ m, m ≠ n.val → evsLive? d m = evsLive? s.dev m) ∧
  (∀ (s : State) (i : Initiator) (n : Fin 4096) (v w2 : Word) (code : Nat), Acts s →
    WriteReaches s.dev i (evsWordAddr n 2) → w2 = setBit v 31 true → evsLive? s.dev n = none →
    evsArmCode s.dev n (evsWord s.dev n 0) (evsWord s.dev n 1) w2 = code → code ≠ 0 →
    GoesRaising (exec (.evsArm i n v) s) s
      (respErr (setFlag EVS_STATUS 3 true
        (wr EVS_ARM_ERR (setBits (setBits 0 19 16 code) 11 0 n) (wr (evsWordAddr n 2) (setBit w2 31 false) s.dev))))
      Src.EVS_ARM_ERR 0) ∧
  (∀ (s : State) (i : Initiator) (n : Fin 4096) (v : Word), Acts s → WriteReaches s.dev i (evsWordAddr n 2) →
    evsLive? s.dev n ≠ none →
    Goes (exec (.evsArm i n v) s) s (respErr (setFlag EVS_STATUS 4 true s.dev))) ∧
  (∀ (s : State) (i : Initiator) (n : Fin 4096) (v : Word), Acts s → WriteReaches s.dev i (evsWordAddr n 2) →
    Goes (exec (.evsDisarm i n v) s) s
      { wr (evsWordAddr n 2) (setBit v 31 false) (respOk s.dev) with
        evs := { s.dev.evs with
          live := s.dev.evs.live.filter (fun l => decide (l.entry ≠ n.val))
          due := s.dev.evs.due.filter (fun x => decide (x.entry ≠ n.val))
          window := s.dev.evs.window.erase n.val } }) ∧
  (∀ (s : State) (i : Initiator) (n : Fin 4096) (w : Fin 4) (v : Word), Acts s →
    WriteReaches s.dev i (evsWordAddr n w) → w ≠ 2 →
    Goes (exec (.evsEntryWordWrite i n w v) s) s
      (if evsLive? s.dev n = none then wr (evsWordAddr n w) v (respOk s.dev)
       else respErr (setFlag EVS_STATUS 4 true s.dev)))) ∧
  ((∀ (s : State) (n : Fin 4096) (l : EvsLive) (t : Int), Acts s → evsLive? s.dev n = some l →
    bits (evsWord s.dev n 2) 30 29 = 0 ∨ bits (evsWord s.dev n 2) 30 29 = 2 → l.target = t →
    t ≤ (s.dev.ltb.toNat : Int) → l.rpt ≠ 0 → l.rpt ≠ 255 →
    Goes (exec (.evsTrigger n) s) s
      (setLive { l with target := t + (bits (evsWord s.dev n 1) 31 8 : Int), rpt := l.rpt - 1 }
        { s.dev with evs := { s.dev.evs with
            due := insDue ⟨n, t, bits (evsWord s.dev n 2) 21 12, evsWord s.dev n 3⟩ s.dev.evs.due } })) ∧
  (∀ (s : State) (n : Fin 4096) (l : EvsLive) (t : Int), Acts s → evsLive? s.dev n = some l →
    bits (evsWord s.dev n 2) 30 29 = 0 ∨ bits (evsWord s.dev n 2) 30 29 = 2 → l.target = t →
    t ≤ (s.dev.ltb.toNat : Int) → l.rpt = 0 → bit (evsWord s.dev n 2) 22 = false →
    ∃ d, Goes (exec (.evsTrigger n) s) s d ∧ evsLive? d n = none
      ∧ d.evs.due = insDue ⟨n, t, bits (evsWord s.dev n 2) 21 12, evsWord s.dev n 3⟩ s.dev.evs.due
      ∧ rd d (evsWordAddr n 2) = setBit (evsWord s.dev n 2) 31 false ∧ RegsExcept [evsWordAddr n 2] s.dev d) ∧
  (∀ (s : State) (n : Fin 4096), Acts s → evsLive? s.dev n = none → Goes (exec (.evsTrigger n) s) s s.dev) ∧
  (∀ s : State, Acts s → (∀ x ∈ s.dev.evs.due, s.dev.evs.window.contains x.entry = true) →
    s.dev.evs.window.length < 256 → s.dev.evs.window.contains s.dev.evs.scan = false →
    Goes (exec .evsTableScan s) s
      { s.dev with evs := { s.dev.evs with
          window := if (evsLive? s.dev s.dev.evs.scan).isSome then s.dev.evs.window ++ [s.dev.evs.scan]
            else s.dev.evs.window
          scan := (s.dev.evs.scan + 1) % 4096 } }) ∧
  (∀ (s : State) (x : EvsDue), Acts s → flag s.dev EVS_CTRL 0 = true → s.dev.evs.queue.length < 16 →
    s.dev.evs.due.find? (fun x => s.dev.evs.window.contains x.entry) = some x →
    evsLateness s.dev x.trig ≤ fld s.dev EVS_CTRL 31 16 →
    ∃ d, Goes (exec .evsDispatch s) s d ∧ d.evs.queue = s.dev.evs.queue ++ [(x.sreg, x.data)]
      ∧ d.evs.due = s.dev.evs.due.erase x ∧ d.evs.live = s.dev.evs.live ∧ d.regs = s.dev.regs) ∧
  (∀ (s : State) (x : EvsDue) (late : Nat), Acts s → flag s.dev EVS_CTRL 0 = true → s.dev.evs.queue.length < 16 →
    s.dev.evs.due.find? (fun x => s.dev.evs.window.contains x.entry) = some x →
    late = evsLateness s.dev x.trig → fld s.dev EVS_CTRL 31 16 < late →
    ∃ d, GoesRaising (exec .evsDispatch s) s d Src.EVS_LATE 0
      ∧ d.evs.queue = s.dev.evs.queue ++ [(x.sreg, x.data)] ∧ flag d EVS_STATUS 0 = true
      ∧ fld d EVS_LATE_CNT 31 0 = Nat.min 4294967295 (fld s.dev EVS_LATE_CNT 31 0 + 1)
      ∧ d.evs.log = (if s.dev.evs.log.length < 16 then
          s.dev.evs.log ++ [⟨x.entry, Nat.min late 65535, BitVec.ofInt 32 x.trig⟩] else s.dev.evs.log)
      ∧ d.evs.lost = (s.dev.evs.lost || decide (16 ≤ s.dev.evs.log.length))) ∧
  (∀ (s : State) (r : Nat) (v : Word) (q : List (Nat × Word)) (d : Dev), Acts s → s.dev.evs.queue = (r, v) :: q →
    d = { s.dev with evs := { s.dev.evs with queue := q } } →
    ∃ e, exec .evsActionDelivery s
        = .next { s with mem := (ringFlush s.mem e).1, dev := settle (ringFlush s.mem e).2 }
      ∧ (r ≤ 0x7 → e = adsStartEvs r v d) ∧ (∀ n : Fin 24, r = 0x10 + n → e = (sdmWindow n v d).2)
      ∧ (∀ a : Fin 4, r = 0x30 + a → e = (ceStartWrite a v d).2)
      ∧ (∀ n : Fin 8, r = 0x38 + n → e = if bit v 0 then pfcRequestNow n d else d)
      ∧ (∀ n : Fin 4, r = 0x48 + n → e = trcMark n v d) ∧ (∀ p : Fin 64, r = 0x50 + p → e = (diagSlot p v d).2)
      ∧ (∀ k : Fin 32, r = 0xA0 + k → e = fcmpTest k v d)) ∧
  (∀ s : State, Acts s → s.dev.evs.queue = [] → s.dev.trc.ringOut = [] → exec .evsActionDelivery s = .next s) ∧
  (∀ (s : State) (i : Initiator) (v : Word), Acts s → WriteReaches s.dev i EVS_CTRL → 2 ≤ bits v 31 16 →
    ∃ d, Goes (exec (.evsEnable i v) s) s d ∧ flag d EVS_CTRL 0 = true ∧ fld d EVS_CTRL 31 16 = bits v 31 16
      ∧ RegsExcept [EVS_CTRL] s.dev d ∧ d.response = ⟨false, 0⟩) ∧
  (∀ (s : State) (i : Initiator) (x : EvsLate) (q : List EvsLate), Acts s → ReadReaches s.dev i EVS_LATELOG1 →
    s.dev.evs.log = x :: q →
    Goes (exec (.evsLatelogPop i) s) s
      { respData x.trig s.dev with evs := { s.dev.evs with log := q, lost := s.dev.evs.lost && decide (q ≠ []) } }) ∧
  (∀ (s : State) (i : Initiator), Acts s → ReadReaches s.dev i EVS_LATELOG1 → s.dev.evs.log = [] →
    ∃ d, Goes (exec (.evsLatelogPop i) s) s d ∧ d.response = ⟨false, 0⟩ ∧ d.evs.log = [] ∧ d.regs = s.dev.regs))

/-! ## Position feedback and encoder emulation -/
/-- PFC_LINE_TRANSITION, PFC_TRANSITION_ACCEPTED, PFC_CARD_DECAY and PFC_CNTCLR (R88–R92, R94): a transition waits at
its line, and an earlier one of that line closer than MINGAP is refused and counted; one that has waited moves the
position by one, or is a skip where A and B changed together; the count of refused ones decays, and a write clears the
counters. Rests on choices of the model: log entries 33, 34. -/
def Obligations.CardingAndCounting : Prop :=
  (∀ (s : State) (c : Fin 8) (l : Fin 3) (lv : Bool), Acts s →
    fld s.dev (PFC_PFn_CFG c) 3 0 = 0 ∨ fld s.dev (PFC_PFn_CFG c) 3 0 = 5 ∨
      (vget (posChan s.dev c).lines l).ball = lv →
    Goes (exec (.pfcLineTransition c l lv) s) s s.dev) ∧
  (∀ (s : State) (c : Fin 8) (l : Fin 3) (lv : Bool) (x : PosLine), Acts s →
    fld s.dev (PFC_PFn_CFG c) 3 0 ≠ 0 → fld s.dev (PFC_PFn_CFG c) 3 0 ≠ 5 →
    x = vget (posChan s.dev c).lines l → x.ball ≠ lv →
    (∀ t, x.wait = some t → t + fld s.dev (PFC_PFn_CARD c) 16 0 ≤ s.dev.ltb.toNat) →
    Goes (exec (.pfcLineTransition c l lv) s) s
      (modChan c (fun y => { y with
        lines := vset y.lines l { x with ball := lv, wait := some s.dev.ltb.toNat } }) s.dev)) ∧
  (∀ (s : State) (c : Fin 8) (l : Fin 3) (lv : Bool) (x : PosLine) (t : Nat), Acts s →
    fld s.dev (PFC_PFn_CFG c) 3 0 ≠ 0 → fld s.dev (PFC_PFn_CFG c) 3 0 ≠ 5 →
    x = vget (posChan s.dev c).lines l → x.ball ≠ lv → x.wait = some t →
    s.dev.ltb.toNat < t + fld s.dev (PFC_PFn_CARD c) 16 0 →
    ∃ d, fld d (PFC_PFn_CARD_CNT c) 15 0 = Nat.min 65535 (fld s.dev (PFC_PFn_CARD_CNT c) 15 0 + 1)
      ∧ vget (posChan d c).lines l = { x with ball := lv, wait := some s.dev.ltb.toNat }
      ∧ (if fld s.dev (PFC_PFn_CARD c) 31 20 ≤ fld d (PFC_PFn_CARD_CNT c) 15 0 ∧ (posChan s.dev c).carded = false then
          GoesRaising (exec (.pfcLineTransition c l lv) s) s d Src.PFC_CARD c ∧ flag d (PFC_PFn_STATUS c) 0 = true
            ∧ RegsExcept [PFC_PFn_CARD_CNT c, PFC_PFn_STATUS c] s.dev d
        else Goes (exec (.pfcLineTransition c l lv) s) s d ∧ RegsExcept [PFC_PFn_CARD_CNT c] s.dev d)) ∧
  (∀ (s : State) (c : Fin 8), Acts s → (∀ l : Fin 3, (vget (posChan s.dev c).lines l).wait = none) →
    Goes (exec (.pfcTransitionAccepted c) s) s s.dev) ∧
  (∀ (s : State) (c : Fin 8) (l : Fin 2) (x y : PosLine) (t : Nat), Acts s → fld s.dev (PFC_PFn_CFG c) 3 0 = 1 →
    flag s.dev (PFC_PFn_CFG c) 29 = true → x = vget (posChan s.dev c).lines l →
    y = vget (posChan s.dev c).lines (1 - l.val) → x.wait = some t →
    t + fld s.dev (PFC_PFn_CARD c) 16 0 ≤ s.dev.ltb.toNat → x.ball ≠ x.level → y.wait = none →
    (vget (posChan s.dev c).lines 2).wait = none →
    ∃ d, Goes (exec (.pfcTransitionAccepted c) s) s d
      ∧ position d c = position s.dev c +
          (if (decide (x.ball ≠ y.level) != (decide (l = 1) != flag s.dev (PFC_PFn_CFG c) 27)) = true then 1 else -1)
      ∧ vget (posChan d c).lines l = { x with level := x.ball, wait := none }
      ∧ RegsExcept [PFC_PFn_COUNT c] s.dev d) ∧
  (∀ (s : State) (c : Fin 8) (l : Fin 2) (x y : PosLine) (t : Nat), Acts s → fld s.dev (PFC_PFn_CFG c) 3 0 = 1 →
    flag s.dev (PFC_PFn_CFG c) 29 = false → x = vget (posChan s.dev c).lines l →
    y = vget (posChan s.dev c).lines (1 - l.val) → x.wait = some t →
    t + fld s.dev (PFC_PFn_CARD c) 16 0 ≤ s.dev.ltb.toNat → x.ball ≠ x.level → y.wait = none →
    (vget (posChan s.dev c).lines 2).wait = none →
    GoesWithin (exec (.pfcTransitionAccepted c) s) s [0x4010, 0x4011, 0x4012, 0x4020] (fun d =>
      position d c = position s.dev c +
          (if (decide (x.ball ≠ y.level) != (decide (l = 1) != flag s.dev (PFC_PFn_CFG c) 27)) = true then 1 else -1)
        ∧ rd d (PFC_PFn_TSTAMP c) = BitVec.ofNat 32 t ∧ flag d (PFC_PFn_STATUS c) 17 = true
        ∧ fld d (PFC_PFn_POS c) 23 0 = fld d (PFC_PFn_COUNT c) 24 0 * 16777216 / countsPerTurn d c % 16777216)) ∧
  (∀ (s : State) (c : Fin 8) (x y : PosLine) (t : Nat), Acts s → fld s.dev (PFC_PFn_CFG c) 3 0 = 1 →
    x = vget (posChan s.dev c).lines 0 → y = vget (posChan s.dev c).lines 1 → x.wait = some t → y.wait = some t →
    t + fld s.dev (PFC_PFn_CARD c) 16 0 ≤ s.dev.ltb.toNat → x.ball ≠ x.level → y.ball ≠ y.level →
    (vget (posChan s.dev c).lines 2).wait = none →
    ∃ d, GoesRaising (exec (.pfcTransitionAccepted c) s) s d Src.PFC_SKIP c
      ∧ fld d (PFC_PFn_SKIP_CNT c) 15 0 = Nat.min 65535 (fld s.dev (PFC_PFn_SKIP_CNT c) 15 0 + 1)
      ∧ fld d (PFC_PFn_UNC c) 7 0 = Nat.min 254 (fld s.dev (PFC_PFn_UNC c) 7 0 + 2)
      ∧ flag d (PFC_PFn_STATUS c) 1 = true ∧ flag d (PFC_PFn_STATUS c) 15 = true
      ∧ position d c = position s.dev c
      ∧ RegsExcept [PFC_PFn_SKIP_CNT c, PFC_PFn_UNC c, PFC_PFn_STATUS c] s.dev d) ∧
  (∀ (s : State) (c : Fin 8) (k n : Nat), Acts s → k = fld s.dev (PFC_PFn_CFG c) 19 16 → k ≠ 0 →
    (posChan s.dev c).decayFrom / 2 ^ (k + 9) < s.dev.ltb.toNat / 2 ^ (k + 9) →
    n = fld s.dev (PFC_PFn_CARD_CNT c) 15 0 - 1 →
    n < fld s.dev (PFC_PFn_CARD c) 31 20 ∨ (posChan s.dev c).carded = true →
    ∃ d, Goes (exec (.pfcCardDecay c) s) s d ∧ fld d (PFC_PFn_CARD_CNT c) 15 0 = n
      ∧ (posChan d c).carded = decide (fld s.dev (PFC_PFn_CARD c) 31 20 ≤ n)
      ∧ RegsExcept [PFC_PFn_CARD_CNT c] s.dev d) ∧
  (∀ (s : State) (c : Fin 8), Acts s → fld s.dev (PFC_PFn_CFG c) 19 16 = 0 →
    Goes (exec (.pfcCardDecay c) s) s s.dev) ∧
  (∀ (s : State) (i : Initiator) (c : Fin 8) (v : Word), Acts s → WriteReaches s.dev i (PFC_PFn_CNTCLR c) →
    ∃ d, Goes (exec (.pfcCntclr i c v) s) s d ∧ d.response = ⟨false, 0⟩
      ∧ rd d (PFC_PFn_CARD_CNT c) = (if bit v 0 then 0 else rd s.dev (PFC_PFn_CARD_CNT c))
      ∧ rd d (PFC_PFn_SKIP_CNT c) = (if bit v 1 then 0 else rd s.dev (PFC_PFn_SKIP_CNT c))
      ∧ rd d (PFC_PFn_REQBUSY_CNT c) = (if bit v 2 then 0 else rd s.dev (PFC_PFn_REQBUSY_CNT c))
      ∧ RegsExcept [PFC_PFn_CARD_CNT c, PFC_PFn_SKIP_CNT c, PFC_PFn_REQBUSY_CNT c] s.dev d)

/-- PFC_REQUEST, PFC_FRAME_PERIOD, PFC_FRAME_DECODE, PFC_SER_TIMEOUT and EXC_ZERO_CROSSING (R97–R102): when a frame
starts and when the request is refused, what a good frame delivers, what each failed check leaves, and the
excitation's T0. The number of ticks up to the first clock edge, 4 to 8, is left open. Rests on choices of the model:
log entries 32, 33, 34. -/
def Obligations.FramesAndExcitation : Prop :=
  (∀ (s : State) (i : Initiator) (c : Fin 8) (v : Word), Acts s → WriteReaches s.dev i (PFC_PFn_REQ c) →
    bit v 0 = false → Goes (exec (.pfcRequest i c v) s) s (respOk s.dev)) ∧
  (∀ (s : State) (i : Initiator) (c : Fin 8) (v : Word), Acts s → WriteReaches s.dev i (PFC_PFn_REQ c) →
    bit v 0 = true → fld s.dev (PFC_PFn_CFG c) 3 0 = 3 ∨ fld s.dev (PFC_PFn_CFG c) 3 0 = 4 →
    (posChan s.dev c).frame = none → (posChan s.dev c).idleEnd ≤ s.dev.ltb.toNat →
    ∃ k : Nat, 4 ≤ k ∧ k ≤ 8 ∧ Goes (exec (.pfcRequest i c v) s) s
      { modChan c (fun x => { x with
          frame := some (((s.dev.ltb.toNat + k : Nat) : Int) + sfld s.dev (PFC_PFn_TIMING c) 15 0) }) (respOk s.dev) with
        draws := s.dev.draws + 1 }) ∧
  (∀ (s : State) (i : Initiator) (c : Fin 8) (v : Word), Acts s → WriteReaches s.dev i (PFC_PFn_REQ c) →
    bit v 0 = true → fld s.dev (PFC_PFn_CFG c) 3 0 = 3 ∨ fld s.dev (PFC_PFn_CFG c) 3 0 = 4 →
    (posChan s.dev c).frame.isSome = true ∨ s.dev.ltb.toNat < (posChan s.dev c).idleEnd →
    Goes (exec (.pfcRequest i c v) s) s
      (respOk (setFlag (PFC_PFn_STATUS c) 10 true (incFld (PFC_PFn_REQBUSY_CNT c) 15 0 s.dev)))) ∧
  (∀ (s : State) (i : Initiator) (c : Fin 8) (v : Word), Acts s → WriteReaches s.dev i (PFC_PFn_REQ c) →
    bit v 0 = true → fld s.dev (PFC_PFn_CFG c) 3 0 = 1 ∨ fld s.dev (PFC_PFn_CFG c) 3 0 = 2 →
    GoesWithin (exec (.pfcRequest i c v) s) s [0x4010, 0x4011, 0x4012, 0x4020] (fun d =>
      rd d (PFC_PFn_COUNT c) = rd s.dev (PFC_PFn_COUNT c) ∧ rd d (PFC_PFn_TSTAMP c) = BitVec.ofNat 32 s.dev.ltb.toNat
        ∧ flag d (PFC_PFn_STATUS c) 17 = true ∧ fld d (PFC_PFn_POS c) 23 0 = countFraction s.dev c % 16777216)) ∧
  (∀ (s : State) (i : Initiator) (c : Fin 8) (v : Word), Acts s → WriteReaches s.dev i (PFC_PFn_REQ c) →
    bit v 0 = true → fld s.dev (PFC_PFn_CFG c) 3 0 = 5 →
    GoesWithin (exec (.pfcRequest i c v) s) s [0x4010, 0x4011, 0x4012, 0x4020] (fun d =>
      posChan d c = posChan s.dev c ∧ rd d (PFC_PFn_POS c) = rd s.dev (PFC_PFn_POS c)
        ∧ rd d (PFC_PFn_TSTAMP c) = rd s.dev (PFC_PFn_TSTAMP c) ∧ d.response = ⟨false, 0⟩)) ∧
  (∀ (s : State) (c : Fin 8) (per : Nat), Acts s →
    fld s.dev (PFC_PFn_CFG c) 3 0 = 3 ∨ fld s.dev (PFC_PFn_CFG c) 3 0 = 4 → per = fld s.dev (PFC_PFn_FRAME c) 23 0 →
    per ≠ 0 → (posChan s.dev c).nextPer ≤ s.dev.ltb.toNat →
    ∃ d, Goes (exec (.pfcFramePeriod c) s) s d ∧ (posChan d c).nextPer = (posChan s.dev c).nextPer + per
      ∧ (if (posChan s.dev c).frame = none ∧ (posChan s.dev c).idleEnd ≤ s.dev.ltb.toNat then
          d.regs = s.dev.regs ∧ ∃ k : Nat, 4 ≤ k ∧ k ≤ 8 ∧ (posChan d c).frame =
            some (((s.dev.ltb.toNat + k : Nat) : Int) + sfld s.dev (PFC_PFn_TIMING c) 15 0)
        else (posChan d c).frame = (posChan s.dev c).frame ∧ flag d (PFC_PFn_STATUS c) 10 = true
          ∧ fld d (PFC_PFn_REQBUSY_CNT c) 15 0 = Nat.min 65535 (fld s.dev (PFC_PFn_REQBUSY_CNT c) 15 0 + 1)
          ∧ RegsExcept [PFC_PFn_STATUS c, PFC_PFn_REQBUSY_CNT c] s.dev d)) ∧
  (∀ (s : State) (c : Fin 8), Acts s →
    fld s.dev (PFC_PFn_FRAME c) 23 0 = 0 ∨ s.dev.ltb.toNat < (posChan s.dev c).nextPer →
    Goes (exec (.pfcFramePeriod c) s) s s.dev) ∧
  (∀ (s : State) (c : Fin 8) (fr : BitVec 64) (dl : Nat) (hi : Bool), Acts s → (posChan s.dev c).frame = none →
    Goes (exec (.pfcFrameDecode c fr dl hi) s) s s.dev) ∧
  (∀ (s : State) (c : Fin 8) (fr : BitVec 64) (dl f len crc mt st v : Nat) (tk : Int), Acts s →
    (posChan s.dev c).frame = some tk → len = fld s.dev (PFC_PFn_SER2 c) 6 0 → f = fr.toNat % 2 ^ len →
    fld s.dev (PFC_PFn_CFG c) 3 0 = 3 ∨ fld s.dev (PFC_PFn_CFG c) 3 0 = 4 ∧ dl ≤ 6400 → crc = fld s.dev (PFC_PFn_SER2 c) 12 8 →
    f % 2 ^ crc = (if flag s.dev (PFC_PFn_SER2 c) 15 then
        2 ^ crc - 1 - frameCrc f len (fld s.dev (PFC_PFn_SER2 c) 31 16) crc (len - crc)
      else frameCrc f len (fld s.dev (PFC_PFn_SER2 c) 31 16) crc (len - crc)) ∨ crc = 0 →
    flag s.dev (PFC_PFn_SER c) 31 = false ∨
      frameBit f len (fld s.dev (PFC_PFn_SER c) 29 24) ≠ flag s.dev (PFC_PFn_SER c) 30 →
    mt = fld s.dev (PFC_PFn_SER c) 13 8 → st = fld s.dev (PFC_PFn_SER c) 5 0 →
    v = (if flag s.dev (PFC_PFn_SER c) 15 then grayToBinary (frameBits f len mt st) st else frameBits f len mt st) →
    GoesWithin (exec (.pfcFrameDecode c fr dl true) s) s [0x4010, 0x4011, 0x4012, 0x4020] (fun d =>
      rd d (PFC_PFn_RAW0 c) = BitVec.ofNat 32 f ∧ rd d (PFC_PFn_RAW1 c) = BitVec.ofNat 32 (f / 4294967296)
        ∧ rd d (PFC_PFn_MT c) = BitVec.ofNat 32 (frameBits f len 0 mt) 
        ∧ (fld s.dev (PFC_PFn_CFG c) 3 0 = 4 → rd d (PFC_PFn_LINEDLY c) = BitVec.ofNat 32 dl)
        ∧ fld d (PFC_PFn_POS c) 23 0 = (if st ≤ 24 then v * 2 ^ (24 - st) else v / 2 ^ (st - 24)) % 16777216
        ∧ rd d (PFC_PFn_TSTAMP c) = BitVec.ofInt 32 tk ∧ flag d (PFC_PFn_STATUS c) 17 = true
        ∧ (posChan d c).frame = none ∧ (posChan d c).good = true
        ∧ (posChan d c).idleEnd = s.dev.ltb.toNat + fld s.dev (PFC_PFn_TIMING c) 31 16)) ∧
  (∀ (s : State) (c : Fin 8) (fr : BitVec 64) (dl f len crc : Nat) (tk : Int), Acts s →
    (posChan s.dev c).frame = some tk → len = fld s.dev (PFC_PFn_SER2 c) 6 0 → f = fr.toNat % 2 ^ len →
    fld s.dev (PFC_PFn_CFG c) 3 0 ≠ 4 → crc = fld s.dev (PFC_PFn_SER2 c) 12 8 →
    f % 2 ^ crc ≠ (if flag s.dev (PFC_PFn_SER2 c) 15 then
        2 ^ crc - 1 - frameCrc f len (fld s.dev (PFC_PFn_SER2 c) 31 16) crc (len - crc)
      else frameCrc f len (fld s.dev (PFC_PFn_SER2 c) 31 16) crc (len - crc)) → crc ≠ 0 →
    flag s.dev (PFC_PFn_SER c) 31 = false →
    ∃ d, GoesRaising (exec (.pfcFrameDecode c fr dl true) s) s d Src.PFC_SER_CRC c
      ∧ flag d (PFC_PFn_STATUS c) 4 = true ∧ flag d (PFC_PFn_STATUS c) 17 = false ∧ (posChan d c).good = false
      ∧ (posChan d c).last = (posChan s.dev c).last ∧ (posChan d c).frame = none
      ∧ RegsExcept [PFC_PFn_RAW0 c, PFC_PFn_RAW1 c, PFC_PFn_STATUS c] s.dev d) ∧
  (∀ (s : State) (c : Fin 8) (dl : Nat), Acts s → fld s.dev (PFC_PFn_CFG c) 3 0 = 3 →
    (posChan s.dev c).frame.isSome = true →
    ∃ d, GoesRaising (exec (.pfcSerTimeout c dl) s) s d Src.PFC_SER_TO c
      ∧ flag d (PFC_PFn_STATUS c) 6 = true ∧ flag d (PFC_PFn_STATUS c) 17 = false ∧ (posChan d c).good = false
      ∧ (posChan d c).frame = none ∧ RegsExcept [PFC_PFn_STATUS c] s.dev d) ∧
  (∀ (s : State) (c : Fin 8) (dl : Nat), Acts s → (posChan s.dev c).frame = none →
    (posChan s.dev c).idleEnd < s.dev.ltb.toNat → Goes (exec (.pfcSerTimeout c dl) s) s s.dev) ∧
  (∀ (s : State) (e : Fin 4) (x : Exc), Acts s → x = vget s.dev.pfc.excs e → flag s.dev (PFC_EXCe_CFG e) 31 = true →
    x.t0 + x.per ≤ s.dev.ltb.toNat →
    ∃ d, Goes (exec (.excZeroCrossing e) s) s d ∧ rd d (PFC_EXCe_T0 e) = BitVec.ofNat 32 (x.t0 + x.per)
      ∧ vget d.pfc.excs e = { t0 := x.t0 + x.per, per := fld s.dev (PFC_EXCe_PER e) 18 0 }
      ∧ RegsExcept [PFC_EXCe_T0 e] s.dev d) ∧
  (∀ (s : State) (e : Fin 4), Acts s → flag s.dev (PFC_EXCe_CFG e) 31 = false →
    Goes (exec (.excZeroCrossing e) s) s s.dev)

/-- PFC_OBS_WRITE, PFC_SOURCE_TIMEOUT and PFC_VOTE_READMIT (R106–R109): what the observer's write leaves, when a
source drops out and what follows when none is left, and how an excluded sensor comes back. EEM_OUTPUT_STEP and
EEM_ENABLE (R110, R111): the output moves one count towards its target, A before B in the rising direction; it reports
a lag above LAGTHR, stops at half a turn of lag, and an enable puts it on its target. Rests on choices of the model:
log entry 33. -/
def Obligations.PositionVoteAndEmulation : Prop :=
  ((∀ (s : State) (i : Initiator) (a : Fin 4) (v : Word), Acts s → WriteReaches s.dev i (PFC_AXa_OBS a) →
    GoesWithin (exec (.pfcObsWrite i a v) s) s [0x4010, 0x4011, 0x4012, 0x4020] (fun d =>
      flag d (PFC_AXa_VOTE_STATUS a) 6 = bit v 31 ∧ d.response = ⟨false, 0⟩
        ∧ vget (vote d a).srcs 2 = ⟨bits v 23 0, obsTick s.dev (vote s.dev a).obsT, some s.dev.ltb.toNat⟩
        ∧ ∀ b : Fin 4, b ≠ a → vote d b = vote s.dev b)) ∧
  (∀ (s : State) (i : Initiator) (a : Fin 4) (v : Word), Acts s → WriteReaches s.dev i (PFC_AXa_OBS a) →
    bit v 31 = false →
    ∃ d, Goes (exec (.pfcObsWrite i a v) s) s d ∧ RegsExcept [PFC_AXa_VOTE_STATUS a] s.dev d ∧ d.atb = s.dev.atb) ∧
  (∀ (s : State) (a : Fin 4) (k : Fin 3), Acts s →
    (∀ t, (vget (vote s.dev a).srcs k).at_ = some t →
      s.dev.ltb.toNat ≤ t + fld s.dev (ATB_AXn_TIMEOUT a) 23 0) →
    Goes (exec (.pfcSourceTimeout a k) s) s s.dev) ∧
  (∀ (s : State) (a : Fin 4) (c t : Nat), Acts s → axisInUse s.dev a = true →
    (vget (vote s.dev a).srcs 0).at_ = some t → t + fld s.dev (ATB_AXn_TIMEOUT a) 23 0 < s.dev.ltb.toNat →
    c = (vget s.dev.cfg.axes a).pfMain → voteValid s.dev a 1 = true →
    Goes (exec (.pfcSourceTimeout a 0) s) s (setFlag (PFC_PFn_STATUS c) 17 false s.dev)) ∧
  (∀ (s : State) (a : Fin 4) (t : Nat), Acts s → axisInUse s.dev a = true →
    (vget (vote s.dev a).srcs 2).at_ = some t → t + fld s.dev (ATB_AXn_TIMEOUT a) 23 0 < s.dev.ltb.toNat →
    (∀ k : Fin 3, voteValid s.dev a k = false) → fld s.dev (PFC_AXa_VOTE_CFG a) 31 24 ≤ 1 →
    (vote s.dev a).inForce ≠ some ⟨6, 7, 7⟩ →
    ∃ d, GoesRaising (exec (.pfcSourceTimeout a 2) s) s d Src.PFC_VOTE_NONE a
      ∧ fld d (PFC_AXa_VOTE_STATUS a) 2 0 = 7 ∧ flag d (PFC_AXa_VOTE_STATUS a) 6 = false
      ∧ (vote d a).inForce = some ⟨6, 7, 7⟩ ∧ RegsExcept [PFC_AXa_VOTE_STATUS a] s.dev d) ∧
  (∀ (s : State) (i : Initiator) (a : Fin 4) (v : Word), Acts s → WriteReaches s.dev i (PFC_AXa_VOTE_READMIT a) →
    ∃ d, Goes (exec (.pfcVoteReadmit i a v) s) s d ∧ d.response = ⟨false, 0⟩
      ∧ (∀ k : Fin 2, flag d (PFC_AXa_VOTE_STATUS a) (4 + k) = (flag s.dev (PFC_AXa_VOTE_STATUS a) (4 + k) && !bit v k))
      ∧ (∀ k : Fin 2, bit v k = true → flag s.dev (PFC_AXa_VOTE_STATUS a) (4 + k) = true → voteValid d a k = false)
      ∧ fld d (PFC_AXa_VOTE_STATUS a) 2 0 = fld s.dev (PFC_AXa_VOTE_STATUS a) 2 0
      ∧ RegsExcept [PFC_AXa_VOTE_STATUS a] s.dev d)) ∧
  ((∀ (s : State) (m : Fin 4), Acts s →
    flag s.dev (EEM_EMn_STATUS m) 2 = false ∨
      s.dev.ltb.toNat < (eem s.dev m).lastEdge + fld s.dev (EEM_EMn_CFG m) 23 8 →
    Goes (exec (.eemOutputStep m) s) s s.dev) ∧
  (∀ (s : State) (m : Fin 4), Acts s → flag s.dev (EEM_EMn_STATUS m) 2 = true →
    (eem s.dev m).lastEdge + fld s.dev (EEM_EMn_CFG m) 23 8 ≤ s.dev.ltb.toNat → eemLag s.dev m ≠ 0 →
    (eemLag s.dev m).natAbs ≤ fld s.dev (EEM_EMn_LAGTHR m) 23 0 → 2 * (eemLag s.dev m).natAbs < eemCounts s.dev m →
    ∃ (d : Dev) (p : Nat), Goes (exec (.eemOutputStep m) s) s d
      ∧ (eem d m).out = (eem s.dev m).out + (if 0 < eemLag s.dev m then 1 else -1)
      ∧ (eem d m).lastEdge = s.dev.ltb.toNat ∧ rd d (EEM_EMn_LAG m) = BitVec.ofInt 32 (eemLag s.dev m)
      ∧ p = ((eem d m).out % (eemCounts s.dev m : Int)).toNat
      ∧ (flag s.dev (EEM_EMn_CFG m) 2 = false →
          (eem d m).a = decide (p % 4 = 1 ∨ p % 4 = 2) ∧ (eem d m).b = decide (p % 4 = 2 ∨ p % 4 = 3))
      ∧ (flag s.dev (EEM_EMn_CFG m) 2 = true →
          (eem d m).b = decide (p % 4 = 1 ∨ p % 4 = 2) ∧ (eem d m).a = decide (p % 4 = 2 ∨ p % 4 = 3))
      ∧ (eem d m).z = (decide (p = 0) != flag s.dev (EEM_EMn_CFG m) 3) ∧ RegsExcept [EEM_EMn_LAG m] s.dev d) ∧
  (∀ (s : State) (m : Fin 4), Acts s → flag s.dev (EEM_EMn_STATUS m) 2 = true →
    (eem s.dev m).lastEdge + fld s.dev (EEM_EMn_CFG m) 23 8 ≤ s.dev.ltb.toNat →
    fld s.dev (EEM_EMn_LAGTHR m) 23 0 < (eemLag s.dev m).natAbs → (eem s.dev m).lagging = false →
    2 * (eemLag s.dev m).natAbs < eemCounts s.dev m →
    ∃ d, GoesRaising (exec (.eemOutputStep m) s) s d Src.EEM_LAG m ∧ flag d (EEM_EMn_STATUS m) 0 = true
      ∧ (eem d m).out = (eem s.dev m).out + (if 0 < eemLag s.dev m then 1 else -1)
      ∧ RegsExcept [EEM_EMn_LAG m, EEM_EMn_STATUS m] s.dev d) ∧
  (∀ (s : State) (m : Fin 4), Acts s → flag s.dev (EEM_EMn_STATUS m) 2 = true →
    (eem s.dev m).lastEdge + fld s.dev (EEM_EMn_CFG m) 23 8 ≤ s.dev.ltb.toNat →
    eemCounts s.dev m ≤ 2 * (eemLag s.dev m).natAbs → (eem s.dev m).lagging = true →
    ∃ d, GoesRaising (exec (.eemOutputStep m) s) s d Src.EEM_OVR m ∧ flag d (EEM_EMn_STATUS m) 1 = true
      ∧ flag d (EEM_EMn_STATUS m) 2 = false ∧ (eem d m).out = (eem s.dev m).out
      ∧ (eem d m).a = (eem s.dev m).a ∧ (eem d m).b = (eem s.dev m).b ∧ (eem d m).z = (eem s.dev m).z
      ∧ RegsExcept [EEM_EMn_LAG m, EEM_EMn_STATUS m] s.dev d) ∧
  (∀ (s : State) (i : Initiator) (m : Fin 4) (v w : Word), Acts s → WriteReaches s.dev i (EEM_EMn_CFG m) →
    w = setBit v 31 true → valueOk s.dev (EEM_EMn_CFG m) w = true → flag s.dev (EEM_EMn_STATUS m) 2 = false →
    ∃ d, Goes (exec (.eemEnable i m v) s) s d ∧ d.response = ⟨false, 0⟩ ∧ flag d (EEM_EMn_STATUS m) 2 = true
      ∧ flag d (EEM_EMn_CFG m) 31 = true ∧ fld d (EEM_EMn_CFG m) 23 8 = bits v 23 8
      ∧ fld d (EEM_EMn_CFG m) 3 0 = bits v 3 0
      ∧ (eem d m).out = eemTarget d m ∧ (eem d m).lastEdge = (eem s.dev m).lastEdge
      ∧ RegsExcept [EEM_EMn_CFG m, EEM_EMn_STATUS m] s.dev d))

/-! ## Current and voltage sensing -/

/-- ADS_START, ADS_ACQUISITION_START, ADS_CONVERSION_DONE and ADS_RES_READ (R122–R127): which starts are refused or
find the queue full, which request a free half takes, what a completed conversion delivers to the result register and
to the CE inputs of its axis, and a read of the result. ADS_REF_READY, ADS_REF_EXCURSION, ADS_CAL_REQUEST,
ADS_CAL_START, ADS_CAL_HALF_DONE and ADS_CAL_LATE (R120, R128, R130, R136): what a reference gained or lost does to
the comparators on its pair, and the calibration of half A and then half B. Rests on choices of the model: log entry
35. -/
def Obligations.ConversionsAndCalibration : Prop :=
  ((∀ (s : State) (i : Initiator) (p : Fin 8) (v : Word), Acts s → WriteReaches s.dev i (ADS_Pp_START p) →
    bit v 0 = false → Goes (exec (.adsStart i p v) s) s (respOk s.dev)) ∧
  (∀ (s : State) (i : Initiator) (p : Fin 8) (v : Word), Acts s → WriteReaches s.dev i (ADS_Pp_START p) →
    bit v 0 = true →
    bits v 23 16 = 0 ∨ bits v 29 28 = 3 ∨
      (bit v 26 = true ∧ (bits v 23 16 ≠ 1 ∨ fld s.dev (ADS_Pp_CFG p) 1 0 = 1
        ∨ ∀ a : Fin 4, flag s.dev (ADS_RSa_CFG a) 31 = true →
            fld s.dev (ADS_RSa_CFG a) 5 0 ≠ 8 * p.val + bits v 6 4)) →
    Goes (exec (.adsStart i p v) s) s (respErr s.dev)) ∧
  (∀ (s : State) (i : Initiator) (p : Fin 8) (v : Word) (r : AdsReq), Acts s → WriteReaches s.dev i (ADS_Pp_START p) →
    bit v 0 = true → bits v 23 16 ≠ 0 → bits v 29 28 ≠ 3 → bit v 26 = false →
    r = ⟨bits v 6 4, bits v 10 8, bits v 23 16, false, bits v 29 28, bit v 27⟩ →
    ((bit v 1 = true ∧ (adsPair s.dev p).injQueue.length < 4) ∨ (bit v 1 = false ∧ (adsPair s.dev p).regQueue.length < 8) →
      ∃ d, Goes (exec (.adsStart i p v) s) s d ∧ d.response = ⟨false, 0⟩ ∧ RegsExcept [ADS_Pp_QLEVEL p] s.dev d
        ∧ (adsPair d p).injQueue = (adsPair s.dev p).injQueue ++ (if bit v 1 then [r] else [])
        ∧ (adsPair d p).regQueue = (adsPair s.dev p).regQueue ++ (if bit v 1 then [] else [r])
        ∧ ((adsPair s.dev p).injQueue.length ≤ 4 → fld d (ADS_Pp_QLEVEL p) 2 0 = (adsPair d p).injQueue.length)
        ∧ ((adsPair s.dev p).regQueue.length ≤ 8 → fld d (ADS_Pp_QLEVEL p) 11 8 = (adsPair d p).regQueue.length)) ∧
    ((bit v 1 = true ∧ 4 ≤ (adsPair s.dev p).injQueue.length) ∨ (bit v 1 = false ∧ 8 ≤ (adsPair s.dev p).regQueue.length) →
      GoesRaising (exec (.adsStart i p v) s) s
        (respOk (setFlag (ADS_Pp_STATUS p) 5 true (incFld (ADS_Pp_QOVF_CNT p) 15 0 s.dev))) Src.ADS_QOVF p)) ∧
  (∀ (s : State) (p : Fin 8) (h : Bool), Acts s → adsNext (adsPair s.dev p) = none ∨
      (fld s.dev (ADS_Pp_CFG p) 1 0 ≠ 1 ∧ vget (adsPair s.dev p).halves (b2n h) ≠ none) ∨
      (fld s.dev (ADS_Pp_CFG p) 1 0 = (if h then 2 else 3) ∧ flag s.dev (ADS_Pp_CAL_STATUS p) 16 = false) →
    Goes (exec (.adsAcquisitionStart p h) s) s s.dev) ∧
  (∀ (s : State) (p : Fin 8) (h inj : Bool) (r : AdsReq) (x : AdsPair), Acts s →
    adsNext (adsPair s.dev p) = some (inj, r, x) →
    fld s.dev (ADS_Pp_CFG p) 1 0 = 0 ∨ fld s.dev (ADS_Pp_CFG p) 1 0 = (if h then 3 else 2) →
    vget (adsPair s.dev p).halves (b2n h) = none → flag s.dev (ADS_Pp_CAL_STATUS p) 16 = false →
    ∃ d, Goes (exec (.adsAcquisitionStart p h) s) s d
      ∧ vget (adsPair d p).halves (b2n h) = some ⟨8 * p + r.selA, inj, r.rs, r.rsPhase, r.rsNeg,
          !flag s.dev (ADS_Pp_STATUS p) 0, false, false, s.dev.ltb.toNat + fld s.dev (ADS_Pp_CFG p) 25 16⟩
      ∧ (adsPair d p).injQueue = x.injQueue ∧ (adsPair d p).regQueue = x.regQueue
      ∧ (adsPair d p).injCur = x.injCur ∧ (adsPair d p).regCur = x.regCur
      ∧ flag d (ADS_Pp_STATUS p) (if h then 2 else 1) = true
      ∧ RegsExcept [ADS_Pp_STATUS p, ADS_Pp_QLEVEL p] s.dev d) ∧
  (∀ (s : State) (p : Fin 8) (h : Bool) (r : AdsReq) (q : List AdsReq), Acts s → (adsPair s.dev p).injCur = none →
    (adsPair s.dev p).injQueue = r :: q → fld s.dev (ADS_Pp_CFG p) 1 0 = 1 →
    vget (adsPair s.dev p).halves 0 = none → vget (adsPair s.dev p).halves 1 = none →
    ∃ (d : Dev) (c : AdsConv), Goes (exec (.adsAcquisitionStart p h) s) s d ∧ (adsPair d p).injQueue = q
      ∧ vget (adsPair d p).halves 0 = some c ∧ c.input = 8 * p + r.selA ∧ c.inj = true ∧ c.dual = true
      ∧ vget (adsPair d p).halves 1 = some { c with input := 8 * p + r.selB }
      ∧ (adsPair d p).injCur = (if r.count ≤ 1 then none else some { r with count := r.count - 1 })
      ∧ (adsPair d p).regQueue = (adsPair s.dev p).regQueue ∧ (adsPair d p).regCur = (adsPair s.dev p).regCur
      ∧ RegsExcept [ADS_Pp_STATUS p, ADS_Pp_QLEVEL p] s.dev d) ∧
  (∀ (s : State) (p : Fin 8) (h : Bool) (code : BitVec 14), Acts s → vget (adsPair s.dev p).halves (b2n h) = none →
    Goes (exec (.adsConversionDone p h code) s) s s.dev) ∧
  (∀ (s : State) (p : Fin 8) (h : Bool) (code : BitVec 14) (c : AdsConv) (v : Int), Acts s →
    vget (adsPair s.dev p).halves (b2n h) = some c → c.input < 64 →
    v = satQ15 (((code.toNat : Int) - fld s.dev (ADS_AINnn_CFG c.input) 13 0) *
      2 ^ fld s.dev (ADS_AINnn_CFG c.input) 25 24) →
    GoesWithin (exec (.adsConversionDone p h code) s) s
      [0x4010, 0x4011, 0x4012, 0x4020, 0x4030, 0x4040, 0x4041, 0x4042, 0x4043, 0x4044] (fun d =>
      sfld d (ADS_AINnn_RES c.input) 15 0 = v ∧ flag d (ADS_AINnn_RES c.input) 16 = c.ru
        ∧ flag d (ADS_AINnn_RES c.input) 17 = c.halfRate ∧ flag d (ADS_AINnn_RES c.input) 18 = c.inj
        ∧ flag d (ADS_AINnn_RES c.input) 19 = h
        ∧ flag d (ADS_AINnn_RES c.input) 20 = (adsPair s.dev p).unread.getLsbD (c.input % 8)
        ∧ flag d (ADS_AINnn_RES c.input) 21 = c.rs ∧ rd d (ADS_AINnn_TS c.input) = BitVec.ofNat 32 c.ts
        ∧ vget (adsPair d p).halves (b2n h) = none ∧ flag d (ADS_Pp_STATUS p) (if h then 2 else 1) = false
        ∧ (adsPair d p).unread.getLsbD (c.input % 8) = true
        ∧ (c.rs = false → (∀ n : Fin 8, fld s.dev (PFC_PFn_CFG n) 3 0 ≠ 5) →
            flag s.dev (ADS_AINnn_CFG c.input) 31 = true →
            ∀ (a : Fin 4) (n : Fin 5), ownerAxis s.dev 0x04 c.input = some a.val → n.val ∈ bankEngines s.dev a →
              rd d (CEA_CEn_INa_kk n a (fld s.dev (ADS_AINnn_CFG c.input) 21 16)) =
                inWord v c.ru false c.halfRate ((adsPair s.dev p).unread.getLsbD (c.input % 8))))) ∧
  (∀ (s : State) (i : Initiator) (n : Fin 64), Acts s → ReadReaches s.dev i (ADS_AINnn_RES n) →
    Goes (exec (.adsResRead i n) s) s
      (respData (rd s.dev (ADS_AINnn_RES n)) (modPair (n / 8)
        (fun x => { x with unread := x.unread &&& ~~~ BitVec.ofNat 8 (2 ^ (n.val % 8)) })
        (wr (bank i (ADS_AINnn_TS n)) (rd s.dev (ADS_AINnn_TS n)) s.dev))))) ∧
  ((∀ (s : State) (p : Fin 8), Acts s →
    ∃ d, Goes (exec (.adsRefReady p) s) s d ∧ flag d (ADS_Pp_STATUS p) 0 = true
      ∧ (∀ k : Fin 32, flag s.dev (ADS_Pp_STATUS p) 0 = false → flag s.dev (FCMP_CMPkk_CFG k) 31 = true →
          flag s.dev (FCMP_CMPkk_CFG k) 5 = true → fld s.dev (FCMP_CMPkk_CFG k) 4 0 / 8 = p →
          flag d (FCMP_CMPkk_STATUS k) 0 = false)
      ∧ (∀ a, a ≠ ADS_Pp_STATUS p → (∀ k : Fin 32, a ≠ FCMP_CMPkk_STATUS k) → rd d a = rd s.dev a)
      ∧ (flag s.dev (ADS_Pp_STATUS p) 0 = true → RegsExcept [ADS_Pp_STATUS p] s.dev d)) ∧
  (∀ (s : State) (p : Fin 8), Acts s →
    GoesWithin (exec (.adsRefExcursion p) s) s [0x4030, 0x4032] (fun d =>
      flag d (ADS_Pp_STATUS p) 0 = false
        ∧ (flag s.dev (ADS_Pp_CAL_STATUS p) 16 = true → (adsPair d p).calPending = true ∧ fld d (ADS_Pp_CAL_STATUS p) 17 16 = 0)
        ∧ ∀ k : Fin 32, flag s.dev (FCMP_CMPkk_CFG k) 31 = true → flag s.dev (FCMP_CMPkk_CFG k) 5 = true →
            fld s.dev (FCMP_CMPkk_CFG k) 4 0 / 8 = p → flag d (FCMP_CMPkk_STATUS k) 0 = flag s.dev (FCMP_CMPkk_CFG k) 30)) ∧
  (∀ (s : State) (p : Fin 8), Acts s → flag s.dev (ADS_Pp_CAL_STATUS p) 16 = false →
    (∀ k : Fin 32, flag s.dev (FCMP_CMPkk_CFG k) 31 = true → flag s.dev (FCMP_CMPkk_CFG k) 5 = true →
      fld s.dev (FCMP_CMPkk_CFG k) 4 0 / 8 ≠ p) →
    GoesRaising (exec (.adsRefExcursion p) s) s (setFlag (ADS_Pp_STATUS p) 0 false s.dev) Src.ADS_REF p) ∧
  (∀ (s : State) (i : Initiator) (p : Fin 8) (v : Word), Acts s → WriteReaches s.dev i (ADS_Pp_CAL p) →
    Goes (exec (.adsCalRequest i p v) s) s
      (if bit v 0 = true ∧ flag s.dev (ADS_Pp_CAL_STATUS p) 16 = false then
        modPair p (fun x => { x with calPending := true }) (respOk s.dev) else respOk s.dev)) ∧
  (∀ (s : State) (p : Fin 8), Acts s →
    (adsPair s.dev p).calPending = false ∨ flag s.dev (ADS_Pp_CAL_STATUS p) 16 = true →
    Goes (exec (.adsCalStart p) s) s s.dev) ∧
  (∀ (s : State) (p : Fin 8), Acts s → (adsPair s.dev p).calPending = true →
    flag s.dev (ADS_Pp_CAL_STATUS p) 16 = false → injectedWork s.dev p = false →
    ∃ d, Goes (exec (.adsCalStart p) s) s d ∧ (adsPair d p).calPending = false
      ∧ flag d (ADS_Pp_CAL_STATUS p) 16 = true ∧ flag d (ADS_Pp_CAL_STATUS p) 17 = false
      ∧ RegsExcept [ADS_Pp_CAL_STATUS p] s.dev d) ∧
  (∀ (s : State) (p : Fin 8), Acts s → (adsPair s.dev p).calPending = true →
    flag s.dev (ADS_Pp_CAL_STATUS p) 16 = false → (adsPair s.dev p).injQueue ≠ [] →
    Goes (exec (.adsCalStart p) s) s (incFld (ADS_Pp_CAL_STATUS p) 15 0 s.dev)) ∧
  (∀ (s : State) (p : Fin 8) (w : Word), Acts s → flag s.dev (ADS_Pp_CAL_STATUS p) 16 = false →
    Goes (exec (.adsCalHalfDone p w) s) s s.dev) ∧
  (∀ (s : State) (p : Fin 8) (w : Word) (h : Bool), Acts s → flag s.dev (ADS_Pp_CAL_STATUS p) 16 = true →
    h = flag s.dev (ADS_Pp_CAL_STATUS p) 17 →
    ∃ d, Goes (exec (.adsCalHalfDone p w) s) s d
      ∧ rd d (if h then ADS_Pp_COEF_B p else ADS_Pp_COEF_A p) = w
      ∧ flag d (ADS_Pp_CAL_STATUS p) 16 = !h ∧ flag d (ADS_Pp_CAL_STATUS p) 17 = !h
      ∧ vget (adsPair d p).calDone (b2n h) = s.dev.ltb.toNat ∧ vget (adsPair d p).calLate (b2n h) = false
      ∧ RegsExcept [if h then ADS_Pp_COEF_B p else ADS_Pp_COEF_A p, ADS_Pp_CAL_STATUS p] s.dev d) ∧
  (∀ (s : State) (p : Fin 8) (h : Bool), Acts s → vget (adsPair s.dev p).calLate (b2n h) = false →
    vget (adsPair s.dev p).calDone (b2n h) + 3200000000 ≤ s.dev.ltb.toNat →
    GoesRaising (exec (.adsCalLate p h) s) s
      (setFlag (ADS_Pp_CAL_STATUS p) 24 true
        (modPair p (fun x => { x with calLate := vset x.calLate (b2n h) true }) s.dev)) Src.ADS_CAL_LATE p) ∧
  (∀ (s : State) (p : Fin 8) (h : Bool), Acts s →
    s.dev.ltb.toNat < vget (adsPair s.dev p).calDone (b2n h) + 3200000000 →
    Goes (exec (.adsCalLate p h) s) s s.dev))

/-- SDM_MAIN_OUTPUT, SDM_WINDOW_OPEN, SDM_RES_READ, SDM_CLOCK_LOSS, SDM_STUCK_BITS, SDM_MANCHESTER_ERROR and
SDM_VALID_RESTORE (R132–R134, R136): what an output delivers in a capture, averaged or alone, and in the free stream;
an invalid channel delivers nothing. Rests on choices of the model: log entry 35. -/
def Obligations.SigmaDeltaChannels : Prop :=
  (∀ (s : State) (n : Fin 24) (b : List Bool) (ts : Nat), Acts s → flag s.dev (SDM_SDnn_CFG n) 31 = false →
    Goes (exec (.sdmMainOutput n b ts) s) s s.dev) ∧
  (∀ (s : State) (n : Fin 24) (b h : List Bool) (ts : Nat), Acts s → flag s.dev (SDM_SDnn_CFG n) 31 = true →
    h = lastN 766 ((sdmChan s.dev n).history ++ b) →
    flag s.dev (SDM_SDnn_STATUS n) 8 = false ∨
      (flag s.dev (SDM_SDnn_CFG n) 30 = false ∧ (sdmChan s.dev n).capture = none) →
    ∃ d, Goes (exec (.sdmMainOutput n b ts) s) s d ∧ (sdmChan d n).history = h
      ∧ rd d (SDM_SDnn_FAST n) = BitVec.ofNat 32 (unsigned 16
          (sincOutput (fld s.dev (SDM_SDnn_FILT n) 31 30) (fld s.dev (SDM_SDnn_FILT n) 22 16) h))
      ∧ (sdmChan d n).capture = (sdmChan s.dev n).capture ∧ RegsExcept [SDM_SDnn_FAST n] s.dev d) ∧
  (∀ (s : State) (n : Fin 24) (b h : List Bool) (ts : Nat) (v : Int) (c : SdmCapture), Acts s →
    flag s.dev (SDM_SDnn_CFG n) 31 = true → h = lastN 766 ((sdmChan s.dev n).history ++ b) →
    flag s.dev (SDM_SDnn_STATUS n) 8 = true → (sdmChan s.dev n).capture = some c → c.avg = false →
    c.resync = false ∨ c.tick ≤ ts → v = sincOutput (fld s.dev (SDM_SDnn_FILT n) 9 8) (mosr s.dev n) h →
    GoesWithin (exec (.sdmMainOutput n b ts) s) s [0x4031, 0x4040, 0x4041, 0x4042, 0x4043, 0x4044] (fun d =>
      rd d (SDM_SDnn_RES n) = BitVec.ofNat 32 (unsigned 16 v + 65536 * b2n (sdmChan s.dev n).unread)
        ∧ rd d (SDM_SDnn_TS n) = BitVec.ofNat 32 ts ∧ (sdmChan d n).unread = true
        ∧ (sdmChan d n).capture = none ∧ flag d (SDM_SDnn_STATUS n) 9 = false)) ∧
  (∀ (s : State) (n : Fin 24) (b h : List Bool) (ts : Nat) (v : Int) (c : SdmCapture), Acts s →
    flag s.dev (SDM_SDnn_CFG n) 31 = true → flag s.dev (SDM_SDnn_CFG n) 30 = false →
    h = lastN 766 ((sdmChan s.dev n).history ++ b) → flag s.dev (SDM_SDnn_STATUS n) 8 = true →
    (sdmChan s.dev n).capture = some c → c.avg = true → c.resync = false ∨ c.tick ≤ ts →
    v = sincOutput (fld s.dev (SDM_SDnn_FILT n) 9 8) (mosr s.dev n) h →
    (c.taken.length + 1 < c.len →
      ∃ d, Goes (exec (.sdmMainOutput n b ts) s) s d
        ∧ (sdmChan d n).capture = some { c with taken := c.taken ++ [(v, ts)] }
        ∧ RegsExcept [SDM_SDnn_FAST n] s.dev d) ∧
    (∀ v0 t0 r, c.taken = (v0, t0) :: r → c.len = c.taken.length + 1 →
      GoesWithin (exec (.sdmMainOutput n b ts) s) s [0x4031, 0x4040, 0x4041, 0x4042, 0x4043, 0x4044] (fun d =>
        fld d (SDM_SDnn_RES n) 15 0 = unsigned 16 (roundDiv ((c.taken.map Prod.fst).sum + v) (c.len : Int))
          ∧ rd d (SDM_SDnn_TS n) = BitVec.ofNat 32 ((t0 + ts) / 2) ∧ (sdmChan d n).capture = none))) ∧
  (∀ (s : State) (n : Fin 24) (b h : List Bool) (ts : Nat) (v : Int), Acts s → flag s.dev (SDM_SDnn_CFG n) 31 = true →
    flag s.dev (SDM_SDnn_CFG n) 30 = true → h = lastN 766 ((sdmChan s.dev n).history ++ b) →
    flag s.dev (SDM_SDnn_STATUS n) 8 = true → (sdmChan s.dev n).capture = none →
    v = sincOutput (fld s.dev (SDM_SDnn_FILT n) 9 8) (mosr s.dev n) h →
    GoesWithin (exec (.sdmMainOutput n b ts) s) s [0x4031, 0x4040, 0x4041, 0x4042, 0x4043, 0x4044] (fun d =>
      fld d (SDM_SDnn_RES n) 15 0 = unsigned 16 v ∧ rd d (SDM_SDnn_TS n) = BitVec.ofNat 32 ts
        ∧ ∀ (a : Fin 4) (e : Fin 5), ownerAxis s.dev 0x06 n = some a.val → e.val ∈ bankEngines s.dev a →
            flag s.dev (SDM_SDnn_ROUTE n) 31 = true →
            rd d (CEA_CEn_INa_kk e a (fld s.dev (SDM_SDnn_ROUTE n) 5 0)) =
              inWord v false false false (sdmChan s.dev n).unread)) ∧
  (∀ (s : State) (i : Initiator) (n : Fin 24) (v : Word), Acts s → WriteReaches s.dev i (SDM_SDnn_WIN n) →
    Goes (exec (.sdmWindowOpen i n v) s) s
      (if bit v 0 = false then respOk s.dev
       else if bit v 1 = true ∧ bits v 23 16 = 0 then respErr s.dev
       else if (sdmChan s.dev n).capture.isSome then
         incFld (SDM_SDnn_BUSY_CNT n) 15 0 (setFlag (SDM_SDnn_STATUS n) 3 true (respOk s.dev))
       else setFlag (SDM_SDnn_STATUS n) 9 true (modSdm n (fun x => { x with
          capture := some ⟨s.dev.ltb.toNat, bit v 2, bit v 1, bits v 23 16, []⟩ }) (respOk s.dev)))) ∧
  (∀ (s : State) (i : Initiator) (n : Fin 24), Acts s → ReadReaches s.dev i (SDM_SDnn_RES n) →
    Goes (exec (.sdmResRead i n) s) s
      (respData (rd s.dev (SDM_SDnn_RES n)) (modSdm n (fun x => { x with unread := false })
        (wr (bank i (SDM_SDnn_TS n)) (rd s.dev (SDM_SDnn_TS n)) s.dev)))) ∧
  (∀ (s : State) (n : Fin 24) (j : Fin 3) (src : Nat) (o : Host.Outcome State Fault Refusal), Acts s →
    (j = 0 ∧ src = Src.SDM_CLK_LOSS ∧ o = exec (.sdmClockLoss n) s)
      ∨ (j = 1 ∧ src = Src.SDM_STUCK ∧ o = exec (.sdmStuckBits n) s)
      ∨ (j = 2 ∧ src = Src.SDM_MAN_ERR ∧ o = exec (.sdmManchesterError n) s) →
    GoesWithin o s [0x4031, 0x4032] (fun d =>
      flag d (SDM_SDnn_STATUS n) j = true ∧ flag d (SDM_SDnn_STATUS n) 8 = false
        ∧ ∀ k : Fin 32, flag s.dev (FCMP_CMPkk_CFG k) 31 = true → flag s.dev (FCMP_CMPkk_CFG k) 5 = false →
            fld s.dev (FCMP_CMPkk_CFG k) 4 0 = n → flag d (FCMP_CMPkk_STATUS k) 0 = flag s.dev (FCMP_CMPkk_CFG k) 30) ∧
    ((∀ k : Fin 32, flag s.dev (FCMP_CMPkk_CFG k) 31 = true → flag s.dev (FCMP_CMPkk_CFG k) 5 = false →
        fld s.dev (FCMP_CMPkk_CFG k) 4 0 ≠ n) →
      GoesRaising o s (setFlag (SDM_SDnn_STATUS n) 8 false (setFlag (SDM_SDnn_STATUS n) j true s.dev)) src n)) ∧
  (∀ (s : State) (n : Fin 24), Acts s →
    ∃ d, Goes (exec (.sdmValidRestore n) s) s d ∧ flag d (SDM_SDnn_STATUS n) 8 = true
      ∧ (∀ k : Fin 32, flag s.dev (SDM_SDnn_STATUS n) 8 = false → flag s.dev (FCMP_CMPkk_CFG k) 31 = true →
          flag s.dev (FCMP_CMPkk_CFG k) 5 = false → fld s.dev (FCMP_CMPkk_CFG k) 4 0 = n →
          flag d (FCMP_CMPkk_STATUS k) 0 = false)
      ∧ ∀ a, a ≠ SDM_SDnn_STATUS n → (∀ k : Fin 32, a ≠ FCMP_CMPkk_STATUS k) → rd d a = rd s.dev a)

/-- FCMP_ASSERT, FCMP_DEASSERT, FCMP_SELF_TEST and FCMP_TEST_RESULT (R135, R137): a comparator asserts only outside
its window and past its filter, counts and reports an assertion once, and a self-test starts only while it is not
asserted. RS_PERIOD_END and MADC_SAMPLE (R140, R141): a period without a reconstruction holds the last one, counts,
and reports after NRMAX in a row; a monitor converter's sample goes to the SIS window alone. Rests on choices of the
model: log entries 35, 36. -/
def Obligations.ComparatorsShuntAndMonitors : Prop :=
  ((∀ (s : State) (k : Fin 32) (x : BitVec 16) (n : Nat), Acts s →
    flag s.dev (FCMP_CMPkk_CFG k) 31 = false ∨ fcmpInvalid s.dev k = true ∨ flag s.dev (FCMP_CMPkk_STATUS k) 0 = true
      ∨ (flag s.dev (FCMP_CMPkk_CFG k) 5 = false ∧ n < fld s.dev (FCMP_CMPkk_CFG k) 15 8)
      ∨ (flag s.dev (FCMP_CMPkk_CFG k) 5 = true ∧ n < fld s.dev (FCMP_CMPkk_CFG k) 23 16)
      ∨ (flag s.dev (FCMP_CMPkk_CFG k) 5 = false ∧ sfld s.dev (FCMP_CMPkk_THR k) 15 0 ≤ x.toInt
          ∧ x.toInt ≤ sfld s.dev (FCMP_CMPkk_THR k) 31 16) →
    Goes (exec (.fcmpAssert k x n) s) s s.dev) ∧
  (∀ (s : State) (k : Fin 32) (x : BitVec 16) (n src : Nat) (dac : Int → Int), Acts s →
    flag s.dev (FCMP_CMPkk_CFG k) 31 = true → fcmpInvalid s.dev k = false → flag s.dev (FCMP_CMPkk_STATUS k) 0 = false →
    src = fld s.dev (FCMP_CMPkk_CFG k) 4 0 →
    (∀ v, dac v = clampInt 0 1023 ((4 * (fld s.dev (ADS_AINnn_CFG src) 13 0 : Int) + v) / 64)) →
    (flag s.dev (FCMP_CMPkk_CFG k) 5 = false ∧ fld s.dev (FCMP_CMPkk_CFG k) 15 8 ≤ n ∧ 1 ≤ n
        ∧ (x.toInt < sfld s.dev (FCMP_CMPkk_THR k) 15 0 ∨ sfld s.dev (FCMP_CMPkk_THR k) 31 16 < x.toInt))
      ∨ (flag s.dev (FCMP_CMPkk_CFG k) 5 = true ∧ fld s.dev (FCMP_CMPkk_CFG k) 23 16 ≤ n
        ∧ ((x.toNat : Int) < 16 * dac (sfld s.dev (FCMP_CMPkk_THR k) 15 0)
          ∨ 16 * dac (sfld s.dev (FCMP_CMPkk_THR k) 31 16) < x.toNat)) →
    GoesWithin (exec (.fcmpAssert k x n) s) s [0x4032] (fun d =>
      flag d (FCMP_CMPkk_STATUS k) 0 = true ∧ flag d (FCMP_CMPkk_STATUS k) 1 = true
        ∧ fld d (FCMP_CMPkk_TRIPCNT k) 15 0 = Nat.min 65535 (fld s.dev (FCMP_CMPkk_TRIPCNT k) 15 0 + 1)
        ∧ ∀ j : Fin 32, j ≠ k → rd d (FCMP_CMPkk_STATUS j) = rd s.dev (FCMP_CMPkk_STATUS j)) ∧
    ((∀ a : Fin 4, dcocNames s.dev a k = false) → (∀ l : Fin 4, flag s.dev (PSP_LKl_OV l) 7 = false) →
      GoesRaising (exec (.fcmpAssert k x n) s) s
        (incFld (FCMP_CMPkk_TRIPCNT k) 15 0
          (setFlag (FCMP_CMPkk_STATUS k) 1 true (setFlag (FCMP_CMPkk_STATUS k) 0 true s.dev))) Src.FCMP_TRIP k)) ∧
  (∀ (s : State) (k : Fin 32) (x : BitVec 16), Acts s →
    Goes (exec (.fcmpDeassert k x) s) s
      (if flag s.dev (FCMP_CMPkk_CFG k) 31 = true ∧ fcmpInvalid s.dev k = false ∧ fcmpOutside s.dev k x = false then
        setFlag (FCMP_CMPkk_STATUS k) 0 false s.dev else s.dev)) ∧
  (∀ (s : State) (i : Initiator) (k : Fin 32) (v : Word), Acts s → WriteReaches s.dev i (FCMP_CMPkk_TEST k) →
    ∃ d, Goes (exec (.fcmpSelfTest i k v) s) s d ∧ d.response = ⟨false, 0⟩
      ∧ (if bit v 0 = false then d = respOk s.dev
         else if flag s.dev (FCMP_CMPkk_STATUS k) 0 = true ∨ s.dev.sense.testing.getLsbD k = true then
           flag d (FCMP_CMPkk_STATUS k) 4 = true ∧ d.sense = s.dev.sense
             ∧ fld d (FCMP_CMPkk_SKIPCNT k) 15 0 = Nat.min 65535 (fld s.dev (FCMP_CMPkk_SKIPCNT k) 15 0 + 1)
             ∧ RegsExcept [FCMP_CMPkk_STATUS k, FCMP_CMPkk_SKIPCNT k] s.dev d
         else d.regs = s.dev.regs ∧ ∀ j : Fin 32,
           d.sense.testing.getLsbD j = (s.dev.sense.testing.getLsbD j || decide (j = k)))) ∧
  (∀ (s : State) (k : Fin 32) (ok : Bool), Acts s → s.dev.sense.testing.getLsbD k = false →
    Goes (exec (.fcmpTestResult k ok) s) s s.dev) ∧
  (∀ (s : State) (k : Fin 32), Acts s → s.dev.sense.testing.getLsbD k = true →
    (∃ d, Goes (exec (.fcmpTestResult k true) s) s d ∧ flag d (FCMP_CMPkk_STATUS k) 2 = true
      ∧ d.sense.testing.getLsbD k = false ∧ RegsExcept [FCMP_CMPkk_STATUS k] s.dev d) ∧
    (∃ d, GoesRaising (exec (.fcmpTestResult k false) s) s d Src.FCMP_TEST_FAIL k ∧ flag d (FCMP_CMPkk_STATUS k) 3 = true
      ∧ d.sense.testing.getLsbD k = false ∧ RegsExcept [FCMP_CMPkk_STATUS k] s.dev d))) ∧
  ((∀ (s : State) (a : Fin 4), Acts s → flag s.dev (ADS_RSa_CFG a) 31 = false →
    Goes (exec (.rsPeriodEnd a) s) s s.dev) ∧
  (∀ (s : State) (a : Fin 4), Acts s → flag s.dev (ADS_RSa_CFG a) 31 = true → (rsChan s.dev a).reconstructed = true →
    Goes (exec (.rsPeriodEnd a) s) s (modRs a (fun x => { x with
      start := some (rd s.dev (EVS_CGg_START (fld s.dev (ADS_RSa_CFG a) 30 28))).toNat, samples := [],
      reconstructed := false, marked := x.markComing, markComing := false }) s.dev)) ∧
  (∀ (s : State) (a : Fin 4), Acts s → flag s.dev (ADS_RSa_CFG a) 31 = true → (rsChan s.dev a).reconstructed = false →
    ∃ d, (if (rsChan s.dev a).run + 1 = fld s.dev (ADS_RSa_CFG a) 23 16 then
        GoesRaising (exec (.rsPeriodEnd a) s) s d Src.ADS_RS_NOREC a ∧ flag d (ADS_RSa_STATUS a) 1 = true
      else Goes (exec (.rsPeriodEnd a) s) s d)
      ∧ fld d (ADS_RSa_IU a) 15 0 = fld s.dev (ADS_RSa_IU a) 15 0 ∧ fld d (ADS_RSa_IV a) 15 0 = fld s.dev (ADS_RSa_IV a) 15 0
      ∧ flag d (ADS_RSa_IU a) 16 = true ∧ flag d (ADS_RSa_IV a) 16 = true ∧ flag d (ADS_RSa_STATUS a) 0 = true
      ∧ fld d (ADS_RSa_NOREC_CNT a) 15 0 = Nat.min 65535 (fld s.dev (ADS_RSa_NOREC_CNT a) 15 0 + 1)
      ∧ (rsChan d a).run = (rsChan s.dev a).run + 1 ∧ (rsChan d a).samples = []
      ∧ rd d (ADS_RSa_TS a) = rd s.dev (ADS_RSa_TS a)
      ∧ RegsWithin [0x4030, 0x4040, 0x4041, 0x4042, 0x4043, 0x4044] s.dev d) ∧
  (∀ (s : State) (k : Fin 8) (code : BitVec 12), Acts s → s.dev.sis.running = false ∨ mainUse s.dev k = 0 →
    Goes (exec (.madcSample k code) s) s s.dev) ∧
  (∀ (s : State) (k : Fin 8) (code : BitVec 12), Acts s → s.dev.sis.running = true → mainUse s.dev k ≠ 0 →
    mainUse s.dev k ≠ 1 → (∀ l : Fin 4, (sisLink s.dev l).seq = .idle) →
    ∃ d, Goes (exec (.madcSample k code) s) s d
      ∧ fld d (SIS_MAIN k) 15 0 = unsigned 16 (mainConvert s.dev k code.toNat 1)
      ∧ vget d.sis.madc k = lastN 25 (vget s.dev.sis.madc k ++ [code.toNat])
      ∧ RegsExcept [SIS_MAIN k] s.dev d ∧ d.sense = s.dev.sense) ∧
  (∀ (s : State) (k : Fin 8) (code : BitVec 12), Acts s → s.dev.sis.running = true → mainUse s.dev k = 1 →
    GoesWithin (exec (.madcSample k code) s) s [0x5000] (fun d =>
      fld d (SIS_MAIN k) 15 0 = unsigned 16 (mainConvert s.dev k code.toNat 1) ∧ d.sense = s.dev.sense)))

/-! ## Control Engines -/

/-- The axis's engine `n` engineServes axis `a` alone: the axis's status and the engine's state name each other, and no planned
handover runs. -/
def engineServes (d : Dev) (n a : Nat) : Prop :=
  servingEngine d a = some n ∧ ceRole d n = 1 ∧ ceAxisOf d n = a ∧ d.cea.handover = none
/-- CE_SAMPLE_START, CE_EXECUTION_DONE, CE_RELEASE_COMPLETE and CE_DEADLINE (R154, R155, R164–R166, R172): the copy of
the inputs at the start, the commit of the state on a good flow signature, the release, and the overrun; during a
takeover a start is held. Rests on choices of the model: log entry 37. -/
def Obligations.EngineSamples : Prop :=
  (∀ (s : State) (i : Initiator) (a : Fin 4) (v : Word), Acts s → WriteReaches s.dev i (CEA_AXa_START a) →
    bit v 0 = false → Goes (exec (.ceSampleStart i a v) s) s (respOk s.dev)) ∧
  (∀ (s : State) (i : Initiator) (a : Fin 4) (n : Fin 5) (v : Word), Acts s → WriteReaches s.dev i (CEA_AXa_START a) →
    bit v 0 = true → (ceAxis s.dev a).takeover = .none → engineServes s.dev n a →
    GoesWithin (exec (.ceSampleStart i a v) s) s [0x4040, 0x4041, 0x4042, 0x4043, 0x4044, 0x4048] (fun d =>
      ∃ r, (engine d n).run = some r ∧ r.axis = a ∧ r.start = s.dev.ltb.toNat ∧ r.result = none ∧ r.outOfCycle = false
        ∧ (∀ k : Fin 64, listGet 0 r.frame k = fld s.dev (CEA_CEn_INa_kk n a k) 15 0
            ∧ listGet 0 r.frame (64 + k) = fld s.dev (CEA_CEn_INa_kk n a k) 20 16
            ∧ flag d (CEA_CEn_INa_kk n a k) 16 = false)
        ∧ rd d (CEA_AXa_T_START a) = BitVec.ofNat 32 s.dev.ltb.toNat ∧ flag d (CEA_AXa_STATUS a) 8 = true
        ∧ r.variant < 8 ∧ fld d (CEA_AXa_STATUS a) 6 4 = r.variant
        ∧ (fld s.dev (CEA_AXa_FC_STATUS a) 17 13 = 0 → setState s.dev a 1 ≠ 5 → (pspAxis s.dev a).continuation = none →
            r.variant = fld s.dev (CEA_AXa_CFG a) 2 0)
        ∧ fld d (CEA_AXa_OVR_CNT a) 15 0 = (if (engine s.dev n).run.isSome then
            Nat.min 65535 (fld s.dev (CEA_AXa_OVR_CNT a) 15 0 + 1) else fld s.dev (CEA_AXa_OVR_CNT a) 15 0)
        ∧ ((engine s.dev n).run.isSome = true → flag d (CEA_AXa_STATUS a) 16 = true)
        ∧ ∀ m : Fin 5, m ≠ n → (engine d m).run = (engine s.dev m).run)) ∧
  (∀ (s : State) (i : Initiator) (a : Fin 4) (v : Word), Acts s → WriteReaches s.dev i (CEA_AXa_START a) →
    bit v 0 = true → (ceAxis s.dev a).takeover ≠ .none → (ceAxis s.dev a).held = false →
    ∃ d, Goes (exec (.ceSampleStart i a v) s) s d ∧ (ceAxis d a).held = true ∧ flag d (CEA_AXa_STATUS a) 18 = true
      ∧ RegsExcept [CEA_AXa_STATUS a] s.dev d ∧ d.cea.engines = s.dev.cea.engines ∧ d.response = ⟨false, 0⟩) ∧
  (∀ (s : State) (n : Fin 5) (c : Nat) (g : Word), Acts s →
    (∀ r, (engine s.dev n).run = some r → r.result.isSome = true) →
    Goes (exec (.ceExecutionDone n c g) s) s s.dev) ∧
  (∀ (s : State) (n : Fin 5) (c : Nat) (r : CeRun) (p : CeProg), Acts s → (engine s.dev n).run = some r →
    r.result = none → r.axis < 4 → progOf s.dev r.axis r.variant = some p → p.insts.length ≤ 1024 →
    s.dev.cea.handover = none →
    ∃ (d : Dev) (res : CeResult), Goes (exec (.ceExecutionDone n c p.flowsig) s) s d
      ∧ (engine d n).run = some { r with result := some res } ∧ res.cycles = c
      ∧ res.before = partition_ s.dev n r.axis
      ∧ res.writes = (runProg p (partition_ s.dev n r.axis) r.frame r.wmin).writes
      ∧ partition_ d n r.axis = (runProg p (partition_ s.dev n r.axis) r.frame r.wmin).work
      ∧ rd d (CEA_CEn_FLOWSIG n) = p.flowsig
      ∧ (∀ b : Fin 4, b.val ≠ r.axis → partition_ d n b = partition_ s.dev n b)
      ∧ (∀ x, x / 0x10000 ≠ 0x4040 + n.val → rd d x = rd s.dev x)
      ∧ ∀ m : Fin 5, m ≠ n → engine d m = engine s.dev m) ∧
  (∀ (s : State) (n : Fin 5) (c : Nat) (g : Word) (r : CeRun) (p : CeProg), Acts s → (engine s.dev n).run = some r →
    r.result = none → r.axis < 4 → progOf s.dev r.axis r.variant = some p → p.insts.length ≤ 1024 → g ≠ p.flowsig →
    ceRole s.dev n ≠ 5 → s.dev.cea.handover = none → spareEngine s.dev ≠ some n.val →
    GoesWithin (exec (.ceExecutionDone n c g) s) s [0x4006, 0x4040, 0x4041, 0x4042, 0x4043, 0x4044, 0x4048] (fun d =>
      (engine d n).run = none ∧ partition_ d n r.axis = partition_ s.dev n r.axis ∧ flag d (CEA_CEn_FAULT n) 1 = true
        ∧ ceRole d n = 5 ∧ rd d (CEA_CEn_FLOWSIG n) = g)) ∧
  (∀ (s : State) (n : Fin 5), Acts s → (∀ r, (engine s.dev n).run = some r → r.result = none) →
    Goes (exec (.ceReleaseComplete n) s) s s.dev) ∧
  (∀ (s : State) (n : Fin 5) (r : CeRun), Acts s → (engine s.dev n).run = some r → r.result.isSome = true →
    ceRole s.dev n ≠ 1 →
    Goes (exec (.ceReleaseComplete n) s) s (modEngine n (fun e => { e with run := none }) s.dev)) ∧
  (∀ (s : State) (n : Fin 5) (a : Fin 4) (r : CeRun) (res : CeResult), Acts s → (engine s.dev n).run = some r →
    r.result = some res → r.axis = a → r.outOfCycle = false → ceRole s.dev n = 1 → s.dev.cea.handover = none →
    GoesWithin (exec (.ceReleaseComplete n) s) s
      [0x4010, 0x4011, 0x4012, 0x4020, 0x4040, 0x4041, 0x4042, 0x4043, 0x4044, 0x4048, 0x4050] (fun d =>
      (engine d n).run = none ∧ rd d (CEA_AXa_SAMPLE_CNT a) = rd s.dev (CEA_AXa_SAMPLE_CNT a) + 1
        ∧ rd d (CEA_AXa_T_REL a) = BitVec.ofNat 32 s.dev.ltb.toNat ∧ flag d (CEA_AXa_STATUS a) 8 = false
        ∧ fld d (CEA_AXa_OVR_CNT a) 23 16 = 0 ∧ fld d (CEA_CEn_CYCLES n) 23 0 = res.cycles % 16777216
        ∧ (∃ k, (ceAxis d a).ckpt = some k ∧ k.seq = (rd s.dev (CEA_AXa_SAMPLE_CNT a) + 1).toNat)
        ∧ partition_ d n a = partition_ s.dev n a)) ∧
  (∀ (s : State) (n : Fin 5) (a : Fin 4) (r : CeRun), Acts s → engineServes s.dev n a → (engine s.dev n).run = some r →
    r.outOfCycle = true ∨ fld s.dev (CEA_AXa_DEADLINE a) 19 0 = 0 ∨
      s.dev.ltb.toNat < r.start + fld s.dev (CEA_AXa_DEADLINE a) 19 0 →
    Goes (exec (.ceDeadline a) s) s s.dev) ∧
  (∀ (s : State) (n : Fin 5) (a : Fin 4) (r : CeRun), Acts s → engineServes s.dev n a → (engine s.dev n).run = some r →
    r.outOfCycle = false → r.axis = a → fld s.dev (CEA_AXa_DEADLINE a) 19 0 ≠ 0 →
    r.start + fld s.dev (CEA_AXa_DEADLINE a) 19 0 ≤ s.dev.ltb.toNat →
    GoesWithin (exec (.ceDeadline a) s) s [0x4048] (fun d =>
      (engine d n).run = none ∧ flag d (CEA_AXa_STATUS a) 16 = true ∧ flag d (CEA_AXa_STATUS a) 8 = false
        ∧ fld d (CEA_AXa_OVR_CNT a) 15 0 = Nat.min 65535 (fld s.dev (CEA_AXa_OVR_CNT a) 15 0 + 1)
        ∧ rd d (CEA_AXa_SAMPLE_CNT a) = rd s.dev (CEA_AXa_SAMPLE_CNT a)
        ∧ partition_ d n a = (match r.result with | some res => res.before | none => partition_ s.dev n a)))

/-- CE_RESIDUE_ERROR, CE_HANG_TIMEOUT, CE_ECC_ERROR, CE_TAKEOVER_SELECTED and CE_OUT_OF_CYCLE_START (R169, R172,
R354): a fault isolates the engine and the spare takes its axis; without a spare the axis has none; the takeover waits
for SIS's release and then runs a sample outside its cycle. Rests on choices of the model: log entries 37, 38. -/
def Obligations.EngineFaultsAndTakeover : Prop :=
  (∀ (s : State) (n : Fin 5), Acts s → (engine s.dev n).run = none →
    Goes (exec (.ceHangTimeout n) s) s s.dev ∧ Goes (exec (.ceEccError n) s) s s.dev) ∧
  (∀ (s : State) (n : Fin 5), Acts s → ceRole s.dev n = 5 → Goes (exec (.ceResidueError n) s) s s.dev) ∧
  (∀ (s : State) (n : Fin 5) (r : CeRun), Acts s → (engine s.dev n).run = some r → s.dev.ltb.toNat < r.start + 2000 →
    Goes (exec (.ceHangTimeout n) s) s s.dev) ∧
  (∀ (s : State) (n m : Fin 5) (a : Fin 4) (j : Fin 4) (o : Host.Outcome State Fault Refusal), Acts s →
    engineServes s.dev n a → spareEngine s.dev = some m.val → m ≠ n →
    (j = 0 ∧ o = exec (.ceResidueError n) s)
      ∨ (j = 2 ∧ o = exec (.ceHangTimeout n) s ∧
          ∃ r, (engine s.dev n).run = some r ∧ r.result = none ∧ r.start + 2000 ≤ s.dev.ltb.toNat)
      ∨ (j = 3 ∧ o = exec (.ceEccError n) s ∧ ∃ r, (engine s.dev n).run = some r ∧ r.result = none) →
    GoesWithin o s [0x4006, 0x4040, 0x4041, 0x4042, 0x4043, 0x4044, 0x4048] (fun d =>
      flag d (CEA_CEn_FAULT n) j = true ∧ ceRole d n = 5 ∧ (engine d n).run = none
        ∧ fld d (CEA_AXa_STATUS a) 2 0 = m ∧ ceRole d m = 1 ∧ ceAxisOf d m = a ∧ flag d (CEA_AXa_STATUS a) 9 = true
        ∧ (ceAxis d a).takeover = .selecting ∧ spareEngine d ≠ some m.val ∧ spareEngine d ≠ some n.val)) ∧
  (∀ (s : State) (n : Fin 5) (a : Fin 4), Acts s → engineServes s.dev n a → spareEngine s.dev = none →
    GoesWithin (exec (.ceResidueError n) s) s [0x4006, 0x4040, 0x4041, 0x4042, 0x4043, 0x4044, 0x4048] (fun d =>
      flag d (CEA_CEn_FAULT n) 0 = true ∧ ceRole d n = 5 ∧ fld d (CEA_AXa_STATUS a) 2 0 = 7
        ∧ flag d (CEA_AXa_STATUS a) 8 = false ∧ (ceAxis d a).takeover = (ceAxis s.dev a).takeover)) ∧
  (∀ (s : State) (a : Fin 4), Acts s → (ceAxis s.dev a).takeover ≠ .selecting →
    Goes (exec (.ceTakeoverSelected a) s) s s.dev) ∧
  (∀ (s : State) (a : Fin 4) (m : Fin 5), Acts s → (ceAxis s.dev a).takeover = .selecting →
    servingEngine s.dev a = some m.val → ceRole s.dev m = 1 →
    ∃ d, Goes (exec (.ceTakeoverSelected a) s) s d ∧ (ceAxis d a).takeover = .awaitRelease
      ∧ fld d (CEA_AXa_STATUS a) 6 4 = chooseVariant s.dev a % 8
      ∧ flag d (CEA_AXa_STATUS a) 19 = (flag s.dev (CEA_AXa_STATUS a) 19 ||
          decide (rd s.dev (CEA_AXa_CKPT_SEQ a) ≠ rd s.dev (CEA_AXa_SAMPLE_CNT a)))
      ∧ d.glk.orders = s.dev.glk.orders ++ (if flag s.dev SIS_STATE (8 + a) then
          (axisPorts s.dev a).map (fun p => ⟨.sis, .release, p⟩) else [])
      ∧ RegsExcept [CEA_AXa_STATUS a] s.dev d) ∧
  (∀ (s : State) (a : Fin 4) (p : Nat), Acts s →
    (ceAxis s.dev a).takeover ≠ .awaitRelease ∨ (p ∈ axisPorts s.dev a ∧ ⟨.sis, .release, p⟩ ∈ s.dev.glk.orders) →
    Goes (exec (.ceOutOfCycleStart a) s) s s.dev) ∧
  (∀ (s : State) (a : Fin 4) (n : Fin 5), Acts s → (ceAxis s.dev a).takeover = .awaitRelease → engineServes s.dev n a →
    (∀ p ∈ axisPorts s.dev a, ⟨.sis, .release, p⟩ ∉ s.dev.glk.orders) →
    GoesWithin (exec (.ceOutOfCycleStart a) s) s [0x4040, 0x4041, 0x4042, 0x4043, 0x4044, 0x4048] (fun d =>
      (ceAxis d a).takeover = .running ∧ flag d (CEA_AXa_STATUS a) 8 = true
        ∧ ∃ r, (engine d n).run = some r ∧ r.outOfCycle = true ∧ r.start = s.dev.ltb.toNat ∧ r.axis = a))

/-- FR_ASC_HOLD_END, FR_WINDOW_END, CE_CHECKPOINT_ARRIVE, CE_HANDOVER_REQUEST, CE_READMIT and CE_FLAG_CLEAR (R164,
R170, R171, R173, R202): the steps of a flying restart, the checkpoint in the spare, the request of a planned handover
with its two refusals, and the two clearing writes. Rests on choices of the model: log entries 38, 39. -/
def Obligations.RestartHandoverAndCheckpoints : Prop :=
  (∀ (s : State) (a : Fin 4), Acts s → fld s.dev (CEA_AXa_FC_STATUS a) 15 13 ≠ 1 ∨
      s.dev.ltb.toNat < (ceAxis s.dev a).frSince + 80000 * fld s.dev (CEA_AXa_FR_TIME a) 31 16 →
    Goes (exec (.frAscHoldEnd a) s) s s.dev) ∧
  (∀ (s : State) (a : Fin 4), Acts s → fld s.dev (CEA_AXa_FC_STATUS a) 15 13 = 1 →
    (ceAxis s.dev a).frSince + 80000 * fld s.dev (CEA_AXa_FR_TIME a) 31 16 ≤ s.dev.ltb.toNat →
    ∃ d, Goes (exec (.frAscHoldEnd a) s) s d ∧ fld d (CEA_AXa_FC_STATUS a) 15 13 = 2
      ∧ (ceAxis d a).frSince = s.dev.ltb.toNat ∧ setState d a 1 = 4
      ∧ RegsExcept [CEA_AXa_FC_STATUS a, PSP_AXa_STATE a] s.dev d) ∧
  (∀ (s : State) (a : Fin 4), Acts s → fld s.dev (CEA_AXa_FC_STATUS a) 15 13 ≠ 2 ∨
      s.dev.ltb.toNat < (ceAxis s.dev a).frSince + 8000 * fld s.dev (CEA_AXa_FR_TIME a) 15 0 →
    Goes (exec (.frWindowEnd a) s) s s.dev) ∧
  (∀ (s : State) (a : Fin 4), Acts s → fld s.dev (CEA_AXa_FC_STATUS a) 15 13 = 2 →
    (ceAxis s.dev a).frSince + 8000 * fld s.dev (CEA_AXa_FR_TIME a) 15 0 ≤ s.dev.ltb.toNat →
    ∃ d, GoesRaising (exec (.frWindowEnd a) s) s d Src.CEA_FLYRES_FAIL a ∧ fld d (CEA_AXa_FC_STATUS a) 15 13 = 4
      ∧ flag d (CEA_AXa_FC_STATUS a) 28 = true ∧ RegsExcept [CEA_AXa_FC_STATUS a, PSP_AXa_STATE a] s.dev d) ∧
  (∀ (s : State) (a : Fin 4) (g : Bool), Acts s → (ceAxis s.dev a).ckpt = none →
    Goes (exec (.ceCheckpointArrive a g) s) s s.dev) ∧
  (∀ (s : State) (a : Fin 4) (k : Checkpoint), Acts s → (ceAxis s.dev a).ckpt = some k →
    Goes (exec (.ceCheckpointArrive a false) s) s (modCeAxis a (fun x => { x with ckpt := none }) s.dev)) ∧
  (∀ (s : State) (a : Fin 4) (k : Checkpoint) (m : Fin 5), Acts s → (ceAxis s.dev a).ckpt = some k →
    s.dev.cea.handover = none → ceRole s.dev m = 0 →
    ∃ d, Goes (exec (.ceCheckpointArrive a true) s) s d ∧ rd d (CEA_AXa_CKPT_SEQ a) = BitVec.ofNat 32 k.seq
      ∧ partition_ d m a = k.words.foldl (fun w x => wordSet w x.1 x.2) (partition_ s.dev m a)
      ∧ (∀ n : Fin 5, ceRole s.dev n = 1 → engine d n = engine s.dev n)
      ∧ RegsExcept [CEA_AXa_CKPT_SEQ a] s.dev d) ∧
  (∀ (s : State) (a : Fin 4) (h : Handover), Acts s → (ceAxis s.dev a).ckpt.isSome = true →
    s.dev.cea.handover = some h → h.axis = a → h.shadow = false → h.completed = true → h.incoming < 5 →
    ∃ d, Goes (exec (.ceCheckpointArrive a true) s) s d ∧ d.cea.handover = some { h with shadow := true }
      ∧ ceRole d h.incoming = 2 ∧ ceAxisOf d h.incoming = a ∧ fld d CEA_HANDOVER_STATUS 1 0 = 2) ∧
  (∀ (s : State) (i : Initiator) (v : Word), Acts s → WriteReaches s.dev i CEA_HANDOVER → bit v 31 = false →
    Goes (exec (.ceHandoverRequest i v) s) s (respOk s.dev)) ∧
  (∀ (s : State) (i : Initiator) (v : Word), Acts s → WriteReaches s.dev i CEA_HANDOVER → bit v 31 = true →
    s.dev.cea.handover.isSome = true →
    Goes (exec (.ceHandoverRequest i v) s) s (setFld CEA_HANDOVER_STATUS 10 8 2 (respOk s.dev))) ∧
  (∀ (s : State) (i : Initiator) (v : Word), Acts s → WriteReaches s.dev i CEA_HANDOVER → bit v 31 = true →
    s.dev.cea.handover = none → (∀ a : Fin 4, (ceAxis s.dev a).takeover = .none) →
    spareEngine s.dev ≠ some (bits v 6 4) →
    Goes (exec (.ceHandoverRequest i v) s) s (setFld CEA_HANDOVER_STATUS 10 8 3 (respOk s.dev))) ∧
  (∀ (s : State) (i : Initiator) (v : Word) (n : Nat), Acts s → WriteReaches s.dev i CEA_HANDOVER → bit v 31 = true →
    s.dev.cea.handover = none → (∀ a : Fin 4, (ceAxis s.dev a).takeover = .none) →
    spareEngine s.dev = some (bits v 6 4) → ceRole s.dev (bits v 6 4) = 0 → servingEngine s.dev (bits v 1 0) = some n →
    ∃ d, Goes (exec (.ceHandoverRequest i v) s) s d ∧ d.response = ⟨false, 0⟩
      ∧ d.cea.handover = some ⟨bits v 1 0, bits v 6 4, n, false, false⟩
      ∧ flag d (CEA_AXa_STATUS (bits v 1 0)) 10 = true ∧ fld d CEA_HANDOVER_STATUS 1 0 = 1
      ∧ fld d CEA_HANDOVER_STATUS 6 4 = 0 ∧ fld d CEA_HANDOVER_STATUS 10 8 = 0
      ∧ RegsExcept [CEA_AXa_STATUS (bits v 1 0), CEA_HANDOVER_STATUS] s.dev d) ∧
  (∀ (s : State) (i : Initiator) (v : Word), Acts s → WriteReaches s.dev i CEA_READMIT →
    ∃ d, Goes (exec (.ceReadmit i v) s) s d ∧ d.response = ⟨false, 0⟩
      ∧ (∀ n : Fin 5, ceRole d n =
          (if bit v n && decide (ceRole s.dev n = 4 ∨ ceRole s.dev n = 5) && flag s.dev (CEA_CEn_STATE n) 9 then 0
           else ceRole s.dev n))
      ∧ (∀ n : Fin 5, spareEngine s.dev = some n.val → spareEngine d = some n.val)) ∧
  (∀ (s : State) (i : Initiator) (n : Fin 5) (v : Word), Acts s → WriteReaches s.dev i (CEA_CEn_FLAGCLR n) →
    ∃ d, Goes (exec (.ceFlagClear i n v) s) s d ∧ d.response = ⟨false, 0⟩
      ∧ (bit v 31 = true → rd d (CEA_CEn_STICKY n) = 0 ∧ (engine d n).flagged = false
          ∧ ∀ w : Fin 64, rd d (CEA_CEn_IFLAG n w) = 0)
      ∧ (bit v 31 = false → d.cea = s.dev.cea ∧ ∀ k : Fin 1024,
          fld d (CEA_CEn_IFLAG n (k / 16)) (2 * (k % 16) + 1) (2 * (k % 16)) =
            (if k.val = bits v 9 0 then 0
             else fld s.dev (CEA_CEn_IFLAG n (k / 16)) (2 * (k % 16) + 1) (2 * (k % 16))))
      ∧ ∀ x, x / 0x10000 ≠ 0x4040 + n.val → rd d x = rd s.dev x)

/-! ## Modulation and edge generation -/
/-- PWM_STAGE_COPY, PWM_LOAD_INSTANT, PWM_PERIOD_START and PWM_SHADOW_WRITE (R214, R216, R220–R224): a write stands in
the shadow, 16 ticks before the Load Instant the shadows are copied, at the Load Instant the copy becomes live for the
period that starts LEAD later; a write in the lock window is reported late; a paired PERIOD waits for every leg. Rests
on choices of the model: log entries 41, 42. -/
def Obligations.LoadInstantsAndShadows : Prop :=
  (∀ (s : State) (g : Fin 8), Acts s → (∀ t ∈ pendingTxs s.dev, t.kind ≠ 1) →
    (group s.dev g).running = false ∨ (group s.dev g).staged = true
      ∨ s.dev.ltb.toNat + 16 < (group s.dev g).nextLi →
    Goes (exec (.pwmStageCopy g) s) s s.dev) ∧
  (∀ (s : State) (g : Fin 8) (x : Group), Acts s → (∀ t ∈ pendingTxs s.dev, t.kind ≠ 1) → x = group s.dev g →
    x.running = true → x.staged = false → x.nextLi ≤ s.dev.ltb.toNat + 16 → x.stopping = false → x.pending = none →
    ∃ d, Goes (exec (.pwmStageCopy g) s) s d ∧ d.regs = s.dev.regs
      ∧ (group d g).staged = true ∧ (group d g).freshPeriod = false
      ∧ (group d g).stagedPeriod = (if x.freshPeriod = true ∨ x.comingPeriod = 0 then fld s.dev (PWM_CGg_PERIOD g) 19 0
          else x.comingPeriod)
      ∧ (group d g).stagedSplit = (x.freshPeriod && (groupLegs s.dev g).any (fun l => !(leg s.dev l).fresh))
      ∧ (group d g).stagedTimeout = false
      ∧ ∀ l : Fin 32, (l.val ∈ groupLegs s.dev g →
            (leg d l).staged = shadowVals s.dev l ∧ (leg d l).stagedFresh = (leg s.dev l).fresh
              ∧ (leg d l).fresh = false ∧ (leg d l).live = (leg s.dev l).live) ∧
          (l.val ∉ groupLegs s.dev g → leg d l = leg s.dev l)) ∧
  (∀ (s : State) (g : Fin 8) (x : Group) (q : PendingPeriod), Acts s → (∀ t ∈ pendingTxs s.dev, t.kind ≠ 1) →
    x = group s.dev g → x.running = true → x.staged = false → x.nextLi ≤ s.dev.ltb.toNat + 16 → x.stopping = false →
    x.pending = some q →
    ∃ d, Goes (exec (.pwmStageCopy g) s) s d ∧ (group d g).staged = true
      ∧ ((∀ l ∈ groupLegs s.dev g, q.written.getLsbD l = true) →
          (group d g).stagedPeriod = q.value ∧ (group d g).pending = none ∧ flag d (PWM_CGg_STATUS g) 1 = false
            ∧ (group d g).stagedTimeout = false)
      ∧ ((∃ l ∈ groupLegs s.dev g, q.written.getLsbD l = false) → 3 ≤ q.loads →
          (group d g).stagedPeriod = takenPeriod s.dev g ∧ (group d g).pending = none
            ∧ flag d (PWM_CGg_STATUS g) 1 = false ∧ (group d g).stagedTimeout = true)
      ∧ ((∃ l ∈ groupLegs s.dev g, q.written.getLsbD l = false) → q.loads < 3 →
          (group d g).stagedPeriod = takenPeriod s.dev g ∧ (group d g).pending = some { q with loads := q.loads + 1 }
            ∧ d.regs = s.dev.regs
            ∧ ∀ l : Fin 32, l.val ∈ groupLegs s.dev g → q.written.getLsbD l = true →
                (leg d l).staged.duty = (leg s.dev l).live.duty)) ∧
  (∀ (s : State) (g : Fin 8), Acts s → (group s.dev g).running = false ∨ (group s.dev g).staged = false
      ∨ s.dev.ltb.toNat < (group s.dev g).nextLi →
    Goes (exec (.pwmLoadInstant g) s) s s.dev) ∧
  (∀ (s : State) (g : Fin 8) (x : Group), Acts s → x = group s.dev g → x.running = true → x.staged = true →
    x.nextLi ≤ s.dev.ltb.toNat → x.stopping = false →
    GoesWithin (exec (.pwmLoadInstant g) s) s [0x4050, 0x4060] (fun d =>
      (group d g).comingStart = x.nextStart ∧ (group d g).comingPeriod = x.stagedPeriod
        ∧ (group d g).nextStart = x.nextStart + x.stagedPeriod
        ∧ (group d g).nextLi = x.nextStart + x.stagedPeriod - fld s.dev (PWM_CGg_LEAD g) 13 0
        ∧ (group d g).loaded = true ∧ (group d g).staged = false
        ∧ rd d (PWM_CGg_NEXT_LI g) = BitVec.ofNat 32 (group d g).nextLi
        ∧ (x.stagedSplit = true → flag d (PWM_CGg_STATUS g) 5 = true)
        ∧ (x.stagedTimeout = true → flag d (PWM_CGg_STATUS g) 6 = true)
        ∧ ∀ l : Fin 32, l.val ∈ groupLegs s.dev g → (leg s.dev l).stopping = false → (leg s.dev l).oldGroup = none →
            (leg d l).live = (leg s.dev l).staged
              ∧ ((leg s.dev l).staged.src = true →
                  rd d (PWM_PLnn_LIVE0 l) = BitVec.ofNat 32 (Nat.min (bits (leg s.dev l).staged.cmp0 22 0) (8 * x.stagedPeriod))
                    ∧ rd d (PWM_PLnn_LIVE1 l) =
                      BitVec.ofNat 32 (Nat.min (bits (leg s.dev l).staged.cmp1 22 0) (8 * x.stagedPeriod)))
              ∧ ((leg s.dev l).staged.src = false → x.stagedAlign = 0 → bits x.stagedSs 17 16 = 0 →
                  rd d (PWM_PLnn_LIVE0 l) =
                      BitVec.ofNat 32 ((32768 - (sbits (leg s.dev l).staged.duty 15 0).toNat) * (8 * x.stagedPeriod) / 65536)
                    ∧ rd d (PWM_PLnn_LIVE1 l) =
                      BitVec.ofNat 32 ((32768 + (sbits (leg s.dev l).staged.duty 15 0).toNat) * (8 * x.stagedPeriod) / 65536)))) ∧
  (∀ (s : State) (g : Fin 8), Acts s → (group s.dev g).running = false ∨ (group s.dev g).loaded = false
      ∨ s.dev.ltb.toNat < (group s.dev g).comingStart →
    Goes (exec (.pwmPeriodStart g) s) s s.dev) ∧
  (∀ (s : State) (g : Fin 8) (x : Group), Acts s → x = group s.dev g → x.running = true → x.loaded = true →
    x.comingStart ≤ s.dev.ltb.toNat →
    ∃ d, Goes (exec (.pwmPeriodStart g) s) s d
      ∧ (x.stopping = false → (group d g).start = x.comingStart ∧ (group d g).period = x.comingPeriod
          ∧ (group d g).running = true
          ∧ rd d (PWM_CGg_START g) = BitVec.ofNat 32 x.comingStart ∧ rd d (PWM_CGg_LIVEPER g) = BitVec.ofNat 32 x.comingPeriod
          ∧ rd d (EVS_CGg_START g) = BitVec.ofNat 32 x.comingStart
          ∧ rd d (EVS_CGg_PERIOD g) = BitVec.ofNat 32 x.comingPeriod)
      ∧ (x.stopping = true → (group d g).running = false ∧ flag d (PWM_CGg_STATUS g) 0 = false
          ∧ rd d (PWM_CGg_LIVEPER g) = 0 ∧ rd d (EVS_CGg_PERIOD g) = 0
          ∧ ∀ l : Fin 32, l.val ∈ groupLegs s.dev g → legState s.dev l ≠ 3 → legState d l = 0)
      ∧ (group d g).loaded = false ∧ ∀ a, a / 0x10000 ≠ 0x4050 → a / 0x10000 ≠ 0x4011 → rd d a = rd s.dev a) ∧
  (∀ (s : State) (i : Initiator) (r : PwmShadow) (v : Word), Acts s → WriteReaches s.dev i (shadowAddr r) →
    rangesOkAt (shadowAddr r) v = false ∨ (pwmCheck s.dev (storePlain (shadowAddr r) v s.dev) (shadowAddr r)).isSome = true →
    Goes (exec (.pwmShadowWrite i r v) s) s (respErr s.dev)) ∧
  (∀ (s : State) (i : Initiator) (r : PwmShadow) (v : Word), Acts s → WriteReaches s.dev i (shadowAddr r) →
    rangesOkAt (shadowAddr r) v = true → pwmCheck s.dev (storePlain (shadowAddr r) v s.dev) (shadowAddr r) = none →
    (∀ g, r ≠ .period g) →
    GoesWithin (exec (.pwmShadowWrite i r v) s) s [0x4050] (fun d => d.response = ⟨false, 0⟩
      ∧ (regRow? (shadowAddr r)).map (fun x => x.stored (rd s.dev (shadowAddr r)) v) = some (rd d (shadowAddr r)))) ∧
  (∀ (s : State) (i : Initiator) (l : Fin 32) (v : Word), Acts s → WriteReaches s.dev i (PWM_PLnn_DUTY l) →
    rangesOkAt (PWM_PLnn_DUTY l) v = true → (∀ n, i ≠ .engine n) →
    ∃ d, (if (group s.dev (legGroup s.dev l)).running = true
          ∧ (group s.dev (legGroup s.dev l)).nextLi ≤ s.dev.ltb.toNat + 16
          ∧ s.dev.ltb.toNat < (group s.dev (legGroup s.dev l)).nextLi then
        GoesRaising (exec (.pwmShadowWrite i (.duty l) v) s) s d Src.PWM_LATE l ∧ flag d (PWM_PLnn_STATUS l) 6 = true
          ∧ RegsExcept [PWM_PLnn_DUTY l, PWM_PLnn_STATUS l] s.dev d
      else Goes (exec (.pwmShadowWrite i (.duty l) v) s) s d ∧ RegsExcept [PWM_PLnn_DUTY l] s.dev d)
      ∧ fld d (PWM_PLnn_DUTY l) 15 0 = bits v 15 0 ∧ (leg d l).fresh = true
      ∧ (leg d l).valueBasis = s.dev.ltb.toNat ∧ (leg d l).live = (leg s.dev l).live) ∧
  (∀ (s : State) (i : Initiator) (g : Fin 8) (v : Word), Acts s → WriteReaches s.dev i (PWM_CGg_PERIOD g) →
    rangesOkAt (PWM_CGg_PERIOD g) v = true →
    pwmCheck s.dev (storePlain (PWM_CGg_PERIOD g) v s.dev) (PWM_CGg_PERIOD g) = none →
    ∃ d, (Goes (exec (.pwmShadowWrite i (.period g) v) s) s d ∨
        GoesRaising (exec (.pwmShadowWrite i (.period g) v) s) s d Src.PWM_LATE g)
      ∧ fld d (PWM_CGg_PERIOD g) 19 0 = bits v 19 0 ∧ RegsExcept [PWM_CGg_PERIOD g, PWM_CGg_STATUS g] s.dev d
      ∧ (if (group s.dev g).paired then flag d (PWM_CGg_STATUS g) 1 = true ∧ (group d g).pending = some ⟨bits v 19 0, 0, 0⟩
         else (group d g).freshPeriod = true ∧ (group d g).pending = (group s.dev g).pending))

/-- PWM_TRIP, PWM_BLANK_END, PWM_LATCH_CLEAR, PWM_CMP_MISMATCH and TRIP_PIN_EDGE (R228–R231, R350): a selected source
outside the blanking turns the leg's switches off at once, trips in a row latch the leg, and a latch clears only while
the leg is safe-owned or its group is stopped. Rests on choices of the model: log entry 43. -/
def Obligations.TripsAndLatches : Prop :=
  (∀ (s : State) (l k : Fin 32), Acts s →
    flag s.dev (PWM_PLnn_TRIPSEL0 l) k = false ∨ flag s.dev (FCMP_CMPkk_STATUS k) 0 = false ∨ legBlanked s.dev l = true →
    Goes (exec (.pwmTrip l (.fcmp k)) s) s s.dev) ∧
  (∀ (s : State) (l : Fin 32) (k : Fin 8), Acts s →
    flag s.dev (PWM_PLnn_TRIPSEL1 l) k = false ∨ s.dev.pwm.pins.getLsbD k ≠ flag s.dev PWM_TRIP_CFG k
      ∨ legBlanked s.dev l = true →
    Goes (exec (.pwmTrip l (.pin k)) s) s s.dev) ∧
  (∀ (s : State) (l : Fin 32), Acts s → (leg s.dev l).report = false →
    Goes (exec (.pwmTrip l .driver) s) s s.dev) ∧
  (∀ (s : State) (l : Fin 32), Acts s → (leg s.dev l).report = true → legBlanked s.dev l = true →
    Goes (exec (.pwmTrip l .driver) s) s (modLeg l (fun x => { x with report := false, heldReport := true }) s.dev)) ∧
  (∀ (s : State) (l : Fin 32) (src : TripSource), Acts s → legBlanked s.dev l = false →
    (match src with
      | .fcmp k => flag s.dev (PWM_PLnn_TRIPSEL0 l) k = true ∧ flag s.dev (FCMP_CMPkk_STATUS k) 0 = true
          ∧ s.dev.sense.testing.getLsbD k = false
      | .pin k => flag s.dev (PWM_PLnn_TRIPSEL1 l) k = true ∧ s.dev.pwm.pins.getLsbD k = flag s.dev PWM_TRIP_CFG k
      | .driver => (leg s.dev l).report = true) →
    GoesWithin (exec (.pwmTrip l src) s) s [0x4050] (fun d =>
      flag d (PWM_PLnn_STATUS l) 7 = true
        ∧ fld d (PWM_PLnn_TRIP_CNT l) 15 0 = Nat.min 65535 (fld s.dev (PWM_PLnn_TRIP_CNT l) 15 0 + 1)
        ∧ (legState s.dev l = 1 → (leg s.dev l).trippedNow = false →
            (leg d l).tripTick = s.dev.ltb.toNat ∧ (leg d l).tripRun = (leg s.dev l).tripRun + 1
            ∧ (∀ p ∈ legPorts s.dev l, p < 64 → safeOwned s.dev p = false →
                (port d p).offNowDue = true ∧ (port d p).edges = [])
            ∧ (if fld s.dev (PWM_PLnn_BLANK l) 23 16 ≤ (leg s.dev l).tripRun + 1 then
                legState d l = 3 ∧ flag d (PWM_PLnn_STATUS l) 5 = true
              else legState d l = 4 ∧ flag d (PWM_PLnn_STATUS l) 5 = flag s.dev (PWM_PLnn_STATUS l) 5))
        ∧ (legState s.dev l ≠ 1 → legState s.dev l ≠ 4 → legState d l = legState s.dev l))) ∧
  (∀ (s : State) (l : Fin 32), Acts s → legBlanked s.dev l = true ∨
      ((leg s.dev l).heldReport = false ∧ levelAsserted s.dev l = false) →
    Goes (exec (.pwmBlankEnd l) s) s s.dev) ∧
  (∀ (s : State) (l : Fin 32), Acts s → legBlanked s.dev l = false →
    (leg s.dev l).heldReport = true ∨ levelAsserted s.dev l = true →
    GoesWithin (exec (.pwmBlankEnd l) s) s [0x4050] (fun d =>
      flag d (PWM_PLnn_STATUS l) 7 = true ∧ (leg d l).heldReport = false
        ∧ fld d (PWM_PLnn_TRIP_CNT l) 15 0 = Nat.min 65535 (fld s.dev (PWM_PLnn_TRIP_CNT l) 15 0 + 1))) ∧
  (∀ (s : State) (i : Initiator) (l : Fin 32) (v : Word), Acts s → WriteReaches s.dev i (PWM_PLnn_STATUS l) →
    bit v 5 = true → flag s.dev (PWM_PLnn_STATUS l) 5 = true →
    (legState s.dev l ≠ 2 → (group s.dev (legGroup s.dev l)).running = true →
      Goes (exec (.pwmLatchClear i l v) s) s (respErr s.dev)) ∧
    (legState s.dev l = 2 ∨ (group s.dev (legGroup s.dev l)).running = false →
      ∃ d, Goes (exec (.pwmLatchClear i l v) s) s d ∧ d.response = ⟨false, 0⟩ ∧ flag d (PWM_PLnn_STATUS l) 5 = false
        ∧ (leg d l).tripRun = 0 ∧ legState d l = (if legState s.dev l = 3 then 0 else legState s.dev l)
        ∧ RegsExcept [PWM_PLnn_STATUS l] s.dev d)) ∧
  (∀ (s : State), Acts s →
    ∃ d, GoesRaising (exec .pwmCmpMismatch s) s d Src.PWM_CMP 0
      ∧ (∀ g : Fin 8, flag d (PWM_CGg_STATUS g) 8 = (flag s.dev (PWM_CGg_STATUS g) 8 || (group s.dev g).running))
      ∧ ∀ a, (∀ g : Fin 8, a ≠ PWM_CGg_STATUS g) → rd d a = rd s.dev a) ∧
  (∀ (s : State) (k : Fin 8) (lv : Bool), Acts s →
    ∃ d, Goes (exec (.tripPinEdge k lv) s) s d ∧ d.regs = s.dev.regs
      ∧ ∀ j : Fin 8, d.pwm.pins.getLsbD j = if j = k then lv else s.dev.pwm.pins.getLsbD j)

/-! ## Gate drivers of the Shaore Link -/

/-- The driver `x` after a valid word with SEQ `seq` at tick `t`, before the word's own effect: a gap is reported, with the
first missing SEQ and the number of missing words, or counted where four events wait (R246, R263, R273). -/
def arrived (x : Driver) (seq : BitVec 4) (t : Nat) : Driver :=
  { (if seq = x.rxSeq then x
     else if waitingEvents x < 4 then queueStatus (statusArg x 0 0 x.rxSeq.toNat (seq - x.rxSeq).toNat) x
     else { x with unreported := Nat.min 65535 (x.unreported + 1) }) with rxSeq := seq + 1, lastValid := t }

/-- The outcome is the next state in which the driver of port `p` is `x` and nothing else has changed. -/
def driverBecomes (o : Host.Outcome State Fault Refusal) (s : State) (p : Nat) (x : Driver) : Prop :=
  Goes o s (modDriver p (fun _ => x) s.dev)

/-- NOP, OFF_NOW, CFG_WRITE, CFG_READ, ECHO_REQ, SELFTEST, MEAS, ACK_FAULT, SAFE_PREF_PROGRAM, SAFE_PREF_APPLY, HALT,
RELEASE and DRIVER_MALFORMED_WORD (R246, R260, R267, R269–R273): what each downlink word does to the driver, after the
report of a gap in the words' sequence. EDGE_ON, EDGE_OFF and DRIVER_EDGE_EXECUTE (R256, R257, R267): an edge is held
when every check passes and refused with the code of the first that fails; a held edge executes when its time has
come, and an ON edge clears a latch only when every bit of it is acknowledged and no longer active. Rests on choices
of the model: log entries 44, 48, 49. -/
def Obligations.DriverWordsAndEdges : Prop :=
  ((∀ (s : State) (p : Fin 64) (q : BitVec 4), Acts s →
    driverBecomes (exec (.nop p q) s) s p (arrived (driver s.dev p) q s.dev.ltb.toNat)) ∧
  (∀ (s : State) (p : Fin 64) (q : BitVec 4), Acts s →
    driverBecomes (exec (.offNow p q) s) s p
      { arrived (driver s.dev p) q s.dev.ltb.toNat with level := false, held := [] }) ∧
  (∀ (s : State) (p : Fin 64) (q : BitVec 4) (a : Byte) (v : BitVec 16) (x : Driver), Acts s →
    x = arrived (driver s.dev p) q s.dev.ltb.toNat → 0x10 ≤ a.toNat → a.toNat ≤ 0x7F →
    ∃ y, driverBecomes (exec (.cfgWrite p q a v) s) s p y ∧ drvRead p a y = v.toNat
      ∧ y.uplink = x.uplink ++ [(2, a.toNat * 65536 + v.toNat)] ∧ y = { x with settings := y.settings, uplink := y.uplink }
      ∧ ∀ b : Byte, b ≠ a → drvRead p b y = drvRead p b x) ∧
  (∀ (s : State) (p : Fin 64) (q : BitVec 4) (a : Byte) (v : BitVec 16) (x : Driver), Acts s →
    x = arrived (driver s.dev p) q s.dev.ltb.toNat → a.toNat < 0x10 ∨ 0x7F < a.toNat →
    driverBecomes (exec (.cfgWrite p q a v) s) s p
      { x with uplink := x.uplink ++ [(2, a.toNat * 65536 + drvRead p a x)] }) ∧
  (∀ (s : State) (p : Fin 64) (q : BitVec 4) (a : Byte) (x : Driver), Acts s →
    x = arrived (driver s.dev p) q s.dev.ltb.toNat →
    driverBecomes (exec (.cfgRead p q a) s) s p
      { x with uplink := x.uplink ++ [(2, a.toNat * 65536 + drvRead p a x)] }) ∧
  (∀ (s : State) (p : Fin 64) (q : BitVec 4) (t : Nat) (x : Driver), Acts s →
    x = arrived (driver s.dev p) q s.dev.ltb.toNat →
    driverBecomes (exec (.echoReq p q t) s) s p
      { x with uplink := x.uplink ++ [(5, q.toNat * 1048576 + t % 1048576)] }) ∧
  (∀ (s : State) (p : Fin 64) (q : BitVec 4) (i : Fin 5) (x : Driver), Acts s →
    x = arrived (driver s.dev p) q s.dev.ltb.toNat →
    (x.level = false → driverBecomes (exec (.selftest p q i) s) s p { x with selftest := some i.val }) ∧
    (x.level = true → ∃ y, driverBecomes (exec (.selftest p q i) s) s p y ∧ y.selftest = x.selftest
      ∧ y.uplink = x.uplink ++ [(2, (0xF0 + i.val) * 65536 + 2)] ∧ y.level = true)) ∧
  (∀ (s : State) (p : Fin 64) (q : BitVec 4) (k : Fin 3) (v : BitVec 16) (x : Driver), Acts s →
    x = arrived (driver s.dev p) q s.dev.ltb.toNat →
    driverBecomes (exec (.meas p q k v) s) s p { x with uplink := x.uplink ++ [(4, k.val * 65536 + v.toNat)] }) ∧
  (∀ (s : State) (p : Fin 64) (q : BitVec 4) (m : Byte) (x : Driver), Acts s →
    x = arrived (driver s.dev p) q s.dev.ltb.toNat →
    driverBecomes (exec (.ackFault p q m) s) s p { x with acked := x.acked ||| (m &&& x.latched) }) ∧
  (∀ (s : State) (p : Fin 64) (q : BitVec 4) (b : Bool), Acts s →
    driverBecomes (exec (.safePrefProgram p q b) s) s p
      { arrived (driver s.dev p) q s.dev.ltb.toNat with pref := b }) ∧
  (∀ (s : State) (p : Fin 64) (q : BitVec 4) (b : Bool) (x : Driver), Acts s →
    x = arrived (driver s.dev p) q s.dev.ltb.toNat →
    driverBecomes (exec (.safePrefApply p q b) s) s p
      { x with mode := .safe, held := [], level := b && decide (x.latched = 0) }) ∧
  (∀ (s : State) (p : Fin 64) (x : Driver), Acts s → x = driver s.dev p →
    driverBecomes (exec (.halt p) s) s p
      (if x.mode = .halt then { x with lastValid := s.dev.ltb.toNat }
       else { x with lastValid := s.dev.ltb.toNat, mode := .halt, level := false, held := [] })) ∧
  (∀ (s : State) (p : Fin 64) (x : Driver), Acts s → x = driver s.dev p →
    driverBecomes (exec (.release p) s) s p
      (if x.mode = .run ∨ (x.mode = .lol ∧ x.lock = false) then
        { x with lastValid := s.dev.ltb.toNat, stray := Nat.min 65535 (x.stray + 1) }
       else { x with lastValid := s.dev.ltb.toNat, mode := .run })) ∧
  (∀ (s : State) (p : Fin 64) (x : Driver), Acts s → x = driver s.dev p →
    driverBecomes (exec (.driverMalformedWord p) s) s p { x with malformed := Nat.min 65535 (x.malformed + 1) })) ∧
  ((∀ (s : State) (p : Fin 64) (q : BitVec 4) (t l : BitVec 24) (on : Bool) (x : Driver)
      (o : Host.Outcome State Fault Refusal), Acts s → x = arrived (driver s.dev p) q s.dev.ltb.toNat →
    o = (if on then exec (.edgeOn p q t l) s else exec (.edgeOff p q t l) s) →
    (x.mode = .run → x.lock = true → 1280 ≤ (t - l).toNat → (t - l).toNat ≤ 6400000 →
      (∀ e ∈ x.held, e.2 ≠ t) → x.held.length < 8 → on = false ∨ x.latched &&& ~~~ x.acked = 0 →
      driverBecomes o s p { x with held := x.held ++ [(on, t)] }) ∧
    (x.mode = .run → x.lock = true → 1280 ≤ (t - l).toNat → (t - l).toNat ≤ 6400000 → (on, t) ∈ x.held →
      driverBecomes o s p x) ∧
    (∀ code : Nat,
      (x.mode ≠ .run ∧ code = 4) ∨ (x.mode = .run ∧ x.lock = false ∧ code = 6)
        ∨ (x.mode = .run ∧ x.lock = true ∧ ((t - l).toNat < 1280 ∨ 8388608 ≤ (t - l).toNat) ∧ code = 2)
        ∨ (x.mode = .run ∧ x.lock = true ∧ 6400000 < (t - l).toNat ∧ (t - l).toNat < 8388608 ∧ code = 1)
        ∨ (x.mode = .run ∧ x.lock = true ∧ 1280 ≤ (t - l).toNat ∧ (t - l).toNat ≤ 6400000 ∧ (on, t) ∉ x.held
            ∧ ((!on, t) ∈ x.held ∧ code = 7
              ∨ (!on, t) ∉ x.held ∧ (8 ≤ x.held.length ∧ code = 3
                ∨ x.held.length < 8 ∧ on = true ∧ x.latched &&& ~~~ x.acked ≠ 0 ∧ code = 5))) →
      waitingEvents x < 4 →
      ∃ y, driverBecomes o s p y ∧ y = { x with uplink := y.uplink }
        ∧ (0, statusArg x q.toNat code 0 0) ∈ y.uplink)) ∧
  (∀ (s : State) (p : Fin 64) (x : Driver), Acts s → x = driver s.dev p →
    (∀ e, firstHeld (8 * s.dev.ltb.toNat) x = some e → edgeAge (8 * s.dev.ltb.toNat) e.2 ≤ -8) →
    driverBecomes (exec (.driverEdgeExecute p) s) s p x) ∧
  (∀ (s : State) (p : Fin 64) (x : Driver) (on : Bool) (t : BitVec 24), Acts s → x = driver s.dev p →
    firstHeld (8 * s.dev.ltb.toNat) x = some (on, t) → -8 < edgeAge (8 * s.dev.ltb.toNat) t →
    (on = false →
      driverBecomes (exec (.driverEdgeExecute p) s) s p { x with held := x.held.erase (on, t), level := false }) ∧
    (on = true → x.selftest = none →
      driverBecomes (exec (.driverEdgeExecute p) s) s p
        (if x.latched = 0 then { x with held := x.held.erase (on, t), level := true }
         else if x.latched &&& ~~~ x.acked = 0 ∧ x.latched &&& x.active = 0 then
           { x with held := x.held.erase (on, t), level := true, latched := 0, acked := 0 }
         else { x with held := x.held.erase (on, t) })) ∧
    (∀ i, on = true → x.selftest = some i → x.latched = 0 →
      ∃ y, driverBecomes (exec (.driverEdgeExecute p) s) s p y ∧ y.level = true ∧ y.selftest = none
        ∧ y.uplink = x.uplink ++ [(2, (0xF0 + i) * 65536 + 3)])))

/-- TIME_SYNC, DRIVER_SYNC_TIMEOUT, DRIVER_LOSS_OF_LINK, DRIVER_PREF_ON, DRIVER_FAULT_DETECT, DRIVER_FAULT_REPEAT,
DRIVER_TEMP_REPORT and DRIVER_SELFTEST_DONE (R251, R263, R266, R269, R271): lock and its loss, loss of link with the
programmed level 1 µs after it, the fault latch and its reports. Rests on choices of the model: log entries 48, 49. -/
def Obligations.DriverTimeLossAndFaults : Prop :=
  (∀ (s : State) (p : Fin 64) (q : BitVec 4) (a l : BitVec 24) (x : Driver) (e : Nat), Acts s →
    x = arrived (driver s.dev p) q s.dev.ltb.toNat → e = (signed 24 (a - l).toNat).natAbs →
    (x.lock = true → e ≤ 64 →
      driverBecomes (exec (.timeSync p q a l) s) s p { x with lastSync := s.dev.ltb.toNat }) ∧
    (x.lock = true → 64 < e → x.selftest ≠ some 5 →
      ∃ y, driverBecomes (exec (.timeSync p q a l) s) s p y ∧ y.lock = false ∧ y.latched = x.latched ||| 0x20
        ∧ y.level = false ∧ y.lastSync = s.dev.ltb.toNat ∧ y.mode = x.mode) ∧
    (x.lock = false → e ≤ 8 → 3 ≤ x.goodSyncs →
      ∃ y, driverBecomes (exec (.timeSync p q a l) s) s p y ∧ y.lock = true ∧ y.active = x.active &&& ~~~ 0x20
        ∧ y.latched = x.latched ∧ y.level = x.level) ∧
    (x.lock = false → 8 < e ∨ x.goodSyncs < 3 →
      driverBecomes (exec (.timeSync p q a l) s) s p
        { x with lastSync := s.dev.ltb.toNat, goodSyncs := if e ≤ 8 then x.goodSyncs + 1 else 0 })) ∧
  (∀ (s : State) (p : Fin 64) (x : Driver), Acts s → x = driver s.dev p →
    (x.lock = false ∨ s.dev.ltb.toNat < x.lastSync + 32000 →
      driverBecomes (exec (.driverSyncTimeout p) s) s p x) ∧
    (x.lock = true → x.lastSync + 32000 ≤ s.dev.ltb.toNat → x.selftest ≠ some 5 →
      ∃ y, driverBecomes (exec (.driverSyncTimeout p) s) s p y ∧ y.lock = false ∧ y.latched = x.latched ||| 0x20
        ∧ y.level = false)) ∧
  (∀ (s : State) (p : Fin 64) (x : Driver), Acts s → x = driver s.dev p →
    (x.mode = .lol ∨ s.dev.ltb.toNat < x.lastValid + 1520 →
      driverBecomes (exec (.driverLossOfLink p) s) s p x) ∧
    (x.mode ≠ .lol → x.lastValid + 1520 ≤ s.dev.ltb.toNat →
      ∃ y, driverBecomes (exec (.driverLossOfLink p) s) s p y ∧ y.mode = .lol ∧ y.level = false ∧ y.held = []
        ∧ y.lolSince = s.dev.ltb.toNat ∧ y.latched = x.latched ∧ (0, statusArg y 0 0 0 0) ∈ y.uplink)) ∧
  (∀ (s : State) (p : Fin 64) (x : Driver), Acts s → x = driver s.dev p →
    driverBecomes (exec (.driverPrefOn p) s) s p
      (if x.mode = .lol ∧ x.pref = true ∧ x.lolSince + 800 ≤ s.dev.ltb.toNat ∧ x.latched = 0 ∧ x.active &&& 0x0C = 0 then
        { x with level := true } else x)) ∧
  (∀ (s : State) (p : Fin 64) (x : Driver) (c : Byte), Acts s → x = driver s.dev p → x.selftest = none →
    (c &&& 0x7F = 0 → driverBecomes (exec (.driverFaultDetect p c) s) s p x) ∧
    (c &&& 0x7F ≠ 0 →
      ∃ y, driverBecomes (exec (.driverFaultDetect p c) s) s p y ∧ y.level = false
        ∧ y.active = x.active ||| (c &&& 0x7F) ∧ y.latched = x.latched ||| (c &&& 0x7F)
        ∧ y.acked = x.acked &&& ~~~ (c &&& 0x7F) ∧ y.lastFault = s.dev.ltb.toNat
        ∧ y.uplink = (1, faultArg y) :: x.uplink ∧ y.mode = x.mode ∧ y.held = x.held)) ∧
  (∀ (s : State) (p : Fin 64) (x : Driver) (i : Nat) (c : Byte), Acts s → x = driver s.dev p → x.selftest = some i →
    i < 7 → c = BitVec.ofNat 8 (2 ^ i) → driverBecomes (exec (.driverFaultDetect p c) s) s p x) ∧
  (∀ (s : State) (p : Fin 64) (x : Driver) (a : Byte), Acts s → x = driver s.dev p →
    a &&& 0x7F &&& ~~~ x.latched = 0 →
    driverBecomes (exec (.driverFaultRepeat p a) s) s p
      (if x.latched &&& ~~~ x.acked ≠ 0 ∧ x.lastFault + 8000 ≤ s.dev.ltb.toNat then
        queueFault { x with active := a &&& 0x7F, lastFault := s.dev.ltb.toNat } else { x with active := a &&& 0x7F })) ∧
  (∀ (s : State) (p : Fin 64) (x : Driver) (a : Byte), Acts s → x = driver s.dev p → x.selftest = none →
    a &&& 0x7F &&& ~~~ x.latched ≠ 0 →
    ∃ y, driverBecomes (exec (.driverFaultRepeat p a) s) s p y ∧ y.level = false ∧ y.active = a &&& 0x7F
      ∧ y.latched = x.latched ||| (a &&& 0x7F)) ∧
  (∀ (s : State) (p : Fin 64) (x : Driver) (b : Bool) (v : BitVec 16), Acts s → x = driver s.dev p →
    driverBecomes (exec (.driverTempReport p b v) s) s p
      { x with uplink := x.uplink ++ [(3, b2n b * 65536 + v.toNat)] }) ∧
  (∀ (s : State) (p : Fin 64) (x : Driver) (b : Bool), Acts s → x = driver s.dev p →
    (x.selftest = none → driverBecomes (exec (.driverSelftestDone p b) s) s p x) ∧
    (∀ i, x.selftest = some i →
      ∃ y, driverBecomes (exec (.driverSelftestDone p b) s) s p y ∧ y.selftest = none ∧ y.level = x.level
        ∧ y.uplink = x.uplink ++ [(2, (0xF0 + i) * 65536 + (if b then 0 else 1))]))

/-! ## The Shaore Link controller -/

/-- GLK_WORD_SCHEDULE and GLK_HOLD_ON_SEND (R244, R250, R258, R262): the highest-priority word that waits goes out,
Halt and OFF_NOW even in the middle of another word; a word takes 96 ticks and the next SEQ, an ordered set 48 ticks
and none. ECHO, GLK_CALIBRATION_DONE and GLK_DLY_ACCEPT (R253, R254): a good echo adds its loop delay, sixteen
requests end the calibration, at least twelve good echoes give a result, and a result beyond the limit waits to be
accepted. Rests on choices of the model: log entries 44, 45, 47. -/
def Obligations.SchedulerAndCalibration : Prop :=
  ((∀ (s : State) (p : Fin 64), Acts s → pstate s.dev p < 2 ∨
      (s.dev.ltb.toNat < (port s.dev p).busyUntil ∧ (port s.dev p).haltDue = false ∧ (port s.dev p).offNowDue = false) →
    Goes (exec (.glkWordSchedule p) s) s s.dev) ∧
  (∀ (s : State) (p : Fin 64) (x : Port), Acts s → x = port s.dev p → 2 ≤ pstate s.dev p →
    x.busyUntil ≤ s.dev.ltb.toNat →
    (x.haltDue = true →
      Goes (exec (.glkWordSchedule p) s) s (modPort p (fun _ => { x with
        haltDue := false, flying := none, busyUntil := s.dev.ltb.toNat + 48, outstanding := some 1 }) s.dev)) ∧
    (x.haltDue = false → x.offNowDue = false → ∀ r, x.safeDue = .release :: r →
      Goes (exec (.glkWordSchedule p) s) s (modPort p (fun _ => { x with
        safeDue := r, flying := none, busyUntil := s.dev.ltb.toNat + 48, outstanding := some 0 }) s.dev)) ∧
    (∀ (w : LinkWord) (t : Nat),
      (x.haltDue = false ∧ x.offNowDue = true ∧ w = .offNow ∧ t = 0)
        ∨ (x.haltDue = false ∧ x.offNowDue = false ∧ t = 0 ∧ ∃ r, x.safeDue = w :: r ∧ w ≠ .release)
        ∨ (x.haltDue = false ∧ x.offNowDue = false ∧ x.safeDue = [] ∧ ∃ e r, x.edges = e :: r
            ∧ e.time ≤ 8 * s.dev.ltb.toNat + 6000000 ∧ t = e.time
            ∧ w = (if e.on then .edgeOn (BitVec.ofNat 24 e.time) else .edgeOff (BitVec.ofNat 24 e.time)))
        ∨ (x.haltDue = false ∧ x.offNowDue = false ∧ x.safeDue = [] ∧ t = 0
            ∧ (∀ e r, x.edges = e :: r → 8 * s.dev.ltb.toNat + 6000000 < e.time)
            ∧ ((∃ m r, x.ackDue = m :: r ∧ w = .ackFault m)
              ∨ (x.ackDue = [] ∧ syncDue s.dev p = true
                  ∧ w = .timeSync (BitVec.ofNat 24 (8 * s.dev.ltb.toNat + fld s.dev (GLK_GLnn_DLY p) 15 0)))
              ∨ (x.ackDue = [] ∧ syncDue s.dev p = false ∧ ∃ r, x.lowDue = w :: r)
              ∨ (x.ackDue = [] ∧ syncDue s.dev p = false ∧ x.lowDue = [] ∧ w = .nop))) →
      ∃ d, Goes (exec (.glkWordSchedule p) s) s d ∧ d.regs = s.dev.regs
        ∧ (port d p).txSeq = x.txSeq + 1 ∧ (port d p).flying = some ⟨x.txSeq, w, t⟩
        ∧ (port d p).busyUntil = s.dev.ltb.toNat + 96
        ∧ (port d p).sent = lastN 16 (x.sent ++ [⟨x.txSeq, w, t⟩])
        ∧ (∀ q : Fin 64, q ≠ p → port d q = port s.dev q) ∧ d.glk.drivers = s.dev.glk.drivers)) ∧
  (∀ (s : State) (p : Fin 64) (x : Port) (f : SentWord), Acts s → x = port s.dev p → 2 ≤ pstate s.dev p →
    s.dev.ltb.toNat < x.busyUntil → x.haltDue = true → x.flying = some f →
    ∃ d, Goes (exec (.glkWordSchedule p) s) s d ∧ (port d p).txSeq = f.seq ∧ (port d p).haltDue = false
      ∧ (port d p).flying = none ∧ (port d p).outstanding = some 1 ∧ (port d p).busyUntil = s.dev.ltb.toNat + 48
      ∧ (∀ m, f.word = .ackFault m → (port d p).ackDue = m :: x.ackDue)
      ∧ (∀ t, f.word = .timeSync t → (port d p).lastSync = none)) ∧
  (∀ (s : State) (p : Fin 64), Acts s → (port s.dev p).holdOn = none ∨ partnerOffLongEnough s.dev p = false →
    Goes (exec (.glkHoldOnSend p) s) s s.dev) ∧
  (∀ (s : State) (p : Fin 64) (t : Nat), Acts s → (port s.dev p).holdOn = some t →
    (∀ q ∈ partnerPorts s.dev p, ∃ u, commandedOffSince s.dev q = some u ∧
      u + fld s.dev GLK_SAFE_DT 12 0 ≤ s.dev.ltb.toNat) →
    ∃ d, Goes (exec (.glkHoldOnSend p) s) s d ∧ (port d p).holdOn = none ∧ (port d p).safeDue = [.prefApply true]
      ∧ (port d p).holdOnAt = (port s.dev p).holdOnAt ∧ flag d (GLK_GLnn_STATE p) 9 = false
      ∧ RegsExcept [GLK_GLnn_STATE p] s.dev d)) ∧
  ((∀ (s : State) (p : Fin 64) (q r : BitVec 4) (t a : Nat) (c : Calibration) (w : BitVec 4 × Nat), Acts s →
    pstate s.dev p = 4 → (port s.dev p).rxSeq = some q → (port s.dev p).cal = some c →
    c.waiting.find? (fun w => decide (w.1 = r)) = some w → (∀ l, c.lastDep = some l → l < w.2) →
    ∃ d e, Goes (exec (.echo p q r t a) s) s d ∧ d.regs = s.dev.regs ∧ (port d p).cal = some e ∧ e.sent = c.sent
      ∧ e.waiting = c.waiting.erase w ∧ e.lastDep = some w.2
      ∧ (if 1280 ≤ t % 1048576 ∧ t % 1048576 ≤ 6400 then
          e.good = c.good + 1 ∧ e.sum = c.sum + ((a : Int) - w.2 - (t % 1048576 : Nat))
        else e.good = c.good ∧ e.sum = c.sum)
      ∧ (port d p).rxSeq = some (q + 1) ∧ (port d p).lastUp = s.dev.ltb.toNat) ∧
  (∀ (s : State) (p : Fin 64), Acts s → (∀ c, (port s.dev p).cal = some c → c.sent < 16) →
    Goes (exec (.glkCalibrationDone p) s) s s.dev) ∧
  (∀ (s : State) (p : Fin 64) (c : Calibration), Acts s → (port s.dev p).cal = some c → 16 ≤ c.sent → c.good < 12 →
    ∃ d, Goes (exec (.glkCalibrationDone p) s) s d
      ∧ fld d (GLK_GLnn_CAL_CNT p) 15 0 = Nat.min 65535 (fld s.dev (GLK_GLnn_CAL_CNT p) 15 0 + 1)
      ∧ (pstate s.dev p = 2 → (port d p).cal = some {}
          ∧ (port d p).lowDue = (port s.dev p).lowDue ++ List.replicate 16 .echoReq)
      ∧ (pstate s.dev p ≠ 2 → (port d p).cal = none ∧ (port d p).lowDue = (port s.dev p).lowDue)
      ∧ RegsExcept [GLK_GLnn_CAL_CNT p] s.dev d) ∧
  (∀ (s : State) (p : Fin 64) (c : Calibration) (dly loop : Nat), Acts s → (port s.dev p).cal = some c → 16 ≤ c.sent →
    12 ≤ c.good →
    dly = (clampInt 0 65535 (roundDiv (c.sum + 2 * sfld s.dev (GLK_GLnn_ASYM p) 9 0 * c.good) (2 * c.good))).toNat →
    loop = (clampInt 0 65535 (roundDiv c.sum c.good)).toNat →
    (pstate s.dev p = 4 → ((dly : Int) - fld s.dev (GLK_GLnn_DLY p) 15 0).natAbs ≤ fld s.dev GLK_CTRL 15 0 →
      ∃ d, Goes (exec (.glkCalibrationDone p) s) s d ∧ fld d (GLK_GLnn_DLY p) 15 0 = dly
        ∧ fld d (GLK_GLnn_DLY p) 31 16 = loop ∧ (port d p).cal = none
        ∧ fld d (GLK_GLnn_CAL_CNT p) 31 16 = Nat.min 65535 (fld s.dev (GLK_GLnn_CAL_CNT p) 31 16 + 1)
        ∧ RegsExcept [GLK_GLnn_DLY p, GLK_GLnn_CAL_CNT p] s.dev d) ∧
    (pstate s.dev p = 4 → fld s.dev GLK_CTRL 15 0 < ((dly : Int) - fld s.dev (GLK_GLnn_DLY p) 15 0).natAbs →
      ∃ d, GoesRaising (exec (.glkCalibrationDone p) s) s d Src.GLK_DLY_JUMP p
        ∧ fld d (GLK_GLnn_DLYCAND p) 15 0 = dly ∧ flag d (GLK_GLnn_STATUS p) 5 = true ∧ (port d p).candidate = some loop
        ∧ RegsExcept [GLK_GLnn_DLYCAND p, GLK_GLnn_STATUS p] s.dev d) ∧
    (pstate s.dev p = 2 →
      ∃ d, Goes (exec (.glkCalibrationDone p) s) s d ∧ fld d (GLK_GLnn_DLY p) 15 0 = dly
        ∧ fld d (GLK_GLnn_DLY p) 31 16 = loop ∧ pstate d p = (if flag s.dev (GLK_GLnn_STATE p) 8 then 3 else 2))) ∧
  (∀ (s : State) (i : Initiator) (p : Fin 64) (v : Word), Acts s → WriteReaches s.dev i (GLK_GLnn_DLYACC p) →
    (port s.dev p).candidate = none ∨ bit v 0 = false →
    Goes (exec (.glkDlyAccept i p v) s) s (respOk s.dev)) ∧
  (∀ (s : State) (i : Initiator) (p : Fin 64) (v : Word) (loop : Nat), Acts s →
    WriteReaches s.dev i (GLK_GLnn_DLYACC p) → (port s.dev p).candidate = some loop → bit v 0 = true →
    ∃ d, Goes (exec (.glkDlyAccept i p v) s) s d ∧ d.response = ⟨false, 0⟩
      ∧ fld d (GLK_GLnn_DLY p) 15 0 = fld s.dev (GLK_GLnn_DLYCAND p) 15 0
      ∧ fld d (GLK_GLnn_DLY p) 31 16 = loop % 65536 ∧ (port d p).candidate = none
      ∧ RegsExcept [GLK_GLnn_DLY p, GLK_GLnn_CAL_CNT p] s.dev d))

/-- STATUS, FAULT, READ_DATA, TEMP, VGE, GLK_UPLINK_TIMEOUT, GLK_UPLINK_MALFORMED and GLK_PORT_LIMIT_TIMEOUT (R248,
R264, R265, R268–R276): what each uplink word of a READY port shows, what counts as an error, and what a lost link
leaves. Rests on choices of the model: log entries 46, 48, 51. -/
def Obligations.UplinkWordsAtTheController : Prop :=
  (∀ (s : State) (p : Fin 64) (q : BitVec 4) (a : BitVec 24), Acts s → pstate s.dev p = 4 →
    (port s.dev p).rxSeq = some q → a.toNat < 2097152 → bits (wordOf a.toNat) 15 13 = 0 → bits (wordOf a.toNat) 8 5 = 0 →
    bits (wordOf a.toNat) 3 2 ≠ 3 ∨ fld s.dev (GLK_GLnn_STATE p) 3 2 = 3 →
    ∃ d, Goes (exec (.status p q a) s) s d ∧ flag d (GLK_GLnn_STATE p) 8 = a.getLsbD 20
      ∧ flag d (GLK_GLnn_STATE p) 4 = a.getLsbD 4 ∧ fld d (GLK_GLnn_STATE p) 3 2 = bits (wordOf a.toNat) 3 2
      ∧ flag d (GLK_GLnn_STATE p) 1 = a.getLsbD 1 ∧ flag d (GLK_GLnn_STATE p) 0 = a.getLsbD 0
      ∧ (port d p).latched = (if a.getLsbD 4 then (port s.dev p).latched else 0)
      ∧ (port d p).rxSeq = some (q + 1) ∧ (port d p).lastUp = s.dev.ltb.toNat
      ∧ RegsExcept [GLK_GLnn_STATE p] s.dev d) ∧
  (∀ (s : State) (p : Fin 64) (q : BitVec 4) (a : BitVec 24) (w : SentWord), Acts s → pstate s.dev p = 4 →
    (port s.dev p).rxSeq = some q → a.toNat < 2097152 → bits (wordOf a.toNat) 15 13 ≠ 0 → bits (wordOf a.toNat) 8 5 = 0 →
    bits (wordOf a.toNat) 3 2 = 0 → sentWord s.dev p (BitVec.ofNat 4 (bits (wordOf a.toNat) 19 16)) = some w →
    ∃ d, GoesRaising (exec (.status p q a) s) s d Src.GLK_EDGE_REFUSED p ∧ flag d (GLK_GLnn_STATUS p) 2 = true
      ∧ fld d (GLK_GLnn_LASTREF p) 26 24 = bits (wordOf a.toNat) 15 13
      ∧ fld d (GLK_GLnn_LASTREF p) 23 0 = w.edgeTime % 16777216
      ∧ fld d (GLK_GLnn_REFUSE_CNT p) 15 0 = Nat.min 65535 (fld s.dev (GLK_GLnn_REFUSE_CNT p) 15 0 + 1)
      ∧ RegsExcept [GLK_GLnn_STATE p, GLK_GLnn_STATUS p, GLK_GLnn_LASTREF p, GLK_GLnn_REFUSE_CNT p] s.dev d) ∧
  (∀ (s : State) (p : Fin 64) (q : BitVec 4) (a : BitVec 24), Acts s → pstate s.dev p = 4 →
    (port s.dev p).rxSeq = some q → a.toNat < 2097152 → bits (wordOf a.toNat) 15 13 = 0 → bits (wordOf a.toNat) 8 5 = 0 →
    bits (wordOf a.toNat) 3 2 = 3 → fld s.dev (GLK_GLnn_STATE p) 3 2 ≠ 3 → (port s.dev p).outstanding = none →
    GoesWithin (exec (.status p q a) s) s [0x4050, 0x4060] (fun d =>
      flag d (GLK_GLnn_STATUS p) 0 = true ∧ pstate d p = 1 ∧ safeOwned d p = true ∧ (port d p).edges = []
        ∧ ∀ r ∈ partnerPorts s.dev p, r < 64 → r ≠ p.val → (port d r).haltDue = true ∧ safeOwned d r = true)) ∧
  (∀ (s : State) (p : Fin 64) (q : BitVec 4) (a : BitVec 24), Acts s → pstate s.dev p ≠ 0 →
    2097152 ≤ a.toNat → (port s.dev p).upErrs.length < 15 →
    ∃ d, Goes (exec (.status p q a) s) s d
      ∧ fld d (GLK_GLnn_ERR_CNT p) 31 16 = Nat.min 65535 (fld s.dev (GLK_GLnn_ERR_CNT p) 31 16 + 1)
      ∧ (port d p).upRow = 0 ∧ (port d p).lastUp = (port s.dev p).lastUp ∧ RegsExcept [GLK_GLnn_ERR_CNT p] s.dev d) ∧
  (∀ (s : State) (p : Fin 64) (q : BitVec 4) (a : BitVec 24), Acts s → pstate s.dev p = 4 →
    (port s.dev p).rxSeq = some q → a &&& 0x808080 = 0 →
    GoesWithin (exec (.fault p q a) s) s [0x4050, 0x4060] (fun d =>
      rd d (GLK_GLnn_FAULT p) = BitVec.ofNat 32 a.toNat
        ∧ (port d p).latched = BitVec.ofNat 8 (bits (wordOf a.toNat) 15 8) ∧ (port d p).rxSeq = some (q + 1))) ∧
  (∀ (s : State) (p : Fin 64) (q : BitVec 4) (ad : Byte) (v : BitVec 16) (c : CfgWait), Acts s → pstate s.dev p = 4 →
    (port s.dev p).rxSeq = some q → (port s.dev p).cfg.find? (fun c => decide (c.addr = ad)) = some c →
    (port s.dev p).diag = none →
    ∃ d, Goes (exec (.readData p q ad v) s) s d ∧ flag d (GLK_GLnn_CFGRES p) 31 = true
      ∧ flag d (GLK_GLnn_CFGRES p) 30 = (c.write && decide (v ≠ c.data))
      ∧ fld d (GLK_GLnn_CFGRES p) 23 16 = ad.toNat ∧ fld d (GLK_GLnn_CFGRES p) 15 0 = v.toNat
      ∧ (port d p).cfg = (port s.dev p).cfg.erase c ∧ RegsExcept [GLK_GLnn_CFGRES p] s.dev d) ∧
  (∀ (s : State) (p : Fin 64) (q : BitVec 4) (ad : Byte) (v : BitVec 16) (g : DiagWait), Acts s → pstate s.dev p = 4 →
    (port s.dev p).rxSeq = some q → (port s.dev p).cfg = [] → (port s.dev p).diag = some g → g.selftest = true →
    ad.toNat = 0xF0 + g.item →
    ∃ d, (if v = 1 then GoesRaising (exec (.readData p q ad v) s) s d Src.GLK_DIAG_FAIL p
            ∧ flag d (GLK_GLnn_STATUS p) 7 = true
          else Goes (exec (.readData p q ad v) s) s d)
      ∧ flag d (GLK_GLnn_DIAG_RES p) 31 = true ∧ fld d (GLK_GLnn_DIAG_RES p) 15 0 = v.toNat ∧ (port d p).diag = none
      ∧ RegsExcept [GLK_GLnn_DIAG_RES p, GLK_GLnn_STATUS p] s.dev d) ∧
  (∀ (s : State) (p : Fin 64) (q : BitVec 4) (b : Bool) (v : BitVec 16), Acts s → pstate s.dev p = 4 →
    (port s.dev p).rxSeq = some q →
    ∃ d, Goes (exec (.temp p q b v) s) s d
      ∧ fld d (GLK_GLnn_TEMP p) 31 16 = (if b then v.toNat else fld s.dev (GLK_GLnn_TEMP p) 31 16)
      ∧ fld d (GLK_GLnn_TEMP p) 15 0 = (if b then fld s.dev (GLK_GLnn_TEMP p) 15 0 else v.toNat)
      ∧ (port d p).ntcAt = (if b then (port s.dev p).ntcAt else some s.dev.ltb.toNat)
      ∧ RegsExcept [GLK_GLnn_TEMP p] s.dev d) ∧
  (∀ (s : State) (p : Fin 64) (q : BitVec 4) (k : Byte) (v : BitVec 16), Acts s → pstate s.dev p = 4 →
    (port s.dev p).rxSeq = some q → k.toNat ≤ 2 →
    ∃ d, Goes (exec (.vge p q k v) s) s d ∧ RegsExcept [GLK_GLnn_DIAG_RES p] s.dev d
      ∧ (∀ g, (port s.dev p).diag = some g → g.selftest = false → g.item = k.toNat →
          flag d (GLK_GLnn_DIAG_RES p) 31 = true ∧ fld d (GLK_GLnn_DIAG_RES p) 23 16 = k.toNat
            ∧ fld d (GLK_GLnn_DIAG_RES p) 15 0 = v.toNat ∧ (port d p).diag = none)
      ∧ ((port s.dev p).diag = none → d.regs = s.dev.regs)) ∧
  (∀ (s : State) (p : Fin 64), Acts s → pstate s.dev p ≠ 4 ∨ s.dev.ltb.toNat < (port s.dev p).lastUp + 1600 →
    Goes (exec (.glkUplinkTimeout p) s) s s.dev) ∧
  (∀ (s : State) (p : Fin 64) (o : Host.Outcome State Fault Refusal) (lim : Nat), Acts s →
    (o = exec (.glkUplinkTimeout p) s ∧ pstate s.dev p = 4 ∧ (port s.dev p).lastUp + 1600 ≤ s.dev.ltb.toNat)
      ∨ (o = exec (.glkPortLimitTimeout p) s ∧ (port s.dev p).entered + lim ≤ s.dev.ltb.toNat
          ∧ (pstate s.dev p = 1 ∧ lim = 16000 ∨ pstate s.dev p = 2 ∧ lim = 80000 ∨ pstate s.dev p = 3 ∧ lim = 40000)) →
    GoesWithin o s [0x4050, 0x4060] (fun d =>
      flag d (GLK_GLnn_STATUS p) 0 = true ∧ pstate d p = 1 ∧ safeOwned d p = true ∧ (port d p).lowDue = []
        ∧ (port d p).entered = s.dev.ltb.toNat
        ∧ flag d (if p.val < 32 then GLK_READY0 else GLK_READY1) (p % 32) = false)) ∧
  (∀ (s : State) (p : Fin 64), Acts s → pstate s.dev p = 0 ∨ 4 ≤ pstate s.dev p →
    Goes (exec (.glkPortLimitTimeout p) s) s s.dev) ∧
  (∀ (s : State) (p : Fin 64), Acts s → pstate s.dev p = 0 → Goes (exec (.glkUplinkMalformed p) s) s s.dev) ∧
  (∀ (s : State) (p : Fin 64) (es : List Nat), Acts s → pstate s.dev p ≠ 0 →
    es = lastN 16 ((port s.dev p).upErrs ++ [s.dev.ltb.toNat]) →
    ∃ d, (if es.length = 16 ∧ s.dev.ltb.toNat ≤ listGet 0 es 0 + 800000 then
        GoesRaising (exec (.glkUplinkMalformed p) s) s d Src.GLK_UP_ERR p ∧ flag d (GLK_GLnn_STATUS p) 4 = true
      else Goes (exec (.glkUplinkMalformed p) s) s d)
      ∧ fld d (GLK_GLnn_ERR_CNT p) 31 16 = Nat.min 65535 (fld s.dev (GLK_GLnn_ERR_CNT p) 31 16 + 1)
      ∧ (port d p).upErrs = es ∧ (port d p).upRow = 0
      ∧ RegsExcept [GLK_GLnn_ERR_CNT p, GLK_GLnn_STATUS p] s.dev d)

/-- SAFE_STATE_HALT, SAFE_STATE_HOLD_OFF, SAFE_STATE_HOLD_ON and SAFE_STATE_RELEASE (R232, R261, R262, R292, R307): an
accepted command takes the port from PWM and puts its own word in place of every other; a command outranked in its
tick is dropped; HOLD_ON is shut out under STO and Lockout, and against a HOLD_ON of the other switch. Rests on
choices of the model: log entry 50. -/
def Obligations.SafeStateCommands : Prop :=
  (∀ (s : State) (r : SafeOrigin) (p : Fin 64), Acts s → (⟨r, .halt, p.val⟩ : SafeOrder) ∉ s.dev.glk.orders →
    Goes (exec (.safeStateHalt r p) s) s s.dev) ∧
  (∀ (s : State) (r : SafeOrigin) (p : Fin 64), Acts s → (⟨r, .halt, p.val⟩ : SafeOrder) ∈ s.dev.glk.orders →
    GoesWithin (exec (.safeStateHalt r p) s) s [0x4050, 0x4060] (fun d =>
      (port d p).haltDue = true ∧ (port d p).edges = [] ∧ (port d p).safeDue = [] ∧ safeOwned d p = true
        ∧ (port d p).lastAccept = some (.halt, s.dev.ltb.toNat) ∧ flag d (GLK_GLnn_STATE p) 9 = false
        ∧ d.glk.orders = s.dev.glk.orders.erase ⟨r, .halt, p.val⟩
        ∧ ∀ (l : Fin 32) (h : Bool), switchOfPort s.dev p = some (l.val, h) → flag s.dev (PWM_PLnn_CFG l) 31 = true →
            legState d l = 2)) ∧
  (∀ (s : State) (r : SafeOrigin) (p : Fin 64), Acts s → (⟨r, .holdOff, p.val⟩ : SafeOrder) ∈ s.dev.glk.orders →
    (∀ e, (port s.dev p).lastAccept ≠ some (e, s.dev.ltb.toNat)) →
    r = .sis ∨ (⟨.psp, .halt, p.val⟩ : SafeOrder) ∉ s.dev.glk.orders →
    ∃ d, Goes (exec (.safeStateHoldOff r p) s) s d ∧ (port d p).safeDue = [.prefApply false] ∧ (port d p).edges = []
      ∧ safeOwned d p = true ∧ (port d p).lastAccept = some (.holdOff, s.dev.ltb.toNat)
      ∧ d.glk.orders = s.dev.glk.orders.erase ⟨r, .holdOff, p.val⟩
      ∧ ∀ a, a / 0x10000 ≠ 0x4050 → a / 0x10000 ≠ 0x4060 → rd d a = rd s.dev a) ∧
  (∀ (s : State) (r : SafeOrigin) (p : Fin 64) (c : SafeCmd), Acts s →
    c = .holdOff ∨ c = .holdOn → (⟨r, c, p.val⟩ : SafeOrder) ∈ s.dev.glk.orders → r = .sis →
    (port s.dev p).lastAccept = some (.halt, s.dev.ltb.toNat) →
    Goes (if c = .holdOff then exec (.safeStateHoldOff r p) s else exec (.safeStateHoldOn r p) s) s
      { s.dev with glk := { s.dev.glk with orders := s.dev.glk.orders.erase ⟨r, c, p.val⟩ } }) ∧
  (∀ (s : State) (p : Fin 64), Acts s → (⟨.psp, .halt, p.val⟩ : SafeOrder) ∈ s.dev.glk.orders →
    Goes (exec (.safeStateHoldOff .psp p) s) s s.dev ∧ Goes (exec (.safeStateHoldOn .psp p) s) s s.dev) ∧
  (∀ (s : State) (p : Fin 64), Acts s → (⟨.sis, .holdOn, p.val⟩ : SafeOrder) ∈ s.dev.glk.orders →
    (∀ e, (port s.dev p).lastAccept ≠ some (e, s.dev.ltb.toNat)) →
    (holdOnBarred s.dev p = true →
      Goes (exec (.safeStateHoldOn .sis p) s) s
        { s.dev with glk := { s.dev.glk with orders := s.dev.glk.orders.erase ⟨.sis, .holdOn, p.val⟩ } }) ∧
    (holdOnBarred s.dev p = false → (∀ q ∈ partnerPorts s.dev p, (port s.dev q).holdOnAt = none) →
      GoesWithin (exec (.safeStateHoldOn .sis p) s) s [0x4050, 0x4060] (fun d =>
        safeOwned d p = true ∧ (port d p).holdOnAt = some s.dev.ltb.toNat ∧ (port d p).edges = []
          ∧ (port d p).lastAccept = some (.holdOn, s.dev.ltb.toNat)
          ∧ ((port d p).holdOn = some s.dev.ltb.toNat ∧ (port d p).safeDue = [] ∧ flag d (GLK_GLnn_STATE p) 9 = true
              ∨ (port d p).holdOn = none ∧ (port d p).safeDue = [.prefApply true] ∧ flag d (GLK_GLnn_STATE p) 9 = false))) ∧
    (∀ (q t : Nat), holdOnBarred s.dev p = false → q ∈ partnerPorts s.dev p → (port s.dev q).holdOnAt = some t →
      t ≠ s.dev.ltb.toNat →
      GoesWithin (exec (.safeStateHoldOn .sis p) s) s [0x4050, 0x4060] (fun d =>
        (port d p).safeDue = [.prefApply false] ∧ flag d (GLK_GLnn_STATUS p) 6 = true ∧ (port d p).holdOn = none
          ∧ safeOwned d p = true))) ∧
  (∀ (s : State) (p : Fin 64), Acts s → (⟨.sis, .release, p.val⟩ : SafeOrder) ∉ s.dev.glk.orders →
    Goes (exec (.safeStateRelease p) s) s s.dev) ∧
  (∀ (s : State) (p : Fin 64) (a : Fin 4) (l : Fin 32) (h : Bool), Acts s →
    (⟨.sis, .release, p.val⟩ : SafeOrder) ∈ s.dev.glk.orders →
    (∀ e, (port s.dev p).lastAccept ≠ some (e, s.dev.ltb.toNat)) → axisOfPort s.dev p = some a.val →
    switchOfPort s.dev p = some (l.val, h) → safeOwned s.dev p = true →
    ∃ d, Goes (exec (.safeStateRelease p) s) s d
      ∧ d.glk.orders = s.dev.glk.orders.erase ⟨.sis, .release, p.val⟩ ∧ safeOwned d p = true
      ∧ (if relBlockSet s.dev a (setOfLeg s.dev a l) then
          flag d (PSP_AXa_STATUS a) 7 = true ∧ port d p = port s.dev p ∧ RegsExcept [PSP_AXa_STATUS a] s.dev d
        else (port d p).released = some s.dev.ltb.toNat ∧ (port d p).holdOn = none
          ∧ RegsExcept [GLK_GLnn_STATE p] s.dev d))

/-- GLK_FACK, GLK_DIAG_SLOT, GLK_DIAG_TIMEOUT, GLK_CFG_READ_REQUEST, GLK_CFG_WRITE_REQUEST, GLK_CFG_REQUEST_TIMEOUT
and GLK_CMP_MISMATCH (R268, R270, R271, R274, R277, R279): which requests are refused, what goes to the port and its
mirrors, and when an answer is given up. Rests on choices of the model: log entry 48. -/
def Obligations.LinkRequests : Prop :=
  (∀ (s : State) (i : Initiator) (p : Fin 64) (v : Word), Acts s → WriteReaches s.dev i (GLK_GLnn_FACK p) →
    (safeOwned s.dev p = false → Goes (exec (.glkFack i p v) s) s (respErr s.dev)) ∧
    (safeOwned s.dev p = true → p.val ∉ mirrorsOf s.dev p →
      ∃ d, Goes (exec (.glkFack i p v) s) s d ∧ d.regs = s.dev.regs ∧ d.response = ⟨false, 0⟩
        ∧ (port d p).ackDue = (port s.dev p).ackDue ++ [BitVec.ofNat 8 (bits v 7 0)]
        ∧ ∀ q : Fin 64, q ≠ p → (port d q).ackDue =
            (port s.dev q).ackDue ++ (if q.val ∈ mirrorsOf s.dev p then [BitVec.ofNat 8 (bits v 7 0)] else []))) ∧
  (∀ (s : State) (i : Initiator) (p : Fin 64) (v : Word), Acts s → WriteReaches s.dev i (GLK_GLnn_DIAG_SLOT p) →
    (bit v 31 = false → Goes (exec (.glkDiagSlot i p v) s) s (respOk s.dev)) ∧
    (bit v 31 = true → (port s.dev p).diag.isSome = true →
      Goes (exec (.glkDiagSlot i p v) s) s (respErr (setFlag (GLK_GLnn_STATUS p) 8 true
        (modPort p (fun x => { x with diagRefused := x.diagRefused + 1 }) s.dev)))) ∧
    (bit v 31 = true → (port s.dev p).diag = none → p.val ∉ mirrorsOf s.dev p →
      ∀ (w : LinkWord) (g : Option DiagWait),
        (bits v 23 0 = 0 ∧ w = .echoReq ∧ g = none)
          ∨ (bits v 23 20 = 1 ∧ bits v 19 0 ≤ 4 ∧ w = .selftest (bits v 19 0) ∧ g = some ⟨true, bits v 19 0, none⟩)
          ∨ (bits v 23 20 = 2 ∧ bits v 19 0 ≤ 2 ∧ w = .meas (bits v 19 0) ∧ g = some ⟨false, bits v 19 0, none⟩) →
        ∃ d, Goes (exec (.glkDiagSlot i p v) s) s d ∧ d.response = ⟨false, 0⟩ ∧ rd d (GLK_GLnn_DIAG_RES p) = 0
          ∧ (port d p).diag = g ∧ (port d p).lowDue = (port s.dev p).lowDue ++ [w]
          ∧ RegsExcept [GLK_GLnn_DIAG_RES p] s.dev d)) ∧
  (∀ (s : State) (p : Fin 64), Acts s →
    (∀ g t, (port s.dev p).diag = some g → g.sent = some t → s.dev.ltb.toNat < t + 20000) →
    Goes (exec (.glkDiagTimeout p) s) s s.dev) ∧
  (∀ (s : State) (p : Fin 64) (g : DiagWait) (t : Nat), Acts s → (port s.dev p).diag = some g → g.sent = some t →
    t + 20000 ≤ s.dev.ltb.toNat →
    ∃ d, GoesRaising (exec (.glkDiagTimeout p) s) s d Src.GLK_DIAG_FAIL p ∧ (port d p).diag = none
      ∧ flag d (GLK_GLnn_DIAG_RES p) 30 = true ∧ flag d (GLK_GLnn_STATUS p) 7 = true
      ∧ RegsExcept [GLK_GLnn_DIAG_RES p, GLK_GLnn_STATUS p] s.dev d) ∧
  (∀ (s : State) (i : Initiator) (p : Fin 64) (v : Word) (rd_ : Bool) (o : Host.Outcome State Fault Refusal), Acts s →
    WriteReaches s.dev i (GLK_GLnn_CFGACC p) →
    o = (if rd_ then exec (.glkCfgReadRequest i p v) s else exec (.glkCfgWriteRequest i p v) s) →
    (bit v 31 = false → Goes o s (respOk s.dev)) ∧
    (bit v 31 = true → rd_ = false → safeOwned s.dev p = false → portGroupRuns s.dev p = true → Goes o s (respErr s.dev)) ∧
    (bit v 31 = true → rd_ = true ∨ safeOwned s.dev p = true ∨ portGroupRuns s.dev p = false → p.val ∉ mirrorsOf s.dev p →
      ∃ d, Goes o s d ∧ d.response = ⟨false, 0⟩ ∧ flag d (GLK_GLnn_CFGRES p) 31 = false
        ∧ (port d p).cfg = (port s.dev p).cfg ++
            [⟨!rd_, BitVec.ofNat 8 (bits v 23 16), BitVec.ofNat 16 (bits v 15 0), none⟩]
        ∧ (port d p).lowDue = (port s.dev p).lowDue ++
            [if rd_ then .cfgRead (BitVec.ofNat 8 (bits v 23 16))
             else .cfgWrite (BitVec.ofNat 8 (bits v 23 16)) (BitVec.ofNat 16 (bits v 15 0))]
        ∧ RegsExcept [GLK_GLnn_CFGRES p] s.dev d)) ∧
  (∀ (s : State) (p : Fin 64), Acts s →
    (∀ c r t, (port s.dev p).cfg = c :: r → c.sent = some t → s.dev.ltb.toNat < t + 1600) →
    Goes (exec (.glkCfgRequestTimeout p) s) s s.dev) ∧
  (∀ (s : State) (p : Fin 64) (c : CfgWait) (r : List CfgWait) (t : Nat), Acts s → (port s.dev p).cfg = c :: r →
    c.sent = some t → t + 1600 ≤ s.dev.ltb.toNat →
    Goes (exec (.glkCfgRequestTimeout p) s) s (modPort p (fun x => { x with cfg := r }) s.dev)) ∧
  (∀ (s : State), Acts s →
    GoesRaising (exec .glkCmpMismatch s) s (setFlag GLK_CMP_STATUS 0 true s.dev) Src.GLK_CMP 0)

/-! ## Power-stage protection -/
/-- PSP_DCOC_BLANK_END, PSP_ID_WINDOW_EXPIRE and PSP_SPEED_EVALUATE (R288–R291, R294): a comparator still asserted
when its blanking ends halts every port of the axis and opens the identification window; a window that closes without
a switch makes every set OFF and FIXED; the speed evaluation moves the sets in a speed-selected state between ASC and
OFF. Rests on choices of the model: log entries 51, 52. -/
def Obligations.AxisSafeStates : Prop :=
  (∀ (s : State) (a : Fin 4), Acts s → (pspAxis s.dev a).dcocHeld = false ∨ dcocBlanked s.dev a = true →
    Goes (exec (.pspDcocBlankEnd a) s) s s.dev) ∧
  (∀ (s : State) (a : Fin 4), Acts s → (pspAxis s.dev a).dcocHeld = true → dcocBlanked s.dev a = false →
    (flag s.dev (FCMP_CMPkk_STATUS (fld s.dev (PSP_AXa_DCOC a) 4 0)) 0 = false ∨ flag s.dev (PSP_AXa_STATE a) 9 = true →
      Goes (exec (.pspDcocBlankEnd a) s) s (modPspAxis a (fun x => { x with dcocHeld := false }) s.dev)) ∧
    (flag s.dev (FCMP_CMPkk_STATUS (fld s.dev (PSP_AXa_DCOC a) 4 0)) 0 = true → flag s.dev (PSP_AXa_STATE a) 9 = false →
      ∃ d, GoesRaising (exec (.pspDcocBlankEnd a) s) s d Src.PSP_DCOC a
        ∧ rd d (PSP_AXa_T_DET a) = nowLo s.dev ∧ flag d (PSP_AXa_STATE a) 9 = true ∧ flag d (PSP_AXa_STATUS a) 0 = true
        ∧ (pspAxis d a).dcocHeld = false ∧ (pspAxis d a).detect = s.dev.ltb.toNat
        ∧ (∀ set ∈ setsOf s.dev a, isFixed s.dev a set = false → heldSafe s.dev a set = false →
            setState d a set = 1 ∧ ∀ (high : Bool), ∀ p ∈ bankPorts s.dev (setLegs s.dev a set) high,
              ⟨.psp, .halt, p⟩ ∈ d.glk.orders)
        ∧ (∀ set ∈ setsOf s.dev a, isFixed s.dev a set = true ∨ heldSafe s.dev a set = true →
            setState d a set = setState s.dev a set)
        ∧ RegsExcept [PSP_AXa_STATE a, PSP_AXa_STATUS a, PSP_AXa_T_DET a] s.dev d)) ∧
  (∀ (s : State) (a : Fin 4), Acts s →
    flag s.dev (PSP_AXa_STATE a) 9 = false ∨ s.dev.ltb.toNat < (pspAxis s.dev a).detect + 8000 →
    Goes (exec (.pspIdWindowExpire a) s) s s.dev) ∧
  (∀ (s : State) (a : Fin 4), Acts s →
    flag s.dev (PSP_AXa_STATE a) 9 = true → (pspAxis s.dev a).detect + 8000 ≤ s.dev.ltb.toNat →
    ∃ d, GoesRaising (exec (.pspIdWindowExpire a) s) s d Src.PSP_NOID a
      ∧ flag d (PSP_AXa_STATE a) 9 = false ∧ flag d (PSP_AXa_STATUS a) 2 = true
      ∧ (∀ set ∈ setsOf s.dev a, isFixed d a set = true
          ∧ (isFixed s.dev a set = true → setState d a set = setState s.dev a set)
          ∧ (isFixed s.dev a set = false → setState d a set = 4 ∧ flag d (PSP_AXa_STATE a) 8 = true
              ∧ ∀ (high : Bool), ∀ p ∈ bankPorts s.dev (setLegs s.dev a set) high, ⟨.psp, .holdOff, p⟩ ∈ d.glk.orders))
      ∧ RegsExcept [PSP_AXa_STATE a, PSP_AXa_STATUS a] s.dev d) ∧
  (∀ (s : State) (t : Nat), Acts s → s.dev.psp.lastSpeed = some t → s.dev.ltb.toNat < t + 800 →
    Goes (exec .pspSpeedEvaluate s) s s.dev) ∧
  (∀ s : State, Acts s → (∀ t, s.dev.psp.lastSpeed = some t → t + 800 ≤ s.dev.ltb.toNat) →
    ∃ d, Goes (exec .pspSpeedEvaluate s) s d ∧ d.psp.lastSpeed = some s.dev.ltb.toNat
      ∧ (∀ a : Fin 4, axisInUse s.dev a = true → sfld d (PSP_AXa_SPEED a) 15 0 = speedPu s.dev a
          ∧ flag d (PSP_AXa_SPEED a) 16 = speedUnknown s.dev a)
      ∧ (∀ (a : Fin 4) (v off hyst : Nat), axisInUse s.dev a = true → ∀ set ∈ setsOf s.dev a,
          isSpeedSel s.dev a set = true → isFixed s.dev a set = false → pspSel s.dev a ≠ 0 →
          (pspLink s.dev (axisLink s.dev a)).ovState = false → lockout s.dev = false → stoInForce s.dev a = false →
          2 ≤ setState s.dev a set → setState s.dev a set ≤ 4 → v = (speedPu s.dev a).natAbs →
          off = fld s.dev (PSP_AXa_OFFSPD a) 15 0 → hyst = fld s.dev (PSP_AXa_OFFSPD a) 31 16 →
          (speedUnknown s.dev a = true ∨ off ≤ v → setState d a set = ascState s.dev a set)
          ∧ (speedUnknown s.dev a = false → v + hyst < off → setState d a set = 4)
          ∧ (speedUnknown s.dev a = false → v < off → off ≤ v + hyst → setState d a set = setState s.dev a set))
      ∧ (∀ (a : Fin 4), ∀ set ∈ setsOf s.dev a,
          axisInUse s.dev a = false ∨ isSpeedSel s.dev a set = false ∨ isFixed s.dev a set = true ∨ pspSel s.dev a = 0
            ∨ (pspLink s.dev (axisLink s.dev a)).ovState = true ∨ setState s.dev a set < 2 ∨ 4 < setState s.dev a set →
          setState d a set = setState s.dev a set)
      ∧ (∀ x, (∀ a : Fin 4, x ≠ PSP_AXa_SPEED a ∧ x ≠ PSP_AXa_STATE a) → rd d x = rd s.dev x))
/-- The axis of winding discharge of link `l` may start it (R299). -/
def windingAllowed (d : Dev) (l : Nat) : Prop :=
  axisInUse d (waxis d l) = true ∧ axisLink d (waxis d l) = l
    ∧ (∀ set ∈ setsOf d (waxis d l), isFixed d (waxis d l) set = false)
    ∧ speedUnknown d (waxis d l) = false
    ∧ (speedPu d (waxis d l)).natAbs + fld d (PSP_AXa_OFFSPD (waxis d l)) 31 16 < fld d (PSP_AXa_OFFSPD (waxis d l)) 15 0
    ∧ ∀ p ∈ axisPorts d (waxis d l), portReady d p = true
/-- PSP_UDC_STALE_TIMEOUT, PSP_CHOPPER_CHECK, PSP_DISCHARGE_START, PSP_DCURVE_MISSED and PSP_DISCHARGE_TIMEOUT
(R296–R299): the stale link voltage, the chopper without current, the discharge through the resistor, what follows its
failure, and the end of TMAX. Rests on choices of the model: log entries 51, 53. -/
def Obligations.LinkProtection : Prop :=
  (∀ (s : State) (l : Fin 4), Acts s →
    linkInUse s.dev l = true → flag s.dev (PSP_LKl_UDC l) 31 = true → (pspLink s.dev l).stale = false →
    (pspLink s.dev l).udcTick + fld s.dev (PSP_LKl_UDC l) 23 16 * 800 ≤ s.dev.ltb.toNat →
    GoesRaising (exec (.pspUdcStaleTimeout l) s) s
      (setFlag (PSP_LKl_STATUS l) 4 true (modPspLink l (fun x => { x with stale := true }) s.dev)) Src.PSP_UDC_STALE l) ∧
  (∀ (s : State) (l : Fin 4), Acts s →
    linkInUse s.dev l = false ∨ flag s.dev (PSP_LKl_UDC l) 31 = false ∨ (pspLink s.dev l).stale = true ∨
      s.dev.ltb.toNat < (pspLink s.dev l).udcTick + fld s.dev (PSP_LKl_UDC l) 23 16 * 800 →
    Goes (exec (.pspUdcStaleTimeout l) s) s s.dev) ∧
  (∀ (s : State) (l : Fin 4), Acts s →
    (∀ t v, (pspLink s.dev l).chCheck = some (t, v) → s.dev.ltb.toNat < t + fld s.dev (PSP_LKl_CHCHK l) 15 0) →
    Goes (exec (.pspChopperCheck l) s) s s.dev) ∧
  (∀ (s : State) (l : Fin 4) (t : Nat) (v : Int), Acts s → (pspLink s.dev l).chCheck = some (t, v) →
    t + fld s.dev (PSP_LKl_CHCHK l) 15 0 ≤ s.dev.ltb.toNat →
    ∃ d, GoesRaising (exec (.pspChopperCheck l) s) s d Src.PSP_CH_FAIL l
      ∧ flag d (PSP_LKl_STATUS l) 1 = true ∧ flag d (PSP_LKl_STATUS l) 0 = false ∧ (pspLink d l).chCheck = none
      ∧ (∀ p ∈ withMirrors s.dev (highPort s.dev (chopperLeg s.dev l)), ⟨.psp, .holdOff, p⟩ ∈ d.glk.orders)
      ∧ RegsExcept [PSP_LKl_STATUS l] s.dev d) ∧
  (∀ (s : State) (l : Fin 4), Acts s →
    (sisLink s.dev l).wantDischarge = false ∨ hasDischarge s.dev l = false ∨ mainsOpen s.dev l = false →
    Goes (exec (.pspDischargeStart l) s) s s.dev) ∧
  (∀ (s : State) (l : Fin 4), Acts s →
    (sisLink s.dev l).wantDischarge = true → hasDischarge s.dev l = true → mainsOpen s.dev l = true →
    ∃ d, Goes (exec (.pspDischargeStart l) s) s d ∧ (sisLink d l).wantDischarge = false
      ∧ (disState s.dev l = 1 ∨ disState s.dev l = 2 → d.glk = s.dev.glk ∧ d.psp = s.dev.psp ∧ d.regs = s.dev.regs)
      ∧ (disState s.dev l ≠ 1 → disState s.dev l ≠ 2 → disState d l = 1 ∧ (pspLink d l).disT0 = none
          ∧ (pspLink d l).disU0Taken = false ∧ (pspLink d l).disChecked = 0
          ∧ d.glk.orders = s.dev.glk.orders ++ (withMirrors s.dev (dsPort s.dev l)).map (fun p => ⟨.psp, .holdOn, p⟩)
          ∧ RegsExcept [PSP_LKl_STATUS l] s.dev d)) ∧
  (∀ (s : State) (l : Fin 4), Acts s →
    disState s.dev l ≠ 1 ∨ (pspLink s.dev l).disT0 = none ∨
      (∀ t0, (pspLink s.dev l).disT0 = some t0 → ∀ k : Fin 8, fld s.dev (PSP_LKl_DCURVE l k) 31 16 ≠ 0 →
        (pspLink s.dev l).disChecked.testBit k = false →
        s.dev.ltb.toNat < t0 + fld s.dev (PSP_LKl_DCURVE l k) 31 16 * 800000 + fld s.dev (PSP_LKl_UDC l) 23 16 * 800) →
    Goes (exec (.pspDcurveMissed l) s) s s.dev) ∧
  (∀ (s : State) (l : Fin 4) (t0 : Nat) (k : Fin 8), Acts s → disState s.dev l = 1 →
    (pspLink s.dev l).disT0 = some t0 → fld s.dev (PSP_LKl_DCURVE l k) 31 16 ≠ 0 →
    (pspLink s.dev l).disChecked.testBit k = false →
    t0 + fld s.dev (PSP_LKl_DCURVE l k) 31 16 * 800000 + fld s.dev (PSP_LKl_UDC l) 23 16 * 800 ≤ s.dev.ltb.toNat →
    (flag s.dev (PSP_LKl_DIS l) 30 = false →
      ∃ d, GoesRaising (exec (.pspDcurveMissed l) s) s d Src.PSP_DS_FAIL l
        ∧ flag d (PSP_LKl_STATUS l) 8 = true ∧ disState d l = 4
        ∧ d.glk.orders = s.dev.glk.orders ++ (withMirrors s.dev (dsPort s.dev l)).map (fun p => ⟨.psp, .holdOff, p⟩)
        ∧ RegsExcept [PSP_LKl_STATUS l] s.dev d) ∧
    (flag s.dev (PSP_LKl_DIS l) 30 = true → windingAllowed s.dev l →
      ∃ d, GoesRaising (exec (.pspDcurveMissed l) s) s d Src.PSP_DS_FAIL l
        ∧ flag d (PSP_LKl_STATUS l) 8 = true ∧ disState d l = 2
        ∧ (∀ set ∈ setsOf s.dev (waxis s.dev l), setState d (waxis s.dev l) set = 5)
        ∧ (∀ p ∈ axisPorts s.dev (waxis s.dev l), ⟨.sis, .release, p⟩ ∈ d.glk.orders)
        ∧ (∀ p ∈ withMirrors s.dev (dsPort s.dev l), ⟨.psp, .holdOff, p⟩ ∈ d.glk.orders)
        ∧ RegsExcept [PSP_LKl_STATUS l, PSP_AXa_STATE (waxis s.dev l)] s.dev d) ∧
    (flag s.dev (PSP_LKl_DIS l) 30 = true → ¬windingAllowed s.dev l →
      GoesWithin (exec (.pspDcurveMissed l) s) s [] (fun d =>
        flag d (PSP_LKl_STATUS l) 8 = true ∧ disState d l = 4
          ∧ Reported Src.PSP_DS_FAIL l s.dev d ∧ Reported Src.PSP_DIS_FAIL l s.dev d))) ∧
  (∀ (s : State) (l : Fin 4), Acts s →
    (disState s.dev l ≠ 1 ∧ disState s.dev l ≠ 2) ∨ (pspLink s.dev l).disT0 = none ∨
      (∀ t0, (pspLink s.dev l).disT0 = some t0 → s.dev.ltb.toNat < t0 + fld s.dev (PSP_LKl_DIS l) 15 0 * 800000) →
    Goes (exec (.pspDischargeTimeout l) s) s s.dev) ∧
  (∀ (s : State) (l : Fin 4) (t0 : Nat), Acts s → (pspLink s.dev l).disT0 = some t0 →
    t0 + fld s.dev (PSP_LKl_DIS l) 15 0 * 800000 ≤ s.dev.ltb.toNat →
    (disState s.dev l = 1 →
      ∃ d, GoesRaising (exec (.pspDischargeTimeout l) s) s d Src.PSP_DIS_FAIL l ∧ disState d l = 4
        ∧ d.glk.orders = s.dev.glk.orders ++ (withMirrors s.dev (dsPort s.dev l)).map (fun p => ⟨.psp, .holdOff, p⟩)
        ∧ RegsExcept [PSP_LKl_STATUS l] s.dev d) ∧
    (disState s.dev l = 2 →
      ∃ d, GoesRaising (exec (.pspDischargeTimeout l) s) s d Src.PSP_DIS_FAIL l ∧ disState d l = 4
        ∧ (∀ set ∈ setsOf s.dev (waxis s.dev l), setState d (waxis s.dev l) set = 4)
        ∧ RegsExcept [PSP_LKl_STATUS l, PSP_AXa_STATE (waxis s.dev l)] s.dev d))

/-! ## Safety island: the mailbox -/

/-- A ring by `i` reaches SIS: the initiator makes accesses, ICF lets the write of the doorbell through, and SIS runs. -/
def ringReaches (d : Dev) (i : Initiator) : Prop :=
  initiatorLive d i = true ∧ denied d i SIS_MB_DOOR .w32 true = none ∧ d.sis.running = true

/-- The registers that a request of `i` and its answer write. -/
def mailRegs (i : Initiator) : List Nat :=
  [bank i (SIS_MB_REQ 0), bank i (SIS_MB_REQ 1), bank i (SIS_MB_REQ 2), bank i (SIS_MB_REQ 3), SIS_MB_RESP 0, SIS_MB_STATUS]

/-- The request of `i` with `tag` has been mailAnswered with `code` (R314, R315). -/
def mailAnswered (d : Dev) (i : Initiator) (tag : Byte) (code : Nat) : Prop :=
  rd d (SIS_MB_RESP 0) = BitVec.ofNat 32 (code + 256 * tag.toNat)
    ∧ rd d SIS_MB_STATUS = BitVec.ofNat 32 (2 + 256 * initiatorId i) ∧ d.response = ⟨false, 0⟩

/-- `arg` is no mask of axes in use. -/
def badMask (d : Dev) (arg : Word) : Prop := bits arg 31 4 ≠ 0 ∨ ∃ a : Fin 4, bit arg a = true ∧ axisInUse d a = false

/-- What R288 selects for set `set` of axis `a` as it stands in `d`. -/
def speedTable (d : Dev) (a set st : Nat) : Prop :=
  (pspSel d a = 0 → st = 4) ∧
  (pspSel d a ≠ 0 → speedUnknown d a = true ∨ fld d (PSP_AXa_OFFSPD a) 15 0 ≤ (speedPu d a).natAbs → st = ascState d a set) ∧
  (pspSel d a ≠ 0 → speedUnknown d a = false →
    (speedPu d a).natAbs + fld d (PSP_AXa_OFFSPD a) 31 16 < fld d (PSP_AXa_OFFSPD a) 15 0 → st = 4) ∧
  (pspSel d a ≠ 0 → speedUnknown d a = false → (speedPu d a).natAbs < fld d (PSP_AXa_OFFSPD a) 15 0 →
    fld d (PSP_AXa_OFFSPD a) 15 0 ≤ (speedPu d a).natAbs + fld d (PSP_AXa_OFFSPD a) 31 16 →
    st = if 2 ≤ setState d a set ∧ setState d a set ≤ 4 then setState d a set else ascState d a set)

/-- The conditions of R319 for axis `a`, in its order. -/
def enableConditions (d : Dev) (a : Nat) : List (Bool × Nat) :=
  [(!lockout d, 4), (decide (fld d SIS_SEAL 2 0 = 1), 6), (decide (fld d CFG_FEAT_STATUS 1 0 = 1), 5),
   (!flag d CFG_DBG_STATUS 0 || debugPerm d 5, 7),
   (!(stoAxes d).testBit a || (!flag d SIS_STO 2 && !flag d SIS_STO 3 && !flag d SIS_STO 4), 10),
   (decide (linkState d (axisLink d a) = 2), 9), ((axisPorts d a).all (portReady d), 8),
   (!relBlock d a && !sisCause d a && !keyBlocks d, 11)]

/-- ENABLE and DISABLE (R315, R319, R320): a wrong mask answers ARG; ENABLE grants drive enable to exactly the named
axes that meet every condition, sends their RELEASEs, and answers with the first failure; DISABLE drops it and applies
the speed-selected state. PRECHARGE, OPEN and DISCHARGE (R315, R317, R318): their refusal codes; an accepted PRECHARGE
with every feedback open closes MAIN_NEG, OPEN opens MAIN_POS and PRECHARGE first, DISCHARGE is noted for the link.
Rests on choices of the model: log entries 55, 57. -/
def Obligations.EnableAndLinkCommands : Prop :=
  ((∀ (s : State) (i : Initiator) (tag : Byte) (arg : Word), Acts s → ringReaches s.dev i → lockPhase s.dev ≠ 4 →
    badMask s.dev arg →
    (∃ d, Goes (exec (.enable i tag arg) s) s d ∧ mailAnswered d i tag 2 ∧ d.sis = s.dev.sis
      ∧ RegsExcept (mailRegs i) s.dev d) ∧
    ∃ d, Goes (exec (.disable i tag arg) s) s d ∧ mailAnswered d i tag 2 ∧ d.sis = s.dev.sis
      ∧ RegsExcept (mailRegs i) s.dev d) ∧
  (∀ (s : State) (i : Initiator) (tag : Byte) (arg : Word), Acts s → ringReaches s.dev i → lockPhase s.dev ≠ 4 →
    ¬badMask s.dev arg →
    ∃ (d : Dev) (code : Nat), Goes (exec (.enable i tag arg) s) s d ∧ mailAnswered d i tag code
      ∧ (∀ a : Fin 4, granted d a = true ↔ granted s.dev a = true ∨
          (bit arg a = true ∧ ∀ c ∈ enableConditions s.dev a, c.1 = true))
      ∧ (∀ a : Fin 4, granted s.dev a = false → granted d a = true →
          ∀ p ∈ axisPorts s.dev a, ⟨.sis, .release, p⟩ ∈ d.glk.orders)
      ∧ (code = 0 ↔ ∀ a : Fin 4, bit arg a = true → granted d a = true)
      ∧ (∀ a : Fin 4, arg = BitVec.ofNat 32 (2 ^ a.val) → granted s.dev a = false →
          code = (((enableConditions s.dev a).find? (fun c => !c.1)).map (·.2)).getD 0)
      ∧ RegsExcept (SIS_STATE :: mailRegs i) s.dev d) ∧
  (∀ (s : State) (i : Initiator) (tag : Byte) (arg : Word), Acts s → ringReaches s.dev i → lockPhase s.dev ≠ 4 →
    ¬badMask s.dev arg →
    ∃ d, Goes (exec (.disable i tag arg) s) s d ∧ mailAnswered d i tag 0
      ∧ (∀ a : Fin 4, granted d a = (granted s.dev a && !bit arg a))
      ∧ (∀ a : Fin 4, bit arg a = true → granted s.dev a = true → ∀ p ∈ axisPorts s.dev a,
          ⟨.sis, .release, p⟩ ∉ d.glk.orders)
      ∧ (∀ a : Fin 4, bit arg a = true → lockout s.dev = false → stoInForce s.dev a = false → ∀ set ∈ setsOf s.dev a,
          isFixed s.dev a set = false → heldSafe s.dev a set = false → speedTable s.dev a set (setState d a set))
      ∧ (∀ (a : Fin 4) (set : Nat), bit arg a = false ∨ isFixed s.dev a set = true ∨ heldSafe s.dev a set = true →
          setState d a set = setState s.dev a set)
      ∧ ∀ x, x ∉ SIS_STATE :: mailRegs i → (∀ a : Fin 4, bit arg a = true →
          x ≠ PSP_AXa_STATE a ∧ x ≠ PSP_AXa_STATUS a ∧ x ≠ CEA_AXa_FC_STATUS a) → rd d x = rd s.dev x)) ∧
  ((∀ (s : State) (i : Initiator) (tag : Byte) (arg : Word) (l code : Nat), Acts s → ringReaches s.dev i →
    lockPhase s.dev ≠ 4 → l = bits arg 1 0 →
    (bits arg 31 2 ≠ 0 ∧ code = 2) ∨
      (bits arg 31 2 = 0 ∧ (linkState s.dev l ≠ 0 ∨ saf8 s.dev (0x2D0 + 16 * l) = 0) ∧ code = 3) ∨
      (bits arg 31 2 = 0 ∧ linkState s.dev l = 0 ∧ saf8 s.dev (0x2D0 + 16 * l) ≠ 0 ∧ fld s.dev SIS_SEAL 2 0 ≠ 1 ∧ code = 6) ∨
      (bits arg 31 2 = 0 ∧ linkState s.dev l = 0 ∧ saf8 s.dev (0x2D0 + 16 * l) ≠ 0 ∧ fld s.dev SIS_SEAL 2 0 = 1
        ∧ lockout s.dev = true ∧ code = 4) ∨
      (bits arg 31 2 = 0 ∧ linkState s.dev l = 0 ∧ saf8 s.dev (0x2D0 + 16 * l) ≠ 0 ∧ fld s.dev SIS_SEAL 2 0 = 1
        ∧ lockout s.dev = false ∧ (∃ k ∈ linkCts s.dev l, (contactor s.dev k).feedback = true) ∧ code = 12) →
    ∃ d, Goes (exec (.precharge i tag arg) s) s d ∧ mailAnswered d i tag code ∧ d.sis = s.dev.sis
      ∧ RegsExcept (mailRegs i) s.dev d) ∧
  (∀ (s : State) (i : Initiator) (tag : Byte) (arg : Word) (l : Nat), Acts s → ringReaches s.dev i →
    lockPhase s.dev ≠ 4 → l = bits arg 1 0 → bits arg 31 2 = 0 → linkState s.dev l = 0 →
    saf8 s.dev (0x2D0 + 16 * l) ≠ 0 → fld s.dev SIS_SEAL 2 0 = 1 → lockout s.dev = false →
    (∀ k ∈ linkCts s.dev l, (contactor s.dev k).feedback = false) → ctsOf s.dev l 2 ≠ [] →
    ∃ d, Goes (exec (.precharge i tag arg) s) s d ∧ mailAnswered d i tag 0 ∧ linkState d l = 1 ∧ (sisLink d l).seq = .pcNeg
      ∧ (∀ k ∈ ctsOf s.dev l 2, (contactor d k).close = true ∧ flag d SIS_CT k = true)
      ∧ (∀ k ∈ linkCts s.dev l, k ∉ ctsOf s.dev l 2 → (contactor d k).close = false)
      ∧ RegsExcept (SIS_CT :: SIS_LINK :: mailRegs i) s.dev d) ∧
  (∀ (s : State) (i : Initiator) (tag : Byte) (arg : Word) (l code : Nat), Acts s → ringReaches s.dev i →
    lockPhase s.dev ≠ 4 → l = bits arg 1 0 →
    (bits arg 31 2 ≠ 0 ∧ code = 2) ∨
      (bits arg 31 2 = 0 ∧ (∃ a ∈ linkAxes s.dev l, granted s.dev a = true) ∧ code = 3) ∨
      (bits arg 31 2 = 0 ∧ (∀ a ∈ linkAxes s.dev l, granted s.dev a = false) ∧ linkState s.dev l ≠ 1
        ∧ linkState s.dev l ≠ 2 ∧ code = 0) →
    ∃ d, Goes (exec (.open_ i tag arg) s) s d ∧ mailAnswered d i tag code ∧ d.sis = s.dev.sis
      ∧ RegsExcept (mailRegs i) s.dev d) ∧
  (∀ (s : State) (i : Initiator) (tag : Byte) (arg : Word) (l : Nat), Acts s → ringReaches s.dev i →
    lockPhase s.dev ≠ 4 → l = bits arg 1 0 → bits arg 31 2 = 0 → (∀ a ∈ linkAxes s.dev l, granted s.dev a = false) →
    linkState s.dev l = 1 ∨ linkState s.dev l = 2 →
    (∃ k ∈ ctsOf s.dev l 1 ++ ctsOf s.dev l 3, (contactor s.dev k).feedback = true) →
    ∃ d, Goes (exec (.open_ i tag arg) s) s d ∧ mailAnswered d i tag 0 ∧ linkState d l = 3 ∧ (sisLink d l).seq = .openPos
      ∧ (∀ k ∈ ctsOf s.dev l 1 ++ ctsOf s.dev l 3, (contactor d k).close = false)
      ∧ (∀ k ∈ ctsOf s.dev l 2, contactor d k = contactor s.dev k)
      ∧ RegsExcept (SIS_CT :: SIS_LINK :: mailRegs i) s.dev d) ∧
  (∀ (s : State) (i : Initiator) (tag : Byte) (arg : Word) (l : Nat), Acts s → ringReaches s.dev i →
    lockPhase s.dev ≠ 4 → l = bits arg 1 0 →
    ∃ (d : Dev) (code : Nat), Goes (exec (.discharge i tag arg) s) s d ∧ mailAnswered d i tag code
      ∧ code = (if bits arg 31 2 ≠ 0 then 2 else if mainsOpen s.dev l then 0 else 3)
      ∧ (code ≠ 0 → d.sis = s.dev.sis) ∧ (code = 0 → (sisLink d l).wantDischarge = true)
      ∧ RegsExcept (mailRegs i) s.dev d))

/-- UNLOCK, SEAL, CLEAR, LOCK_RST_RELEASE, SIS_SELFCHECK_DONE and UNLOCK_WINDOW_EXPIRE (R312, R315, R331): the steps
out of Lockout in their order and what breaks them off; the seal; and clearing fault bits. Rests on choices of the
model: log entry 57. -/
def Obligations.LeavingLockoutAndSeal : Prop :=
  (∀ (s : State) (n : Nat), Acts s → n < 16000000 → Goes (exec (.lockRstRelease n) s) s s.dev) ∧
  (∀ (s : State) (n : Nat), Acts s → 16000000 ≤ n → n < 400000000 ∨ 2400000000 < n →
    ∃ d, Goes (exec (.lockRstRelease n) s) s d ∧ d.jrn.offered.length = s.dev.jrn.offered.length + 1
      ∧ RegsExcept [] s.dev d) ∧
  (∀ (s : State) (n : Nat), Acts s → 400000000 ≤ n → n ≤ 2400000000 →
    (lockout s.dev = false ∨ lockPhase s.dev ≠ 1 → Goes (exec (.lockRstRelease n) s) s s.dev) ∧
    (lockout s.dev = true → lockPhase s.dev = 1 →
      ((∀ k : Fin 16, flag s.dev SIS_LOCK (16 + k) = true → causeCleared s.dev k = true) →
        ∃ d, Goes (exec (.lockRstRelease n) s) s d ∧ lockPhase d = 2 ∧ RegsExcept [SIS_LOCK] s.dev d
          ∧ fld d SIS_LOCK 31 3 = fld s.dev SIS_LOCK 31 3) ∧
      ((∃ k : Fin 16, flag s.dev SIS_LOCK (16 + k) = true ∧ causeCleared s.dev k = false) →
        ∃ d, Goes (exec (.lockRstRelease n) s) s d ∧ d.jrn.offered.length = s.dev.jrn.offered.length + 1
          ∧ RegsExcept [] s.dev d))) ∧
  (∀ s : State, Acts s →
    (lockPhase s.dev = 2 →
      ∃ d, Goes (exec (.sisSelfcheckDone true true) s) s d ∧ lockPhase d = 3 ∧ d.sis.keyFrom = s.dev.ltb.toNat
        ∧ RegsExcept [SIS_LOCK] s.dev d) ∧
    (lockPhase s.dev ≠ 2 → Goes (exec (.sisSelfcheckDone true true) s) s s.dev)) ∧
  (∀ (s : State) (b : Bool), Acts s →
    ∃ d, Goes (exec (.sisSelfcheckDone false b) s) s d ∧ lockout d = true ∧ flag d SIS_FAULT 12 = true
      ∧ flag d SIS_LOCK 28 = true ∧ (b = false → flag d SIS_FAULT 13 = true ∧ flag d SIS_LOCK 29 = true)
      ∧ (lockPhase s.dev = 2 ∨ lockout s.dev = false → lockPhase d = 1)) ∧
  (∀ s : State, Acts s →
    ∃ d, Goes (exec (.sisSelfcheckDone true false) s) s d ∧ lockout d = true ∧ flag d SIS_FAULT 13 = true
      ∧ flag d SIS_LOCK 29 = true) ∧
  (∀ (s : State) (i : Initiator) (tag : Byte) (arg : Word), Acts s → ringReaches s.dev i →
    (lockout s.dev = false ∨ (lockPhase s.dev ≠ 3 ∧ lockPhase s.dev ≠ 4) →
      ∃ d, Goes (exec (.unlock i tag arg) s) s d ∧ mailAnswered d i tag 4 ∧ d.sis = s.dev.sis ∧ RegsExcept (mailRegs i) s.dev d) ∧
    (lockout s.dev = true → lockPhase s.dev = 3 ∨ lockPhase s.dev = 4 →
      (s.dev.sis.keyFrom + 8000000000 ≤ s.dev.ltb.toNat →
        ∃ d, Goes (exec (.unlock i tag arg) s) s d ∧ mailAnswered d i tag 4 ∧ lockPhase d = 1 ∧ lockout d = true) ∧
      (s.dev.ltb.toNat < s.dev.sis.keyFrom + 8000000000 → arg ≠ ~~~ rd s.dev SIS_LOCK_CHAL →
        ∃ d, Goes (exec (.unlock i tag arg) s) s d ∧ mailAnswered d i tag 13 ∧ lockPhase d = 1 ∧ lockout d = true) ∧
      (s.dev.ltb.toNat < s.dev.sis.keyFrom + 8000000000 → arg = ~~~ rd s.dev SIS_LOCK_CHAL → lockPhase s.dev = 3 →
        ∃ d, Goes (exec (.unlock i tag arg) s) s d ∧ mailAnswered d i tag 0 ∧ lockPhase d = 4 ∧ lockout d = true) ∧
      (s.dev.ltb.toNat < s.dev.sis.keyFrom + 8000000000 → arg = ~~~ rd s.dev SIS_LOCK_CHAL → lockPhase s.dev = 4 →
        ∃ d, Goes (exec (.unlock i tag arg) s) s d ∧ mailAnswered d i tag 0 ∧ fld d SIS_STATE 2 0 = 1 ∧ rd d SIS_LOCK = 0
          ∧ d.sis.lockRecord = none ∧ d.sis.contactors = s.dev.sis.contactors ∧ (∀ a : Fin 4, granted d a = granted s.dev a)
          ∧ RegsExcept (SIS_STATE :: SIS_LOCK :: mailRegs i) s.dev d))) ∧
  (∀ (s : State) (i : Initiator) (tag : Byte) (arg : Word), Acts s → ringReaches s.dev i → lockPhase s.dev = 4 →
    bits arg 31 4 ≠ 0 → ∃ d, Goes (exec (.enable i tag arg) s) s d ∧ mailAnswered d i tag 2 ∧ lockPhase d = 1) ∧
  (∀ s : State, Acts s →
    ((lockPhase s.dev = 3 ∨ lockPhase s.dev = 4) ∧ s.dev.sis.keyFrom + 8000000000 ≤ s.dev.ltb.toNat →
      ∃ d, Goes (exec .unlockWindowExpire s) s d ∧ lockPhase d = 1 ∧ RegsExcept [SIS_LOCK] s.dev d) ∧
    ((lockPhase s.dev ≠ 3 ∧ lockPhase s.dev ≠ 4) ∨ s.dev.ltb.toNat < s.dev.sis.keyFrom + 8000000000 →
      Goes (exec .unlockWindowExpire s) s s.dev)) ∧
  (∀ (s : State) (i : Initiator) (tag : Byte) (arg : Word), Acts s → ringReaches s.dev i → lockPhase s.dev ≠ 4 →
    (arg ≠ 0 → ∃ d, Goes (exec (.seal i tag arg) s) s d ∧ mailAnswered d i tag 2 ∧ d.sis = s.dev.sis) ∧
    (arg = 0 → s.dev.sis.straps = none ∨ fld s.dev SIS_SEAL 2 0 ≠ 2 ∨ s.dev.sis.fuses.isSealed = true ∨ selCopy s.dev = 0 →
      ∃ d, Goes (exec (.seal i tag arg) s) s d ∧ mailAnswered d i tag 6 ∧ d.sis = s.dev.sis) ∧
    (∀ c, arg = 0 → s.dev.sis.straps = some c → fld s.dev SIS_SEAL 2 0 = 2 → s.dev.sis.fuses.isSealed = false →
      selCopy s.dev ≠ 0 →
      ∃ d, Goes (exec (.seal i tag arg) s) s d ∧ mailAnswered d i tag 0 ∧ flag d SIS_SEAL 8 = true
        ∧ d.sis = { s.dev.sis with fuses := ⟨true, c, s.dev.sis.safetyDigest⟩ }
        ∧ RegsExcept (SIS_SEAL :: mailRegs i) s.dev d)) ∧
  (∀ (s : State) (i : Initiator) (tag : Byte) (arg : Word), Acts s → ringReaches s.dev i → lockPhase s.dev ≠ 4 →
    (bits arg 31 16 ≠ 0 → ∃ d, Goes (exec (.clear i tag arg) s) s d ∧ mailAnswered d i tag 2
      ∧ rd d SIS_FAULT = rd s.dev SIS_FAULT) ∧
    (bits arg 31 16 = 0 → (∃ k : Fin 16, bit arg k = true ∧ flag s.dev SIS_FAULT k = true ∧ causeCleared s.dev k = false) →
      ∃ d, Goes (exec (.clear i tag arg) s) s d ∧ mailAnswered d i tag 3 ∧ rd d SIS_FAULT = rd s.dev SIS_FAULT) ∧
    (bits arg 31 16 = 0 → (∀ k : Fin 16, bit arg k = true → flag s.dev SIS_FAULT k = true → causeCleared s.dev k = true) →
      ∃ d, Goes (exec (.clear i tag arg) s) s d ∧ mailAnswered d i tag 0
        ∧ rd d SIS_FAULT = rd s.dev SIS_FAULT &&& ~~~ arg ∧ RegsExcept (SIS_FAULT :: mailRegs i) s.dev d))

/-! ## Safety island: contactors, STO, the torque monitor, supervision -/

/-- SIS has entered Lockout, or has added the cause of bit `k` of `SIS_FAULT` to a Lockout in force (R329). -/
def lockedOut (d e : Dev) (k : Nat) : Prop :=
  lockout e = true ∧ flag e SIS_FAULT k = true ∧ flag e SIS_LOCK (16 + k) = true
    ∧ (lockout d = false → lockPhase e = 1 ∧ (∀ a : Fin 4, granted e a = false)
        ∧ ∀ c : Fin 6, ctRole d c ≠ 0 → ctLink d c < 4 → (contactor e c).close = false)
    ∧ e.sis.lockRecord = some (fld e SIS_LOCK 31 16, d.ltb.toNat)
/-- CONTACTOR_FEEDBACK, CONTACTOR_FB_TIMEOUT, PRECHARGE_VOLTAGE_TIMEOUT and PRECHARGE_RETRY_END (R316–R318): feedback
moves the sequences on; a late, welded or contradicting contactor and the third failed precharge in a row cause
Lockout. Rests on choices of the model: log entry 54. -/
def Obligations.ContactorsAndPrecharge : Prop :=
  (∀ (s : State) (k : Fin 6) (b : Bool), Acts s → ctRole s.dev k = 0 → Goes (exec (.contactorFeedback k b) s) s s.dev) ∧
  (∀ (s : State) (k : Fin 6) (b c : Bool), Acts s → ctRole s.dev k ≠ 0 → c = decide (b = ctFbPol s.dev k) →
    ((contactor s.dev k).checked = true ∨ (contactor s.dev k).ever = true ∨ c = false) →
    ((contactor s.dev k).settled = false ∨ c = (contactor s.dev k).feedback ∨ c = (contactor s.dev k).close) →
    ∃ d, Goes (exec (.contactorFeedback k b) s) s d ∧ (contactor d k).feedback = c ∧ (contactor d k).checked = true
      ∧ flag d SIS_CT (8 + k) = b ∧ RegsExcept [SIS_CT, SIS_LINK] s.dev d
      ∧ (∀ j : Fin 6, j ≠ k → (contactor d j).feedback = (contactor s.dev j).feedback)
      ∧ (∀ l : Fin 4, ctLink s.dev k = l → k.val ∈ ctsOf s.dev l 2 → (sisLink s.dev l).seq = .pcNeg → c = true →
          (∀ j ∈ ctsOf s.dev l 2, (contactor s.dev j).close = true) →
          (∀ j ∈ ctsOf s.dev l 2, j ≠ k.val → (contactor s.dev j).feedback = true) →
          (∃ j ∈ ctsOf s.dev l 3, (contactor s.dev j).feedback = false) →
          ∀ j ∈ ctsOf s.dev l 3, (contactor d j).close = true)
      ∧ (∀ l : Fin 4, ctLink s.dev k = l → k.val ∈ ctsOf s.dev l 1 → (sisLink s.dev l).seq = .pcPos → c = true →
          (∀ j ∈ ctsOf s.dev l 1, (contactor s.dev j).close = true) →
          (∀ j ∈ ctsOf s.dev l 1, j ≠ k.val → (contactor s.dev j).feedback = true) →
          ∀ j ∈ ctsOf s.dev l 3, (contactor d j).close = false)
      ∧ (∀ l : Fin 4, ctLink s.dev k = l → k.val ∈ ctsOf s.dev l 3 → (sisLink s.dev l).seq = .pcPreOpen → c = false →
          (∀ j ∈ ctsOf s.dev l 3, (contactor s.dev j).close = false) →
          (∀ j ∈ ctsOf s.dev l 3, j ≠ k.val → (contactor s.dev j).feedback = false) →
          linkState d l = 2 ∧ (sisLink d l).seq = .idle ∧ (sisLink d l).fails = 0)
      ∧ (∀ l : Fin 4, ctLink s.dev k = l → k.val ∈ ctsOf s.dev l 1 → (sisLink s.dev l).seq = .openPos → c = false →
          (∀ j ∈ ctsOf s.dev l 1 ++ ctsOf s.dev l 3, (contactor s.dev j).close = false) →
          (∀ j ∈ ctsOf s.dev l 1 ++ ctsOf s.dev l 3, j ≠ k.val → (contactor s.dev j).feedback = false) →
          ∀ j ∈ ctsOf s.dev l 2, (contactor d j).close = false)) ∧
  (∀ (s : State) (k : Fin 6) (b : Bool), Acts s → ctRole s.dev k ≠ 0 → b = ctFbPol s.dev k →
    (contactor s.dev k).checked = false → (contactor s.dev k).ever = false →
    GoesWithin (exec (.contactorFeedback k b) s) s [0x5000] (fun d =>
      lockedOut s.dev d 6 ∧ Reported Src.SIS_CT_WELD k s.dev d ∧ (contactor d k).feedback = true)) ∧
  (∀ (s : State) (k : Fin 6) (b c : Bool), Acts s → ctRole s.dev k ≠ 0 → c = decide (b = ctFbPol s.dev k) →
    (contactor s.dev k).checked = true ∨ (contactor s.dev k).ever = true ∨ c = false →
    (contactor s.dev k).settled = true → c ≠ (contactor s.dev k).feedback → c ≠ (contactor s.dev k).close →
    GoesWithin (exec (.contactorFeedback k b) s) s [0x5000] (fun d =>
      lockedOut s.dev d 7 ∧ Reported Src.SIS_CT_CONTRA k s.dev d ∧ (contactor d k).feedback = c)) ∧
  (∀ (s : State) (k : Fin 6), Acts s →
    ctRole s.dev k = 0 ∨ (contactor s.dev k).settled = true ∨ s.dev.ltb.toNat < (contactor s.dev k).cmdTick + ctTfb s.dev k →
    Goes (exec (.contactorFbTimeout k) s) s s.dev) ∧
  (∀ (s : State) (k : Fin 6), Acts s → ctRole s.dev k ≠ 0 → (contactor s.dev k).settled = false →
    (contactor s.dev k).cmdTick + ctTfb s.dev k ≤ s.dev.ltb.toNat →
    GoesWithin (exec (.contactorFbTimeout k) s) s [0x5000] (fun d =>
      ((contactor s.dev k).close = true → lockedOut s.dev d 5 ∧ Reported Src.SIS_CT_LATE k s.dev d) ∧
      ((contactor s.dev k).close = false → lockedOut s.dev d 6 ∧ Reported Src.SIS_CT_WELD k s.dev d))) ∧
  (∀ (s : State) (l : Fin 4), Acts s → (∀ t b, (sisLink s.dev l).seq ≠ .pcPre t b) →
    Goes (exec (.prechargeVoltageTimeout l) s) s s.dev) ∧
  (∀ (s : State) (l : Fin 4) (t : Nat) (b : Bool), Acts s → (sisLink s.dev l).seq = .pcPre t b →
    (b = true ∨ s.dev.ltb.toNat < t + saf16 s.dev (0x2D4 + 16 * l) * 800000) →
    s.dev.ltb.toNat < t + saf16 s.dev (0x2D8 + 16 * l) * 800000 → Goes (exec (.prechargeVoltageTimeout l) s) s s.dev) ∧
  (∀ (s : State) (l : Fin 4) (t : Nat) (b : Bool), Acts s → (sisLink s.dev l).seq = .pcPre t b →
    (b = false ∧ t + saf16 s.dev (0x2D4 + 16 * l) * 800000 ≤ s.dev.ltb.toNat) ∨
      t + saf16 s.dev (0x2D8 + 16 * l) * 800000 ≤ s.dev.ltb.toNat →
    ((sisLink s.dev l).fails < 2 →
      ∃ d, GoesRaising (exec (.prechargeVoltageTimeout l) s) s d Src.SIS_PCH_FAIL l ∧ flag d SIS_FAULT 8 = true
        ∧ linkState d l = 4 ∧ (sisLink d l).seq = .idle ∧ (sisLink d l).fails = (sisLink s.dev l).fails + 1
        ∧ (sisLink d l).retryFrom = s.dev.ltb.toNat ∧ (∀ k ∈ linkCts s.dev l, (contactor d k).close = false)
        ∧ RegsExcept [SIS_FAULT, SIS_LINK, SIS_CT] s.dev d) ∧
    (2 ≤ (sisLink s.dev l).fails →
      GoesWithin (exec (.prechargeVoltageTimeout l) s) s [0x5000] (fun d =>
        lockedOut s.dev d 8 ∧ Reported Src.SIS_PCH_FAIL l s.dev d))) ∧
  (∀ (s : State) (l : Fin 4), Acts s →
    (linkState s.dev l = 4 → (sisLink s.dev l).retryFrom + saf16 s.dev (0x2DA + 16 * l) * 800000 ≤ s.dev.ltb.toNat →
      ∃ d, Goes (exec (.prechargeRetryEnd l) s) s d ∧ linkState d l = 0 ∧ d.sis = s.dev.sis
        ∧ RegsExcept [SIS_LINK] s.dev d ∧ ∀ m : Fin 4, m ≠ l → linkState d m = linkState s.dev m) ∧
    (linkState s.dev l ≠ 4 ∨ s.dev.ltb.toNat < (sisLink s.dev l).retryFrom + saf16 s.dev (0x2DA + 16 * l) * 800000 →
      Goes (exec (.prechargeRetryEnd l) s) s s.dev))
/-- STO is in force in `e` for the axes of the STO record in use in `d` (R307, R322). -/
def stoTaken (d e : Dev) : Prop :=
  flag e SIS_STO 4 = true ∧ flag e SIS_STO 3 = false ∧
    ∀ a : Fin 4, axisInUse d a = true → (stoAxes d).testBit a = true →
      granted e a = false ∧ (∀ set ∈ setsOf d a, setState e a set = 4)
        ∧ ∀ p ∈ axisPorts d a, ⟨.sis, .holdOff, p⟩ ∈ e.glk.orders
/-- STO_INPUT_EDGE, STO_DEMAND, STO_DISCREPANCY, STO_END, SS1_SUPERVISE and SS1_TIMEOUT (R307, R321, R322): the
inputs, what a filtered demand does under either STOMAP, the discrepancy, the SS1 envelope, and the end of STO. Rests
on choices of the model: log entry 56. -/
def Obligations.StoAndSs1 : Prop :=
  (∀ (s : State) (b : Bool), Acts s →
    (∃ d, Goes (exec (.stoInputEdge false b) s) s d ∧ d.sis.stoA = b ∧ d.sis.stoB = s.dev.sis.stoB
      ∧ d.sis.stoATick = (if s.dev.sis.stoA = b then s.dev.sis.stoATick else s.dev.ltb.toNat)
      ∧ d.sis.stoDiffer = (if b = s.dev.sis.stoB then none else some (s.dev.sis.stoDiffer.getD s.dev.ltb.toNat))
      ∧ RegsExcept [] s.dev d) ∧
    (∃ d, Goes (exec (.stoInputEdge true b) s) s d ∧ d.sis.stoB = b ∧ d.sis.stoA = s.dev.sis.stoA
      ∧ d.sis.stoBTick = (if s.dev.sis.stoB = b then s.dev.sis.stoBTick else s.dev.ltb.toNat)
      ∧ d.sis.stoDiffer = (if s.dev.sis.stoA = b then none else some (s.dev.sis.stoDiffer.getD s.dev.ltb.toNat))
      ∧ RegsExcept [] s.dev d)) ∧
  (∀ s : State, Acts s → s.dev.sis.running = false → Goes (exec .stoDemand s) s s.dev) ∧
  (∀ (s : State) (x y : Bool), Acts s → s.dev.sis.running = true →
    x = filteredLevel s.dev s.dev.sis.stoA s.dev.sis.stoATick (flag s.dev SIS_STO 0) →
    y = filteredLevel s.dev s.dev.sis.stoB s.dev.sis.stoBTick (flag s.dev SIS_STO 1) →
    ((x = true ∧ y = true) ∨ flag s.dev SIS_STO 2 = true →
      ∃ d, Goes (exec .stoDemand s) s d ∧ flag d SIS_STO 0 = x ∧ flag d SIS_STO 1 = y ∧ d.sis = s.dev.sis
        ∧ fld d SIS_STO 31 2 = fld s.dev SIS_STO 31 2 ∧ RegsExcept [SIS_STO] s.dev d) ∧
    (x = false ∨ y = false → flag s.dev SIS_STO 2 = false → fld s.dev SIS_STO 9 8 ≠ 1 →
      ∃ d, Goes (exec .stoDemand s) s d ∧ flag d SIS_STO 2 = true ∧ stoTaken s.dev d ∧ (∀ a : Fin 4,
          (stoAxes s.dev).testBit a = false → granted d a = granted s.dev a) ∧
        ∀ l : Fin 4, linkState s.dev l = 1 → linkState d l ≠ 1 ∧ ∀ k ∈ linkCts s.dev l, (contactor d k).close = false) ∧
    (∀ a : Fin 4, x = false ∨ y = false → flag s.dev SIS_STO 2 = false → fld s.dev SIS_STO 9 8 = 1 → stoList s.dev = [a.val] →
      ∃ d, GoesRaising (exec .stoDemand s) s d Src.SIS_SS1 a ∧ flag d SIS_STO 2 = true ∧ flag d SIS_STO 3 = true
        ∧ flag d SIS_STO 4 = flag s.dev SIS_STO 4 ∧ d.sis.ss1Since = s.dev.ltb.toNat
        ∧ (∀ b : Fin 4, granted d b = granted s.dev b) ∧ RegsExcept [SIS_STO, SIS_CT, SIS_LINK] s.dev d)) ∧
  (∀ s : State, Acts s →
    s.dev.sis.running = false ∨ flag s.dev SIS_FAULT 3 = true ∨
      (∀ t, s.dev.sis.stoDiffer = some t → s.dev.ltb.toNat ≤ t + saf16 s.dev 0x290 * 800000) →
    Goes (exec .stoDiscrepancy s) s s.dev) ∧
  (∀ (s : State) (t : Nat), Acts s → s.dev.sis.running = true → flag s.dev SIS_FAULT 3 = false →
    s.dev.sis.stoDiffer = some t → t + saf16 s.dev 0x290 * 800000 < s.dev.ltb.toNat →
    GoesWithin (exec .stoDiscrepancy s) s [0x5000] (fun d => lockedOut s.dev d 3 ∧ Reported Src.SIS_STO_DISC 0 s.dev d)) ∧
  (∀ s : State, Acts s →
    flag s.dev SIS_STO 4 = false ∨ s.dev.sis.stoA = false ∨ s.dev.sis.stoB = false ∨
      s.dev.ltb.toNat < s.dev.sis.stoATick + stoFilt s.dev ∨ s.dev.ltb.toNat < s.dev.sis.stoBTick + stoFilt s.dev →
    Goes (exec .stoEnd s) s s.dev) ∧
  (∀ s : State, Acts s → flag s.dev SIS_STO 4 = true → s.dev.sis.stoA = true → s.dev.sis.stoB = true →
    s.dev.sis.stoATick + stoFilt s.dev ≤ s.dev.ltb.toNat → s.dev.sis.stoBTick + stoFilt s.dev ≤ s.dev.ltb.toNat →
    ∃ d, Goes (exec .stoEnd s) s d ∧ flag d SIS_STO 4 = false ∧ flag d SIS_STO 2 = false ∧ flag d SIS_STO 0 = true
      ∧ flag d SIS_STO 1 = true ∧ (∀ a : Fin 4, granted d a = granted s.dev a)
      ∧ ∀ a : Fin 4, a.val ∈ stoList s.dev → ∀ set ∈ setsOf s.dev a, isFixed s.dev a set = false → lockout s.dev = false →
          ((pspLink s.dev (axisLink s.dev a)).ovState = true → setState d a set = ascState s.dev a set) ∧
          ((pspLink s.dev (axisLink s.dev a)).ovState = false → setState d a set = speedChoice s.dev a set 4)) ∧
  (∀ (s : State) (a : Fin 4), Acts s → flag s.dev SIS_STO 3 = false ∨ a.val ∉ stoList s.dev →
    Goes (exec (.ss1Supervise a) s) s s.dev) ∧
  (∀ (s : State) (a : Fin 4) (v v0 : Nat), Acts s → flag s.dev SIS_STO 3 = true → a.val ∈ stoList s.dev →
    v = (sisSpeed s.dev a).natAbs → v0 = listGet 0 s.dev.sis.ss1Speed a →
    (saf16 s.dev 0x298 < v → v0 * 800000000 < v * 800000000 + saf16 s.dev 0x296 * (s.dev.ltb.toNat - s.dev.sis.ss1Since) →
      ∃ d, GoesRaising (exec (.ss1Supervise a) s) s d Src.SIS_SS1_FAIL a ∧ flag d SIS_FAULT 4 = true ∧ stoTaken s.dev d) ∧
    (saf16 s.dev 0x298 < v → v * 800000000 + saf16 s.dev 0x296 * (s.dev.ltb.toNat - s.dev.sis.ss1Since) ≤ v0 * 800000000 →
      Goes (exec (.ss1Supervise a) s) s s.dev) ∧
    ((∀ b ∈ stoList s.dev, (sisSpeed s.dev b).natAbs ≤ saf16 s.dev 0x298) →
      ∃ d, Goes (exec (.ss1Supervise a) s) s d ∧ stoTaken s.dev d ∧ rd d SIS_FAULT = rd s.dev SIS_FAULT)) ∧
  (∀ s : State, Acts s →
    (flag s.dev SIS_STO 3 = true → s.dev.sis.ss1Since + saf16 s.dev 0x294 * 800000 ≤ s.dev.ltb.toNat →
      ∃ d, Goes (exec .ss1Timeout s) s d ∧ stoTaken s.dev d) ∧
    (flag s.dev SIS_STO 3 = false ∨ s.dev.ltb.toNat < s.dev.sis.ss1Since + saf16 s.dev 0x294 * 800000 →
      Goes (exec .ss1Timeout s) s s.dev))
/-- The device of `d` after SIS has taken its angle sample of this evaluation for axis `a` (R324). -/
def sampledAngle (d : Dev) (a : Nat) : Dev := modMonitor a (fun m => { m with angles := (monAngle d a :: m.angles).take 11 }) d

/-- SIS_TORQUE_EVALUATE (R324–R327): the estimate of the method in force, the permitted band, and the trip after TTIME
evaluations outside it or without a valid position. SIS_LOCKSTEP_MISMATCH, SIS_HEARTBEAT_CHECK,
SYS_SIS_HEARTBEAT_CHECK, SIS_CLOCK_CHECK and SIS_STRAP_RECHECK (R306, R308, R313, R516): what each supervision of and
by the island does when it finds its fault, and that it does nothing before. Rests on choices of the model: log entry
56. -/
def Obligations.TorqueMonitorAndSupervision : Prop :=
  ((∀ s : State, Acts s →
    s.dev.sis.running = false ∨ (∃ t, s.dev.sis.lastEval = some t ∧ s.dev.ltb.toNat < t + 80000) →
    Goes (exec .sisTorqueEvaluate s) s s.dev) ∧
  (∀ s : State, Acts s → s.dev.sis.running = true →
    (∀ t, s.dev.sis.lastEval = some t → t + 80000 ≤ s.dev.ltb.toNat) →
    GoesWithin (exec .sisTorqueEvaluate s) s [0x5000] (fun d =>
      d.sis.lastEval = some s.dev.ltb.toNat ∧
      ∀ a : Fin 4, axisInUse s.dev a = true →
        (saf8 s.dev (0x150 + 64 * a)).testBit 0 = false →
          rd d (SIS_AXa_TRQ a) = rd s.dev (SIS_AXa_TRQ a) ∧ rd d (SIS_AXa_TBAND a) = rd s.dev (SIS_AXa_TBAND a))) ∧
  (∀ s : State, Acts s → s.dev.sis.running = true →
    (∀ t, s.dev.sis.lastEval = some t → t + 80000 ≤ s.dev.ltb.toNat) →
    GoesWithin (exec .sisTorqueEvaluate s) s [0x5000] (fun d =>
      ∀ a : Fin 4, axisInUse s.dev a = true → (saf8 s.dev (0x150 + 64 * a)).testBit 0 = true →
        monValid s.dev a = false →
          rd d (SIS_AXa_TRQ a) = rd s.dev (SIS_AXa_TRQ a) ∧ (monitor d a).posRun = (monitor s.dev a).posRun + 1 ∧
          ((monitor s.dev a).posRun + 1 = saf16 s.dev (0x162 + 64 * a) →
            (monitor d a).tripped = true ∧ flag d SIS_FAULT 2 = true ∧ granted d a = false))) ∧
  (∀ s : State, Acts s → s.dev.sis.running = true →
    (∀ t, s.dev.sis.lastEval = some t → t + 80000 ≤ s.dev.ltb.toNat) →
    GoesWithin (exec .sisTorqueEvaluate s) s [0x5000] (fun d =>
      ∀ (a : Fin 4) (w t lo hi : Int) (power : Bool), axisInUse s.dev a = true →
        (saf8 s.dev (0x150 + 64 * a)).testBit 0 = true → monValid s.dev a = true →
        w = sisSpeed (sampledAngle s.dev a) a → power = trqMethod s.dev a w → power = false ∨ w ≠ 0 →
        t = (if power then powerEstimate s.dev a w else fluxEstimate s.dev a) → (lo, hi) = trqBand s.dev a →
          sfld d (SIS_AXa_TRQ a) 15 0 = t ∧ flag d (SIS_AXa_TRQ a) 17 = power
          ∧ flag d (SIS_AXa_TRQ a) 16 = decide (lo ≤ t ∧ t ≤ hi)
          ∧ sfld d (SIS_AXa_TBAND a) 31 16 = hi ∧ sfld d (SIS_AXa_TBAND a) 15 0 = lo
          ∧ (monitor d a).posRun = 0
          ∧ (monitor d a).outRun = (if lo ≤ t ∧ t ≤ hi then 0 else (monitor s.dev a).outRun + 1)
          ∧ (¬(lo ≤ t ∧ t ≤ hi) → (monitor s.dev a).outRun + 1 = saf16 s.dev (0x162 + 64 * a) →
              (monitor d a).tripped = true ∧ flag d SIS_FAULT 1 = true ∧ granted d a = false)))) ∧
  ((∀ s : State, Acts s →
    ∃ d, Goes (exec .sisLockstepMismatch s) s d ∧ lockedOut s.dev d 14
      ∧ (∀ p : Fin 64, ⟨.sis, .halt, p.val⟩ ∈ d.glk.orders) ∧ ∀ k : Fin 6, (contactor d k).close = false) ∧
  (∀ s : State, Acts s → s.dev.sis.running = false → Goes (exec (.sisHeartbeatCheck false) s) s s.dev
    ∧ Goes (exec (.sisHeartbeatCheck true) s) s s.dev) ∧
  (∀ s : State, Acts s → s.dev.sis.running = true →
    Goes (exec (.sisHeartbeatCheck true) s) s (modSis (fun x => { x with coreMissed := 0 }) s.dev)) ∧
  (∀ s : State, Acts s → s.dev.sis.running = true → s.dev.sis.coreMissed ≠ 9 →
    Goes (exec (.sisHeartbeatCheck false) s) s
      (modSis (fun x => { x with coreMissed := Nat.min 10 (x.coreMissed + 1) }) s.dev)) ∧
  (∀ s : State, Acts s → s.dev.sis.running = true → s.dev.sis.coreMissed = 9 →
    ∃ d, Goes (exec (.sisHeartbeatCheck false) s) s d ∧ lockedOut s.dev d 11 ∧ d.sis.coreMissed = 10) ∧
  (∀ s : State, Acts s →
    Goes (exec (.sysSisHeartbeatCheck true) s) s (modSis (fun x => { x with sisMissed := 0 }) s.dev)) ∧
  (∀ s : State, Acts s → s.dev.sis.sisMissed ≠ 9 →
    Goes (exec (.sysSisHeartbeatCheck false) s) s
      (modSis (fun x => { x with sisMissed := Nat.min 10 (x.sisMissed + 1) }) s.dev)) ∧
  (∀ s : State, Acts s → s.dev.sis.sisMissed = 9 →
    ∃ d, Goes (exec (.sysSisHeartbeatCheck false) s) s d ∧ ∀ a : Fin 4, axisInUse s.dev a = true →
      granted d a = false ∧ (lockout s.dev = false → stoInForce s.dev a = false → ∀ set ∈ setsOf s.dev a,
        isFixed s.dev a set = false → heldSafe s.dev a set = false → speedTable s.dev a set (setState d a set))) ∧
  (∀ (s : State) (x : Int), Acts s →
    (s.dev.sis.running = false → Goes (exec (.sisClockCheck x) s) s s.dev) ∧
    (s.dev.sis.running = true → x.natAbs ≤ 3000 →
      Goes (exec (.sisClockCheck x) s) s { s.dev with sys := { s.dev.sys with deviates := none } }) ∧
    (∀ t, s.dev.sis.running = true → 3000 < x.natAbs → t = s.dev.sys.deviates.getD s.dev.ltb.toNat →
      (s.dev.ltb.toNat < t + 800000 ∨ flag s.dev SIS_LOCK 27 = true →
        Goes (exec (.sisClockCheck x) s) s { s.dev with sys := { s.dev.sys with deviates := some t } }) ∧
      (t + 800000 ≤ s.dev.ltb.toNat → flag s.dev SIS_LOCK 27 = false →
        ∃ d, Goes (exec (.sisClockCheck x) s) s d ∧ lockedOut s.dev d 11))) ∧
  (∀ (s : State) (r : List (List Nat)) (c : Nat), Acts s → readingsOk r = true → strapCode r = some c →
    s.dev.sis.straps = some c →
    Goes (exec (.sisStrapRecheck r) s) s (modSis (fun x => { x with strapBad := false }) s.dev)) ∧
  (∀ (s : State) (r : List (List Nat)), Acts s → readingsOk r = true →
    strapCode r = none ∨ strapCode r ≠ s.dev.sis.straps →
    (s.dev.sis.strapBad = true →
      Goes (exec (.sisStrapRecheck r) s) s (modSis (fun x => { x with strapBad := true }) s.dev)) ∧
    (s.dev.sis.strapBad = false →
      ∃ d, Goes (exec (.sisStrapRecheck r) s) s d ∧ lockedOut s.dev d 10 ∧ d.sis.strapBad = true)))

/-! ## Fault collection -/

/-- FCR_SOURCE_RAISE (R338, R344, R362): a source that is not collected changes nothing; the first raising since a
clear records DETAIL, time and COUNT 1, a later one counts up and moves only DLAST and LAST. What each class adds to
the record of a raising (R340, R341): nothing, a record for the journal, the interrupt, the speed-selected state of
the axes concerned or of all without drive enable, or Lockout. Rests on choices of the model: log entries 58, 59. -/
def Obligations.RaisingsAndClasses : Prop :=
  ((∀ (s : State) (k : Fin 1024) (x : Byte), Acts s → flag s.dev (FCR_SRCkkkk_CFG k) 30 = false →
    Goes (exec (.fcrSourceRaise k x) s) s s.dev) ∧
  (∀ (s : State) (k : Fin 1024) (x : Byte), Acts s → flag s.dev (FCR_SRCkkkk_CFG k) 30 = true →
    k.val ≠ Src.FCR_STAGE_HIGH ∨ s.dev.fcr.stage.length ≠ 7168 →
    GoesWithin (exec (.fcrSourceRaise k x) s) s [] (fun d =>
      flag d (FCR_SRCkkkk_STATUS k) 0 = true ∧ flag d (FCR_SRCkkkk_STATUS k) 1 = flag s.dev (FCR_SRCkkkk_STATUS k) 1
        ∧ fld d (FCR_SRCkkkk_STATUS k) 31 24 = x.toNat
        ∧ rd d (FCR_SRCkkkk_LAST_LO k) = BitVec.ofNat 32 s.dev.ltb.toNat
        ∧ rd d (FCR_SRCkkkk_LAST_HI k) = BitVec.ofNat 32 (s.dev.ltb.toNat / 4294967296)
        ∧ (flag s.dev (FCR_SRCkkkk_STATUS k) 0 = false →
            fld d (FCR_SRCkkkk_STATUS k) 23 16 = x.toNat ∧ rd d (FCR_SRCkkkk_COUNT k) = 1
              ∧ rd d (FCR_SRCkkkk_FIRST_LO k) = BitVec.ofNat 32 s.dev.ltb.toNat
              ∧ rd d (FCR_SRCkkkk_FIRST_HI k) = BitVec.ofNat 32 (s.dev.ltb.toNat / 4294967296))
        ∧ (flag s.dev (FCR_SRCkkkk_STATUS k) 0 = true →
            fld d (FCR_SRCkkkk_STATUS k) 23 16 = fld s.dev (FCR_SRCkkkk_STATUS k) 23 16
              ∧ fld d (FCR_SRCkkkk_COUNT k) 15 0 = Nat.min 65535 (fld s.dev (FCR_SRCkkkk_COUNT k) 15 0 + 1)
              ∧ rd d (FCR_SRCkkkk_FIRST_LO k) = rd s.dev (FCR_SRCkkkk_FIRST_LO k)
              ∧ rd d (FCR_SRCkkkk_FIRST_HI k) = rd s.dev (FCR_SRCkkkk_FIRST_HI k))))) ∧
  ((∀ (s : State) (k : Fin 1024) (x : Byte), Acts s → flag s.dev (FCR_SRCkkkk_CFG k) 30 = true →
    fld s.dev (FCR_SRCkkkk_CFG k) 2 0 = 0 →
    ∃ d, Goes (exec (.fcrSourceRaise k x) s) s d ∧ d.fcr = s.dev.fcr ∧ d.psp = s.dev.psp ∧ d.sis = s.dev.sis
      ∧ d.glk = s.dev.glk
      ∧ RegsExcept [FCR_SRCkkkk_STATUS k, FCR_SRCkkkk_COUNT k, FCR_SRCkkkk_FIRST_LO k, FCR_SRCkkkk_FIRST_HI k,
          FCR_SRCkkkk_LAST_LO k, FCR_SRCkkkk_LAST_HI k] s.dev d) ∧
  (∀ (s : State) (k : Fin 1024) (x : Byte), Acts s → flag s.dev (FCR_SRCkkkk_CFG k) 30 = true →
    1 ≤ fld s.dev (FCR_SRCkkkk_CFG k) 2 0 → s.dev.fcr.stage = [] →
    GoesWithin (exec (.fcrSourceRaise k x) s) s [] (fun d =>
      d.fcr.stage = [⟨k, fld s.dev (FCR_SRCkkkk_CFG k) 2 0, x.toNat, x.toNat, s.dev.ltb.toNat, s.dev.ltb.toNat, 1, false, false⟩]
        ∧ d.fcr.interrupt = (if 2 ≤ fld s.dev (FCR_SRCkkkk_CFG k) 2 0 then s.dev.fcr.interrupt ||| 7 else s.dev.fcr.interrupt)
        ∧ (fld s.dev (FCR_SRCkkkk_CFG k) 2 0 < 5 → d.psp = s.dev.psp ∧ d.sis = s.dev.sis ∧ d.glk = s.dev.glk))) ∧
  (∀ (s : State) (k : Fin 1024) (x : Byte) (a : Fin 4), Acts s → flag s.dev (FCR_SRCkkkk_CFG k) 30 = true →
    (fld s.dev (FCR_SRCkkkk_CFG k) 2 0 = 5 ∧ a.val ∈ concerned s.dev k x.toNat)
      ∨ (fld s.dev (FCR_SRCkkkk_CFG k) 2 0 = 6 ∧ axisInUse s.dev a = true) →
    k.val ≠ Src.CEA_OBS_LOST ∨ fld s.dev (CEA_AXa_FC_STATUS a) 15 13 ≠ 1 →
    s.dev.fcr.stage.length ≠ 7168 →
    GoesWithin (exec (.fcrSourceRaise k x) s) s [] (fun d =>
      granted d a = false ∧ (lockout s.dev = false → stoInForce s.dev a = false → ∀ set ∈ setsOf s.dev a,
        isFixed s.dev a set = false → heldSafe s.dev a set = false → speedTable s.dev a set (setState d a set)))) ∧
  (∀ (s : State) (k : Fin 1024) (x : Byte), Acts s → flag s.dev (FCR_SRCkkkk_CFG k) 30 = true →
    fld s.dev (FCR_SRCkkkk_CFG k) 2 0 = 7 →
    GoesWithin (exec (.fcrSourceRaise k x) s) s [] (fun d => lockedOut s.dev d 15)))

/-- FCR_FORCE, FCR_STATUS_CLEAR, FCR_SELF_FAULT and FCR_LO_READ (R345, R346, R349, R360): when a forced raising is
refused and what it records, what a clear leaves, the reaction to a self-fault, and the latch of the high half. Rests
on choices of the model: log entries 58, 59. -/
def Obligations.ForceClearAndSelfFault : Prop :=
  (∀ (s : State) (i : Initiator) (k : Fin 1024) (v : Word), Acts s → WriteReaches s.dev i (FCR_SRCkkkk_FORCE k) →
    (bit v 0 = false → Goes (exec (.fcrForce i k v) s) s (respOk s.dev)) ∧
    (bit v 0 = true → flag s.dev FCR_CTRL 0 = false ∨
        (k.val < 992 ∧ 3 ≤ fld s.dev (FCR_SRCkkkk_CFG k) 2 0 ∧ ∃ a : Fin 4, granted s.dev a = true) →
      Goes (exec (.fcrForce i k v) s) s (respErr s.dev)) ∧
    (bit v 0 = true → flag s.dev FCR_CTRL 0 = true →
      992 ≤ k.val ∨ fld s.dev (FCR_SRCkkkk_CFG k) 2 0 < 3 ∨ (∀ a : Fin 4, granted s.dev a = false) →
      GoesWithin (exec (.fcrForce i k v) s) s [] (fun d => d.response = ⟨false, 0⟩ ∧
        (flag s.dev (FCR_SRCkkkk_CFG k) 30 = false → d = respOk s.dev) ∧
        (flag s.dev (FCR_SRCkkkk_CFG k) 30 = true → k.val ≠ Src.FCR_STAGE_HIGH ∨ s.dev.fcr.stage.length ≠ 7168 →
          flag d (FCR_SRCkkkk_STATUS k) 0 = true ∧ flag d (FCR_SRCkkkk_STATUS k) 1 = true
            ∧ fld d (FCR_SRCkkkk_STATUS k) 31 24 = 0xFF ∧ rd d (FCR_SRCkkkk_LAST_LO k) = nowLo s.dev)))) ∧
  (∀ (s : State) (i : Initiator) (k : Fin 1024) (v : Word), Acts s → WriteReaches s.dev i (FCR_SRCkkkk_STATUS k) →
    ∃ d, Goes (exec (.fcrStatusClear i k v) s) s d ∧ d.response = ⟨false, 0⟩
      ∧ flag d (FCR_SRCkkkk_STATUS k) 0 = (flag s.dev (FCR_SRCkkkk_STATUS k) 0 && !bit v 0)
      ∧ flag d (FCR_SRCkkkk_STATUS k) 1 = (flag s.dev (FCR_SRCkkkk_STATUS k) 1 && !bit v 0)
      ∧ fld d (FCR_SRCkkkk_STATUS k) 31 2 = fld s.dev (FCR_SRCkkkk_STATUS k) 31 2
      ∧ d.psp = s.dev.psp ∧ d.sis = s.dev.sis ∧ d.glk = s.dev.glk ∧ RegsExcept [FCR_SRCkkkk_STATUS k] s.dev d) ∧
  (∀ (s : State) (f : SelfFault), Acts s →
    ∃ d, Goes (exec (.fcrSelfFault f) s) s d
      ∧ flag d FCR_SELF_STATUS (match f with | .parity => 0 | .copy => 1 | .logic => 2) = true
      ∧ d.jrn.offered.length = s.dev.jrn.offered.length + 1 ∧ d.fcr = s.dev.fcr
      ∧ ∀ a : Fin 4, granted d a = false ∧ (axisInUse s.dev a = true → lockout s.dev = false → stoInForce s.dev a = false →
          ∀ set ∈ setsOf s.dev a, isFixed s.dev a set = false → heldSafe s.dev a set = false →
          speedTable s.dev a set (setState d a set))) ∧
  (∀ (s : State) (i : Initiator) (k : Fin 1024) (last : Bool), Acts s →
    ReadReaches s.dev i (if last then FCR_SRCkkkk_LAST_LO k else FCR_SRCkkkk_FIRST_LO k) →
    Goes (exec (.fcrLoRead i k last) s) s
      (respData (rd s.dev (if last then FCR_SRCkkkk_LAST_LO k else FCR_SRCkkkk_FIRST_LO k))
        (wr (bank i (if last then FCR_SRCkkkk_LAST_HI k else FCR_SRCkkkk_FIRST_HI k))
          (rd s.dev (if last then FCR_SRCkkkk_LAST_HI k else FCR_SRCkkkk_FIRST_HI k)) s.dev)))
/-! ## Thermal management -/
/-- THM_STEP (R363–R376): the readings, a sensor that breaks, one step of the die model, the states of the die
thresholds and the published derating factor. Not due, it changes nothing. Rests on choices of the model: log entry
61. -/
def Obligations.ThermalStep : Prop :=
  (∀ (s : State) (t : List Int) (p : List Nat), Acts s → t.length = 9 → p.length = 9 → thmDue s.dev = false →
    Goes (exec (.thmStep t p) s) s s.dev) ∧
  (∀ (s : State) (t : List Int) (p : List Nat), Acts s → t.length = 9 → p.length = 9 →
    s.dev.phase = .programmed ∨ s.dev.phase = .running →
    (∀ k, s.dev.thm.last = some k → k < s.dev.ltb.toNat / 800000) →
    GoesWithin (exec (.thmStep t p) s) s [0x4090] (fun d =>
      d.thm.last = some (s.dev.ltb.toNat / 800000) ∧ flag d THM_STATUS 0 = true ∧
      (∀ r : Fin 9, sfld d (THM_Rr_SENS r) 15 0 = max (-32768) (min 32767 (listGet 0 t r))
        ∧ fld d (THM_PDOM r) 15 0 = Nat.min 65535 (listGet 0 p r)
        ∧ (flag s.dev THM_BROKEN r = true ∨ listGet 0 t r < -880 ∨ 2800 < listGet 0 t r → flag d THM_BROKEN r = true)
        ∧ (∀ i : Fin 4, listGet 0 (thmRegion d r).theta i = stageStep
            (sumInt ((List.range 9).map (fun k => weight s.dev r k * (Nat.min 65535 (listGet 0 p k) : Int)))) 32768000
            (fld s.dev (THM_DIE_STAGE i) 31 16) (fld s.dev (THM_DIE_STAGE i) 15 0) (listGet 0 (thmRegion s.dev r).theta i))
        ∧ dieTemp d r = (if flag d THM_BROKEN r then sfld d (THM_Rr_MODEL r) 15 0 else sfld d (THM_Rr_SENS r) 15 0)
        ∧ (thmRegion d r).warnHigh = thresholdNext (thmRegion s.dev r).warnHigh (dieTemp d r)
            (sfld s.dev THM_DIE_THR0 31 16) (fld s.dev THM_DIE_THR2 15 0)
        ∧ (thmRegion d r).tripHigh = thresholdNext (thmRegion s.dev r).tripHigh (dieTemp d r)
            (sfld s.dev THM_DIE_THR0 15 0) (fld s.dev THM_DIE_THR2 15 0)
        ∧ ((thmRegion s.dev r).tripHigh = false → (thmRegion d r).tripHigh = true → Collects s.dev Src.THM_DIE_TRIP →
            flag d (FCR_SRCkkkk_STATUS Src.THM_DIE_TRIP) 0 = true)) ∧
      (∀ k : Fin 64, flag s.dev (THM_SWkk_CFG k) 31 = true →
        flag d (THM_SWkk_STATUS k) 3 = thresholdNext (flag s.dev (THM_SWkk_STATUS k) 3) (sfld d (THM_SWkk_TJ k) 15 0)
            (sfld s.dev (THM_SETm_THR (fld s.dev (THM_SWkk_CFG k) 25 24) 0) 31 16)
            (fld s.dev (THM_SETm_THR (fld s.dev (THM_SWkk_CFG k) 25 24) 2) 15 0)
        ∧ flag d (THM_SWkk_STATUS k) 4 = thresholdNext (flag s.dev (THM_SWkk_STATUS k) 4) (sfld d (THM_SWkk_TJ k) 15 0)
            (sfld s.dev (THM_SETm_THR (fld s.dev (THM_SWkk_CFG k) 25 24) 0) 15 0)
            (fld s.dev (THM_SETm_THR (fld s.dev (THM_SWkk_CFG k) 25 24) 2) 15 0)) ∧
      ∀ (a : Fin 4) (f : Int), f = sfld d (THM_AXa_FACTOR a) 15 0 → f ≤ 32767 ∧
        (∀ r : Fin 9, f ≤ thmFactor (dieTemp d r) (sfld s.dev THM_DIE_THR1 31 16) (sfld s.dev THM_DIE_THR1 15 0)
          (fld s.dev THM_DIE_THR2 31 16)) ∧
        (∀ k : Fin 64, flag s.dev (THM_SWkk_CFG k) 31 = true → ownerOf s.dev 0x03 k = axisCode a → f ≤ (switchFactor d k).1) ∧
        (f = 32767 ∨ (∃ r : Fin 9, f = thmFactor (dieTemp d r) (sfld s.dev THM_DIE_THR1 31 16)
              (sfld s.dev THM_DIE_THR1 15 0) (fld s.dev THM_DIE_THR2 31 16)) ∨
          ∃ k : Fin 64, flag s.dev (THM_SWkk_CFG k) 31 = true ∧ ownerOf s.dev 0x03 k = axisCode a ∧ f = (switchFactor d k).1)))

/-! ## Processor pairs, interconnect, register writes -/

/-- The pair has just been reset to enter the handover vector for task set `t` (R387, R388). -/
def enters (p : Pair) (t cause tick : Nat) : Prop :=
  p.role = .handover ∧ p.task = t ∧ p.cause = cause ∧ p.resumed = false ∧ p.entered = false ∧ p.hoFrom = tick
    ∧ p.yieldReq = false
/-- CPX_LOCKSTEP_MISMATCH, SPARE_HANDOVER_ENTRY, MHOSTATUS_RESUMED, CPX_HO_SLOW, MHOYIELD, YIELD_WITHDRAW and
MCPXREADMIT (R386–R389): loss of a pair with and without a spare, the boot ROM's choice of entry, the return to
service, and rotation. Rests on choices of the model: log entries 62, 63, 87. -/
def Obligations.PairTakeoverAndRotation : Prop :=
  (∀ (s : State) (n : Fin 4), Acts s → (pair s.dev n).role = .failed ∨ (pair s.dev n).role = .underTest →
    Goes (exec (.cpxLockstepMismatch n) s) s s.dev) ∧
  (∀ (s : State) (n : Fin 4), Acts s → (pair s.dev n).role = .spare →
    GoesRaising (exec (.cpxLockstepMismatch n) s) s
      (modPp n (fun p => { p with role := .failed, testPass := false }) s.dev) Src.CPX_LOCKSTEP 3) ∧
  (∀ (s : State) (n m : Fin 4) (t : Nat), Acts s → (pair s.dev n).role = .serving ∨ (pair s.dev n).role = .handover →
    t = (pair s.dev n).task → t < 3 → sparePair s.dev = some m.val →
    ∃ d, GoesRaising (exec (.cpxLockstepMismatch n) s) s d Src.CPX_LOCKSTEP t ∧ (pair d n).role = .failed
      ∧ (pair d n).task = 3 ∧ enters (pair d m) t 1 s.dev.ltb.toNat
      ∧ txOf d (pxOf t) = none ∧ (∀ j : Fin 4, j ≠ n → j ≠ m → pair d j = pair s.dev j) ∧ d.cea = s.dev.cea
      ∧ d.csq = s.dev.csq ∧ d.sis = s.dev.sis
      ∧ (∀ k : Fin 4, rd d (bank (pxOf t) (SIS_MB_REQ k)) = rd s.dev (bank (pxOf t) (SIS_MB_REQ k))
          ∧ rd d (SIS_MB_RESP k) = rd s.dev (SIS_MB_RESP k))) ∧
  (∀ (s : State) (n : Fin 4) (t : Nat), Acts s → (pair s.dev n).role = .serving ∨ (pair s.dev n).role = .handover →
    t = (pair s.dev n).task → t < 3 → sparePair s.dev = none →
    ∃ d, GoesRaising (exec (.cpxLockstepMismatch n) s) s d Src.CPX_NOSPARE t ∧ (pair d n).role = .failed
      ∧ (∀ j : Fin 4, j ≠ n → pair d j = pair s.dev j)) ∧
  (∀ (s : State), Acts s → (∀ n : Fin 4, (pair s.dev n).role ≠ .handover ∨ (pair s.dev n).entered = true) →
    Goes (exec .spareHandoverEntry s) s s.dev) ∧
  (∀ (s : State) (n : Fin 4) (t h : Nat), Acts s → (pair s.dev n).role = .handover → (pair s.dev n).entered = false →
    (∀ j : Fin 4, j < n → (pair s.dev j).role ≠ .handover ∨ (pair s.dev j).entered = true) →
    t = (pair s.dev n).task → h = 0x207C0000 + 0x10000 * t →
    ((le32 (Memory.readBytes s.mem h 64) 0 = 0x4B48504D
        ∧ le32 (Memory.readBytes s.mem h 64) 60 = crc32 ((Memory.readBytes s.mem h 64).take 60)
        ∧ ∀ k : Fin 8, s.dev.icf.badWords.contains (h / 8 + k) = false) →
      Goes (exec .spareHandoverEntry s) s (modPp n (fun p =>
        { p with entered := true, entry := le32 (Memory.readBytes s.mem h 64) 8, entryA1 := h }) s.dev)) ∧
    ((le32 (Memory.readBytes s.mem h 64) 0 ≠ 0x4B48504D
        ∨ le32 (Memory.readBytes s.mem h 64) 60 ≠ crc32 ((Memory.readBytes s.mem h 64).take 60)
        ∨ ∃ k : Fin 8, s.dev.icf.badWords.contains (h / 8 + k) = true) →
      Goes (exec .spareHandoverEntry s) s (modPp n (fun p => { p with entered := true, entry := 0, entryA1 := 0 }) s.dev))) ∧
  (∀ (s : State) (n : Fin 4) (v : Word), Acts s →
    Goes (exec (.mhostatusResumed n v) s) s
      (if bit v 0 = false then s.dev
       else if (pair s.dev n).role = .handover ∧ (pair s.dev n).entered = true then
         modPp n (fun p => { p with role := .serving, resumed := true }) s.dev
       else modPp n (fun p => { p with resumed := true }) s.dev)) ∧
  (∀ (s : State) (n : Fin 4), Acts s → (pair s.dev n).role = .handover → (pair s.dev n).cause = 1 →
    (pair s.dev n).slow = false → (pair s.dev n).hoFrom + 160000 ≤ s.dev.ltb.toNat →
    (∀ j : Fin 4, j < n → (pair s.dev j).role ≠ .handover ∨ (pair s.dev j).cause ≠ 1 ∨ (pair s.dev j).slow = true) →
    GoesRaising (exec .cpxHoSlow s) s (modPp n (fun p => { p with slow := true }) s.dev) Src.CPX_HO_SLOW 0) ∧
  (∀ s : State, Acts s → (∀ n : Fin 4, (pair s.dev n).role ≠ .handover ∨ (pair s.dev n).cause ≠ 1 ∨
      (pair s.dev n).slow = true ∨ s.dev.ltb.toNat < (pair s.dev n).hoFrom + 160000) →
    Goes (exec .cpxHoSlow s) s s.dev) ∧
  (∀ (s : State) (n : Fin 4) (v : Word), Acts s →
    bit v 0 = false ∨ (pair s.dev n).yieldReq = false ∨ (pair s.dev n).role ≠ .serving ∨ sparePair s.dev = none →
    Goes (exec (.mhoyield n v) s) s s.dev) ∧
  (∀ (s : State) (n m : Fin 4) (v : Word), Acts s → bit v 0 = true → (pair s.dev n).yieldReq = true →
    (pair s.dev n).role = .serving → sparePair s.dev = some m.val →
    ∃ d, Goes (exec (.mhoyield n v) s) s d ∧ (pair d n).role = .spare ∧ (pair d n).task = 3
      ∧ (pair d n).yieldReq = false ∧ enters (pair d m) (pair s.dev n).task 2 s.dev.ltb.toNat) ∧
  (∀ s : State, Acts s →
    ∃ d, Goes (exec .yieldWithdraw s) s d ∧ RegsExcept [] s.dev d
      ∧ (∀ n : Fin 4, (pair d n).yieldReq = ((pair s.dev n).yieldReq &&
          !decide ((pair s.dev n).yieldFrom + 8000000 ≤ s.dev.ltb.toNat)) ∧ (pair d n).role = (pair s.dev n).role)
      ∧ d.cpx.withdrawn = s.dev.cpx.withdrawn + ((List.range 4).filter (fun n => (pair s.dev n).yieldReq &&
          decide ((pair s.dev n).yieldFrom + 8000000 ≤ s.dev.ltb.toNat))).length) ∧
  (∀ (s : State) (n : Fin 4) (v : Word), Acts s → (pair s.dev n).role ≠ .serving →
    Goes (exec (.mcpxreadmit n v) s) s s.dev) ∧
  (∀ (s : State) (n : Fin 4) (v : Word), Acts s → (pair s.dev n).role = .serving →
    ∃ d, Goes (exec (.mcpxreadmit n v) s) s d ∧ RegsExcept [] s.dev d ∧ ∀ m : Fin 4, pair d m =
      if bit v m = true ∧ (pair s.dev m).role = .failed ∧ (pair s.dev m).testPass = true then
        { pair s.dev m with role := .spare, task := 3 } else pair s.dev m)

/-- L1_UE, SRAM_UE, ICF_VLOG_POP, ICF_LOCK, ICF_SHARE_WINDOW and ICF_CMP_MISMATCH (R385, R391, R395, R396, R398,
R406): errors beyond correction, the violation log, the lock of the firewall and the counters of the interconnect.
Rests on choices of the model: log entries 62, 64. -/
def Obligations.InterconnectEvents : Prop :=
  (∀ (s : State) (n : Fin 4) (a : Word), Acts s → badAt s.dev a.toNat = false ∨ sramIndex a.toNat = none →
    GoesRaising (exec (.l1Ue n a) s) s s.dev Src.CPX_L1_UE n) ∧
  (∀ (s : State) (n : Fin 4) (a : Word) (k : Nat), Acts s → badAt s.dev a.toNat = true → sramIndex a.toNat = some k →
    GoesWithin (exec (.l1Ue n a) s) s [0x4007] (fun d => d.response = ⟨true, 0⟩ ∧ flag d ICF_STATUS 2 = true
      ∧ fld d ICF_ECC_CNT 31 16 = Nat.min 65535 (fld s.dev ICF_ECC_CNT 31 16 + 1)
      ∧ Reported Src.CPX_L1_UE n s.dev d ∧ Reported Src.ICF_ECC_UE k s.dev d)) ∧
  (∀ (s : State) (i : Initiator) (a : Word), Acts s →
    (initiatorLive s.dev i = false → Goes (exec (.sramUe i a) s) s s.dev) ∧
    (initiatorLive s.dev i = true → denied s.dev i a.toNat .w32 false = none → sramIndex a.toNat = none →
      Goes (exec (.sramUe i a) s) s s.dev) ∧
    (∀ k, initiatorLive s.dev i = true → denied s.dev i a.toNat .w32 false = none → sramIndex a.toNat = some k →
      ∃ d, GoesRaising (exec (.sramUe i a) s) s d Src.ICF_ECC_UE k ∧ d.response = ⟨true, 0⟩ ∧ flag d ICF_STATUS 2 = true
        ∧ fld d ICF_ECC_CNT 31 16 = Nat.min 65535 (fld s.dev ICF_ECC_CNT 31 16 + 1)
        ∧ fld d ICF_ECC_CNT 15 0 = fld s.dev ICF_ECC_CNT 15 0 ∧ badAt d a.toNat = true
        ∧ RegsExcept [ICF_STATUS, ICF_ECC_CNT] s.dev d)) ∧
  (∀ (s : State) (i : Initiator), Acts s → ReadReaches s.dev i ICF_VLOG2 →
    (s.dev.icf.vlog = [] → Goes (exec (.icfVlogPop i) s) s (respData 0 s.dev)) ∧
    (∀ r q, s.dev.icf.vlog = r :: q → Goes (exec (.icfVlogPop i) s) s
      (respData r.time { s.dev with icf := { s.dev.icf with vlog := q, vlost := s.dev.icf.vlost && !q.isEmpty } }))) ∧
  (∀ (s : State) (i : Initiator) (v : Word), Acts s → WriteReaches s.dev i ICF_CTRL →
    ∃ d, Goes (exec (.icfLock i v) s) s d ∧ d.response = ⟨false, 0⟩ ∧ flag d ICF_CTRL 0 = true
      ∧ RegsExcept [ICF_CTRL] s.dev d) ∧
  (∀ (s : State) (x : BitVec 16) (n : Nat), Acts s →
    ∃ d, Goes (exec (.icfShareWindow x n) s) s d ∧ fld d ICF_FLS_SHARE 15 0 = x.toNat
      ∧ fld d ICF_FLS_SHARE 31 16 = Nat.min 65535 (fld s.dev ICF_FLS_SHARE 31 16 + n)
      ∧ RegsExcept [ICF_FLS_SHARE] s.dev d) ∧
  (∀ s : State, Acts s → GoesRaising (exec .icfCmpMismatch s) s (setFlag ICF_STATUS 0 true s.dev) Src.ICF_CMP 0)
/-- The number of bytes of an access. -/
def widthBytes : Width → Nat
  | .w8 => 1 | .w16 => 2 | .w32 => 4
/-- REGISTER_WRITE (R15, R391, R395, R396, R398): who is not running writes nothing; a forbidden access is logged,
counted and raised; a write to a memory stores exactly its bytes, least significant first; a write to a register
stores a checked value, refuses one out of range and leaves read-only and locked registers as they are; a slow Urgent
access is recorded. Rests on choices of the model: log entries 62, 64, 65, 66, 91. -/
def Obligations.RegisterAndMemoryWrites : Prop :=
  (∀ (s : State) (i : Initiator) (a : Word) (w : Width) (v : Word) (n : Nat), Acts s → initiatorLive s.dev i = false →
    exec (.registerWrite i a w v n) s = .next s) ∧
  (∀ (s : State) (i : Initiator) (a : Word) (w : Width) (v : Word) (n : Nat) (k : VKind), Acts s →
    initiatorLive s.dev i = true → writeDenied s.dev i a.toNat w = some k →
    ∃ d, GoesRaising (exec (.registerWrite i a w v n) s) s d Src.ICF_VIOLATION (initiatorId i) ∧ d.response = ⟨true, 0⟩
      ∧ fld d ICF_VCNT 15 0 = Nat.min 65535 (fld s.dev ICF_VCNT 15 0 + 1) ∧ RegsExcept [ICF_VCNT] s.dev d
      ∧ (s.dev.icf.vlog.length < 16 → d.icf.vlog = s.dev.icf.vlog ++
          [⟨match k with | .region => 0 | .fixed => 1 | .unmapped => 2 | .width => 3, 1, initiatorId i % 32, a.toNat,
            BitVec.ofNat 32 s.dev.ltb.toNat⟩] ∧ d.icf.vlost = s.dev.icf.vlost)
      ∧ (16 ≤ s.dev.icf.vlog.length → d.icf.vlog = s.dev.icf.vlog ∧ d.icf.vlost = true)) ∧
  (∀ (s : State) (i : Initiator) (a : Word) (w : Width) (v : Word) (n : Nat), Acts s → initiatorLive s.dev i = true →
    writeDenied s.dev i a.toNat w = none → adjShadowed s.dev i a.toNat = false → isPeripheral a.toNat = false →
    unitMemory a.toNat = false → inRange a.toNat 0x30000000 0x3FFFFFFF = false →
    n ≤ 120 ∨ urgent i = false ∨ isSram a.toNat = false →
    (isSram a.toNat = true ∧ badAt s.dev a.toNat = true →
      ∃ t, exec (.registerWrite i a w v n) s = .next t ∧ t.pending = s.pending ∧ t.mem = s.mem
        ∧ t.dev.response = ⟨true, 0⟩ ∧ RegsExcept [ICF_URG_MAX, BST_MB_YIELD] s.dev t.dev) ∧
    (isSram a.toNat = false ∨ badAt s.dev a.toNat = false →
      ∃ t, exec (.registerWrite i a w v n) s = .next t ∧ t.pending = s.pending ∧ t.dev.response = ⟨false, 0⟩
        ∧ RegsExcept [ICF_URG_MAX, BST_MB_YIELD] s.dev t.dev
        ∧ (∀ k, k < widthBytes w → Memory.read t.mem (a.toNat + k) = BitVec.ofNat 8 (v.toNat / 256 ^ k))
        ∧ ∀ b, b < a.toNat ∨ a.toNat + widthBytes w ≤ b → Memory.read t.mem b = Memory.read s.mem b)) ∧
  (∀ (s : State) (i : Initiator) (a : Word) (v : Word) (n : Nat), Acts s → WriteReaches s.dev i a.toNat →
    isPeripheral a.toNat = true → inRange a.toNat 0x40120000 0x4012FFFF = false → n ≤ 120 ∨ urgent i = false →
    (∀ k : Fin 2, a.toNat ≠ ETHn_TXR_TAIL k) → s.dev.trc.ringOut = [] →
    specialWrite i a.toNat v (urgentLatency i a.toNat n (respOk s.dev)) = none →
    (readOnlyAt a.toNat = true →
      ∃ d, Goes (exec (.registerWrite i a .w32 v n) s) s d ∧ d.response = ⟨false, 0⟩ ∧ RegsExcept [ICF_URG_MAX] s.dev d) ∧
    (readOnlyAt a.toNat = false → valueOk (urgentLatency i a.toNat n (respOk s.dev)) a.toNat v = false →
      ∃ d, Goes (exec (.registerWrite i a .w32 v n) s) s d ∧ d.response = ⟨true, 0⟩ ∧ RegsExcept [ICF_URG_MAX] s.dev d) ∧
    (∀ (r : RegRow), readOnlyAt a.toNat = false → valueOk (urgentLatency i a.toNat n (respOk s.dev)) a.toNat v = true →
      regRow? a.toNat = some r → a.toNat / 0x10000 = 0x4080 ∨ a.toNat / 0x10000 = 0x4007 ∨ a.toNat / 0x10000 = 0x4048 →
      ∃ d, Goes (exec (.registerWrite i a .w32 v n) s) s d ∧ d.response = ⟨false, 0⟩
        ∧ (a.toNat ≠ ICF_URG_MAX →
            rd d a.toNat = ((rd s.dev a.toNat &&& ~~~ r.rw) ||| (v &&& r.rw)) &&& ~~~ (v &&& r.w1c))
        ∧ RegsExcept [a.toNat, ICF_URG_MAX] s.dev d)) ∧
  (∀ (s : State) (i : Initiator) (a : Word) (v : Word) (n : Nat), Acts s → WriteReaches s.dev i a.toNat →
    flag s.dev ICF_CTRL 0 = true → isPeripheral a.toNat = true → n ≤ 120 ∨ urgent i = false → s.dev.trc.ringOut = [] →
    a.toNat = ICF_CTRL ∨ a.toNat = ICF_DEFAULT ∨
      (∃ k : Fin 32, a.toNat = ICF_RGNn_BASE k ∨ a.toNat = ICF_RGNn_SIZE k ∨ a.toNat = ICF_RGNn_PERM k) →
    ∃ d, Goes (exec (.registerWrite i a .w32 v n) s) s d ∧ RegsExcept [ICF_URG_MAX] s.dev d) ∧
  (∀ (s : State) (i : Initiator) (a : Word) (w : Width) (v : Word) (n : Nat), Acts s → initiatorLive s.dev i = true →
    writeDenied s.dev i a.toNat w = none → adjShadowed s.dev i a.toNat = false → isSram a.toNat = true →
    isPeripheral a.toNat = false → unitMemory a.toNat = false → badAt s.dev a.toNat = false → urgent i = true → 120 < n →
    GoesWithin (exec (.registerWrite i a w v n) s) { s with
        mem := Memory.writeBytes s.mem a.toNat (writeBytesOf w v) } [0x4007, 0x4006] (fun d =>
      flag d ICF_STATUS 1 = true ∧ Reported Src.ICF_URG_LATE (initiatorId i) s.dev d
        ∧ fld d ICF_URG_MAX 15 0 = Nat.max (fld s.dev ICF_URG_MAX 15 0) (Nat.min n 65535)))

/-! ## Axis Commands -/

/-- A record of sixteen bytes whose CRC is good arrives from a source with slot `s` in use that may use the path; CSQ takes
records (R408, R412). -/
def recordArrives (d : Dev) (path : Fin 6) (b : List Byte) (s : Nat) : Prop :=
  b.length = 16 ∧ crc16 (b.take 14) = le16 b 14 ∧ flag d CSQ_STATUS 8 = false ∧ slotOf d (byteAt b 0) = some s
    ∧ flag d (CSQ_SRCs_CFG s) (8 + path.val) = true

/-- Its fields are legal, and its axis takes commands from slot `s` (R408, R411). -/
def recordLegal (d : Dev) (b : List Byte) (s : Nat) : Prop :=
  byteAt b 1 / 16 < 4 ∧ axisInUse d (byteAt b 1 / 16) = true ∧ byteAt b 1 % 16 ≤ 2 ∧ le16 b 8 ≤ 32767
    ∧ (le16 b 10 = 0 ∨ 32768 ≤ le16 b 10) ∧ le16 b 12 ≤ 32767
    ∧ fld d (CSQ_AXa_SRC (byteAt b 1 / 16)) 3 0 = s ∧ flag d (CSQ_AXa_SRC (byteAt b 1 / 16)) 31 = false

/-- The command signals that a record gives (R410). -/
def commanded (b : List Byte) : AxisCmd :=
  ⟨byteAt b 1 % 16, signed 16 (le16 b 6), signed 16 (le16 b 8), signed 16 (le16 b 10),
    if le16 b 12 = 0 then 32767 else le16 b 12, false⟩

/-- One acknowledgement has gone out on the path to the sender (R412, R443, R486): into the CAN controller's slot where it
has room, or as a UDP frame where the transmitter is free. -/
def acknowledges (d e : Dev) (path : Fin 6) (peer : Sender) (ack : List Byte) : Prop :=
  (path.val < 4 → flag d (CAN_CSQACK path) 31 = true → (canOf d path).acks.length < 16 →
      (canOf e path).acks = (canOf d path).acks ++ [ack]) ∧
  (4 ≤ path.val → flag d (ETHn_CFG (path.val - 4)) 31 = true → (macOf d (path.val - 4)).cur = none →
      (macOf d (path.val - 4)).queue = [] →
      (macOf e (path.val - 4)).cur = some ⟨fld d (ETHn_VLAN (path.val - 4)) 10 8, none,
        udpFrame d (path.val - 4) 47860 (fld d (ETHn_VLAN (path.val - 4)) 10 8) peer ack, false⟩)

/-- The sequence state of slot `s`, the log and every command signal are as before. -/
def sequenceSame (d e : Dev) (s : Nat) : Prop :=
  (csqSlot e s).held = (csqSlot d s).held ∧ rd e (CSQ_SRCs_LAST s) = rd d (CSQ_SRCs_LAST s)
    ∧ slotState e s = slotState d s ∧ e.csq.log = d.csq.log ∧ e.cmds = d.cmds

/-- AXIS_COMMAND, a record that is taken (R410, R412, R414): in NEW with any SEQ and in SYNC with the next one it is
logged and applied, with the held records that follow it; in SYNC with a SEQ up to eight ahead it is logged and held.
AXIS_COMMAND, a record that is not taken (R412, R414): nothing while power fails, no answer to a bad CRC, and the
RESULTs DUP, CONFLICT, GAP, FIELD, SOURCE, AXIS and RESYNC, none of which moves the sequence state or a command. Rests
on choices of the model: log entry 67. -/
def Obligations.AxisCommands : Prop :=
  ((∀ (s : State) (path : Fin 6) (peer : Sender) (b : List Byte) (k a q : Nat), Acts s → recordArrives s.dev path b k →
    recordLegal s.dev b k → featureOn s.dev 0 = false → a = byteAt b 1 / 16 → q = le32 b 2 →
    slotState s.dev k = 0 ∨ (slotState s.dev k = 1 ∧ BitVec.ofNat 32 q - rd s.dev (CSQ_SRCs_LAST k) = 1
      ∧ (csqSlot s.dev k).held = []) →
    GoesWithin (exec (.axisCommand path peer b) s) s [0x4003, 0x40B0, 0x40B1, 0x40B2, 0x40B3] (fun d =>
      vget d.cmds a = commanded b ∧ (∀ c : Fin 4, c ≠ a → vget d.cmds c = vget s.dev.cmds c)
        ∧ rd d (CSQ_SRCs_LAST k) = BitVec.ofNat 32 q ∧ rd d (CSQ_AXa_LAST a) = BitVec.ofNat 32 q ∧ slotState d k = 1
        ∧ vget d.csq.applied a = some b ∧ vget d.csq.appliedAt a = s.dev.ltb.toNat
        ∧ (monitor d a).cmds.head? = some ⟨s.dev.ltb.toNat, byteAt b 1 % 16, signed 16 (le16 b 6), signed 16 (le16 b 8),
            signed 16 (le16 b 10)⟩
        ∧ (∃ l ∈ d.csq.log, l.slot = k ∧ l.bytes = b.take 14 ++ [BitVec.ofNat 8 path.val, 3])
        ∧ acknowledges s.dev d path peer (ackBytes (byteAt b 0) 0 q (BitVec.ofNat 32 q) 1))) ∧
  (∀ (s : State) (path : Fin 6) (peer : Sender) (b h : List Byte) (k q : Nat), Acts s → recordArrives s.dev path b k →
    recordLegal s.dev b k → featureOn s.dev 0 = false → q = le32 b 2 → s.dev.icf.badWords = [] → slotState s.dev k = 1 →
    BitVec.ofNat 32 q - rd s.dev (CSQ_SRCs_LAST k) = 1 → q + 1 < 4294967296 → (csqSlot s.dev k).held = [(q + 1, h)] →
    le32 h 2 = q + 1 → byteAt h 1 / 16 < 4 → byteAt h 1 / 16 ≠ byteAt b 1 / 16 →
    GoesWithin (exec (.axisCommand path peer b) s) s [0x4003, 0x40B0, 0x40B1, 0x40B2, 0x40B3] (fun d =>
      vget d.cmds (byteAt b 1 / 16) = commanded b ∧ vget d.cmds (byteAt h 1 / 16) = commanded h
        ∧ rd d (CSQ_SRCs_LAST k) = BitVec.ofNat 32 (q + 1) ∧ (csqSlot d k).held = []
        ∧ acknowledges s.dev d path peer (ackBytes (byteAt b 0) 0 q (BitVec.ofNat 32 (q + 1)) 1))) ∧
  (∀ (s : State) (path : Fin 6) (peer : Sender) (b : List Byte) (k q : Nat) (dist : Word), Acts s →
    recordArrives s.dev path b k → recordLegal s.dev b k → featureOn s.dev 0 = false → q = le32 b 2 →
    slotState s.dev k = 1 → dist = BitVec.ofNat 32 q - rd s.dev (CSQ_SRCs_LAST k) → 2 ≤ dist.toNat → dist.toNat ≤ 8 →
    (csqSlot s.dev k).held.find? (fun h => decide (h.1 = q)) = none →
    GoesWithin (exec (.axisCommand path peer b) s) s [0x4003, 0x40B0, 0x40B1, 0x40B2, 0x40B3] (fun d =>
      d.cmds = s.dev.cmds ∧ rd d (CSQ_SRCs_LAST k) = rd s.dev (CSQ_SRCs_LAST k) ∧ slotState d k = 1
        ∧ (csqSlot d k).held = (csqSlot s.dev k).held ++ [(q, b)]
        ∧ (∃ l ∈ d.csq.log, l.slot = k ∧ l.bytes = b.take 14 ++ [BitVec.ofNat 8 path.val, 1])
        ∧ acknowledges s.dev d path peer (ackBytes (byteAt b 0) 0 q (rd s.dev (CSQ_SRCs_LAST k)) 1)))) ∧
  ((∀ (s : State) (path : Fin 6) (peer : Sender) (b : List Byte), Acts s → b.length = 16 → flag s.dev CSQ_STATUS 8 = true →
    Goes (exec (.axisCommand path peer b) s) s s.dev) ∧
  (∀ (s : State) (path : Fin 6) (peer : Sender) (b : List Byte), Acts s → b.length = 16 → flag s.dev CSQ_STATUS 8 = false →
    crc16 (b.take 14) ≠ le16 b 14 →
    GoesRaising (exec (.axisCommand path peer b) s) s (incFld CSQ_CRC_CNT 15 0 s.dev) Src.CSQ_CRC 0) ∧
  (∀ (s : State) (path : Fin 6) (peer : Sender) (b : List Byte), Acts s → b.length = 16 → flag s.dev CSQ_STATUS 8 = false →
    crc16 (b.take 14) = le16 b 14 →
    slotOf s.dev (byteAt b 0) = none ∨
      (∃ k, slotOf s.dev (byteAt b 0) = some k ∧ flag s.dev (CSQ_SRCs_CFG k) (8 + path.val) = false) →
    GoesWithin (exec (.axisCommand path peer b) s) s [0x4003, 0x40B0, 0x40B1, 0x40B2, 0x40B3] (fun d =>
      d.csq = s.dev.csq ∧ d.cmds = s.dev.cmds
        ∧ fld d CSQ_REFUSE_CNT 15 0 = Nat.min 65535 (fld s.dev CSQ_REFUSE_CNT 15 0 + 1)
        ∧ acknowledges s.dev d path peer (ackBytes (byteAt b 0) 4 (le32 b 2) 0 1))) ∧
  (∀ (s : State) (path : Fin 6) (peer : Sender) (b : List Byte) (k code q : Nat), Acts s → recordArrives s.dev path b k →
    featureOn s.dev 0 = false → q = le32 b 2 →
    (slotState s.dev k = 2 ∧ code = 7) ∨
      (slotState s.dev k ≠ 2 ∧ recLegal s.dev b = false ∧ code = 3) ∨
      (slotState s.dev k ≠ 2 ∧ recLegal s.dev b = true ∧ (fld s.dev (CSQ_AXa_SRC (byteAt b 1 / 16)) 3 0 ≠ k
        ∨ flag s.dev (CSQ_AXa_SRC (byteAt b 1 / 16)) 31 = true) ∧ code = 5) →
    GoesWithin (exec (.axisCommand path peer b) s) s [0x4003, 0x40B0, 0x40B1, 0x40B2, 0x40B3] (fun d =>
      sequenceSame s.dev d k ∧ fld d CSQ_REFUSE_CNT 15 0 = Nat.min 65535 (fld s.dev CSQ_REFUSE_CNT 15 0 + 1)
        ∧ acknowledges s.dev d path peer (ackBytes (byteAt b 0) code q (rd s.dev (CSQ_SRCs_LAST k)) 1))) ∧
  (∀ (s : State) (path : Fin 6) (peer : Sender) (b : List Byte) (k q : Nat) (dist : Word), Acts s →
    recordArrives s.dev path b k → recordLegal s.dev b k → featureOn s.dev 0 = false → q = le32 b 2 →
    slotState s.dev k = 1 → dist = BitVec.ofNat 32 q - rd s.dev (CSQ_SRCs_LAST k) → s.dev.icf.badWords = [] →
    (dist.toNat = 0 ∨ 2147483648 ≤ dist.toNat →
      ((∀ l, logFind s.dev k q = some l → byteAt l.bytes 1 = byteAt b 1 ∧ slice l.bytes 6 8 = slice b 6 8) →
        GoesWithin (exec (.axisCommand path peer b) s) s [0x4003, 0x40B0, 0x40B1, 0x40B2, 0x40B3] (fun d =>
          sequenceSame s.dev d k ∧ fld d CSQ_DUP_CNT 15 0 = Nat.min 65535 (fld s.dev CSQ_DUP_CNT 15 0 + 1)
            ∧ rd d CSQ_REFUSE_CNT = rd s.dev CSQ_REFUSE_CNT
            ∧ acknowledges s.dev d path peer (ackBytes (byteAt b 0) 1 q (rd s.dev (CSQ_SRCs_LAST k)) 1))) ∧
      (∀ l, logFind s.dev k q = some l → byteAt l.bytes 1 ≠ byteAt b 1 ∨ slice l.bytes 6 8 ≠ slice b 6 8 →
        GoesWithin (exec (.axisCommand path peer b) s) s [0x4003, 0x40B0, 0x40B1, 0x40B2, 0x40B3] (fun d =>
          sequenceSame s.dev d k ∧ Reported Src.CSQ_CONFLICT k s.dev d
            ∧ acknowledges s.dev d path peer (ackBytes (byteAt b 0) 6 q (rd s.dev (CSQ_SRCs_LAST k)) 1)))) ∧
    (9 ≤ dist.toNat → dist.toNat < 2147483648 →
      GoesWithin (exec (.axisCommand path peer b) s) s [0x4003, 0x40B0, 0x40B1, 0x40B2, 0x40B3] (fun d =>
        sequenceSame s.dev d k ∧ fld d CSQ_REFUSE_CNT 31 16 = Nat.min 65535 (fld s.dev CSQ_REFUSE_CNT 31 16 + 1)
          ∧ acknowledges s.dev d path peer (ackBytes (byteAt b 0) 2 q (rd s.dev (CSQ_SRCs_LAST k)) 1)))))

/-- CSQ_DATAGRAM, CSQ_ACK_BATCH_TIMEOUT, CSQ_GAP_STALL and CSQ_SET_LAST (R409, R413–R415): a datagram of one record is
that record, two records apply in order, a wrong length is refused as a whole; a batch is sent; a stall; a new LAST.
Rests on choices of the model: log entry 67. -/
def Obligations.DatagramsBatchesAndStalls : Prop :=
  (∀ (s : State) (n : Fin 2) (peer : Sender) (p : List Byte) (path : Fin 6), Acts s → path.val = 4 + n.val → p.length = 16 →
    exec (.csqDatagram n peer p) s = exec (.axisCommand path peer p) s) ∧
  (∀ (s : State) (n : Fin 2) (peer : Sender) (p : List Byte), Acts s → flag s.dev CSQ_STATUS 8 = true →
    Goes (exec (.csqDatagram n peer p) s) s s.dev) ∧
  (∀ (s : State) (n : Fin 2) (peer : Sender) (p : List Byte) (path : Fin 6), Acts s → path.val = 4 + n.val →
    flag s.dev CSQ_STATUS 8 = false → p.length % 16 ≠ 0 ∨ p.length < 16 ∨ 128 < p.length →
    ∃ d, Goes (exec (.csqDatagram n peer p) s) s d ∧ d.csq = s.dev.csq ∧ d.cmds = s.dev.cmds
      ∧ fld d CSQ_LEN_CNT 15 0 = Nat.min 65535 (fld s.dev CSQ_LEN_CNT 15 0 + 1)
      ∧ d.jrn.offered.length = s.dev.jrn.offered.length + 1 ∧ RegsExcept [CSQ_LEN_CNT] s.dev d
      ∧ acknowledges s.dev d path peer (ackBytes 0xFF 8 0 0 1)) ∧
  (∀ (s : State) (n : Fin 2) (peer : Sender) (b c : List Byte) (path : Fin 6) (k q : Nat), Acts s → path.val = 4 + n.val →
    recordArrives s.dev path b k → recordArrives s.dev path c k → recordLegal s.dev b k → recordLegal s.dev c k →
    featureOn s.dev 0 = false → slotState s.dev k = 1 → (csqSlot s.dev k).held = [] → q = le32 b 2 → le32 c 2 = q + 1 →
    BitVec.ofNat 32 q - rd s.dev (CSQ_SRCs_LAST k) = 1 →
    GoesWithin (exec (.csqDatagram n peer (b ++ c)) s) s [0x4003] (fun d =>
      rd d (CSQ_SRCs_LAST k) = BitVec.ofNat 32 (q + 1) ∧ vget d.cmds (byteAt c 1 / 16) = commanded c
        ∧ (byteAt b 1 / 16 ≠ byteAt c 1 / 16 → vget d.cmds (byteAt b 1 / 16) = commanded b)
        ∧ acknowledges s.dev d path peer (ackBytes (byteAt b 0) 0 q (BitVec.ofNat 32 q) 1
            ++ ackBytes (byteAt c 0) 0 (q + 1) (BitVec.ofNat 32 (q + 1)) 1))) ∧
  (∀ (s : State) (k : Fin 16) (path : Fin 6), Acts s →
    (∀ x, batchOf s.dev k path = some x → s.dev.ltb.toNat < x.since + fld s.dev CSQ_CTRL 9 0 * 800) ∨
      flag s.dev CSQ_STATUS 8 = true →
    Goes (exec (.csqAckBatchTimeout k path) s) s s.dev) ∧
  (∀ (s : State) (k : Fin 16) (path : Fin 6) (x : AckBatch), Acts s → batchOf s.dev k path = some x →
    x.since + fld s.dev CSQ_CTRL 9 0 * 800 ≤ s.dev.ltb.toNat → flag s.dev CSQ_STATUS 8 = false →
    GoesWithin (exec (.csqAckBatchTimeout k path) s) s [0x40B0, 0x40B1, 0x40B2, 0x40B3] (fun d =>
      batchOf d k path = none ∧ d.cmds = s.dev.cmds ∧ acknowledges s.dev d path x.sender
        (ackBytes (fld s.dev (CSQ_SRCs_CFG k) 7 0) 0 x.seq (rd s.dev (CSQ_SRCs_LAST k)) x.count))) ∧
  (∀ (s : State) (k : Fin 16), Acts s → (csqSlot s.dev k).held = [] ∨ (csqSlot s.dev k).stalled = true ∨
      s.dev.ltb.toNat < (csqSlot s.dev k).heldFrom + fld s.dev CSQ_CTRL 31 16 * 800000 →
    Goes (exec (.csqGapStall k) s) s s.dev) ∧
  (∀ (s : State) (k : Fin 16), Acts s → (csqSlot s.dev k).held ≠ [] → (csqSlot s.dev k).stalled = false →
    (csqSlot s.dev k).heldFrom + fld s.dev CSQ_CTRL 31 16 * 800000 ≤ s.dev.ltb.toNat →
    ∃ d, GoesRaising (exec (.csqGapStall k) s) s d Src.CSQ_GAP_STALL k ∧ (csqSlot d k).stalled = true
      ∧ (csqSlot d k).held = (csqSlot s.dev k).held ∧ rd d (CSQ_SRCs_LAST k) = rd s.dev (CSQ_SRCs_LAST k)
      ∧ RegsExcept [CSQ_SRCs_STATE k] s.dev d) ∧
  (∀ (s : State) (i : Initiator) (k : Fin 16) (v : Word), Acts s → WriteReaches s.dev i (CSQ_SRCs_LAST k) →
    (slotState s.dev k = 1 → Goes (exec (.csqSetLast i k v) s) s (respErr s.dev)) ∧
    (slotState s.dev k ≠ 1 →
      ∃ d, Goes (exec (.csqSetLast i k v) s) s d ∧ d.response = ⟨false, 0⟩ ∧ rd d (CSQ_SRCs_LAST k) = v ∧ slotState d k = 1
        ∧ (csqSlot d k).held = [] ∧ d.cmds = s.dev.cmds ∧ RegsExcept [CSQ_SRCs_LAST k, CSQ_SRCs_STATE k] s.dev d))

/-- PWRFAIL_FALL, FLUSH_COMPLETE, PWRFAIL_RISE, CMD_STEP and CSQ_CMD_TIMEOUT (R13, R418–R421, R514): acknowledgement
stops and a flush image is taken; the setpoint that CMD_IN gives and its loss; the timeout of an axis and limp home.
Rests on choices of the model: log entries 68, 69. -/
def Obligations.PowerFailureAndCommandPin : Prop :=
  (∀ s : State, Acts s → flag s.dev CSQ_STATUS 8 = true →
    Goes (exec .pwrfailFall s) s { s.dev with sys := { s.dev.sys with pinLow := true } }) ∧
  (∀ s : State, Acts s → flag s.dev CSQ_STATUS 8 = false → s.dev.icf.badWords = [] →
    ∃ d, GoesRaising (exec .pwrfailFall s) s d Src.SYS_PWRFAIL 0 ∧ flag d CSQ_STATUS 8 = true ∧ flag d SYS_PWRFAIL 0 = false
      ∧ flag d SYS_PWRFAIL 1 = true ∧ fld d SYS_PWRFAIL 31 16 = Nat.min 65535 (fld s.dev SYS_PWRFAIL 31 16 + 1)
      ∧ d.sys.pinLow = true ∧ RegsExcept [SYS_PWRFAIL, CSQ_STATUS] s.dev d
      ∧ ((s.dev.phase ≠ .programmed ∧ s.dev.phase ≠ .running) ∨ s.dev.csq.flushing ≠ none → d.csq = s.dev.csq)
      ∧ (s.dev.phase = .programmed ∨ s.dev.phase = .running → s.dev.csq.flushing = none →
          d.csq.flushing = some (nextFlush s.dev).1
            ∧ vget d.csq.flush (nextFlush s.dev).1 =
                { epoch := (nextFlush s.dev).2, started := true, image := csqImage s.dev })) ∧
  (∀ (s : State) (k : Fin 8), Acts s → s.dev.csq.flushing = some k.val → s.dev.sys.warmWaits = none →
    ∃ d, Goes (exec .flushComplete s) s d ∧ d.csq.flushing = none ∧ RegsExcept [] s.dev d
      ∧ vget d.csq.flush k = { (vget s.dev.csq.flush k) with complete := true }) ∧
  (∀ s : State, Acts s → s.dev.csq.flushing = none → s.dev.sys.warmWaits = none →
    Goes (exec .flushComplete s) s s.dev) ∧
  (∀ s : State, Acts s → Goes (exec .pwrfailRise s) s
    (setFlag CSQ_STATUS 8 false (setFlag SYS_PWRFAIL 0 true { s.dev with sys := { s.dev.sys with pinLow := false } }))) ∧
  (∀ (s : State) (x : Nat) (ok : Bool), Acts s → flag s.dev CMD_CFG 31 = false →
    Goes (exec (.cmdStep x ok) s) s s.dev) ∧
  (∀ (s : State) (x : Nat) (ok : Bool) (lo hi outLo outHi : Int), Acts s → flag s.dev CMD_CFG 31 = true →
    ok = true → fld s.dev CMD_TIME 15 0 ≠ 0 → fld s.dev CMD_LOSSLO 19 0 ≤ x → x ≤ fld s.dev CMD_LOSSHI 19 0 →
    (fld s.dev CMD_CFG 1 0 = 0 ∧ x ≤ 3000) ∨ (fld s.dev CMD_CFG 1 0 = 1 ∧ x ≤ 32768) ∨
      (2 ≤ fld s.dev CMD_CFG 1 0 ∧ 10 ≤ x ∧ x ≤ 500000) →
    lo = fld s.dev CMD_XLO 19 0 → hi = fld s.dev CMD_XHI 19 0 → lo < hi → outHi = sfld s.dev CMD_OUT 31 16 →
    outLo = sfld s.dev CMD_OUT 15 0 →
    GoesWithin (exec (.cmdStep x ok) s) s [0x40C0] (fun d =>
      flag d CMD_X 31 = true ∧ fld d CMD_X 19 0 = x ∧ d.csq.lossRun = 0
        ∧ sfld d CMD_SP 15 0 = outLo + roundDiv ((max lo (min hi x) - lo) * (outHi - outLo)) (hi - lo)
        ∧ ∀ a : Fin 4, axisInUse s.dev a = true → flag s.dev (CSQ_AXa_SRC a) 31 = true →
            vget d.cmds a = ⟨fld s.dev (CSQ_AXa_LIMP0 a) 19 16, sfld d CMD_SP 15 0, sfld s.dev (CSQ_AXa_LIMP1 a) 31 16,
              sfld s.dev (CSQ_AXa_LIMP1 a) 15 0, fld s.dev (CSQ_AXa_LIMP0 a) 15 0, true⟩)) ∧
  (∀ (s : State) (x : Nat) (ok : Bool), Acts s → flag s.dev CMD_CFG 31 = true → cmdValid s.dev x ok = false →
    GoesWithin (exec (.cmdStep x ok) s) s [0x40C0] (fun d =>
      flag d CMD_X 31 = false ∧ rd d CMD_SP = rd s.dev CMD_SP ∧ d.csq.lossRun = s.dev.csq.lossRun + 1
        ∧ (d.csq.lossRun = fld s.dev CMD_TIME 15 0 → flag d CMD_STATUS 0 = true ∧ Reported Src.CMD_LOSS 0 s.dev d
            ∧ ∀ a : Fin 4, axisInUse s.dev a = true → flag s.dev (CSQ_AXa_SRC a) 31 = true →
              (vget d.cmds a).setpoint = 0 ∧ (Collects s.dev Src.CMD_LOSS_ACTIVE →
                flag d (FCR_SRCkkkk_STATUS Src.CMD_LOSS_ACTIVE) 0 = true)))) ∧
  (∀ (s : State) (a : Fin 4), Acts s → axisInUse s.dev a = false ∨ fld s.dev (CSQ_AXa_SRC a) 23 8 = 0 ∨
      flag s.dev (CSQ_AXa_SRC a) 31 = true ∨
      s.dev.ltb.toNat < vget s.dev.csq.appliedAt a + fld s.dev (CSQ_AXa_SRC a) 23 8 * 800000 →
    Goes (exec (.csqCmdTimeout a) s) s s.dev) ∧
  (∀ (s : State) (a : Fin 4), Acts s → axisInUse s.dev a = true → fld s.dev (CSQ_AXa_SRC a) 23 8 ≠ 0 →
    flag s.dev (CSQ_AXa_SRC a) 31 = false →
    vget s.dev.csq.appliedAt a + fld s.dev (CSQ_AXa_SRC a) 23 8 * 800000 ≤ s.dev.ltb.toNat → s.dev.csq.late[a] = false →
    (flag s.dev (CSQ_AXa_SRC a) 30 = false ∨ flag s.dev CMD_CFG (8 + a) = false ∨ flag s.dev CMD_CFG 31 = false ∨
        flag s.dev CMD_X 31 = false →
      ∃ d, GoesRaising (exec (.csqCmdTimeout a) s) s d Src.CSQ_CMD_TIMEOUT a ∧ d.cmds = s.dev.cmds
        ∧ d.csq.late[a] = true ∧ RegsExcept [] s.dev d) ∧
    (flag s.dev (CSQ_AXa_SRC a) 30 = true → flag s.dev CMD_CFG (8 + a) = true → flag s.dev CMD_CFG 31 = true →
      flag s.dev CMD_X 31 = true →
      GoesWithin (exec (.csqCmdTimeout a) s) s [0x4003, 0x40C0] (fun d =>
        flag d (CSQ_AXa_SRC a) 31 = true ∧ flag d CMD_STATUS 2 = true ∧ Reported Src.CSQ_CMD_TIMEOUT a s.dev d
          ∧ Reported Src.CMD_LIMP a s.dev d ∧ s.dev.jrn.offered.length < d.jrn.offered.length
          ∧ vget d.cmds a = ⟨fld s.dev (CSQ_AXa_LIMP0 a) 19 16, sfld s.dev CMD_SP 15 0, sfld s.dev (CSQ_AXa_LIMP1 a) 31 16,
              sfld s.dev (CSQ_AXa_LIMP1 a) 15 0, fld s.dev (CSQ_AXa_LIMP0 a) 15 0, true⟩)))

/-! ## Transactions and the journal -/

/-- A write of `i` to the register at `a` reaches it, whether or not `i` has a transaction open: the register is no shadowed
one. -/
def writeArrives (d : Dev) (i : Initiator) (a : Nat) : Prop :=
  initiatorLive d i = true ∧ denied d i a .w32 true = none ∧ underTestAt d a = false ∧ regUnused d a = false
    ∧ txLocked d a = false
/-- CTE_BEGIN, CTE_SHADOW_WRITE and the four CTE_COMMIT rows (R422, R423, R425): when BEGIN fails and what it opens; a
shadowed write takes or replaces an entry and leaves the live register alone; a commit is taken for validation. Rests
on choices of the model: log entries 70, 75. -/
def Obligations.TransactionsOpenAndCommit : Prop :=
  (∀ (s : State) (i : Initiator) (v : Word), Acts s → writeArrives s.dev i CTE_BEGIN →
    (mayHold i = false → Goes (exec (.cteBegin i v) s) s (respErr s.dev)) ∧
    (mayHold i = true → bit v 0 = false → Goes (exec (.cteBegin i v) s) s (respOk s.dev)) ∧
    (∀ e, mayHold i = true → bit v 0 = true →
      (fld s.dev CFG_FEAT_STATUS 1 0 ≠ 1 ∧ e = 1) ∨
        (fld s.dev CFG_FEAT_STATUS 1 0 = 1 ∧ txOf s.dev i ≠ none ∧ e = 2) ∨
        (fld s.dev CFG_FEAT_STATUS 1 0 = 1 ∧ txOf s.dev i = none ∧ 4 ≤ s.dev.cte.txs.length ∧ e = 3) →
      Goes (exec (.cteBegin i v) s) s (setFld (bank i CTE_TX) 15 8 e (respOk s.dev))) ∧
    (mayHold i = true → bit v 0 = true → fld s.dev CFG_FEAT_STATUS 1 0 = 1 → txOf s.dev i = none →
      s.dev.cte.txs.length < 4 →
      ∃ (d : Dev) (k : Nat), Goes (exec (.cteBegin i v) s) s d ∧ d.response = ⟨false, 0⟩ ∧ 0 < k ∧ k < 65536
        ∧ (∀ x ∈ s.dev.cte.txs, x.token ≠ k) ∧ d.cte.token = k
        ∧ ((∀ x ∈ s.dev.cte.txs, x.token ≠ (s.dev.cte.token + 1) % 65536) → (s.dev.cte.token + 1) % 65536 ≠ 0 →
            k = (s.dev.cte.token + 1) % 65536)
        ∧ d.cte.txs = s.dev.cte.txs ++ [{ by_ := i, token := k, lastWrite := s.dev.ltb.toNat }]
        ∧ rd d (bank i CTE_TX) = BitVec.ofNat 32 (k * 65536 + 1) ∧ rd d (bank i CTE_TX_WRITES) = 0
        ∧ fld d CTE_OPEN 2 0 = s.dev.cte.txs.length + 1
        ∧ RegsExcept [bank i CTE_TX, bank i CTE_TX_WRITES, CTE_OPEN] s.dev d)) ∧
  (∀ (s : State) (i : Initiator) (a v : Word) (t : Tx), Acts s → initiatorLive s.dev i = true →
    openTx s.dev i = some t → shadowed s.dev a.toNat = true → writeDenied s.dev i a.toNat .w32 = none →
    underTestAt s.dev a.toNat = false → badAt s.dev a.toNat = false → a.toNat ≠ CTE_OWNSET → s.dev.trc.ringOut = [] →
    adjShadowed s.dev i a.toNat = true ∨ isPeripheral a.toNat = true → (∀ k : Fin 2, a.toNat ≠ ETHn_TXR_TAIL k) →
    (t.entries.any (fun e => decide (e.addr = shadowKey s.dev a.toNat)) = true →
      ∃ d, Goes (exec (.cteShadowWrite i a v) s) s d ∧ d.response = ⟨false, 0⟩
        ∧ txOf d i = some { t with lastWrite := s.dev.ltb.toNat,
                                   entries := t.entries.map (fun e =>
            if e.addr = shadowKey s.dev a.toNat then ⟨shadowKey s.dev a.toNat, v⟩ else e) }
        ∧ RegsExcept [bank i CTE_TX_WRITES, CTE_OPEN] s.dev d) ∧
    (t.entries.any (fun e => decide (e.addr = shadowKey s.dev a.toNat)) = false → shadowUsed s.dev < 1024 →
      ∃ d, Goes (exec (.cteShadowWrite i a v) s) s d ∧ d.response = ⟨false, 0⟩
        ∧ txOf d i = some { t with lastWrite := s.dev.ltb.toNat, entries := t.entries ++ [⟨shadowKey s.dev a.toNat, v⟩] }
        ∧ RegsExcept [bank i CTE_TX_WRITES, CTE_OPEN] s.dev d) ∧
    (t.entries.any (fun e => decide (e.addr = shadowKey s.dev a.toNat)) = false → 1024 ≤ shadowUsed s.dev →
      ∃ d, Goes (exec (.cteShadowWrite i a v) s) s d ∧ d.response = ⟨true, 0⟩
        ∧ txOf d i = some { t with lastWrite := s.dev.ltb.toNat, full := true }
        ∧ d.jrn.offered.length = s.dev.jrn.offered.length + 1 ∧ RegsExcept [CTE_OPEN] s.dev d)) ∧
  (∀ (s : State) (i : Initiator) (kind : Nat) (c : Instr), Acts s → writeArrives s.dev i CTE_COMMIT →
    (kind, c) ∈ [(0, Instr.cteCommitImmediate i), (1, .cteCommitLoadInstant i), (2, .cteCommitTime i), (3, .cteCommitAngle i)] →
    (mayHold i = false → Goes (exec c s) s (respErr s.dev)) ∧
    (mayHold i = true → openTx s.dev i = none → Goes (exec c s) s (setFld (bank i CTE_TX) 15 8 4 (respOk s.dev))) ∧
    (∀ t, mayHold i = true → openTx s.dev i = some t →
      ∃ d, Goes (exec c s) s d ∧ d.response = ⟨false, 0⟩ ∧ fld d (bank i CTE_TX) 2 0 = 2
        ∧ txOf d i = some
            { t with phase := .validating, kind, arg := rd s.dev (bank i CTE_COMMIT_ARG), order := s.dev.cte.commits }
        ∧ d.cte.commits = s.dev.cte.commits + 1 ∧ RegsExcept [bank i CTE_TX, CTE_OPEN] s.dev d))
/-- The commit of `i` has applied at this tick (R425). -/
def commitDone (d e : Dev) (i : Initiator) : Prop :=
  txOf e i = none ∧ fld e (bank i CTE_TX) 2 0 = 4 ∧ fld e (bank i CTE_TX) 15 8 = 0 ∧ rd e (bank i CTE_BOUNDARY) = nowLo d
    ∧ rd e (bank i CTE_TX_WRITES) = 0
/-- CTE_VALIDATION_DONE, CTE_BOUNDARY_APPLY, CTE_ROLLBACK and CTE_TX_TIMEOUT (R425, R426): a failure discards the
entries and is reported; success fixes the boundary of each KIND; at the boundary the values take their places;
rollbacks. Rests on choices of the model: log entries 71, 72, 73. -/
def Obligations.TransactionsApplyAndRollBack : Prop :=
  (∀ (s : State) (i : Initiator), Acts s →
    (∀ t, txOf s.dev i = some t → t.phase ≠ .validating ∨ firstToValidate s.dev t = false) →
    Goes (exec (.cteValidationDone i) s) s s.dev) ∧
  (∀ (s : State) (i : Initiator) (t : Tx) (code addr : Nat), Acts s → txOf s.dev i = some t → t.phase = .validating →
    firstToValidate s.dev t = true →
    (∃ f, txFail s.dev t = some (f, addr) ∧ code = f.code) ∨ (txFail s.dev t = none ∧ addr = 0 ∧
      ((t.kind = 1 ∧ bits t.arg 7 0 = 0 ∧ code = 6) ∨
       (t.kind = 2 ∧ ((t.arg - nowLo s.dev).toNat < 16 ∨ 2147483647 < (t.arg - nowLo s.dev).toNat) ∧ code = 10) ∨
       (t.kind = 3 ∧ (axisInUse s.dev (bits t.arg 25 24) = false ∨ bits t.arg 27 26 = 0 ∨ bits t.arg 27 26 = 3) ∧ code = 6))) →
    ∃ d, GoesRaising (exec (.cteValidationDone i) s) s d Src.CTE_FAIL 0 ∧ txOf d i = none
      ∧ fld d (bank i CTE_TX) 2 0 = 5 ∧ fld d (bank i CTE_TX) 15 8 = code % 256
      ∧ rd d (bank i CTE_ERR_ADDR) = BitVec.ofNat 32 addr ∧ d.cfg = s.dev.cfg
      ∧ fld d CTE_FAIL_CNT 15 0 = Nat.min 65535 (fld s.dev CTE_FAIL_CNT 15 0 + 1)
      ∧ d.jrn.offered.length = s.dev.jrn.offered.length + 1
      ∧ RegsExcept [bank i CTE_TX, bank i CTE_TX_WRITES, bank i CTE_ERR_ADDR, bank i CTE_ERR_RES, bank i CTE_ERR_OWNER,
          CTE_FAIL_CNT, CTE_OPEN] s.dev d) ∧
  (∀ (s : State) (i : Initiator) (t : Tx) (b : Option Nat), Acts s → txOf s.dev i = some t → t.phase = .validating →
    firstToValidate s.dev t = true → txFail s.dev t = none → t.rollback = false →
    (t.kind = 2 ∧ 16 ≤ (t.arg - nowLo s.dev).toNat ∧ (t.arg - nowLo s.dev).toNat ≤ 2147483647
        ∧ b = some (s.dev.ltb.toNat + (t.arg - nowLo s.dev).toNat)) ∨
      (t.kind = 3 ∧ axisInUse s.dev (bits t.arg 25 24) = true ∧ (bits t.arg 27 26 = 1 ∨ bits t.arg 27 26 = 2) ∧ b = none) ∨
      (t.kind = 1 ∧ ∃ g : Fin 8, bits t.arg 7 0 = 2 ^ g.val ∧ (vget s.dev.pwm.groups g).running = true
        ∧ s.dev.ltb.toNat + 16 ≤ (vget s.dev.pwm.groups g).nextLi ∧ b = some ((vget s.dev.pwm.groups g).nextLi - 16)) →
    ∃ d, Goes (exec (.cteValidationDone i) s) s d ∧ txOf d i = some { t with phase := .pending, boundary := b }
      ∧ fld d (bank i CTE_TX) 2 0 = 3 ∧ d.cfg = s.dev.cfg ∧ RegsExcept [bank i CTE_TX, CTE_OPEN] s.dev d) ∧
  (∀ (s : State) (i : Initiator) (t : Tx), Acts s → txOf s.dev i = some t → t.phase = .validating →
    firstToValidate s.dev t = true → txFail s.dev t = none → t.kind = 0 → waitsOn s.dev t = false →
    ∃ u, exec (.cteValidationDone i) s = .next u ∧ u.pending = s.pending ∧ u.mem = s.mem ∧ commitDone s.dev u.dev i) ∧
  (∀ (s : State) (i : Initiator), Acts s →
    (∀ t b, txOf s.dev i = some t → t.boundary = some b → t.phase = .pending → s.dev.ltb.toNat < b ∨ waitsOn s.dev t = true) →
    Goes (exec (.cteBoundaryApply i) s) s s.dev) ∧
  (∀ (s : State) (i : Initiator) (t : Tx) (b : Nat), Acts s → txOf s.dev i = some t → t.boundary = some b →
    t.phase = .pending → b ≤ s.dev.ltb.toNat → waitsOn s.dev t = false →
    ∃ u, exec (.cteBoundaryApply i) s = .next u ∧ u.pending = s.pending ∧ u.mem = s.mem ∧ commitDone s.dev u.dev i
      ∧ (∀ (k : Fin 1024) (v : Word) (r : RegRow), t.entries = [⟨FCR_SRCkkkk_CFG k, v⟩] → regRow? (FCR_SRCkkkk_CFG k) = some r →
          rd u.dev (FCR_SRCkkkk_CFG k) = ((rd s.dev (FCR_SRCkkkk_CFG k) &&& ~~~ r.rw) ||| (v &&& r.rw)) &&& ~~~ (v &&& r.w1c)
          ∧ (∀ x, x ∉ [FCR_SRCkkkk_CFG k, bank i CTE_TX, bank i CTE_TX_WRITES, bank i CTE_BOUNDARY, CTE_OPEN, CTE_OVL] →
              rd u.dev x = rd s.dev x))) ∧
  (∀ (s : State) (i : Initiator) (v : Word), Acts s → writeArrives s.dev i CTE_ROLLBACK →
    (mayHold i = false → Goes (exec (.cteRollback i v) s) s (respErr s.dev)) ∧
    (mayHold i = true → bit v 0 = false → Goes (exec (.cteRollback i v) s) s (respOk s.dev)) ∧
    (mayHold i = true → bit v 0 = true → txOf s.dev i = none →
      Goes (exec (.cteRollback i v) s) s (setFld (bank i CTE_TX) 15 8 4 (respOk s.dev))) ∧
    (∀ t, mayHold i = true → bit v 0 = true → txOf s.dev i = some t →
      (t.phase = .validating →
        ∃ d, Goes (exec (.cteRollback i v) s) s d ∧ txOf d i = some { t with rollback := true }
          ∧ RegsExcept [CTE_OPEN] s.dev d) ∧
      (t.phase = .pending → waitedOn s.dev t = true →
        Goes (exec (.cteRollback i v) s) s (setFld (bank i CTE_TX) 15 8 14 (respOk s.dev))) ∧
      (t.phase = .opened ∨ (t.phase = .pending ∧ waitedOn s.dev t = false) →
        ∃ d, Goes (exec (.cteRollback i v) s) s d ∧ txOf d i = none ∧ fld d (bank i CTE_TX) 2 0 = 0
          ∧ fld d (bank i CTE_TX) 15 8 = 0 ∧ d.cfg = s.dev.cfg
          ∧ d.jrn.offered.length = s.dev.jrn.offered.length + 1
          ∧ RegsExcept [bank i CTE_TX, bank i CTE_TX_WRITES, CTE_OPEN] s.dev d))) ∧
  (∀ (s : State) (i : Initiator), Acts s →
    (∀ t, openTx s.dev i = some t → s.dev.ltb.toNat < t.lastWrite + fld s.dev CTE_CTRL 13 0 * 800000) →
    Goes (exec (.cteTxTimeout i) s) s s.dev) ∧
  (∀ (s : State) (i : Initiator) (t : Tx), Acts s → openTx s.dev i = some t →
    t.lastWrite + fld s.dev CTE_CTRL 13 0 * 800000 ≤ s.dev.ltb.toNat →
    ∃ d, Goes (exec (.cteTxTimeout i) s) s d ∧ txOf d i = none ∧ fld d (bank i CTE_TX) 2 0 = 0
      ∧ fld d (bank i CTE_TX) 15 8 = 12 ∧ d.jrn.offered.length = s.dev.jrn.offered.length + 1
      ∧ RegsExcept [bank i CTE_TX, bank i CTE_TX_WRITES, CTE_OPEN] s.dev d)

/-- CTE_OWNSET (R424): outside a transaction the write gets an error response; inside one it takes an entry of its own
and changes no owner. The commit of that one entry, at once or at a boundary, gives the resource named by bits 31:24
and 15:0 the owner code of bits 23:16. Where the store is full, the write is refused and marks the transaction FULL
(R423). -/
def Obligations.OwnershipRequest : Prop :=
  (∀ (s : State) (i : Initiator) (v : Word), Acts s → writeArrives s.dev i CTE_OWNSET →
    (openTx s.dev i = none → Goes (exec (.cteOwnset i v) s) s (respErr s.dev)) ∧
    (∀ t, openTx s.dev i = some t → shadowUsed s.dev < 1024 →
      ∃ d, Goes (exec (.cteOwnset i v) s) s d ∧ d.response = ⟨false, 0⟩ ∧ d.cfg = s.dev.cfg
        ∧ txOf d i = some { t with lastWrite := s.dev.ltb.toNat, entries := t.entries ++ [⟨CTE_OWNSET, v⟩] }
        ∧ RegsExcept [bank i CTE_TX_WRITES, CTE_OPEN] s.dev d) ∧
    (∀ t, openTx s.dev i = some t → 1024 ≤ shadowUsed s.dev →
      ∃ d, Goes (exec (.cteOwnset i v) s) s d ∧ d.response = ⟨true, 0⟩ ∧ d.cfg = s.dev.cfg
        ∧ txOf d i = some { t with lastWrite := s.dev.ltb.toNat, full := true }
        ∧ RegsExcept [bank i CTE_TX_WRITES, CTE_OPEN] s.dev d)) ∧
  (∀ (s : State) (i : Initiator) (t : Tx) (v : Word) (c : Instr), Acts s → txOf s.dev i = some t →
    t.entries = [⟨CTE_OWNSET, v⟩] → waitsOn s.dev t = false →
    (c = .cteValidationDone i ∧ t.phase = .validating ∧ firstToValidate s.dev t = true ∧ txFail s.dev t = none ∧ t.kind = 0)
      ∨ (c = .cteBoundaryApply i ∧ t.phase = .pending ∧ ∃ b, t.boundary = some b ∧ b ≤ s.dev.ltb.toNat) →
    ∃ u, exec c s = .next u ∧ u.pending = s.pending ∧ u.mem = s.mem ∧ txOf u.dev i = none
      ∧ (ownerIn u.dev.cfg.owners (bits v 31 24 * 0x1000000 + bits v 15 0)).code = bits v 23 16)

/-- JRN_FW_WRITE, JRN_ADMIT and JRN_SEQ_QUERY (R430–R432, R434): when a firmware record is refused and what it offers;
the record admitted next, FCR's first, with its JSEQ; the read of one record. Rests on choices of the model: log entry
76. -/
def Obligations.JournalCommands : Prop :=
  (∀ (s : State) (i : Initiator) (v : Word), Acts s → writeArrives s.dev i JRN_FW_WRITE →
    (bit v 31 = false → Goes (exec (.jrnFwWrite i v) s) s (respOk s.dev)) ∧
    (bit v 31 = true → fwBusy s.dev i = true →
      ∃ d, Goes (exec (.jrnFwWrite i v) s) s d ∧ d.response = ⟨true, 0⟩ ∧ rd d (bank i JRN_FW_STATUS) = 0x10000000
        ∧ d.jrn.offered.length = s.dev.jrn.offered.length + 1 ∧ RegsExcept [bank i JRN_FW_STATUS] s.dev d) ∧
    (bit v 31 = true → fwBusy s.dev i = false → bits v 7 0 < 0x80 →
      Goes (exec (.jrnFwWrite i v) s) s (wr (bank i JRN_FW_STATUS) 0x20000000 (respOk s.dev))) ∧
    (bit v 31 = true → fwBusy s.dev i = false → 0x80 ≤ bits v 7 0 → 7168 < s.dev.fcr.stage.length →
      Goes (exec (.jrnFwWrite i v) s) s (wr (bank i JRN_FW_STATUS) 0x30000000 (respOk s.dev))) ∧
    (bit v 31 = true → fwBusy s.dev i = false → 0x80 ≤ bits v 7 0 → s.dev.fcr.stage.length ≤ 7168 →
      ∃ d r, Goes (exec (.jrnFwWrite i v) s) s d ∧ d.response = ⟨false, 0⟩ ∧ d.jrn.offered = s.dev.jrn.offered ++ [r]
        ∧ r.type = bits v 7 0 ∧ r.origin = initiatorId i ∧ r.payload.length = 44
        ∧ (∀ k : Fin 11, le32 r.payload (4 * k) = (rd s.dev (bank i (JRN_FW_DATA k))).toNat)
        ∧ rd d (bank i JRN_FW_STATUS) = 0 ∧ RegsExcept [bank i JRN_FW_STATUS] s.dev d)) ∧
  (∀ s : State, Acts s → flag s.dev JRN_STATUS 0 = false ∨ (s.dev.fcr.stage = [] ∧ s.dev.jrn.offered = []) →
    Goes (exec .jrnAdmit s) s s.dev) ∧
  (∀ (s : State) (q : Nat), Acts s → flag s.dev JRN_STATUS 0 = true → q = (rd s.dev JRN_HEAD_SEQ).toNat →
    (∀ r l, s.dev.fcr.stage = r :: l →
      ∃ d x, Goes (exec .jrnAdmit s) s d ∧ d.fcr.stage = l ∧ d.jrn.offered = s.dev.jrn.offered
        ∧ d.jrn.ring.getLast? = some x ∧ x.jseq = q ∧ x.time = s.dev.ltb.toNat ∧ x.type = 1 ∧ x.origin = 9
        ∧ le16 x.payload 0 = r.source % 65536 ∧ x.payload = fcrPayload r ∧ rd d JRN_HEAD_SEQ = BitVec.ofNat 32 (q + 1)
        ∧ fld d FCR_STAGE 13 0 = l.length % 16384) ∧
    (∀ r l, s.dev.fcr.stage = [] → s.dev.jrn.offered = r :: l →
      ∃ d x, Goes (exec .jrnAdmit s) s d ∧ d.jrn.offered = l ∧ d.jrn.ring.getLast? = some x ∧ x.jseq = q
        ∧ x.time = s.dev.ltb.toNat ∧ x.type = r.type ∧ x.origin = r.origin ∧ x.payload = r.payload
        ∧ rd d JRN_HEAD_SEQ = BitVec.ofNat 32 (q + 1)
        ∧ (∀ i : Initiator, i = .px0 ∨ i = .px1 ∨ i = .px2 ∨ i = .jtag → 0x80 ≤ r.type → r.origin = initiatorId i →
            rd d (bank i JRN_FW_STATUS) = 0x80000000 ∧ rd d (bank i JRN_FW_SEQ) = BitVec.ofNat 32 q))) ∧
  (∀ (s : State) (i : Initiator) (v : Word), Acts s → writeArrives s.dev i JRN_SEQ_Q →
    (featureOn s.dev 3 = false → Goes (exec (.jrnSeqQuery i v) s) s (respErr s.dev)) ∧
    (featureOn s.dev 3 = true → s.dev.jrn.ring.find? (fun r => decide (r.jseq = v.toNat)) = none →
      Goes (exec (.jrnSeqQuery i v) s) s (wr JRN_SEQ_RES 0x80000002 (respOk s.dev))) ∧
    (∀ r, featureOn s.dev 3 = true → s.dev.jrn.ring.find? (fun r => decide (r.jseq = v.toNat)) = some r →
      s.dev.icf.badWords = [] →
      ∃ d, Goes (exec (.jrnSeqQuery i v) s) s d ∧ d.response = ⟨false, 0⟩ ∧ rd d JRN_SEQ_RES = 0x80000001
        ∧ (∀ k : Fin 16, rd d (JRN_SEQ_WIN k) = BitVec.ofNat 32 (le32 (jrnBytes r) (4 * k)))
        ∧ (∀ x, x ≠ JRN_SEQ_RES → (∀ k : Fin 16, x ≠ JRN_SEQ_WIN k) → rd d x = rd s.dev x)))

/-! ## Ethernet, network time, telemetry -/

/-- ETH_FRAME_RECEIVE, ETH_TX_TAIL_WRITE and ETH_FRAME_SENT (R441–R444, R453–R455): frames that are dropped and
counted, the firmware rings with the slots that hardware owns, the hardware paths, and the timestamp of a PTP message.
ETH_MDIO_READ, ETH_MDIO_WRITE, ETH_MDIO_DONE, ETH_LINK_LOST and ETH_LINK_UP (R441, R466, R467): an MDIO access is
refused while one runs and otherwise starts with GO; its end shows the data of a read; a lost link is shown and
raised, a returned one shows its speed. Rests on choices of the model: log entries 79, 80. -/
def Obligations.EthernetFramesAndLink : Prop :=
  ((∀ (s : State) (n : Fin 2) (f : List Byte) (ok : Bool) (t : Nat), Acts s → flag s.dev (ETHn_CFG n) 31 = false →
    exec (.ethFrameReceive n f ok t) s = .next s) ∧
  (∀ (s : State) (n : Fin 2) (f : List Byte) (ok : Bool) (t : Nat), Acts s → flag s.dev (ETHn_CFG n) 31 = true →
    f.length < 60 ∨ 1518 < f.length →
    Goes (exec (.ethFrameReceive n f ok t) s) s (incFld (ETHn_ERRCNT n) 15 0 s.dev)) ∧
  (∀ (s : State) (n : Fin 2) (f : List Byte) (t : Nat), Acts s → flag s.dev (ETHn_CFG n) 31 = true →
    60 ≤ f.length → f.length ≤ 1518 →
    Goes (exec (.ethFrameReceive n f false t) s) s (incFld (ETHn_ERRCNT n) 31 16 s.dev)) ∧
  (∀ (s : State) (n : Fin 2) (f : List Byte) (t p : Nat), Acts s → flag s.dev (ETHn_CFG n) 31 = true →
    60 ≤ f.length → f.length ≤ 1518 → hwPort s.dev f = some p → hwGood s.dev n f = false →
    Goes (exec (.ethFrameReceive n f true t) s) s (incFld (ETHn_HWDROP n) 15 0 (incFld (ETHn_RXCNT n) 31 0 s.dev))) ∧
  (∀ (s : State) (n : Fin 2) (f : List Byte) (t p o : Nat), Acts s → flag s.dev (ETHn_CFG n) 31 = true →
    60 ≤ f.length → f.length ≤ 1518 → hwPort s.dev f = some p → hwGood s.dev n f = true → etherOfs f = some o →
    (p = 47860 → exec (.ethFrameReceive n f true t) s =
      exec (.csqDatagram n (frameSender f o) (framePayload f o)) (withDev s (incFld (ETHn_RXCNT n) 31 0 s.dev))) ∧
    (p ≠ 47860 → 2 ≤ (framePayload f o).length → byteAt (framePayload f o) 1 = 1 →
      exec (.ethFrameReceive n f true t) s =
        exec (.subscribe n (frameSender f o) (framePayload f o)) (withDev s (incFld (ETHn_RXCNT n) 31 0 s.dev)))) ∧
  (∀ (s : State) (n : Fin 2) (f : List Byte) (t i a : Nat), Acts s → flag s.dev (ETHn_CFG n) 31 = true →
    60 ≤ f.length → f.length ≤ 1518 → hwPort s.dev f = none → ptpOfs f = none → i = fld s.dev (ETHn_RXR_HEAD n) 10 0 →
    a = (rd s.dev (ETHn_RXR_BASE n)).toNat + 2048 * i →
    (slotUsable s.dev n a = true → bit (Memory.readWord s.mem a) 31 = true →
      ∃ u, exec (.ethFrameReceive n f true t) s = .next u ∧ u.pending = s.pending
        ∧ (rd u.dev (ETHn_RXCNT n)).toNat = Nat.min 4294967295 ((rd s.dev (ETHn_RXCNT n)).toNat + 1)
        ∧ (rd u.dev (ETHn_RXR_HEAD n)).toNat = (if fld s.dev (ETHn_RXR_LEN n) 10 0 ≤ i + 1 then 0 else i + 1)
        ∧ RegsExcept [ETHn_RXCNT n, ETHn_RXR_HEAD n] s.dev u.dev
        ∧ (Memory.readWord u.mem a).toNat = f.length ∧ (Memory.readWord u.mem (a + 4)).toNat = t % 4294967296
        ∧ Memory.readBytes u.mem (a + 16) f.length = f
        ∧ ∀ b, b < a ∨ (a + 8 ≤ b ∧ b < a + 16) ∨ a + 16 + f.length ≤ b → Memory.read u.mem b = Memory.read s.mem b) ∧
    (slotUsable s.dev n a = false ∨ bit (Memory.readWord s.mem a) 31 = false →
      GoesRaising (exec (.ethFrameReceive n f true t) s) s
        (setFlag (ETHn_STATUS n) 9 true (incFld (ETHn_RXOVF_CNT n) 15 0 (incFld (ETHn_RXCNT n) 31 0 s.dev)))
        Src.ETH_RXOVF n)) ∧
  (∀ (s : State) (n : Fin 2) (f : List Byte) (t p : Nat), Acts s → flag s.dev (ETHn_CFG n) 31 = true →
    60 ≤ f.length → f.length ≤ 1518 → ptpOfs f = some p → byteAt f p % 16 ≤ 3 → flag s.dev (ETHn_CFG n) 8 = true →
    (vget s.dev.ntu.fifos (2 * n)).items.length < 16 →
    ∃ u x, exec (.ethFrameReceive n f true t) s = .next u
      ∧ (vget u.dev.ntu.fifos (2 * n)).items = (vget s.dev.ntu.fifos (2 * n)).items ++ [x]
      ∧ bit x.1 31 = true ∧ bits x.1 27 24 = byteAt f p % 16 ∧ bits x.1 23 16 = byteAt f (p + 4)
      ∧ bits x.1 15 0 = be16 f (p + 30)
      ∧ (byteAt f p % 16 = 0 → ntuSupervised s.dev = true →
          (rd s.dev NTU_GM_ID_HI).toNat = be32 f (p + 20) → (rd s.dev NTU_GM_ID_LO).toNat = be32 f (p + 24) →
          u.dev.ntu.lastSync = s.dev.ltb.toNat ∧ flag u.dev NTU_STATUS 8 = flag s.dev NTU_STATUS 8)
      ∧ (byteAt f p % 16 = 0 → ntuSupervised s.dev = true → flag s.dev NTU_STATUS 8 = false →
          (rd s.dev NTU_GM_ID_HI).toNat ≠ be32 f (p + 20) ∨ (rd s.dev NTU_GM_ID_LO).toNat ≠ be32 f (p + 24) →
          flag u.dev NTU_STATUS 8 = true ∧ flag u.dev NTU_STATUS 5 = true
            ∧ (Collects s.dev Src.NTU_HOLDOVER → flag u.dev (FCR_SRCkkkk_STATUS Src.NTU_HOLDOVER) 0 = true))) ∧
  (∀ (s : State) (i : Initiator) (n : Fin 2) (v : Word), Acts s → WriteReaches s.dev i (ETHn_TXR_TAIL n) →
    fld s.dev (ETHn_TXR_LEN n) 10 0 ≤ v.toNat →
    ∃ d, Goes (exec (.ethTxTailWrite i n v) s) s d ∧ d.response = ⟨true, 0⟩ ∧ d.eth = s.dev.eth ∧ RegsExcept [] s.dev d) ∧
  (∀ (s : State) (i : Initiator) (n : Fin 2) (v w : Word) (k a : Nat), Acts s → WriteReaches s.dev i (ETHn_TXR_TAIL n) →
    v.toNat < fld s.dev (ETHn_TXR_LEN n) 10 0 → k = (macOf s.dev n).taken →
    a = (rd s.dev (ETHn_TXR_BASE n)).toNat + 2048 * k → w = Memory.readWord s.mem a →
    ∃ d, Goes (exec (.ethTxTailWrite i n v) s) s d ∧ d.response = ⟨false, 0⟩ ∧ rd d (ETHn_TXR_TAIL n) = v
      ∧ RegsExcept [ETHn_TXR_TAIL n] s.dev d
      ∧ (v.toNat = k ∨ slotUsable s.dev n a = false ∨ bit w 31 = false → macOf d n = macOf s.dev n)
      ∧ (v.toNat ≠ k → slotUsable s.dev n a = true → bit w 31 = true →
          v.toNat = (if fld s.dev (ETHn_TXR_LEN n) 10 0 ≤ k + 1 then 0 else k + 1) →
          (macOf s.dev n).cur = none → (macOf s.dev n).queue = [] → bits w 10 0 ≤ 2032 →
          macOf d n = { macOf s.dev n with
            cur := some ⟨bits w 26 24, some k, Memory.readBytes s.mem (a + 16) (bits w 10 0), bit w 16⟩,
            taken := v.toNat })) ∧
  (∀ (s : State) (n : Fin 2) (t : Nat), Acts s → (macOf s.dev n).cur = none →
    exec (.ethFrameSent n t) s = .next s) ∧
  (∀ (s : State) (n : Fin 2) (t : Nat) (x : TxFrame), Acts s → (macOf s.dev n).cur = some x → x.slot = none →
    x.stamp = false → ptpOfs x.bytes = none →
    ∃ d, Goes (exec (.ethFrameSent n t) s) s d ∧ RegsExcept [] s.dev d ∧ (macOf d n).sent = x.bytes
      ∧ (macOf d n).cur = nextFrame (macOf s.dev n).queue
      ∧ (∀ y ∈ (macOf s.dev n).queue, ∀ z, (macOf d n).cur = some z → y.pcp ≤ z.pcp)) ∧
  (∀ (s : State) (n : Fin 2) (t i a : Nat) (x : TxFrame), Acts s → (macOf s.dev n).cur = some x → x.slot = some i →
    x.stamp = false → ptpOfs x.bytes = none → i = fld s.dev (ETHn_TXR_HEAD n) 10 0 →
    a = (rd s.dev (ETHn_TXR_BASE n)).toNat + 2048 * i → slotUsable s.dev n a = true →
    (macOf s.dev n).taken = (if fld s.dev (ETHn_TXR_LEN n) 10 0 ≤ i + 1 then 0 else i + 1) → (macOf s.dev n).taken ≠ i →
    (macOf s.dev n).taken < 2048 →
    ∃ u, exec (.ethFrameSent n t) s = .next u ∧ u.pending = s.pending ∧ (macOf u.dev n).sent = x.bytes
      ∧ (rd u.dev (ETHn_TXR_HEAD n)).toNat = (macOf s.dev n).taken ∧ RegsExcept [ETHn_TXR_HEAD n] s.dev u.dev
      ∧ Memory.readWord u.mem a = setBit (Memory.readWord s.mem a) 31 false
      ∧ ∀ b, b < a ∨ a + 4 ≤ b → Memory.read u.mem b = Memory.read s.mem b) ∧
  (∀ (s : State) (n : Fin 2) (t p sec ns fr : Nat) (x : TxFrame), Acts s → (macOf s.dev n).cur = some x → x.slot = none →
    x.stamp = false → ptpOfs x.bytes = some p → byteAt x.bytes p % 16 = 0 → p + 44 ≤ x.bytes.length →
    byteAt x.bytes (p + 6) / 2 % 2 = 0 → flag s.dev (ETHn_CFG n) 8 = true → flag s.dev (ETHn_CFG n) 9 = true →
    flag s.dev NTU_STATUS 9 = false → (sec, ns, fr) = ptpTime s.dev (frameStamp s.dev n t true) →
    ∃ d, Goes (exec (.ethFrameSent n t) s) s d ∧ RegsExcept [] s.dev d ∧ d.ntu = s.dev.ntu
      ∧ slice (macOf d n).sent (p + 34) 10 = toBe16 (sec / 4294967296) ++ toBe32 (sec % 4294967296) ++ toBe32 ns
      ∧ slice (macOf d n).sent (p + 8) 8 =
          toBe64 (be32 x.bytes (p + 8) * 4294967296 + be32 x.bytes (p + 12) + fr * 256)
      ∧ (macOf d n).sent.length = x.bytes.length ∧ (macOf d n).sent.take (p + 8) = x.bytes.take (p + 8))) ∧
  ((∀ (s : State) (i : Initiator) (n : Fin 2) (v : Word), Acts s → WriteReaches s.dev i (ETHn_MDIO n) →
    flag s.dev (ETHn_MDIO n) 29 = true →
    Goes (exec (.ethMdioRead i n v) s) s (respErr s.dev) ∧ Goes (exec (.ethMdioWrite i n v) s) s (respErr s.dev)) ∧
  (∀ (s : State) (i : Initiator) (n : Fin 2) (v : Word) (c : Instr) (rdn : Bool), Acts s →
    WriteReaches s.dev i (ETHn_MDIO n) → flag s.dev (ETHn_MDIO n) 29 = false →
    (c = .ethMdioRead i n v ∧ rdn = true) ∨ (c = .ethMdioWrite i n v ∧ rdn = false) →
    ∃ d, Goes (exec c s) s d ∧ d.response = ⟨false, 0⟩ ∧ fld d (ETHn_MDIO n) 25 0 = bits v 25 0
      ∧ flag d (ETHn_MDIO n) 30 = rdn ∧ flag d (ETHn_MDIO n) 29 = bit v 31 ∧ flag d (ETHn_MDIO n) 31 = bit v 31
      ∧ (bit v 31 = true → (macOf d n).mdio = some rdn) ∧ (bit v 31 = false → d.eth = s.dev.eth)
      ∧ RegsExcept [ETHn_MDIO n] s.dev d) ∧
  (∀ (s : State) (n : Fin 2) (x : BitVec 16), Acts s → (macOf s.dev n).mdio = none →
    Goes (exec (.ethMdioDone n x) s) s s.dev) ∧
  (∀ (s : State) (n : Fin 2) (x : BitVec 16) (rdn : Bool), Acts s → (macOf s.dev n).mdio = some rdn →
    ∃ d, Goes (exec (.ethMdioDone n x) s) s d ∧ (macOf d n).mdio = none ∧ flag d (ETHn_MDIO n) 29 = false
      ∧ flag d (ETHn_MDIO n) 31 = false ∧ fld d (ETHn_MDIO n) 25 16 = fld s.dev (ETHn_MDIO n) 25 16
      ∧ fld d (ETHn_MDIO n) 15 0 = (if rdn then x.toNat else fld s.dev (ETHn_MDIO n) 15 0)
      ∧ RegsExcept [ETHn_MDIO n] s.dev d) ∧
  (∀ (s : State) (n : Fin 2), Acts s → flag s.dev (ETHn_STATUS n) 0 = false →
    Goes (exec (.ethLinkLost n) s) s s.dev) ∧
  (∀ (s : State) (n : Fin 2), Acts s → flag s.dev (ETHn_STATUS n) 0 = true →
    GoesRaising (exec (.ethLinkLost n) s) s (setFlag (ETHn_STATUS n) 8 true (setFlag (ETHn_STATUS n) 0 false s.dev))
      Src.ETH_LINK_LOST n) ∧
  (∀ (s : State) (n : Fin 2) (x : BitVec 2), Acts s →
    ∃ d, Goes (exec (.ethLinkUp n x) s) s d ∧ flag d (ETHn_STATUS n) 0 = true
      ∧ fld d (ETHn_STATUS n) 2 1 = (if fld s.dev (ETHn_CFG n) 17 16 = 3 then x.toNat else fld s.dev (ETHn_CFG n) 17 16)
      ∧ RegsExcept [ETHn_STATUS n] s.dev d))
/-- The active epoch in `e` is what the three registers hold in `d`. -/
def epochIs (lo hi ns : Nat) (d e : Dev) : Prop :=
  rd e NTU_EP_SEC_LO = rd d lo ∧ rd e NTU_EP_SEC_HI = rd d hi ∧ rd e NTU_EP_NS = rd d ns
/-- ANGLE_INTERPOLATION, NTU_WRAP, NTU_SHADOW_ARM, NTU_SHADOW_NOW, NTU_STEP, NTU_STEP_ARM, NTU_SET, NTU_RATE_WRITE,
NTU_HOLD_CLEAR, NTU_SYNC_TIMEOUT, NTU_TS_POP and NTU_CROSS_STAMP (R446–R456): the counter at a tick with a step or a
SET that waits for it, the epoch at a wrap, when a step or a SET is refused, the end of HOLDOVER and its begin, the
pop of a timestamp, and the capture of the counter with the LTB. A wrap that still waits for its command is excluded
where a write would handle it first. Rests on choices of the model: log entries 77, 78. -/
def Obligations.NetworkTime : Prop :=
  (∀ s : State, Acts s → s.dev.ntu.set = false →
    ∃ t, exec .angleInterpolation s = .next t ∧ t.dev.ntu.step = none ∧ t.dev.ntu.set = false
      ∧ (ntuTotal t.dev : Int) = ((ntuTotal s.dev : Int) + ntuInc s.dev
          + (match s.dev.ntu.step with | some x => x | none => 0) * 16777216) % 72057594037927936) ∧
  (∀ s : State, Acts s → s.dev.ntu.set = true →
    ∃ t, exec .angleInterpolation s = .next t ∧ t.dev.ntu.set = false ∧ rd t.dev NTU_CNT = rd s.dev NTU_SET_CNT
      ∧ t.dev.ntu.frac = 0 ∧ epochIs NTU_SET_SEC_LO NTU_SET_SEC_HI NTU_SET_NS s.dev t.dev
      ∧ flag t.dev NTU_STATUS 9 = false ∧ flag t.dev NTU_SHD_CTRL 31 = false) ∧
  (∀ s : State, Acts s → s.dev.ntu.wrapDue = false → Goes (exec .ntuWrap s) s s.dev) ∧
  (∀ s : State, Acts s → s.dev.ntu.wrapDue = true → flag s.dev NTU_SHD_CTRL 31 = true →
    fld s.dev NTU_SHD_CTRL 15 0 = (fld s.dev NTU_WRAPCNT 15 0 + 1) % 65536 →
    ∃ d, Goes (exec .ntuWrap s) s d ∧ rd d NTU_WRAPCNT = rd s.dev NTU_WRAPCNT + 1 ∧ d.ntu.wrapDue = false
      ∧ epochIs NTU_SHD_SEC_LO NTU_SHD_SEC_HI NTU_SHD_NS s.dev d ∧ flag d NTU_SHD_CTRL 31 = false
      ∧ flag d NTU_STATUS 9 = false
      ∧ RegsExcept [NTU_WRAPCNT, NTU_SHD_CTRL, NTU_STATUS, NTU_EP_SEC_LO, NTU_EP_SEC_HI, NTU_EP_NS] s.dev d) ∧
  (∀ s : State, Acts s → s.dev.ntu.wrapDue = true → flag s.dev NTU_SHD_CTRL 31 = false ∨
      fld s.dev NTU_SHD_CTRL 15 0 ≠ (fld s.dev NTU_WRAPCNT 15 0 + 1) % 65536 →
    ∃ d, GoesRaising (exec .ntuWrap s) s d Src.NTU_EPOCH_STALE 0 ∧ rd d NTU_WRAPCNT = rd s.dev NTU_WRAPCNT + 1
      ∧ d.ntu.wrapDue = false ∧ flag d NTU_STATUS 9 = true ∧ flag d NTU_STATUS 0 = true
      ∧ RegsExcept [NTU_WRAPCNT, NTU_STATUS] s.dev d) ∧
  (∀ (s : State) (i : Initiator) (v : Word), Acts s → WriteReaches s.dev i NTU_SHD_CTRL → s.dev.ntu.wrapDue = false →
    (bit v 30 = false →
      Goes (exec (.ntuShadowArm i v) s) s (wr NTU_SHD_CTRL (setBit v 31 true &&& 0x8000FFFF) (respOk s.dev))) ∧
    (bit v 31 = false →
      Goes (exec (.ntuShadowNow i v) s) s (wr NTU_SHD_CTRL (setBit v 30 true &&& 0x8000FFFF) (respOk s.dev))) ∧
    (bit v 31 = true → flag s.dev NTU_STATUS 9 = false →
      Goes (exec (.ntuShadowNow i v) s) s (respErr s.dev)) ∧
    (bit v 31 = true → flag s.dev NTU_STATUS 9 = true →
      ∃ d, Goes (exec (.ntuShadowNow i v) s) s d ∧ d.response = ⟨false, 0⟩ ∧ flag d NTU_STATUS 9 = false
        ∧ flag d NTU_SHD_CTRL 31 = false ∧ epochIs NTU_SHD_SEC_LO NTU_SHD_SEC_HI NTU_SHD_NS s.dev d
        ∧ RegsExcept [NTU_SHD_CTRL, NTU_STATUS, NTU_EP_SEC_LO, NTU_EP_SEC_HI, NTU_EP_NS] s.dev d)) ∧
  (∀ (s : State) (i : Initiator) (v : Word) (x old to_ : Int), Acts s → WriteReaches s.dev i NTU_STEP →
    s.dev.ntu.wrapDue = false → x = sbits v 31 0 → old = (match s.dev.ntu.step with | some y => y | none => 0) →
    to_ = (ntuTotal s.dev : Int) + ntuInc s.dev + (old + x) * 16777216 →
    (1073741824 < x.natAbs ∨ flag s.dev NTU_STATUS 8 = true →
      ∃ d, Goes (exec (.ntuStep i v) s) s d ∧ d.response = ⟨true, 0⟩ ∧ d.ntu = s.dev.ntu
        ∧ flag d NTU_STEP_AUTH 0 = false ∧ RegsExcept [NTU_STEP_AUTH] s.dev d) ∧
    (x.natAbs ≤ 1073741824 → flag s.dev NTU_STATUS 8 = false →
      (rd s.dev NTU_STEP_LIMIT).toNat < x.natAbs → flag s.dev NTU_STEP_AUTH 0 = false →
      ∃ d, GoesRaising (exec (.ntuStep i v) s) s d Src.NTU_STEP_REFUSED 0 ∧ d.ntu = s.dev.ntu
        ∧ flag d NTU_STATUS 1 = true ∧ RegsExcept [NTU_STEP_AUTH, NTU_STATUS] s.dev d) ∧
    (x.natAbs ≤ 1073741824 → flag s.dev NTU_STATUS 8 = false →
      x.natAbs ≤ (rd s.dev NTU_STEP_LIMIT).toNat ∨ flag s.dev NTU_STEP_AUTH 0 = true →
      (to_ < 0 ∨ 72057594037927936 ≤ to_ →
        ∃ d, GoesRaising (exec (.ntuStep i v) s) s d Src.NTU_STEP_REFUSED 0 ∧ d.ntu = s.dev.ntu
          ∧ flag d NTU_STATUS 2 = true ∧ flag d NTU_STEP_AUTH 0 = false
          ∧ RegsExcept [NTU_STEP_AUTH, NTU_STATUS] s.dev d) ∧
      (0 ≤ to_ → to_ < 72057594037927936 →
        ∃ d, Goes (exec (.ntuStep i v) s) s d ∧ d.response = ⟨false, 0⟩
          ∧ d.ntu = { s.dev.ntu with step := some (old + x) } ∧ flag d NTU_STEP_AUTH 0 = false
          ∧ RegsExcept [NTU_STEP_AUTH] s.dev d))) ∧
  (∀ (s : State) (i : Initiator) (v : Word), Acts s → WriteReaches s.dev i NTU_STEP_AUTH →
    Goes (exec (.ntuStepArm i v) s) s
      (if bit v 0 then setFlag NTU_STEP_AUTH 0 true (respOk s.dev) else respOk s.dev)) ∧
  (∀ (s : State) (i : Initiator) (v : Word), Acts s → WriteReaches s.dev i NTU_SET_GO → s.dev.ntu.wrapDue = false →
    (bit v 0 = true → flag s.dev NTU_STATUS 10 = true → flag s.dev NTU_STEP_AUTH 0 = false →
      ∃ d, GoesRaising (exec (.ntuSet i v) s) s d Src.NTU_STEP_REFUSED 0 ∧ d.ntu = s.dev.ntu ∧ flag d NTU_STATUS 1 = true
        ∧ RegsExcept [NTU_STEP_AUTH, NTU_STATUS] s.dev d) ∧
    (bit v 0 = true → flag s.dev NTU_STATUS 10 = false ∨ flag s.dev NTU_STEP_AUTH 0 = true →
      ∃ d, Goes (exec (.ntuSet i v) s) s d ∧ d.ntu = { s.dev.ntu with set := true } ∧ flag d NTU_STATUS 10 = true
        ∧ flag d NTU_STEP_AUTH 0 = false ∧ RegsExcept [NTU_STEP_AUTH, NTU_STATUS] s.dev d)) ∧
  (∀ (s : State) (i : Initiator) (v : Word), Acts s → WriteReaches s.dev i NTU_RATE →
    (flag s.dev NTU_STATUS 8 = true → Goes (exec (.ntuRateWrite i v) s) s (respErr s.dev)) ∧
    (flag s.dev NTU_STATUS 8 = false → Goes (exec (.ntuRateWrite i v) s) s (wr NTU_RATE v (respOk s.dev)))) ∧
  (∀ (s : State) (i : Initiator) (v : Word), Acts s → WriteReaches s.dev i NTU_HOLD_CLR →
    (bit v 0 = false → Goes (exec (.ntuHoldClear i v) s) s (respOk s.dev)) ∧
    (bit v 0 = true → Goes (exec (.ntuHoldClear i v) s) s
      (modNtu (fun x => { x with lastSync := s.dev.ltb.toNat }) (setFlag NTU_STATUS 8 false (respOk s.dev))))) ∧
  (∀ s : State, Acts s → ntuSupervised s.dev = false ∨ flag s.dev NTU_STATUS 8 = true ∨
      s.dev.ltb.toNat < s.dev.ntu.lastSync + fld s.dev NTU_CTRL 15 0 * 800000 →
    Goes (exec .ntuSyncTimeout s) s s.dev) ∧
  (∀ s : State, Acts s → ntuSupervised s.dev = true → flag s.dev NTU_STATUS 8 = false →
    s.dev.ntu.lastSync + fld s.dev NTU_CTRL 15 0 * 800000 ≤ s.dev.ltb.toNat →
    ∃ d, GoesRaising (exec .ntuSyncTimeout s) s d Src.NTU_HOLDOVER 0 ∧ flag d NTU_STATUS 8 = true
      ∧ flag d NTU_STATUS 6 = true ∧ rd d NTU_RATE = rd s.dev NTU_RATE ∧ RegsExcept [NTU_STATUS] s.dev d) ∧
  (∀ (s : State) (i : Initiator) (p : Fin 2) (tx : Bool) (k : Nat), Acts s → k = 2 * p.val + b2n tx →
    ReadReaches s.dev i (fifoReg k 3) →
    ((vget s.dev.ntu.fifos k).items = [] → Goes (exec (.ntuTsPop i p tx) s) s (respData 0 s.dev)) ∧
    (∀ x r, (vget s.dev.ntu.fifos k).items = x :: r →
      ∃ d, Goes (exec (.ntuTsPop i p tx) s) s d ∧ d.response = ⟨false, x.2.2.2⟩ ∧ (vget d.ntu.fifos k).items = r
        ∧ (∀ y q, r = y :: q → rd d (fifoReg k 1) = y.2.1 ∧ rd d (fifoReg k 2) = y.2.2.1 ∧ rd d (fifoReg k 3) = y.2.2.2)
        ∧ RegsExcept [fifoReg k 0, fifoReg k 1, fifoReg k 2, fifoReg k 3] s.dev d)) ∧
  (∀ (s : State) (i : Initiator) (v : Word), Acts s → WriteReaches s.dev i NTU_XS_REQ → s.dev.ntu.wrapDue = false →
    (bit v 0 = false → Goes (exec (.ntuCrossStamp i v) s) s (respOk s.dev)) ∧
    (bit v 0 = true →
      ∃ d, Goes (exec (.ntuCrossStamp i v) s) s d ∧ rd d NTU_XS_CNT = rd s.dev NTU_CNT
        ∧ rd d NTU_XS_WRAP = rd s.dev NTU_WRAPCNT ∧ rd d NTU_XS_LTB_LO = BitVec.ofNat 32 s.dev.ltb.toNat
        ∧ rd d NTU_XS_LTB_HI = BitVec.ofNat 32 (s.dev.ltb.toNat / 4294967296)
        ∧ RegsExcept [NTU_XS_CNT, NTU_XS_WRAP, NTU_XS_LTB_LO, NTU_XS_LTB_HI] s.dev d))
/-- A datagram of TRC has left for a client on MAC `n`, where its transmitter was free (R443, R457). -/
def mtsLeaves (d e : Dev) (n : Nat) (peer : Sender) (p : List Byte) : Prop :=
  flag d (ETHn_CFG n) 31 = true → (macOf d n).cur = none → (macOf d n).queue = [] →
    (macOf e n).cur = some ⟨fld d TRC_CFG 18 16, none, udpFrame d n (fld d TRC_CFG 15 0) (fld d TRC_CFG 18 16) peer p, false⟩

/-- TRC takes a datagram of the right length from the client: it is enabled, the address is allowed, the version is 1, and
no lease has run out (R457, R459). -/
def mtsTaken (d : Dev) (peer : Sender) (p : List Byte) (len : Nat) : Prop :=
  flag d TRC_CFG 31 = true ∧ peer.ip &&& rd d TRC_ALLOW_MASK = rd d TRC_ALLOW_NET &&& rd d TRC_ALLOW_MASK
    ∧ byteAt p 0 = 1 ∧ p.length = len ∧ ∀ k : Fin 32, leaseOver d k = false

/-- The subscription `k` has ended in `e` with a REASON (R459): its index is free, and END has left for its client. -/
def subEnded (d e : Dev) (k reason : Nat) : Prop :=
  subActive e k = false ∧ rd e (TRC_SUBs_STATE k) = 0 ∧ rd e (TRC_SUBs_LEASE k) = 0 ∧ (sub e k).buffer = []
    ∧ mtsLeaves d e (fld d (TRC_SUBs_STATE k) 30 30) (sub d k).sender
        ([1, 0x84, BitVec.ofNat 8 k, 0, 0, 0, 0, 0] ++ toLe32 (sub d k).nonce.toNat ++ [BitVec.ofNat 8 reason, 0, 0, 0])
    ∧ (∀ j, j < 32 → j ≠ k → sub e j = sub d j)
    ∧ ∀ a, a ≠ TRC_SUBs_STATE k → a ≠ TRC_SUBs_LEASE k → a ≠ TRC_STATUS → rd e a = rd d a
/-- The records that the buffers of the subscriptions hold are those of `d`, with `g` added where STREAMS bit `k` selects it
and it fits (R464). -/
def recordsReach (d e : Dev) (k : Nat) (g : List TrcRec) : Prop :=
  ∀ j : Fin 32, (sub d j).gap = 0 → (subStreams d j k = false → sub e j = sub d j) ∧
    (subStreams d j k = true → bufferUsed (sub d j) + g.length ≤ 13107 → (sub e j).buffer = (sub d j).buffer ++ [g]) ∧
    (subStreams d j k = true → 13107 < bufferUsed (sub d j) + g.length →
      (sub e j).buffer = (sub d j).buffer ∧ (sub e j).gap = g.length ∧ (sub e j).shedding = true
        ∧ (rd e (TRC_SUBs_SHED j)).toNat = Nat.min 4294967295 ((rd d (TRC_SUBs_SHED j)).toNat + g.length))
/-- SUBSCRIBE, GRANT, UNSUBSCRIBE, LEASE_EXPIRE and TRC_SUB_END (R457–R460): who is heard, who gets an index, who is
refused, credit, and the four ways in which a subscription ends. DATA, TRC_MARK, TRC_FWREC, TRC_STAGING_DRAIN and
TRC_GAP_INSERT (R174, R460–R465): records reach the subscribers that select them and the local ring, are shed whole
where they do not fit, and leave under the credit. Rests on choices of the model: log entries 40, 81. -/
def Obligations.TelemetryService : Prop :=
  ((∀ (s : State) (n : Fin 2) (peer : Sender) (p : List Byte) (c : Instr), Acts s →
    c = .subscribe n peer p ∨ c = .grant n peer p ∨ c = .unsubscribe n peer p →
    (flag s.dev TRC_CFG 31 = false → Goes (exec c s) s s.dev) ∧
    (flag s.dev TRC_CFG 31 = true → p.length < 8 ∨ byteAt p 0 ≠ 1 ∨
        peer.ip &&& rd s.dev TRC_ALLOW_MASK ≠ rd s.dev TRC_ALLOW_NET &&& rd s.dev TRC_ALLOW_MASK →
      Goes (exec c s) s (incFld TRC_DROP_CNT 15 0 s.dev))) ∧
  (∀ (s : State) (n : Fin 2) (peer : Sender) (p : List Byte) (k : Fin 32), Acts s → mtsTaken s.dev peer p 16 →
    subOfSender s.dev peer = none → streamsOk s.dev (le32 p 8) = true → subActive s.dev k = false →
    ownerOf s.dev 0x0D k = 0x22 → (∀ j : Fin 32, j < k → subActive s.dev j = true ∨ ownerOf s.dev 0x0D j ≠ 0x22) →
    ∃ d, Goes (exec (.subscribe n peer p) s) s d ∧ subActive d k = true ∧ fld d (TRC_SUBs_STATE k) 5 0 = le32 p 8
      ∧ flag d (TRC_SUBs_STATE k) 30 = decide (n = 1) ∧ rd d (TRC_SUBs_IP k) = peer.ip
      ∧ (rd d (TRC_SUBs_PORT k)).toNat = peer.port.toNat ∧ rd d (TRC_SUBs_LIMIT k) = 0 ∧ rd d (TRC_SUBs_SENT k) = 0
      ∧ rd d (TRC_SUBs_SHED k) = 0 ∧ rd d (TRC_SUBs_LEASE k) = 2000
      ∧ sub d k = { nonce := BitVec.ofNat 32 (le32 p 12), sender := peer, since := s.dev.ltb.toNat }
      ∧ mtsLeaves s.dev d n peer ([1, 0x81, BitVec.ofNat 8 k, 0, 0, 0, 0, 0] ++ toLe32 (le32 p 8) ++ toLe32 (le32 p 12)
          ++ toLe16 2000 ++ toLe32 65536 ++ [0, 0])
      ∧ RegsExcept [TRC_SUBs_STATE k, TRC_SUBs_IP k, TRC_SUBs_PORT k, TRC_SUBs_LIMIT k, TRC_SUBs_SENT k, TRC_SUBs_SHED k,
          TRC_SUBs_LEASE k, TRC_STATUS] s.dev d) ∧
  (∀ (s : State) (n : Fin 2) (peer : Sender) (p : List Byte) (reason : Nat), Acts s → mtsTaken s.dev peer p 16 →
    subOfSender s.dev peer = none →
    (streamsOk s.dev (le32 p 8) = false ∧ reason = 2) ∨ (streamsOk s.dev (le32 p 8) = true ∧ reason = 1 ∧
      ∀ j : Fin 32, subActive s.dev j = true ∨ ownerOf s.dev 0x0D j ≠ 0x22) →
    ∃ d, Goes (exec (.subscribe n peer p) s) s d ∧ d.trc = s.dev.trc ∧ RegsExcept [] s.dev d
      ∧ mtsLeaves s.dev d n peer ([1, 0x82, 0, 0, 0, 0, 0, 0] ++ toLe32 (le32 p 12) ++ [BitVec.ofNat 8 reason, 0, 0, 0])) ∧
  (∀ (s : State) (n : Fin 2) (peer : Sender) (p : List Byte) (k : Fin 32), Acts s → mtsTaken s.dev peer p 16 →
    subOfSender s.dev peer = some k.val → streamsOk s.dev (le32 p 8) = true → ownerOf s.dev 0x0D k = 0x22 →
    (∀ j : Fin 32, j < k → subActive s.dev j = true ∨ ownerOf s.dev 0x0D j ≠ 0x22) →
    ∃ d, Goes (exec (.subscribe n peer p) s) s d ∧ subActive d k = true
      ∧ sub d k = { nonce := BitVec.ofNat 32 (le32 p 12), sender := peer, since := s.dev.ltb.toNat }
      ∧ rd d (TRC_SUBs_LIMIT k) = 0 ∧ rd d (TRC_SUBs_SENT k) = 0
      ∧ mtsLeaves s.dev d (fld s.dev (TRC_SUBs_STATE k) 30 30) (sub s.dev k).sender
          ([1, 0x84, BitVec.ofNat 8 k, 0, 0, 0, 0, 0] ++ toLe32 (sub s.dev k).nonce.toNat ++ [3, 0, 0, 0])) ∧
  (∀ (s : State) (n : Fin 2) (peer : Sender) (p : List Byte), Acts s → mtsTaken s.dev peer p 16 →
    (subNamed s.dev (byteAt p 2) (le32 p 12) peer = false ∨
        2147483648 < (BitVec.ofNat 32 (le32 p 8) - rd s.dev (TRC_SUBs_SENT (byteAt p 2))).toNat →
      Goes (exec (.grant n peer p) s) s (incFld TRC_DROP_CNT 15 0 s.dev)) ∧
    (subNamed s.dev (byteAt p 2) (le32 p 12) peer = true →
        (BitVec.ofNat 32 (le32 p 8) - rd s.dev (TRC_SUBs_SENT (byteAt p 2))).toNat ≤ 2147483648 →
      ∃ d, Goes (exec (.grant n peer p) s) s d ∧ rd d (TRC_SUBs_LIMIT (byteAt p 2)) = BitVec.ofNat 32 (le32 p 8)
        ∧ rd d (TRC_SUBs_LEASE (byteAt p 2)) = 2000
        ∧ sub d (byteAt p 2) = { sub s.dev (byteAt p 2) with since := s.dev.ltb.toNat }
        ∧ RegsExcept [TRC_SUBs_LIMIT (byteAt p 2), TRC_SUBs_LEASE (byteAt p 2)] s.dev d)) ∧
  (∀ (s : State) (n : Fin 2) (peer : Sender) (p : List Byte), Acts s → mtsTaken s.dev peer p 12 →
    (subNamed s.dev (byteAt p 2) (le32 p 8) peer = false →
      Goes (exec (.unsubscribe n peer p) s) s (incFld TRC_DROP_CNT 15 0 s.dev)) ∧
    (subNamed s.dev (byteAt p 2) (le32 p 8) peer = true →
      ∃ d, Goes (exec (.unsubscribe n peer p) s) s d ∧ subEnded s.dev d (byteAt p 2) 2)) ∧
  (∀ (s : State) (k : Fin 32), Acts s → subActive s.dev k = false ∨ s.dev.ltb.toNat < (sub s.dev k).since + 1600000000 →
    Goes (exec (.leaseExpire k) s) s s.dev) ∧
  (∀ (s : State) (k : Fin 32), Acts s → subActive s.dev k = true → (sub s.dev k).since + 1600000000 ≤ s.dev.ltb.toNat →
    ∃ d, Goes (exec (.leaseExpire k) s) s d ∧ subEnded s.dev d k 1) ∧
  (∀ (s : State) (i : Initiator) (k : Fin 32) (v : Word), Acts s → WriteReaches s.dev i (TRC_SUBs_END k) →
    (subActive s.dev k = false → Goes (exec (.trcSubEnd i k v) s) s (respErr s.dev)) ∧
    (subActive s.dev k = true → bit v 0 = false → Goes (exec (.trcSubEnd i k v) s) s (respOk s.dev)) ∧
    (subActive s.dev k = true → bit v 0 = true →
      ∃ d, Goes (exec (.trcSubEnd i k v) s) s d ∧ d.response = ⟨false, 0⟩ ∧ subEnded s.dev d k 4))) ∧
  ((∀ (s : State) (i : Initiator) (m : Fin 4) (v : Word) (r : TrcRec), Acts s → WriteReaches s.dev i (TRC_MARK m) →
    s.dev.trc.ringOut = [] → flag s.dev TRC_CFG 31 = true →
    r = ⟨0x40 + m.val, sbits v 15 0, s.dev.ltb.toNat, false⟩ →
    ∃ t, exec (.trcMark i m v) s = .next t ∧ t.pending = s.pending ∧ t.dev.response = ⟨false, 0⟩
      ∧ recordsReach s.dev t.dev 4 [r]
      ∧ (flag s.dev TRC_RING_CFG 31 = false ∨ flag s.dev TRC_RING_CFG 4 = false → t.mem = s.mem
          ∧ rd t.dev TRC_RING_HEAD = rd s.dev TRC_RING_HEAD)
      ∧ (∀ h, flag s.dev TRC_RING_CFG 31 = true → flag s.dev TRC_RING_CFG 4 = true →
          flag s.dev TRC_RING_CFG 30 = false ∨ s.dev.trc.ringFull = false →
          h = fld s.dev TRC_RING_HEAD 17 0 →
          Memory.readBytes t.mem (0x24200000 + 8 * h) 8 =
            [BitVec.ofNat 8 (0x40 + m.val), 0] ++ toLe16 (bits v 15 0) ++ toLe32 (s.dev.ltb.toNat % 4294967296)
          ∧ (∀ b, b < 0x24200000 + 8 * h ∨ 0x24200000 + 8 * h + 8 ≤ b → Memory.read t.mem b = Memory.read s.mem b)
          ∧ fld t.dev TRC_RING_HEAD 17 0 = (h + 1) % 262144
          ∧ (h = 262143 → (flag s.dev TRC_RING_CFG 30 = true → flag t.dev TRC_STATUS 9 = true ∧ t.dev.trc.ringFull = true)
              ∧ (flag s.dev TRC_RING_CFG 30 = false → flag t.dev TRC_RING_HEAD 31 = true)))
      ∧ (flag s.dev TRC_RING_CFG 31 = true → flag s.dev TRC_RING_CFG 4 = true → flag s.dev TRC_RING_CFG 30 = true →
          s.dev.trc.ringFull = true → t.mem = s.mem ∧ rd t.dev TRC_RING_HEAD = rd s.dev TRC_RING_HEAD)) ∧
  (∀ (s : State) (i : Initiator) (v : Word), Acts s → WriteReaches s.dev i TRC_FWREC → s.dev.trc.ringOut = [] →
    bits v 23 16 < 0x80 ∨ 0xEF < bits v 23 16 →
    Goes (exec (.trcFwrec i v) s) s (respErr s.dev)) ∧
  (∀ (s : State) (i : Initiator) (v : Word) (r : TrcRec), Acts s → WriteReaches s.dev i TRC_FWREC →
    s.dev.trc.ringOut = [] → flag s.dev TRC_CFG 31 = true → 0x80 ≤ bits v 23 16 → bits v 23 16 ≤ 0xEF →
    r = ⟨bits v 23 16, sbits v 15 0, s.dev.ltb.toNat, false⟩ →
    ∃ t, exec (.trcFwrec i v) s = .next t ∧ t.pending = s.pending ∧ t.dev.response = ⟨false, 0⟩
      ∧ recordsReach s.dev t.dev 5 [r]
      ∧ (flag s.dev TRC_RING_CFG 31 = false ∨ flag s.dev TRC_RING_CFG 5 = false → t.mem = s.mem)) ∧
  (∀ (s : State) (e : Fin 5), Acts s → (engine s.dev e).staging = [] → (engine s.dev e).shed = 0 →
    s.dev.trc.ringOut = [] → exec (.trcStagingDrain e) s = .next s) ∧
  (∀ (s : State) (e : Fin 5) (x : ProbeRec) (q : List ProbeRec) (g : List TrcRec), Acts s →
    (engine s.dev e).staging = [.sample (x :: q)] → (engine s.dev e).shed = 0 → s.dev.trc.ringOut = [] →
    flag s.dev TRC_CFG 31 = true → flag s.dev TRC_RING_CFG 31 = false →
    g = (x :: q).map (fun y => ⟨y.id, y.value, y.time, y.delta⟩) →
    ∃ t, exec (.trcStagingDrain e) s = .next t ∧ t.mem = s.mem ∧ (engine t.dev e).staging = []
      ∧ recordsReach s.dev t.dev (x.id / 16) g) ∧
  (∀ (s : State) (e : Fin 5) (a n : Nat), Acts s → (engine s.dev e).staging = [] → (engine s.dev e).shed = n →
    (engine s.dev e).shedAxis = a → 0 < n → s.dev.trc.ringOut = [] →
    ∃ t, exec (.trcStagingDrain e) s = .next t ∧ t.mem = s.mem ∧ (engine t.dev e).shed = 0
      ∧ (rd t.dev TRC_STAGE_SHED).toNat = Nat.min 4294967295 ((rd s.dev TRC_STAGE_SHED).toNat + n)
      ∧ recordsReach s.dev t.dev a [⟨0xF0 + a, (Nat.min n 65535 : Nat), s.dev.ltb.toNat, false⟩]) ∧
  (∀ (s : State) (k : Fin 32), Acts s →
    subActive s.dev k = false ∨ (sub s.dev k).gap = 0 ∨ 13107 ≤ bufferUsed (sub s.dev k) →
    Goes (exec (.trcGapInsert k) s) s s.dev) ∧
  (∀ (s : State) (k : Fin 32), Acts s → subActive s.dev k = true → 0 < (sub s.dev k).gap →
    bufferUsed (sub s.dev k) < 13107 →
    Goes (exec (.trcGapInsert k) s) s (modSub k (fun x =>
      { x with buffer := x.buffer ++ [[⟨0xF8, (Nat.min x.gap 65535 : Nat), s.dev.ltb.toNat, false⟩]], gap := 0 }) s.dev)) ∧
  (∀ (s : State) (k : Fin 32), Acts s → subActive s.dev k = false ∨ flag s.dev TRC_CFG 31 = false ∨
      (sub s.dev k).buffer = [] → Goes (exec (.data k) s) s s.dev) ∧
  (∀ (s : State) (k : Fin 32) (r : TrcRec) (b : List Byte) (credit : Nat), Acts s → subActive s.dev k = true →
    flag s.dev TRC_CFG 31 = true → (sub s.dev k).buffer = [[r]] → r.delta = false →
    credit = (rd s.dev (TRC_SUBs_LIMIT k) - rd s.dev (TRC_SUBs_SENT k)).toNat →
    b = [0xFE] ++ toLe32 (r.time / 64 / 4294967296) ++ [0xFF] ++ toLe32 (r.time / 64 % 4294967296)
      ++ [BitVec.ofNat 8 r.id] ++ toLe16 (unsigned 16 r.value) ++ [0, 0] →
    (credit < 15 ∨ 2147483648 < credit → Goes (exec (.data k) s) s s.dev) ∧
    (15 ≤ credit → credit ≤ 2147483648 →
      ∃ d, Goes (exec (.data k) s) s d ∧ rd d (TRC_SUBs_SENT k) = rd s.dev (TRC_SUBs_SENT k) + 15
        ∧ (sub d k).buffer = [] ∧ (sub d k).seq = ((sub s.dev k).seq + 1) % 4294967296
        ∧ mtsLeaves s.dev d (fld s.dev (TRC_SUBs_STATE k) 30 30) (sub s.dev k).sender
            ([1, 0x83, BitVec.ofNat 8 k, 0] ++ toLe32 (sub s.dev k).seq ++ b)
        ∧ RegsExcept [TRC_SUBs_SENT k] s.dev d)))

/-! ## CAN FD -/

/-- The error counters of controller `c` are now `tec` and `rec_`, below the limits at which something is reported (R479). -/
def errorsAre (d e : Dev) (c tec rec_ : Nat) : Prop :=
  fld e (CAN_ERRCNT c) 8 0 = tec ∧ fld e (CAN_ERRCNT c) 23 16 = rec_
    ∧ flag e (CAN_STATUS c) 0 = decide (96 ≤ tec ∨ 96 ≤ rec_) ∧ flag e (CAN_STATUS c) 1 = false
    ∧ fld e (CAN_STATUS c) 31 2 = fld d (CAN_STATUS c) 31 2

/-- Buffer `b` of controller `c` is the one that PRIO selects among the PENDING ones (R476). -/
def selected (d : Dev) (c : Fin 4) (b : Fin 3) : Prop :=
  txState d c b = 1 ∧ ∀ x : Fin 3, txState d c x = 1 →
    (flag d (CAN_CTRL c) 0 = true → b ≤ x) ∧
    (flag d (CAN_CTRL c) 0 = false → bufKey d c b < bufKey d c x ∨ (bufKey d c b = bufKey d c x ∧ b ≤ x))

/-- Slot `k` of the receive FIFO shows the frame, NEW, with the filter that took it (R483, R488). -/
def slotShows (d e : Dev) (c k filter : Nat) (fr : CanFrame) (sof : Nat) : Prop :=
  flag e (CAN_RXs_CTRL c k) 31 = true ∧ fld e (CAN_RXs_CTRL c k) 30 28 = (fld d (CAN_RXs_CTRL c k) 30 28 + 1) % 8
    ∧ fld e (CAN_RXs_CTRL c k) 22 16 = filter ∧ fld e (CAN_RXs_CTRL c k) 3 0 = fr.dlc.toNat
    ∧ flag e (CAN_RXs_CTRL c k) 12 = fr.esi ∧ flag e (CAN_RXs_CTRL c k) 11 = fr.brs
    ∧ flag e (CAN_RXs_CTRL c k) 10 = fr.fdf ∧ flag e (CAN_RXs_CTRL c k) 9 = fr.rtr
    ∧ flag e (CAN_RXs_ID c k) 31 = fr.ide
    ∧ fld e (CAN_RXs_ID c k) 28 0 = (if fr.ide then fr.id.toNat else fr.id.toNat / 262144 * 262144)
    ∧ rd e (CAN_RXs_TS_LO c k) = BitVec.ofNat 32 sof
    ∧ rd e (CAN_RXs_TS_HI c k) = (if featureOn d 1 then BitVec.ofNat 32 (sof / 4294967296) else 0)
    ∧ ∀ j : Fin 16, rd e (CAN_RXs_DATA c k j) = BitVec.ofNat 32 (le32 fr.data (4 * j))

/-- The lowest-numbered filter that matches the frame is `f` (R482). -/
def decides (d : Dev) (c : Fin 4) (f : Fin 128) (fr : CanFrame) : Prop :=
  filterMatch d c f fr = true ∧ ∀ x : Fin 128, x < f → filterMatch d c x fr = false
/-- CAN_ARBITRATION and CAN_TX_CANCEL (R476, R478): PRIO selects the buffer, CSQ's slot competes by identifier, and
what is in progress is never displaced; a cancel ends a waiting buffer at once, is ignored in every other state, and
where an attempt is in progress its end decides between SENT_CANCEL_LATE and CANCELLED, whatever RETRY says. -/
def Obligations.CanArbitrationAndCancel : Prop :=
  (∀ (s : State) (c : Fin 4), Acts s → (canOf s.dev c).joined = false ∨ (canOf s.dev c).leaving = true ∨
      (canOf s.dev c).cur ≠ none ∨ flag s.dev (CAN_STATUS c) 2 = true ∨ fld s.dev (CAN_CTRL c) 29 28 = 1 ∨
      ((∀ b : Fin 3, txState s.dev c b ≠ 1) ∧ (canOf s.dev c).acks = []) →
    Goes (exec (.canArbitration c) s) s s.dev) ∧
  (∀ (s : State) (c : Fin 4), Acts s → (canOf s.dev c).joined = true → (canOf s.dev c).leaving = false →
    (canOf s.dev c).cur = none → flag s.dev (CAN_STATUS c) 2 = false → fld s.dev (CAN_CTRL c) 29 28 ≠ 1 →
    (∀ b : Fin 3, selected s.dev c b → flag s.dev (CAN_CSQACK c) 31 = false ∨ (canOf s.dev c).acks = [] ∨
        bufKey s.dev c b ≤ ackKey s.dev c →
      ∃ d, Goes (exec (.canArbitration c) s) s d ∧ (canOf d c).cur = some b.val ∧ (canOf d c).sof = s.dev.ltb.toNat
        ∧ (canBuf d c b).tried = (canBuf s.dev c b).tried + 1 ∧ txState d c b = 1
        ∧ fld d (CAN_TXBb_STATUS c b) 11 8 = Nat.min 15 (fld s.dev (CAN_TXBb_STATUS c b) 11 8 + 1)
        ∧ RegsExcept [CAN_TXBb_STATUS c b] s.dev d) ∧
    (flag s.dev (CAN_CSQACK c) 31 = true → (canOf s.dev c).acks ≠ [] →
        (∀ b : Fin 3, txState s.dev c b = 1 → ackKey s.dev c < bufKey s.dev c b) →
      ∃ d, Goes (exec (.canArbitration c) s) s d ∧ (canOf d c).cur = some 3 ∧ (canOf d c).sof = s.dev.ltb.toNat
        ∧ RegsExcept [] s.dev d)) ∧
  (∀ (s : State) (i : Initiator) (c : Fin 4) (b : Fin 3) (v : Word), Acts s → WriteReaches s.dev i (CAN_TXBb_REQ c b) →
    bit v 0 = false →
    (txState s.dev c b ≠ 1 → Goes (exec (.canTxCancel i c b v) s) s (respOk s.dev)) ∧
    (txState s.dev c b = 1 → (canOf s.dev c).cur = some b.val →
      Goes (exec (.canTxCancel i c b v) s) s (modBuf c b (fun x => { x with cancel := true }) (respOk s.dev))) ∧
    (txState s.dev c b = 1 → (canOf s.dev c).cur ≠ some b.val →
      ∃ d, Goes (exec (.canTxCancel i c b v) s) s d ∧ txState d c b = 4 ∧ d.can = s.dev.can
        ∧ fld d (CAN_TXBb_STATUS c b) 11 8 = fld s.dev (CAN_TXBb_STATUS c b) 11 8
        ∧ RegsExcept [CAN_TXBb_STATUS c b] s.dev d)) ∧
  (∀ (s : State) (c : Fin 4) (b : Fin 3) (tec rec_ delay : Nat), Acts s → (canOf s.dev c).cur = some b.val →
    (canBuf s.dev c b).cancel = true →
    (flag s.dev (CAN_TDC c) 31 = false ∨ flag s.dev (CAN_TXBb_CTRL c b) 10 = false ∨ delay ≤ 127 →
      ∃ t, exec (.canAttemptEnd c .sent tec rec_ delay) s = .next t ∧ txState t.dev c b = 3 ∧ (canOf t.dev c).cur = none) ∧
    (∀ r : CanResult, r ≠ .sent →
      ∃ t, exec (.canAttemptEnd c r tec rec_ delay) s = .next t ∧ txState t.dev c b = 4 ∧ (canOf t.dev c).cur = none))

/-- CAN_TX_REQUEST, CAN_ATTEMPT_END, CAN_BUSOFF_RECOVERY_REQUEST, CAN_BUSOFF_RECOVERED, CAN_DISABLE and CAN_BUS_JOIN
(R473, R475, R477, R479–R481): requests, how an attempt ends, error states, bus-off and its end. Rests on choices of
the model: log entry 83. -/
def Obligations.CanTransmission : Prop :=
  (∀ (s : State) (i : Initiator) (c : Fin 4) (b : Fin 3) (v w : Word), Acts s → WriteReaches s.dev i (CAN_TXBb_REQ c b) →
    bit v 1 = false → w = rd s.dev (CAN_TXBb_CTRL c b) →
    (txState s.dev c b = 1 ∨ (bit w 10 = true ∧ bit w 9 = true) ∨ (bit w 10 = false ∧ 8 < bits w 3 0) →
      Goes (exec (.canTxRequest i c b v) s) s (respErr s.dev)) ∧
    (txState s.dev c b ≠ 1 → (bit w 10 = true ∧ bit w 9 = false) ∨ (bit w 10 = false ∧ bits w 3 0 ≤ 8) →
      ∃ d, Goes (exec (.canTxRequest i c b v) s) s d ∧ d.response = ⟨false, 0⟩ ∧ rd d (CAN_TXBb_STATUS c b) = 1
        ∧ canBuf d c b = {} ∧ RegsExcept [CAN_TXBb_STATUS c b] s.dev d)) ∧
  (∀ (s : State) (c : Fin 4) (r : CanResult) (tec rec_ delay : Nat), Acts s → (canOf s.dev c).cur = none →
    Goes (exec (.canAttemptEnd c r tec rec_ delay) s) s s.dev) ∧
  (∀ (s : State) (c : Fin 4) (b : Fin 3) (tec rec_ delay : Nat), Acts s → (canOf s.dev c).cur = some b.val →
    tec < 128 → rec_ < 128 → fld s.dev (CAN_CTRL c) 29 28 ≠ 2 →
    flag s.dev (CAN_TDC c) 31 = false ∨ flag s.dev (CAN_TXBb_CTRL c b) 10 = false ∨ delay ≤ 127 →
    ∃ d, Goes (exec (.canAttemptEnd c .sent tec rec_ delay) s) s d ∧ (canOf d c).cur = none
      ∧ txState d c b = (if (canBuf s.dev c b).cancel then 3 else 2) ∧ errorsAre s.dev d c tec rec_
      ∧ (flag s.dev (CAN_TDC c) 31 = true → flag s.dev (CAN_TXBb_CTRL c b) 10 = true → fld d (CAN_TDC c) 22 16 = delay)
      ∧ RegsExcept [CAN_TXBb_STATUS c b, CAN_ERRCNT c, CAN_STATUS c, CAN_TDC c] s.dev d) ∧
  (∀ (s : State) (c : Fin 4) (b : Fin 3) (r : CanResult) (tec rec_ delay lim : Nat), Acts s →
    (canOf s.dev c).cur = some b.val → r ≠ .sent → tec < 128 → rec_ < 128 → flag s.dev (CAN_TDC c) 31 = false →
    lim = fld s.dev (CAN_CTRL c) 11 8 →
    ((canBuf s.dev c b).cancel = true →
      ∃ d, Goes (exec (.canAttemptEnd c r tec rec_ delay) s) s d ∧ (canOf d c).cur = none ∧ txState d c b = 4
        ∧ errorsAre s.dev d c tec rec_ ∧ RegsExcept [CAN_TXBb_STATUS c b, CAN_ERRCNT c, CAN_STATUS c] s.dev d) ∧
    ((canBuf s.dev c b).cancel = false → lim = 0 ∨ (canBuf s.dev c b).tried ≤ lim →
      ∃ d, Goes (exec (.canAttemptEnd c r tec rec_ delay) s) s d ∧ (canOf d c).cur = none
        ∧ errorsAre s.dev d c tec rec_ ∧ RegsExcept [CAN_ERRCNT c, CAN_STATUS c] s.dev d) ∧
    ((canBuf s.dev c b).cancel = false → lim ≠ 0 → lim < (canBuf s.dev c b).tried →
      ∃ d, GoesRaising (exec (.canAttemptEnd c r tec rec_ delay) s) s d Src.CAN_TX_FAIL c ∧ (canOf d c).cur = none
        ∧ txState d c b = 5 ∧ errorsAre s.dev d c tec rec_
        ∧ RegsExcept [CAN_TXBb_STATUS c b, CAN_ERRCNT c, CAN_STATUS c] s.dev d)) ∧
  (∀ (s : State) (c : Fin 4) (r : CanResult) (tec rec_ : Nat), Acts s → (canOf s.dev c).cur = some 3 → tec < 128 →
    rec_ < 128 → fld s.dev (CAN_CTRL c) 29 28 ≠ 2 → flag s.dev (CAN_TDC c) 31 = false →
    ∃ d, Goes (exec (.canAttemptEnd c r tec rec_ 0) s) s d ∧ (canOf d c).cur = none ∧ errorsAre s.dev d c tec rec_
      ∧ (canOf d c).acks = (if r = .sent then (canOf s.dev c).acks.drop 1 else (canOf s.dev c).acks)
      ∧ RegsExcept [CAN_ERRCNT c, CAN_STATUS c] s.dev d) ∧
  (∀ (s : State) (c : Fin 4) (r : CanResult) (tec rec_ : Nat), Acts s → (canOf s.dev c).cur = some 3 → 255 < tec →
    tec < 512 → rec_ < 256 → r ≠ .sent → flag s.dev (CAN_TDC c) 31 = false → flag s.dev (CAN_STATUS c) 2 = false →
    GoesWithin (exec (.canAttemptEnd c r tec rec_ 0) s) s [0x40B0 + c.val] (fun d =>
      flag d (CAN_STATUS c) 2 = true ∧ flag d (CAN_STATUS c) 9 = true ∧ flag d (CAN_STATUS c) 1 = true
        ∧ flag d (CAN_STATUS c) 0 = true ∧ fld d (CAN_ERRCNT c) 8 0 = tec ∧ Reported Src.CAN_BUSOFF c s.dev d
        ∧ (flag s.dev (CAN_STATUS c) 1 = false → Reported Src.CAN_ERR_PASSIVE c s.dev d)
        ∧ (canOf d c).acks = (canOf s.dev c).acks
        ∧ (∀ b : Fin 3, txState d c b =
            if txState s.dev c b = 1 ∧ flag s.dev (CAN_CTRL c) 2 = true then 6 else txState s.dev c b)
        ∧ flag d (CAN_STATUS c) 3 = (flag s.dev (CAN_STATUS c) 3 || flag s.dev (CAN_CTRL c) 1))) ∧
  (∀ (s : State) (i : Initiator) (c : Fin 4) (v : Word), Acts s → WriteReaches s.dev i (CAN_BO_RECOV c) →
    (bit v 0 = false → Goes (exec (.canBusoffRecoveryRequest i c v) s) s (respOk s.dev)) ∧
    (bit v 0 = true → flag s.dev (CAN_STATUS c) 2 = false →
      Goes (exec (.canBusoffRecoveryRequest i c v) s) s (respErr s.dev)) ∧
    (bit v 0 = true → flag s.dev (CAN_STATUS c) 2 = true →
      Goes (exec (.canBusoffRecoveryRequest i c v) s) s (setFlag (CAN_STATUS c) 3 true (respOk s.dev)))) ∧
  (∀ (s : State) (c : Fin 4), Acts s →
    (flag s.dev (CAN_STATUS c) 2 = false ∨ flag s.dev (CAN_STATUS c) 3 = false →
      Goes (exec (.canBusoffRecovered c) s) s s.dev) ∧
    (flag s.dev (CAN_STATUS c) 2 = true → flag s.dev (CAN_STATUS c) 3 = true →
      ∃ d, Goes (exec (.canBusoffRecovered c) s) s d ∧ rd d (CAN_ERRCNT c) = 0 ∧ fld d (CAN_STATUS c) 3 0 = 0
        ∧ fld d (CAN_STATUS c) 31 4 = fld s.dev (CAN_STATUS c) 31 4 ∧ d.can = s.dev.can
        ∧ RegsExcept [CAN_ERRCNT c, CAN_STATUS c] s.dev d)) ∧
  (∀ (s : State) (c : Fin 4), Acts s →
    ((canOf s.dev c).leaving = false ∨ (canOf s.dev c).cur ≠ none → Goes (exec (.canDisable c) s) s s.dev) ∧
    ((canOf s.dev c).leaving = true → (canOf s.dev c).cur = none →
      ∃ d, Goes (exec (.canDisable c) s) s d ∧ canOf d c = { canOf s.dev c with leaving := false, joined := false }
        ∧ (∀ b : Fin 3, txState d c b = if txState s.dev c b = 1 then 6 else txState s.dev c b)
        ∧ RegsExcept [CAN_TXBb_STATUS c 0, CAN_TXBb_STATUS c 1, CAN_TXBb_STATUS c 2] s.dev d)) ∧
  (∀ (s : State) (c : Fin 4), Acts s →
    (flag s.dev (CAN_CTRL c) 31 = false → Goes (exec (.canBusJoin c) s) s s.dev) ∧
    (flag s.dev (CAN_CTRL c) 31 = true →
      Goes (exec (.canBusJoin c) s) s (modCan c (fun x => { x with joined := true }) s.dev)))

/-- CAN_FRAME_RECEIVE and CAN_RX_POP (R471, R482–R485): the lowest filter that matches decides, the FIFO takes the
frame, is full, or is overwritten, a frame for CSQ is an Axis Command on its path, and a message is popped by its
index. Rests on choices of the model: log entries 82, 83. -/
def Obligations.CanReception : Prop :=
  (∀ (s : State) (c : Fin 4) (fr : CanFrame) (sof tec rec_ : Nat), Acts s → fr.data.length ≤ 64 →
    (canOf s.dev c).joined = false ∨ flag s.dev (CAN_STATUS c) 2 = true ∨ fld s.dev (CAN_CTRL c) 29 28 = 2 →
    Goes (exec (.canFrameReceive c fr sof tec rec_) s) s s.dev) ∧
  (∀ (s : State) (c : Fin 4) (fr : CanFrame) (sof tec rec_ : Nat), Acts s → fr.data.length ≤ 64 →
    (canOf s.dev c).joined = true → flag s.dev (CAN_STATUS c) 2 = false → fld s.dev (CAN_CTRL c) 29 28 ≠ 2 →
    tec < 128 → rec_ < 128 →
    (fr.fdf = true ∧ flag s.dev (CAN_CTRL c) 30 = false) ∨
      ((∀ f : Fin 128, filterMatch s.dev c f fr = false) ∧ flag s.dev (CAN_RXF_CFG c) 0 = false) ∨
      (∃ f, decides s.dev c f fr ∧ fld s.dev (CAN_FLTf_MASK c f) 31 30 = 0) →
    ∃ d, Goes (exec (.canFrameReceive c fr sof tec rec_) s) s d ∧ errorsAre s.dev d c tec rec_ ∧ d.can = s.dev.can
      ∧ RegsExcept [CAN_ERRCNT c, CAN_STATUS c] s.dev d) ∧
  (∀ (s : State) (c : Fin 4) (fr : CanFrame) (sof tec rec_ f get fill : Nat), Acts s → fr.data.length ≤ 64 →
    (canOf s.dev c).joined = true → flag s.dev (CAN_STATUS c) 2 = false → fld s.dev (CAN_CTRL c) 29 28 ≠ 2 →
    tec < 128 → rec_ < 128 → fr.fdf = false ∨ flag s.dev (CAN_CTRL c) 30 = true →
    ((∀ x : Fin 128, filterMatch s.dev c x fr = false) ∧ flag s.dev (CAN_RXF_CFG c) 0 = true ∧ f = 0) ∨
      (∃ x, decides s.dev c x fr ∧ fld s.dev (CAN_FLTf_MASK c x) 31 30 = 1 ∧ f = x.val) →
    get = fld s.dev (CAN_RXF_STATUS c) 21 16 → fill = fld s.dev (CAN_RXF_STATUS c) 6 0 →
    (fill < 64 →
      ∃ d, Goes (exec (.canFrameReceive c fr sof tec rec_) s) s d ∧ errorsAre s.dev d c tec rec_
        ∧ slotShows s.dev d c ((get + fill) % 64) f fr sof ∧ fld d (CAN_RXF_STATUS c) 6 0 = fill + 1
        ∧ fld d (CAN_RXF_STATUS c) 21 16 = get
        ∧ ∀ k : Fin 64, k.val ≠ (get + fill) % 64 → rd d (CAN_RXs_CTRL c k) = rd s.dev (CAN_RXs_CTRL c k)) ∧
    (64 ≤ fill →
      ∃ d, GoesRaising (exec (.canFrameReceive c fr sof tec rec_) s) s d Src.CAN_RXOVF c
        ∧ flag d (CAN_STATUS c) 8 = true ∧ fld d (CAN_RXF_STATUS c) 6 0 = fill
        ∧ fld d (CAN_RXF_STATUS c) 31 24 = Nat.min 255 (fld s.dev (CAN_RXF_STATUS c) 31 24 + 1)
        ∧ (flag s.dev (CAN_RXF_CFG c) 1 = false → fld d (CAN_RXF_STATUS c) 21 16 = get
            ∧ RegsExcept [CAN_ERRCNT c, CAN_STATUS c, CAN_RXF_STATUS c] s.dev d)
        ∧ (flag s.dev (CAN_RXF_CFG c) 1 = true → fld d (CAN_RXF_STATUS c) 21 16 = (get + 1) % 64
            ∧ slotShows s.dev d c get f fr sof))) ∧
  (∀ (s : State) (c : Fin 4) (path : Fin 6) (fr : CanFrame) (sof tec rec_ : Nat) (f : Fin 128), Acts s →
    fr.data.length ≤ 64 → path.val = c.val →
    (canOf s.dev c).joined = true → flag s.dev (CAN_STATUS c) 2 = false → fld s.dev (CAN_CTRL c) 29 28 ≠ 2 →
    tec < 128 → rec_ < 128 → fr.fdf = false ∨ flag s.dev (CAN_CTRL c) 30 = true → decides s.dev c f fr →
    fld s.dev (CAN_FLTf_MASK c f) 31 30 = 2 →
    (fr.fdf = true → fr.dlc = 10 → fr.data.length = 16 →
      exec (.canFrameReceive c fr sof tec rec_) s =
        exec (.axisCommand path ⟨0, 0, 0⟩ fr.data) (withDev s (setErrors c tec rec_ s.dev))) ∧
    (fr.fdf = false ∨ fr.dlc ≠ 10 ∨ fr.data.length ≠ 16 →
      ∃ d, GoesRaising (exec (.canFrameReceive c fr sof tec rec_) s) s d Src.CAN_CSQ_DROP c ∧ errorsAre s.dev d c tec rec_
        ∧ fld d (CAN_CSQ_DROP c) 15 0 = Nat.min 65535 (fld s.dev (CAN_CSQ_DROP c) 15 0 + 1) ∧ d.cmds = s.dev.cmds
        ∧ RegsExcept [CAN_ERRCNT c, CAN_STATUS c, CAN_CSQ_DROP c] s.dev d)) ∧
  (∀ (s : State) (i : Initiator) (c : Fin 4) (v : Word) (get fill : Nat), Acts s → WriteReaches s.dev i (CAN_RXF_POP c) →
    get = fld s.dev (CAN_RXF_STATUS c) 21 16 → fill = fld s.dev (CAN_RXF_STATUS c) 6 0 →
    (bits v 5 0 ≠ get ∨ fill = 0 → Goes (exec (.canRxPop i c v) s) s (respErr s.dev)) ∧
    (bits v 5 0 = get → fill ≠ 0 →
      ∃ d, Goes (exec (.canRxPop i c v) s) s d ∧ d.response = ⟨false, 0⟩ ∧ fld d (CAN_RXF_STATUS c) 6 0 = fill - 1
        ∧ fld d (CAN_RXF_STATUS c) 21 16 = (get + 1) % 64 ∧ flag d (CAN_RXs_CTRL c get) 31 = false
        ∧ fld d (CAN_RXs_CTRL c get) 30 0 = fld s.dev (CAN_RXs_CTRL c get) 30 0
        ∧ RegsExcept [CAN_RXF_STATUS c, CAN_RXs_CTRL c get] s.dev d))

/-! ## Self-test and fulling -/

/-- The task of FLS that a command is the due time of (R500). -/
def flsTask : Instr → Option (Fin 11)
  | .scrub _ _ => some 0 | .mramref _ _ => some 1 | .adccal => some 2 | .linkcal => some 3 | .cerot => some 4
  | .pprot => some 5 | .drvtest => some 6 | .thmchk => some 7 | .wear => some 8 | .lease => some 9 | .mbist _ _ => some 10
  | _ => none

/-- Task `t` is enabled and due, and its last run has ended (R501). -/
def flsDue (d : Dev) (t : Fin 11) : Prop :=
  flag d FLS_CTRL 0 = true ∧ flag d (FLS_TASKt_CFG t) 31 = true ∧ vget d.fls.due t ≤ d.ltb.toNat
    ∧ flag d FLS_STATUS t = false

/-- A run of task `t` has begun: it is due again one period later, it runs, it is counted, its start is recorded (R501,
R506). -/
def flsBegun (d e : Dev) (t : Fin 11) : Prop :=
  vget e.fls.due t = d.ltb.toNat + flsPeriod d t ∧ vget e.fls.start t = d.ltb.toNat ∧ flag e FLS_STATUS t = true
    ∧ fld e (FLS_TASKt_STAT t) 15 0 = Nat.min 65535 (fld d (FLS_TASKt_STAT t) 15 0 + 1)
    ∧ fld e (FLS_TASKt_STAT t) 31 16 = fld d (FLS_TASKt_STAT t) 31 16
    ∧ rd e (FLS_TASKt_LAST t) = BitVec.ofNat 32 d.ltb.toNat
    ∧ ∀ u : Fin 11, u ≠ t → vget e.fls.due u = vget d.fls.due u ∧ flag e FLS_STATUS u = flag d FLS_STATUS u

/-- The registers that the beginning of a run of task `t` writes. -/
def flsRegs (t : Nat) : List Nat := [FLS_STATUS, FLS_TASKt_STAT t, FLS_TASKt_LAST t]

/-- The tasks of FLS as the scheduler sees them (R501): one that is not due or not enabled does nothing, one that
still runs is counted as late and not started, CEROT and PPROT skip without a spare, and FLS_TASK_DONE ends a run.
SCRUB, MRAMREF, ADCCAL, LINKCAL, DRVTEST, THMCHK, WEAR, LEASE and MBIST (R370, R391, R433, R495, R496, R500, R502):
the work of a run. Rests on choices of the model: log entries 85, 86. -/
def Obligations.FullingSchedulerAndTasks : Prop :=
  ((∀ (c : Instr) (s : State) (t : Fin 11), Acts s → flsTask c = some t →
    flag s.dev FLS_CTRL 0 = false ∨ flag s.dev (FLS_TASKt_CFG t) 31 = false ∨ s.dev.ltb.toNat < vget s.dev.fls.due t →
    Goes (exec c s) s s.dev) ∧
  (∀ (c : Instr) (s : State) (t : Fin 11), Acts s → flsTask c = some t → flag s.dev FLS_CTRL 0 = true →
    flag s.dev (FLS_TASKt_CFG t) 31 = true → vget s.dev.fls.due t ≤ s.dev.ltb.toNat → flag s.dev FLS_STATUS t = true →
    ∃ d, Goes (exec c s) s d ∧ vget d.fls.due t = s.dev.ltb.toNat + flsPeriod s.dev t
      ∧ vget d.fls.start t = vget s.dev.fls.start t
      ∧ fld d (FLS_TASKt_STAT t) 31 16 = Nat.min 65535 (fld s.dev (FLS_TASKt_STAT t) 31 16 + 1)
      ∧ fld d (FLS_TASKt_STAT t) 15 0 = fld s.dev (FLS_TASKt_STAT t) 15 0 ∧ RegsExcept [FLS_TASKt_STAT t] s.dev d) ∧
  (∀ s : State, Acts s → flsDue s.dev 4 →
    (fld s.dev CEA_SPARE 2 0 = 7 ∨ (∃ a : Fin 4, axisInUse s.dev a = true ∧ (ceAxis s.dev a).takeover ≠ .none) →
      ∃ d, Goes (exec .cerot s) s d ∧ d.regs = s.dev.regs ∧ d.cea = s.dev.cea
        ∧ vget d.fls.due 4 = s.dev.ltb.toNat + flsPeriod s.dev 4) ∧
    (fld s.dev CEA_SPARE 2 0 < 5 → (∀ a : Fin 4, axisInUse s.dev a = true → (ceAxis s.dev a).takeover = .none) →
      ∃ d, Goes (exec .cerot s) s d ∧ flsBegun s.dev d 4 ∧ d.cea = s.dev.cea ∧ RegsExcept (flsRegs 4) s.dev d)) ∧
  (∀ s : State, Acts s → flsDue s.dev 5 →
    (sparePair s.dev = none →
      ∃ d, Goes (exec .pprot s) s d ∧ d.regs = s.dev.regs ∧ d.cpx = s.dev.cpx
        ∧ vget d.fls.due 5 = s.dev.ltb.toNat + flsPeriod s.dev 5) ∧
    (∀ n, sparePair s.dev = some n →
      ∃ d, Goes (exec .pprot s) s d ∧ flsBegun s.dev d 5 ∧ d.cpx = s.dev.cpx ∧ RegsExcept (flsRegs 5) s.dev d)) ∧
  (∀ (s : State) (t : Fin 11), Acts s →
    (flag s.dev FLS_STATUS t = false → Goes (exec (.flsTaskDone t) s) s s.dev) ∧
    (flag s.dev FLS_STATUS t = true → s.dev.ltb.toNat ≤ vget s.dev.fls.start t + 2 * flsPeriod s.dev t →
      ∃ d, Goes (exec (.flsTaskDone t) s) s d ∧ flag d FLS_STATUS t = false ∧ (t = 10 → d.bst.block = none)
        ∧ RegsExcept [FLS_STATUS] s.dev d) ∧
    (flag s.dev FLS_STATUS t = true → vget s.dev.fls.start t + 2 * flsPeriod s.dev t < s.dev.ltb.toNat →
      ∃ d, GoesRaising (exec (.flsTaskDone t) s) s d Src.FLS_TASK_LATE t ∧ flag d FLS_STATUS t = false
        ∧ RegsExcept [FLS_STATUS] s.dev d))) ∧
  ((∀ (s : State) (n : Nat), Acts s → flsDue s.dev 0 → s.dev.icf.badWords = [] →
    (∃ d, Goes (exec (.scrub n []) s) s d ∧ flsBegun s.dev d 0 ∧ d.icf = s.dev.icf
      ∧ fld d ICF_ECC_CNT 15 0 = Nat.min 65535 (fld s.dev ICF_ECC_CNT 15 0 + n)
      ∧ fld d ICF_ECC_CNT 31 16 = fld s.dev ICF_ECC_CNT 31 16 ∧ RegsExcept (ICF_ECC_CNT :: flsRegs 0) s.dev d) ∧
    ∀ (a : Word) (k : Nat), sramIndex a.toNat = some k → k < 4 →
      ∃ d, GoesRaising (exec (.scrub n [a]) s) s d Src.FLS_SCRUB_UE k ∧ flsBegun s.dev d 0 ∧ badAt d a.toNat = true
        ∧ RegsExcept (ICF_ECC_CNT :: flsRegs 0) s.dev d) ∧
  (∀ (s : State) (n : Nat), Acts s → flsDue s.dev 1 → s.dev.icf.badWords = [] →
    (∃ d, Goes (exec (.mramref n []) s) s d ∧ flsBegun s.dev d 1 ∧ d.icf = s.dev.icf
      ∧ fld d JRN_ECC_CNT 15 0 = Nat.min 65535 (fld s.dev JRN_ECC_CNT 15 0 + n)
      ∧ RegsExcept (JRN_ECC_CNT :: flsRegs 1) s.dev d) ∧
    ∀ (a : Word) (k : Nat), mramPartition a.toNat = some k →
      ∃ d, GoesRaising (exec (.mramref n [a]) s) s d Src.FLS_MRAM_UE k ∧ flsBegun s.dev d 1 ∧ badAt d a.toNat = true
        ∧ fld d JRN_ECC_CNT 31 16 = Nat.min 65535 (fld s.dev JRN_ECC_CNT 31 16 + 1)
        ∧ RegsExcept (JRN_ECC_CNT :: flsRegs 1) s.dev d) ∧
  (∀ s : State, Acts s → flsDue s.dev 2 →
    ∃ d, Goes (exec .adccal s) s d ∧ flsBegun s.dev d 2 ∧ RegsExcept (flsRegs 2) s.dev d
      ∧ ∀ p : Fin 8, adsPair d p =
          if flag s.dev (ADS_Pp_CAL_STATUS p) 16 then adsPair s.dev p else { adsPair s.dev p with calPending := true }) ∧
  (∀ s : State, Acts s → flsDue s.dev 3 →
    ∃ d, Goes (exec .linkcal s) s d ∧ flsBegun s.dev d 3 ∧ RegsExcept (flsRegs 3) s.dev d
      ∧ ∀ p : Fin 64, port d p =
          if pstate s.dev p = 4 ∧ (port s.dev p).cal = none then
            { port s.dev p with cal := some {}, lowDue := (port s.dev p).lowDue ++ List.replicate 16 LinkWord.echoReq }
          else port s.dev p) ∧
  (∀ s : State, Acts s → flsDue s.dev 6 →
    (nextDrvTest s.dev = none ∨ freeEntry s.dev (fld s.dev FLS_CFG 5 0) = none →
      ∃ d, Goes (exec .drvtest s) s d ∧ flsBegun s.dev d 6 ∧ d.evs = s.dev.evs ∧ RegsExcept (flsRegs 6) s.dev d) ∧
    (∀ (p item n w2 : Nat) (timed : Bool) (at_ : Nat), nextDrvTest s.dev = some (p, item) →
      freeEntry s.dev (fld s.dev FLS_CFG 5 0) = some n →
      (timed = false ∧ at_ = 0 ∧ (switchOfPort s.dev p = none ∨ ∃ l high, switchOfPort s.dev p = some (l, high) ∧
          (legState s.dev l = 2 ∨ (group s.dev (legGroup s.dev l)).running = false))) ∨
        (timed = true ∧ ∃ l high, switchOfPort s.dev p = some (l, high) ∧ legState s.dev l ≠ 2 ∧
          (group s.dev (legGroup s.dev l)).running = true ∧ at_ = offMidpoint s.dev l high) →
      w2 = 0x80000000 + (if timed then 0x40000000 else 0) + (0x050 + p) * 4096 →
      evsArmCode s.dev n (BitVec.ofNat 32 at_) 0 (BitVec.ofNat 32 w2) = 0 →
      ∃ d, Goes (exec .drvtest s) s d ∧ flsBegun s.dev d 6 ∧ evsArmed d n = true ∧ d.fls.port = p + 1 ∧ d.fls.item = item
        ∧ evsWord d n 0 = BitVec.ofNat 32 at_ ∧ evsWord d n 1 = 0 ∧ evsWord d n 2 = BitVec.ofNat 32 w2
        ∧ evsWord d n 3 = BitVec.ofNat 32 (0x80100000 + item)
        ∧ RegsExcept (evsWordAddr n 0 :: evsWordAddr n 1 :: evsWordAddr n 2 :: evsWordAddr n 3 :: flsRegs 6) s.dev d)) ∧
  (∀ s : State, Acts s → flsDue s.dev 7 →
    ((∀ r : Fin 9, flag s.dev THM_BROKEN r = true ∨
        (sfld s.dev (THM_Rr_SENS r) 15 0 - sfld s.dev (THM_Rr_MODEL r) 15 0).natAbs ≤ fld s.dev THM_CHK2 31 16) →
      ∃ d, Goes (exec .thmchk s) s d ∧ flsBegun s.dev d 7 ∧ RegsExcept (flsRegs 7) s.dev d) ∧
    (∀ r : Fin 9, flag s.dev THM_BROKEN r = false →
        fld s.dev THM_CHK2 31 16 < (sfld s.dev (THM_Rr_SENS r) 15 0 - sfld s.dev (THM_Rr_MODEL r) 15 0).natAbs →
      GoesWithin (exec .thmchk s) s [0x4005] (fun d => flsBegun s.dev d 7 ∧ rd d THM_BROKEN = rd s.dev THM_BROKEN
        ∧ (Collects s.dev Src.THM_MODEL_DEV → flag d (FCR_SRCkkkk_STATUS Src.THM_MODEL_DEV) 0 = true)))) ∧
  (∀ (s : State) (a b : Nat), Acts s → flsDue s.dev 8 → a < 4294967295 →
    s.dev.jrn.wrapsA = some a ∧ s.dev.jrn.wrapsB = some b ∨ s.dev.jrn.wrapsA = some a ∧ s.dev.jrn.wrapsB = none ∧ b = a ∨
      s.dev.jrn.wrapsA = none ∧ s.dev.jrn.wrapsB = some a ∧ b = a →
    (a ≠ b →
      ∃ d, GoesRaising (exec .wear s) s d Src.JRN_META 0 ∧ flsBegun s.dev d 8 ∧ rd d JRN_WRAPS = 0xFFFFFFFF
        ∧ flag d JRN_STATUS 2 = true ∧ RegsExcept (JRN_WRAPS :: JRN_STATUS :: flsRegs 8) s.dev d) ∧
    (a = b → a < 900000 ∨ flag s.dev JRN_STATUS 1 = true →
      ∃ d, Goes (exec .wear s) s d ∧ flsBegun s.dev d 8 ∧ rd d JRN_WRAPS = BitVec.ofNat 32 a
        ∧ d.jrn.wrapsA = some a ∧ d.jrn.wrapsB = some a ∧ RegsExcept (JRN_WRAPS :: flsRegs 8) s.dev d) ∧
    (a = b → 900000 ≤ a → flag s.dev JRN_STATUS 1 = false →
      ∃ d, GoesRaising (exec .wear s) s d Src.JRN_WEAR 0 ∧ flsBegun s.dev d 8 ∧ rd d JRN_WRAPS = BitVec.ofNat 32 a
        ∧ flag d JRN_STATUS 1 = true ∧ RegsExcept (JRN_WRAPS :: JRN_STATUS :: flsRegs 8) s.dev d)) ∧
  (∀ s : State, Acts s → flsDue s.dev 9 →
    ∃ d, Goes (exec .lease s) s d ∧ flsBegun s.dev d 9
      ∧ ∀ k : Fin 32, ((sub s.dev k).ended = true → subActive s.dev k = false →
            (sub d k).ended = false ∧ rd d (TRC_SUBs_SENT k) = 0 ∧ rd d (TRC_SUBs_LIMIT k) = 0 ∧ rd d (TRC_SUBs_SHED k) = 0) ∧
          ((sub s.dev k).ended = false ∨ subActive s.dev k = true →
            sub d k = sub s.dev k ∧ rd d (TRC_SUBs_SENT k) = rd s.dev (TRC_SUBs_SENT k)
              ∧ rd d (TRC_SUBs_LIMIT k) = rd s.dev (TRC_SUBs_LIMIT k))) ∧
  (∀ (s : State) (fail : Option Word) (bad : Bool), Acts s → flsDue s.dev 10 → s.dev.bst.key ≠ none →
    ∃ d, Goes (exec (.mbist fail bad) s) s d ∧ flsBegun s.dev d 10 ∧ d.bst = s.dev.bst ∧ RegsExcept (flsRegs 10) s.dev d) ∧
  (∀ (s : State) (bad : Bool) (m k a n : Nat), Acts s → flsDue s.dev 10 → s.dev.bst.key = none →
    m = fld s.dev BST_MB_POS 31 29 → k = fld s.dev BST_MB_POS 23 0 → (a, n) = mbistMem m →
    (∃ d, Goes (exec (.mbist none bad) s) s d ∧ flsBegun s.dev d 10 ∧ d.bst.block = some (a + 512 * k)
      ∧ fld d BST_MB_POS 23 0 = (if k + 1 < n then k + 1 else 0)
      ∧ fld d BST_MB_POS 31 29 = (if k + 1 < n then m else (m + 1) % 4)
      ∧ (bad = false → d.icf = s.dev.icf) ∧ (bad = true → ∀ j : Fin 64, badAt d (a + 512 * k + 8 * j) = true)
      ∧ RegsExcept (BST_MB_POS :: flsRegs 10) s.dev d) ∧
    ∀ w : Word, ∃ d, GoesRaising (exec (.mbist (some w) bad) s) s d Src.BST_MBIST_FAIL m ∧ flsBegun s.dev d 10
      ∧ rd d BST_MB_FAIL = w ∧ d.bst.block = some (a + 512 * k)
      ∧ RegsExcept (BST_MB_FAIL :: BST_MB_POS :: flsRegs 10) s.dev d))
/-- A slice of test `t` runs in `e` (R490, R491). -/
def sliceRuns (d e : Dev) (t : UnitTest) : Prop :=
  e.bst.running = some t.unit ∧ unitTest e t.unit = some { t with deferred := none }
    ∧ unitRole e t.unit = (if t.unit < 8 then 3 else 2)
    ∧ flag e BST_STATUS 0 = true ∧ fld e BST_STATUS 19 16 = t.unit ∧ fld e BST_STATUS 28 24 = t.slice
    ∧ RegsExcept [BST_STATUS, CEA_CEn_STATE t.unit] d e

/-- The next slice of test `t` waits: the test has one more deferral or incomplete slice in a row, and the eighth raises
BST_STARVED with the unit (R492). -/
def sliceWaits (o : Host.Outcome State Fault Refusal) (s : State) (t : UnitTest) (since : Option Nat) (regs : List Nat)
    (P : Dev → Prop) : Prop :=
  (t.waits ≠ 7 → ∃ d, Goes o s d ∧ unitTest d t.unit = some { t with waits := t.waits + 1, deferred := since }
      ∧ d.bst.running = none ∧ RegsExcept regs s.dev d ∧ P d) ∧
  (t.waits = 7 → ∃ d, GoesRaising o s d Src.BST_STARVED t.unit
      ∧ unitTest d t.unit = some { t with waits := 8, deferred := since } ∧ d.bst.running = none
      ∧ RegsExcept regs s.dev d ∧ P d)

/-- BST_SLICE_START, BST_DEFER_RETRY, BST_SLICE_DONE and BST_SLICE_ABORT (R490–R494, R500): when a slice starts or is
deferred, and what a passed, failed, incomplete or last slice leaves. BST_KEY_ON, BST_KEY_OFF and BST_KEY_DONE (R498,
R499, R505): when a key test is refused and with which code, that it starts otherwise, and what its end shows of the
twelve copies. Rests on choices of the model: log entry 84. -/
def Obligations.LogicAndKeyTests : Prop :=
  ((∀ (s : State) (u : TestUnit) (g h : Bool), Acts s →
    flag s.dev BST_CTRL 0 = false ∨ s.dev.bst.key ≠ none ∨ s.dev.bst.running ≠ none →
    Goes (exec (.bstSliceStart u g h) s) s s.dev ∧ Goes (exec (.bstDeferRetry g h) s) s s.dev) ∧
  (∀ (s : State) (u : TestUnit) (g h : Bool) (t : UnitTest), Acts s → flag s.dev BST_CTRL 0 = true →
    s.dev.bst.key = none → s.dev.bst.running = none → t.slice < 32 →
    (unitTest s.dev (unitIndex u) = some t ∧ t.deferred = none) ∨
      (unitTest s.dev (unitIndex u) = none ∧ testable s.dev (unitIndex u) = true
        ∧ t = ⟨unitIndex u, 0, unitRole s.dev (unitIndex u), 0, none⟩) →
    (g = true → h = true → ∃ d, Goes (exec (.bstSliceStart u g h) s) s d ∧ sliceRuns s.dev d t) ∧
    (g = false ∨ h = false → sliceWaits (exec (.bstSliceStart u g h) s) s t (some s.dev.ltb.toNat) [BST_DEFER_CNT]
      (fun d => fld d BST_DEFER_CNT 15 0 = Nat.min 65535 (fld s.dev BST_DEFER_CNT 15 0 + 1)))) ∧
  (∀ (s : State) (u : TestUnit) (g h : Bool), Acts s →
    (unitTest s.dev (unitIndex u) = none ∧ testable s.dev (unitIndex u) = false) ∨
      (∃ t x, unitTest s.dev (unitIndex u) = some t ∧ t.deferred = some x) →
    Goes (exec (.bstSliceStart u g h) s) s s.dev) ∧
  (∀ (s : State) (g h : Bool), Acts s →
    (∀ t ∈ s.dev.bst.tests, ∀ x, t.deferred = some x → s.dev.ltb.toNat < x + 80000) →
    Goes (exec (.bstDeferRetry g h) s) s s.dev) ∧
  (∀ (s : State) (g h : Bool) (t : UnitTest) (q : List UnitTest) (x : Nat), Acts s → flag s.dev BST_CTRL 0 = true →
    s.dev.bst.key = none → s.dev.bst.running = none → s.dev.bst.tests = t :: q → t.deferred = some x →
    x + 80000 ≤ s.dev.ltb.toNat → t.unit < 12 → t.slice < 32 →
    (g = true → h = true → ∃ d, Goes (exec (.bstDeferRetry g h) s) s d ∧ sliceRuns s.dev d t) ∧
    (g = false ∨ h = false → sliceWaits (exec (.bstDeferRetry g h) s) s t (some s.dev.ltb.toNat) [BST_DEFER_CNT]
      (fun d => fld d BST_DEFER_CNT 15 0 = Nat.min 65535 (fld s.dev BST_DEFER_CNT 15 0 + 1)))) ∧
  (∀ (s : State) (n : Nat) (h g : Bool), Acts s → s.dev.bst.running = none →
    Goes (exec (.bstSliceDone n h g) s) s s.dev ∧ Goes (exec .bstSliceAbort s) s s.dev) ∧
  (∀ (s : State) (t : UnitTest) (n : Nat) (h g : Bool) (c : Instr), Acts s → s.dev.bst.running = some t.unit →
    unitTest s.dev t.unit = some t → c = .bstSliceAbort ∨ (c = .bstSliceDone n h g ∧ (n ≠ 4096 ∨ h = false)) →
    sliceWaits (exec c s) s t none [BST_INC_CNT, BST_STATUS] (fun d => flag d BST_STATUS 0 = false
      ∧ fld d BST_INC_CNT 15 0 = Nat.min 65535 (fld s.dev BST_INC_CNT 15 0 + 1))) ∧
  (∀ (s : State) (t : UnitTest), Acts s → s.dev.bst.running = some t.unit → unitTest s.dev t.unit = some t →
    t.slice + 1 < (if t.unit < 8 then 16 else 32) →
    ∃ d, Goes (exec (.bstSliceDone 4096 true true) s) s d ∧ d.bst.running = none ∧ flag d BST_STATUS 0 = false
      ∧ unitTest d t.unit = some { t with slice := t.slice + 1, waits := 0 } ∧ RegsExcept [BST_STATUS] s.dev d) ∧
  (∀ (s : State) (t : UnitTest), Acts s → s.dev.bst.running = some t.unit → unitTest s.dev t.unit = some t →
    t.unit < 5 ∨ (8 ≤ t.unit ∧ t.unit < 12) → t.slice < 32 →
    ∃ d, GoesRaising (exec (.bstSliceDone 4096 true false) s) s d Src.BST_SIG_FAIL t.unit ∧ d.bst.running = none
      ∧ unitTest d t.unit = none ∧ unitRole d t.unit = (if t.unit < 8 then 5 else 3)
      ∧ fld d (BST_UNITu_STATUS t.unit) 9 8 = 2 ∧ fld d (BST_UNITu_STATUS t.unit) 4 0 = t.slice
      ∧ (t.unit < 8 → flag d (CEA_CEn_STATE t.unit) 9 = false ∧ spareEngine d ≠ some t.unit)
      ∧ (8 ≤ t.unit → (pair d (t.unit - 8)).testPass = false)) ∧
  (∀ (s : State) (t : UnitTest), Acts s → s.dev.bst.running = some t.unit → unitTest s.dev t.unit = some t →
    t.unit < 5 → t.slice = 15 → t.role < 8 →
    (flag s.dev FLS_STATUS 4 = false ∨ spareEngine s.dev ≠ some t.unit →
      ∃ d, Goes (exec (.bstSliceDone 4096 true true) s) s d ∧ d.bst.running = none ∧ unitTest d t.unit = none
        ∧ unitRole d t.unit = t.role ∧ flag d (CEA_CEn_STATE t.unit) 8 = true ∧ flag d (CEA_CEn_STATE t.unit) 9 = true
        ∧ fld d (BST_UNITu_STATUS t.unit) 9 8 = 1
        ∧ fld d (BST_UNITu_STATUS t.unit) 31 16 = Nat.min 65535 (fld s.dev (BST_UNITu_STATUS t.unit) 31 16 + 1)
        ∧ d.cea = s.dev.cea ∧ RegsExcept [BST_STATUS, BST_UNITu_STATUS t.unit, CEA_CEn_STATE t.unit] s.dev d) ∧
    (∀ (a : Fin 4) (n : Nat), flag s.dev FLS_STATUS 4 = true → spareEngine s.dev = some t.unit → t.role = 0 →
      s.dev.cea.handover = none → (∀ x : Fin 4, axisInUse s.dev x = true → (ceAxis s.dev x).takeover = .none) →
      nextRound 4 s.dev.fls.axis (axisInUse s.dev) = some a.val → servingEngine s.dev a = some n →
      ∃ d, Goes (exec (.bstSliceDone 4096 true true) s) s d ∧ d.fls.axis = (a.val + 1) % 4
        ∧ (∃ x, d.cea.handover = some x ∧ x.axis = a ∧ x.incoming = t.unit ∧ x.incumbent = n)
        ∧ fld d CEA_HANDOVER_STATUS 1 0 = 1 ∧ fld d CEA_HANDOVER_STATUS 10 8 = 0)) ∧
  (∀ (s : State) (t : UnitTest) (n : Fin 4), Acts s → s.dev.bst.running = some t.unit → unitTest s.dev t.unit = some t →
    t.unit = 8 + n.val → t.slice = 31 →
    (flag s.dev FLS_STATUS 5 = false →
      ∃ d, Goes (exec (.bstSliceDone 4096 true true) s) s d ∧ d.bst.running = none ∧ unitTest d t.unit = none
        ∧ pair d n = { pair s.dev n with role := pairRoleOf t.role, tested := true, testPass := true }
        ∧ fld d (BST_UNITu_STATUS t.unit) 9 8 = 1) ∧
    (∀ m : Fin 4, flag s.dev FLS_STATUS 5 = true → t.role = 0 → sparePair s.dev = some n.val → m ≠ n →
      (pair s.dev m).role = .serving → (pair s.dev m).task = s.dev.fls.task →
      ∃ d, Goes (exec (.bstSliceDone 4096 true true) s) s d ∧ (pair d m).yieldReq = true
        ∧ (pair d m).yieldFrom = s.dev.ltb.toNat ∧ d.fls.task = (s.dev.fls.task + 1) % 3 ∧ (pair d n).role = .spare))) ∧
  ((∀ (s : State) (i : Initiator) (v : Word) (c : Instr) (on : Bool), Acts s → WriteReaches s.dev i BST_KEY →
    (c = .bstKeyOn i v ∧ on = true) ∨ (c = .bstKeyOff i v ∧ on = false) →
    (bit v 31 = false → Goes (exec c s) s (respOk s.dev)) ∧
    (∀ e, bit v 31 = true →
      (s.dev.bst.key ≠ none ∧ e = 3) ∨ (s.dev.bst.key = none ∧ fld s.dev SIS_STATE 11 8 ≠ 0 ∧ e = 1) ∨
        (s.dev.bst.key = none ∧ fld s.dev SIS_STATE 11 8 = 0 ∧ (∃ g : Fin 8, (vget s.dev.pwm.groups g).running = true)
          ∧ e = 2) →
      ∃ d, Goes (exec c s) s d ∧ d.response = ⟨true, 0⟩ ∧ fld d BST_KEY_STATUS 2 0 = e ∧ d.bst = s.dev.bst
        ∧ fld d BST_KEY_STATUS 31 3 = fld s.dev BST_KEY_STATUS 31 3 ∧ RegsExcept [BST_KEY_STATUS] s.dev d) ∧
    (bit v 31 = true → s.dev.bst.key = none → fld s.dev SIS_STATE 11 8 = 0 →
      (∀ g : Fin 8, (vget s.dev.pwm.groups g).running = false) →
      ∃ d, Goes (exec c s) s d ∧ d.response = ⟨false, 0⟩ ∧ d.bst = { s.dev.bst with key := some on }
        ∧ rd d BST_KEY_RESULT = 0 ∧ flag d BST_KEY_STATUS 31 = false ∧ fld d BST_KEY_STATUS 2 0 = 0
        ∧ fld d BST_KEY_STATUS 30 29 = fld s.dev BST_KEY_STATUS 30 29
        ∧ RegsExcept [BST_KEY_STATUS, BST_KEY_RESULT] s.dev d)) ∧
  (∀ (s : State) (r : List CopyResult), Acts s → r.length = 12 → s.dev.bst.key = none →
    Goes (exec (.bstKeyDone r) s) s s.dev) ∧
  (∀ (s : State) (r : List CopyResult) (on : Bool), Acts s → r.length = 12 → s.dev.bst.key = some on →
    (CopyResult.fail ∉ r →
      ∃ d, Goes (exec (.bstKeyDone r) s) s d ∧ d.bst.key = none ∧ flag d BST_KEY_STATUS 31 = true
        ∧ (∀ k : Fin 12, bits (rd d BST_KEY_RESULT) (2 * k.val + 1) (2 * k.val) = copyCode (listGet .pass r k))
        ∧ flag d BST_KEY_STATUS 30 = flag s.dev BST_KEY_STATUS 30
        ∧ flag d BST_KEY_STATUS 29 = (flag s.dev BST_KEY_STATUS 29 || (on && r.all (fun x => decide (x = .pass))))
        ∧ RegsExcept [BST_KEY_STATUS, BST_KEY_RESULT] s.dev d) ∧
    (CopyResult.fail ∈ r →
      ∃ d, GoesRaising (exec (.bstKeyDone r) s) s d Src.BST_KEY_FAIL 0 ∧ d.bst.key = none
        ∧ flag d BST_KEY_STATUS 31 = true ∧ flag d BST_KEY_STATUS 30 = true
        ∧ flag d BST_KEY_STATUS 29 = flag s.dev BST_KEY_STATUS 29
        ∧ RegsExcept [BST_KEY_STATUS, BST_KEY_RESULT] s.dev d)))

/-! ## Supplies and clocks -/

/-- SUPPLY_UNDERVOLTAGE, SUPPLY_OVERVOLTAGE and SUPPLY_RETURN (R39, R308, R511, R513, R517): what each domain's
monitor takes down, and what stays. REFERENCE_LOSS, REFERENCE_DEVIATION, PLL_FAULT, CLOCK_FAULT_RESET and
CLOCK_RECOVERED (R516): what the clock monitors show and raise, the warm reset that a lasting fault asserts, and its
end. Rests on choices of the model: log entries 11, 19, 20. -/
def Obligations.SupplyAndClockMonitors : Prop :=
  ((∀ (s : State) (x : Fin 6), Acts s → x = 0 ∨ x = 3 ∨ x = 4 →
    ∃ t, exec (.supplyUndervoltage x) s = .next t ∧ t.mem = s.mem ∧ t.pending = s.pending ∧ t.dev.phase = .held
      ∧ t.dev.ltb = s.dev.ltb ∧ flag t.dev SYS_VMON x = true ∧ flag t.dev SYS_VMON_STICKY x = true
      ∧ t.dev.jrn.ring = s.dev.jrn.ring ∧ t.dev.cte.txs = [] ∧ t.dev.evs.live = []
      ∧ (s.dev.sis.running = true → t.dev.sis = s.dev.sis ∧ ∀ x ∈ s.dev.regs, sisKey x.1 = true → x ∈ t.dev.regs)
      ∧ (s.dev.sis.running = false → t.dev.sis.running = false ∧ t.dev.sis.lockRecord = s.dev.sis.lockRecord)) ∧
  (∀ s : State, Acts s →
    ∃ t, exec (.supplyUndervoltage 1) s = .next t ∧ t.mem = s.mem ∧ t.dev.sis.running = false
      ∧ t.dev.sis.lockRecord = s.dev.sis.lockRecord ∧ t.dev.sis.fuses = s.dev.sis.fuses ∧ t.dev.sis.straps = none
      ∧ (∀ k : Fin 6, (contactor t.dev k).close = false) ∧ fld t.dev SIS_STATE 11 8 = 0
      ∧ flag t.dev SYS_VMON 1 = true ∧ flag t.dev SYS_VMON_STICKY 1 = true ∧ t.dev.phase = s.dev.phase
      ∧ (∀ o ∈ t.dev.glk.orders, o.origin ≠ .sis)) ∧
  (∀ s : State, Acts s →
    GoesWithin (exec (.supplyUndervoltage 2) s) s [0x4000, 0x4050, 0x4060] (fun d => flag d SYS_VMON 2 = true
      ∧ flag d SYS_VMON_STICKY 2 = true ∧ Reported Src.SYS_VMON_LINK 0 s.dev d
      ∧ ∀ p : Fin 64, pstate d p = 0 ∧ (pstate s.dev p = 4 → flag d (GLK_GLnn_STATUS p) 0 = true
          ∧ (port d p).edges = [] ∧ (port d p).cal = none
          ∧ (Collects s.dev Src.GLK_LINK_DOWN → flag d (FCR_SRCkkkk_STATUS Src.GLK_LINK_DOWN) 0 = true)))) ∧
  (∀ s : State, Acts s →
    ∃ t, exec (.supplyUndervoltage 5) s = .next t ∧ t.pending = s.pending ∧ t.mem = s.mem ∧ flag t.dev SYS_VMON 5 = true
      ∧ flag t.dev SYS_VMON_STICKY 5 = true ∧ t.dev.phase = s.dev.phase
      ∧ (∀ p : Fin 8, flag t.dev (ADS_Pp_STATUS p) 0 = false)
      ∧ (Collects s.dev Src.SYS_VMON_A → flag t.dev (FCR_SRCkkkk_STATUS Src.SYS_VMON_A) 0 = true)) ∧
  (∀ (s : State) (x : Fin 6), Acts s →
    GoesRaising (exec (.supplyOvervoltage x) s) s
      (setFlag SYS_VMON (8 + x) true (setFlag SYS_VMON_STICKY (8 + x) true s.dev)) Src.SYS_VMON_OV x) ∧
  (∀ (s : State) (x : Fin 6), Acts s → x ≠ 2 ∨ flag s.dev SYS_VMON 2 = false ∨
      (s.dev.phase ≠ .programmed ∧ s.dev.phase ≠ .running) →
    Goes (exec (.supplyReturn x) s) s (setFlag SYS_VMON x false (setFlag SYS_VMON (8 + x) false s.dev))) ∧
  (∀ s : State, Acts s → flag s.dev SYS_VMON 2 = true → s.dev.phase = .programmed ∨ s.dev.phase = .running →
    GoesWithin (exec (.supplyReturn 2) s) s [0x4000, 0x4060] (fun d =>
      flag d SYS_VMON 2 = false ∧ flag d SYS_VMON 10 = false ∧ rd d SYS_VMON_STICKY = rd s.dev SYS_VMON_STICKY
        ∧ ∀ p : Fin 64, (portEn s.dev p = true → pstate s.dev p = 0 → pstate d p = 1)
          ∧ (portEn s.dev p = false ∨ pstate s.dev p ≠ 0 → pstate d p = pstate s.dev p)))) ∧
  ((∀ s : State, Acts s →
    ∃ d, GoesRaising (exec .referenceLoss s) s d Src.SYS_CLK_REF 0 ∧ flag d SYS_CLK_STATUS 1 = false
      ∧ flag d SYS_CLK_STATUS 8 = true ∧ flag d SYS_CLK_STATUS 0 = flag s.dev SYS_CLK_STATUS 0
      ∧ d.sys = { s.dev.sys with refFrom := some (s.dev.sys.refFrom.getD s.dev.ltb.toNat) }
      ∧ RegsExcept [SYS_CLK_STATUS] s.dev d) ∧
  (∀ (s : State) (x : Int), Acts s → 3000 < x.natAbs → -32768 ≤ x → x ≤ 32767 →
    ∃ d, GoesRaising (exec (.referenceDeviation x) s) s d Src.SYS_CLK_REF 0 ∧ flag d SYS_CLK_STATUS 1 = false
      ∧ flag d SYS_CLK_STATUS 8 = true ∧ sfld d SYS_CLK_MEAS 15 0 = x ∧ d.sys = s.dev.sys
      ∧ RegsExcept [SYS_CLK_STATUS, SYS_CLK_MEAS] s.dev d) ∧
  (∀ (s : State) (x : Int), Acts s → x.natAbs ≤ 3000 →
    ∃ d, Goes (exec (.referenceDeviation x) s) s d ∧ flag d SYS_CLK_STATUS 1 = s.dev.sys.refFrom.isNone
      ∧ sfld d SYS_CLK_MEAS 15 0 = x ∧ flag d SYS_CLK_STATUS 8 = flag s.dev SYS_CLK_STATUS 8
      ∧ RegsExcept [SYS_CLK_STATUS, SYS_CLK_MEAS] s.dev d) ∧
  (∀ s : State, Acts s →
    ∃ d, GoesRaising (exec .pllFault s) s d Src.SYS_PLL 0 ∧ flag d SYS_CLK_STATUS 0 = false
      ∧ flag d SYS_CLK_STATUS 9 = true ∧ flag d SYS_CLK_STATUS 1 = flag s.dev SYS_CLK_STATUS 1
      ∧ d.sys = { s.dev.sys with pllFrom := some (s.dev.sys.pllFrom.getD s.dev.ltb.toNat) }
      ∧ RegsExcept [SYS_CLK_STATUS] s.dev d) ∧
  (∀ s : State, Acts s → s.dev.sys.clockReset = true ∨
      ((∀ t, s.dev.sys.refFrom = some t → s.dev.ltb.toNat < t + 16000) ∧
        (∀ t, s.dev.sys.pllFrom = some t → s.dev.ltb.toNat < t + 16000)) →
    Goes (exec .clockFaultReset s) s s.dev) ∧
  (∀ (s : State) (t : Nat), Acts s → s.dev.sys.clockReset = false →
    s.dev.sys.refFrom = some t ∨ s.dev.sys.pllFrom = some t → t + 16000 ≤ s.dev.ltb.toNat →
    s.dev.phase ≠ .held → s.dev.phase ≠ .released → s.dev.phase ≠ .sisUp → s.dev.csq.flushing = none →
    s.dev.sys.warmWaits = none →
    ∃ u, exec .clockFaultReset s = .next u ∧ u.mem = s.mem ∧ u.pending = s.pending ∧ u.dev.phase = .strapped
      ∧ rd u.dev SYS_RST_CAUSE = 16 ∧ u.dev.sys.clockReset = true ∧ u.dev.ltb = s.dev.ltb
      ∧ exec .formerCheckDone u = .next u) ∧
  (∀ s : State, Acts s →
    ∃ d, Goes (exec .clockRecovered s) s d ∧ fld d SYS_CLK_STATUS 1 0 = 3
      ∧ d.sys = { s.dev.sys with refFrom := none, pllFrom := none, clockReset := false }
      ∧ RegsExcept [SYS_CLK_STATUS] s.dev d))
/-! ## Reset -/

/-- Registers whose tables state a reset value other than 0, with that value: at least one of every unit that has one. -/
def statedResets : List (Nat × Word) := [
  (ATB_AXn_TIMEOUT 3, 0x0004E200), (EVS_CTRL, 0x00200001), (PFC_PFn_CARD 7, 0x00100050), (PFC_PFn_CPR 0, 0x00001000),
  (PFC_AXa_VOTE_CFG 2, 0x040005B0), (PFC_EXCe_PER 3, 0x00013880), (EEM_EMn_CFG 1, 0x00005000),
  (ADS_Pp_COEF_A 7, 0x40000000), (ADS_AINnn_CFG 63, 0x00002000), (ADS_RSa_CFG 1, 0x00080000),
  (SDM_SDnn_FILT 23, 0x80100340), (FCMP_CMPkk_CFG 31, 0x40000100), (FCMP_CMPkk_THR 0, 0x7FFF8000),
  (CEA_AXa_CFG 3, 0x00000300), (CEA_AXa_RV_THR 0, 0x00000148), (CEA_AXa_FR_TIME 0, 0x003200C8),
  (PWM_PLnn_MINPW 31, 0x80000050), (PWM_PLnn_BLANK 0, 0x00030320), (PWM_CGg_LEAD 7, 0x00000640),
  (GLK_GLnn_STATE 63, 0x00001000), (GLK_CTRL, 0x00000020), (GLK_SAFE_DT, 0x00000320), (PSP_AXa_SPEED 3, 0x00010000),
  (THM_AXa_FACTOR 0, 0x00FF7FFF), (ICF_DEFAULT, 0x00000077), (CSQ_CTRL, 0x00640032), (CMD_TIME, 0x00640014),
  (CTE_CTRL, 0x000003E8), (ETHn_VLAN 1, 0x00000700), (NTU_CTRL, 0x80000177), (NTU_STEP_LIMIT, 0x000003E8),
  (TRC_CFG, 0x0000BAF5), (BST_CTRL, 0x00000001), (FLS_CTRL, 0x00000001)]
/-- The state right after reset, where the spec gives the value (R37, R41, R55, R176, R391, R406, R506): no command
waits, the LTB is 0, power-on reset is held, no engine serves, and the registers with a stated value that is not 0
hold it. Rests on choices of the model: log entries 9, 14, 16. -/
def Obligations.ResetValues : Prop :=
  State.reset.pending = [] ∧ State.reset.dev.ltb = 0 ∧ State.reset.dev.phase = .held ∧ Between State.reset
    ∧ inert State.reset.dev = true ∧ (∀ x ∈ statedResets, rd State.reset.dev x.1 = x.2)
    ∧ (∀ a : Fin 4, fld State.reset.dev (ATB_AXn_CFG a) 29 28 = 0)
    ∧ (∀ c : Fin 4, flag State.reset.dev (CAN_CTRL c) 1 = true ∧ flag State.reset.dev (CAN_CTRL c) 31 = false)
    ∧ (∀ t : Fin 11, flag State.reset.dev (FLS_TASKt_CFG t) 31 = true)
    ∧ fld State.reset.dev (FLS_TASKt_CFG 2) 23 0 = 2000 ∧ fld State.reset.dev (FLS_TASKt_CFG 3) 23 0 = 1000
    ∧ (∀ k : Fin 1024, rd State.reset.dev (FCR_SRCkkkk_STATUS k) = 0)
    ∧ (∀ a, 0x20000000 ≤ a → a ≤ 0x2FFFFFFF → Memory.read State.reset.mem a = 0)
    ∧ (∀ a, 0x10000000 ≤ a → a ≤ 0x10FFFFFF → Memory.read State.reset.mem a = 0xFF)
end

