-- ==== Sys2Proof/Laws/State.lean ====
section
/-! SUPPORT. What each named update leaves of every field of the device: one lemma per field and update, so that no proof
unfolds a record update. -/

namespace Sys2Proof.Machine

@[simp] theorem wr_phase (a : Nat) (v : Word) (d : Dev) : (wr a v d).phase = d.phase := rfl
@[simp] theorem wr_ltb (a : Nat) (v : Word) (d : Dev) : (wr a v d).ltb = d.ltb := rfl
@[simp] theorem wr_raised (a : Nat) (v : Word) (d : Dev) : (wr a v d).raised = d.raised := rfl
@[simp] theorem wr_response (a : Nat) (v : Word) (d : Dev) : (wr a v d).response = d.response := rfl
@[simp] theorem wr_draws (a : Nat) (v : Word) (d : Dev) : (wr a v d).draws = d.draws := rfl
@[simp] theorem wr_cfg (a : Nat) (v : Word) (d : Dev) : (wr a v d).cfg = d.cfg := rfl
@[simp] theorem wr_pwm (a : Nat) (v : Word) (d : Dev) : (wr a v d).pwm = d.pwm := rfl
@[simp] theorem wr_glk (a : Nat) (v : Word) (d : Dev) : (wr a v d).glk = d.glk := rfl
@[simp] theorem wr_psp (a : Nat) (v : Word) (d : Dev) : (wr a v d).psp = d.psp := rfl
@[simp] theorem wr_sis (a : Nat) (v : Word) (d : Dev) : (wr a v d).sis = d.sis := rfl
@[simp] theorem wr_fcr (a : Nat) (v : Word) (d : Dev) : (wr a v d).fcr = d.fcr := rfl
@[simp] theorem wr_jrn (a : Nat) (v : Word) (d : Dev) : (wr a v d).jrn = d.jrn := rfl
@[simp] theorem wr_cpx (a : Nat) (v : Word) (d : Dev) : (wr a v d).cpx = d.cpx := rfl
@[simp] theorem wr_icf (a : Nat) (v : Word) (d : Dev) : (wr a v d).icf = d.icf := rfl
@[simp] theorem wr_cea (a : Nat) (v : Word) (d : Dev) : (wr a v d).cea = d.cea := rfl
@[simp] theorem wr_atb (a : Nat) (v : Word) (d : Dev) : (wr a v d).atb = d.atb := rfl
@[simp] theorem wr_evs (a : Nat) (v : Word) (d : Dev) : (wr a v d).evs = d.evs := rfl
@[simp] theorem wr_pfc (a : Nat) (v : Word) (d : Dev) : (wr a v d).pfc = d.pfc := rfl
@[simp] theorem wr_sense (a : Nat) (v : Word) (d : Dev) : (wr a v d).sense = d.sense := rfl
@[simp] theorem wr_thm (a : Nat) (v : Word) (d : Dev) : (wr a v d).thm = d.thm := rfl
@[simp] theorem wr_sys (a : Nat) (v : Word) (d : Dev) : (wr a v d).sys = d.sys := rfl
@[simp] theorem wr_bst (a : Nat) (v : Word) (d : Dev) : (wr a v d).bst = d.bst := rfl
@[simp] theorem wr_fls (a : Nat) (v : Word) (d : Dev) : (wr a v d).fls = d.fls := rfl
@[simp] theorem wr_csq (a : Nat) (v : Word) (d : Dev) : (wr a v d).csq = d.csq := rfl
@[simp] theorem wr_cte (a : Nat) (v : Word) (d : Dev) : (wr a v d).cte = d.cte := rfl
@[simp] theorem wr_eth (a : Nat) (v : Word) (d : Dev) : (wr a v d).eth = d.eth := rfl
@[simp] theorem wr_ntu (a : Nat) (v : Word) (d : Dev) : (wr a v d).ntu = d.ntu := rfl
@[simp] theorem wr_trc (a : Nat) (v : Word) (d : Dev) : (wr a v d).trc = d.trc := rfl
@[simp] theorem wr_can (a : Nat) (v : Word) (d : Dev) : (wr a v d).can = d.can := rfl
@[simp] theorem wr_cmds (a : Nat) (v : Word) (d : Dev) : (wr a v d).cmds = d.cmds := rfl
@[simp] theorem now_wr (a : Nat) (v : Word) (d : Dev) : now (wr a v d) = now d := rfl
@[simp] theorem nowLo_wr (a : Nat) (v : Word) (d : Dev) : nowLo (wr a v d) = nowLo d := rfl

@[simp] theorem setFld_phase (a hi lo v : Nat) (d : Dev) : (setFld a hi lo v d).phase = d.phase := rfl
@[simp] theorem setFld_ltb (a hi lo v : Nat) (d : Dev) : (setFld a hi lo v d).ltb = d.ltb := rfl
@[simp] theorem setFld_raised (a hi lo v : Nat) (d : Dev) : (setFld a hi lo v d).raised = d.raised := rfl
@[simp] theorem setFld_response (a hi lo v : Nat) (d : Dev) : (setFld a hi lo v d).response = d.response := rfl
@[simp] theorem setFld_draws (a hi lo v : Nat) (d : Dev) : (setFld a hi lo v d).draws = d.draws := rfl
@[simp] theorem setFld_cfg (a hi lo v : Nat) (d : Dev) : (setFld a hi lo v d).cfg = d.cfg := rfl
@[simp] theorem setFld_pwm (a hi lo v : Nat) (d : Dev) : (setFld a hi lo v d).pwm = d.pwm := rfl
@[simp] theorem setFld_glk (a hi lo v : Nat) (d : Dev) : (setFld a hi lo v d).glk = d.glk := rfl
@[simp] theorem setFld_psp (a hi lo v : Nat) (d : Dev) : (setFld a hi lo v d).psp = d.psp := rfl
@[simp] theorem setFld_sis (a hi lo v : Nat) (d : Dev) : (setFld a hi lo v d).sis = d.sis := rfl
@[simp] theorem setFld_fcr (a hi lo v : Nat) (d : Dev) : (setFld a hi lo v d).fcr = d.fcr := rfl
@[simp] theorem setFld_jrn (a hi lo v : Nat) (d : Dev) : (setFld a hi lo v d).jrn = d.jrn := rfl
@[simp] theorem setFld_cpx (a hi lo v : Nat) (d : Dev) : (setFld a hi lo v d).cpx = d.cpx := rfl
@[simp] theorem setFld_icf (a hi lo v : Nat) (d : Dev) : (setFld a hi lo v d).icf = d.icf := rfl
@[simp] theorem setFld_cea (a hi lo v : Nat) (d : Dev) : (setFld a hi lo v d).cea = d.cea := rfl
@[simp] theorem setFld_atb (a hi lo v : Nat) (d : Dev) : (setFld a hi lo v d).atb = d.atb := rfl
@[simp] theorem setFld_evs (a hi lo v : Nat) (d : Dev) : (setFld a hi lo v d).evs = d.evs := rfl
@[simp] theorem setFld_pfc (a hi lo v : Nat) (d : Dev) : (setFld a hi lo v d).pfc = d.pfc := rfl
@[simp] theorem setFld_sense (a hi lo v : Nat) (d : Dev) : (setFld a hi lo v d).sense = d.sense := rfl
@[simp] theorem setFld_thm (a hi lo v : Nat) (d : Dev) : (setFld a hi lo v d).thm = d.thm := rfl
@[simp] theorem setFld_sys (a hi lo v : Nat) (d : Dev) : (setFld a hi lo v d).sys = d.sys := rfl
@[simp] theorem setFld_bst (a hi lo v : Nat) (d : Dev) : (setFld a hi lo v d).bst = d.bst := rfl
@[simp] theorem setFld_fls (a hi lo v : Nat) (d : Dev) : (setFld a hi lo v d).fls = d.fls := rfl
@[simp] theorem setFld_csq (a hi lo v : Nat) (d : Dev) : (setFld a hi lo v d).csq = d.csq := rfl
@[simp] theorem setFld_cte (a hi lo v : Nat) (d : Dev) : (setFld a hi lo v d).cte = d.cte := rfl
@[simp] theorem setFld_eth (a hi lo v : Nat) (d : Dev) : (setFld a hi lo v d).eth = d.eth := rfl
@[simp] theorem setFld_ntu (a hi lo v : Nat) (d : Dev) : (setFld a hi lo v d).ntu = d.ntu := rfl
@[simp] theorem setFld_trc (a hi lo v : Nat) (d : Dev) : (setFld a hi lo v d).trc = d.trc := rfl
@[simp] theorem setFld_can (a hi lo v : Nat) (d : Dev) : (setFld a hi lo v d).can = d.can := rfl
@[simp] theorem setFld_cmds (a hi lo v : Nat) (d : Dev) : (setFld a hi lo v d).cmds = d.cmds := rfl
@[simp] theorem now_setFld (a hi lo v : Nat) (d : Dev) : now (setFld a hi lo v d) = now d := rfl
@[simp] theorem nowLo_setFld (a hi lo v : Nat) (d : Dev) : nowLo (setFld a hi lo v d) = nowLo d := rfl

@[simp] theorem setFlag_phase (a i : Nat) (b : Bool) (d : Dev) : (setFlag a i b d).phase = d.phase := rfl
@[simp] theorem setFlag_ltb (a i : Nat) (b : Bool) (d : Dev) : (setFlag a i b d).ltb = d.ltb := rfl
@[simp] theorem setFlag_raised (a i : Nat) (b : Bool) (d : Dev) : (setFlag a i b d).raised = d.raised := rfl
@[simp] theorem setFlag_response (a i : Nat) (b : Bool) (d : Dev) : (setFlag a i b d).response = d.response := rfl
@[simp] theorem setFlag_draws (a i : Nat) (b : Bool) (d : Dev) : (setFlag a i b d).draws = d.draws := rfl
@[simp] theorem setFlag_cfg (a i : Nat) (b : Bool) (d : Dev) : (setFlag a i b d).cfg = d.cfg := rfl
@[simp] theorem setFlag_pwm (a i : Nat) (b : Bool) (d : Dev) : (setFlag a i b d).pwm = d.pwm := rfl
@[simp] theorem setFlag_glk (a i : Nat) (b : Bool) (d : Dev) : (setFlag a i b d).glk = d.glk := rfl
@[simp] theorem setFlag_psp (a i : Nat) (b : Bool) (d : Dev) : (setFlag a i b d).psp = d.psp := rfl
@[simp] theorem setFlag_sis (a i : Nat) (b : Bool) (d : Dev) : (setFlag a i b d).sis = d.sis := rfl
@[simp] theorem setFlag_fcr (a i : Nat) (b : Bool) (d : Dev) : (setFlag a i b d).fcr = d.fcr := rfl
@[simp] theorem setFlag_jrn (a i : Nat) (b : Bool) (d : Dev) : (setFlag a i b d).jrn = d.jrn := rfl
@[simp] theorem setFlag_cpx (a i : Nat) (b : Bool) (d : Dev) : (setFlag a i b d).cpx = d.cpx := rfl
@[simp] theorem setFlag_icf (a i : Nat) (b : Bool) (d : Dev) : (setFlag a i b d).icf = d.icf := rfl
@[simp] theorem setFlag_cea (a i : Nat) (b : Bool) (d : Dev) : (setFlag a i b d).cea = d.cea := rfl
@[simp] theorem setFlag_atb (a i : Nat) (b : Bool) (d : Dev) : (setFlag a i b d).atb = d.atb := rfl
@[simp] theorem setFlag_evs (a i : Nat) (b : Bool) (d : Dev) : (setFlag a i b d).evs = d.evs := rfl
@[simp] theorem setFlag_pfc (a i : Nat) (b : Bool) (d : Dev) : (setFlag a i b d).pfc = d.pfc := rfl
@[simp] theorem setFlag_sense (a i : Nat) (b : Bool) (d : Dev) : (setFlag a i b d).sense = d.sense := rfl
@[simp] theorem setFlag_thm (a i : Nat) (b : Bool) (d : Dev) : (setFlag a i b d).thm = d.thm := rfl
@[simp] theorem setFlag_sys (a i : Nat) (b : Bool) (d : Dev) : (setFlag a i b d).sys = d.sys := rfl
@[simp] theorem setFlag_bst (a i : Nat) (b : Bool) (d : Dev) : (setFlag a i b d).bst = d.bst := rfl
@[simp] theorem setFlag_fls (a i : Nat) (b : Bool) (d : Dev) : (setFlag a i b d).fls = d.fls := rfl
@[simp] theorem setFlag_csq (a i : Nat) (b : Bool) (d : Dev) : (setFlag a i b d).csq = d.csq := rfl
@[simp] theorem setFlag_cte (a i : Nat) (b : Bool) (d : Dev) : (setFlag a i b d).cte = d.cte := rfl
@[simp] theorem setFlag_eth (a i : Nat) (b : Bool) (d : Dev) : (setFlag a i b d).eth = d.eth := rfl
@[simp] theorem setFlag_ntu (a i : Nat) (b : Bool) (d : Dev) : (setFlag a i b d).ntu = d.ntu := rfl
@[simp] theorem setFlag_trc (a i : Nat) (b : Bool) (d : Dev) : (setFlag a i b d).trc = d.trc := rfl
@[simp] theorem setFlag_can (a i : Nat) (b : Bool) (d : Dev) : (setFlag a i b d).can = d.can := rfl
@[simp] theorem setFlag_cmds (a i : Nat) (b : Bool) (d : Dev) : (setFlag a i b d).cmds = d.cmds := rfl
@[simp] theorem now_setFlag (a i : Nat) (b : Bool) (d : Dev) : now (setFlag a i b d) = now d := rfl
@[simp] theorem nowLo_setFlag (a i : Nat) (b : Bool) (d : Dev) : nowLo (setFlag a i b d) = nowLo d := rfl

@[simp] theorem incFld_phase (a hi lo : Nat) (d : Dev) : (incFld a hi lo d).phase = d.phase := rfl
@[simp] theorem incFld_ltb (a hi lo : Nat) (d : Dev) : (incFld a hi lo d).ltb = d.ltb := rfl
@[simp] theorem incFld_raised (a hi lo : Nat) (d : Dev) : (incFld a hi lo d).raised = d.raised := rfl
@[simp] theorem incFld_response (a hi lo : Nat) (d : Dev) : (incFld a hi lo d).response = d.response := rfl
@[simp] theorem incFld_draws (a hi lo : Nat) (d : Dev) : (incFld a hi lo d).draws = d.draws := rfl
@[simp] theorem incFld_cfg (a hi lo : Nat) (d : Dev) : (incFld a hi lo d).cfg = d.cfg := rfl
@[simp] theorem incFld_pwm (a hi lo : Nat) (d : Dev) : (incFld a hi lo d).pwm = d.pwm := rfl
@[simp] theorem incFld_glk (a hi lo : Nat) (d : Dev) : (incFld a hi lo d).glk = d.glk := rfl
@[simp] theorem incFld_psp (a hi lo : Nat) (d : Dev) : (incFld a hi lo d).psp = d.psp := rfl
@[simp] theorem incFld_sis (a hi lo : Nat) (d : Dev) : (incFld a hi lo d).sis = d.sis := rfl
@[simp] theorem incFld_fcr (a hi lo : Nat) (d : Dev) : (incFld a hi lo d).fcr = d.fcr := rfl
@[simp] theorem incFld_jrn (a hi lo : Nat) (d : Dev) : (incFld a hi lo d).jrn = d.jrn := rfl
@[simp] theorem incFld_cpx (a hi lo : Nat) (d : Dev) : (incFld a hi lo d).cpx = d.cpx := rfl
@[simp] theorem incFld_icf (a hi lo : Nat) (d : Dev) : (incFld a hi lo d).icf = d.icf := rfl
@[simp] theorem incFld_cea (a hi lo : Nat) (d : Dev) : (incFld a hi lo d).cea = d.cea := rfl
@[simp] theorem incFld_atb (a hi lo : Nat) (d : Dev) : (incFld a hi lo d).atb = d.atb := rfl
@[simp] theorem incFld_evs (a hi lo : Nat) (d : Dev) : (incFld a hi lo d).evs = d.evs := rfl
@[simp] theorem incFld_pfc (a hi lo : Nat) (d : Dev) : (incFld a hi lo d).pfc = d.pfc := rfl
@[simp] theorem incFld_sense (a hi lo : Nat) (d : Dev) : (incFld a hi lo d).sense = d.sense := rfl
@[simp] theorem incFld_thm (a hi lo : Nat) (d : Dev) : (incFld a hi lo d).thm = d.thm := rfl
@[simp] theorem incFld_sys (a hi lo : Nat) (d : Dev) : (incFld a hi lo d).sys = d.sys := rfl
@[simp] theorem incFld_bst (a hi lo : Nat) (d : Dev) : (incFld a hi lo d).bst = d.bst := rfl
@[simp] theorem incFld_fls (a hi lo : Nat) (d : Dev) : (incFld a hi lo d).fls = d.fls := rfl
@[simp] theorem incFld_csq (a hi lo : Nat) (d : Dev) : (incFld a hi lo d).csq = d.csq := rfl
@[simp] theorem incFld_cte (a hi lo : Nat) (d : Dev) : (incFld a hi lo d).cte = d.cte := rfl
@[simp] theorem incFld_eth (a hi lo : Nat) (d : Dev) : (incFld a hi lo d).eth = d.eth := rfl
@[simp] theorem incFld_ntu (a hi lo : Nat) (d : Dev) : (incFld a hi lo d).ntu = d.ntu := rfl
@[simp] theorem incFld_trc (a hi lo : Nat) (d : Dev) : (incFld a hi lo d).trc = d.trc := rfl
@[simp] theorem incFld_can (a hi lo : Nat) (d : Dev) : (incFld a hi lo d).can = d.can := rfl
@[simp] theorem incFld_cmds (a hi lo : Nat) (d : Dev) : (incFld a hi lo d).cmds = d.cmds := rfl
@[simp] theorem now_incFld (a hi lo : Nat) (d : Dev) : now (incFld a hi lo d) = now d := rfl
@[simp] theorem nowLo_incFld (a hi lo : Nat) (d : Dev) : nowLo (incFld a hi lo d) = nowLo d := rfl

@[simp] theorem addFld_phase (a hi lo n : Nat) (d : Dev) : (addFld a hi lo n d).phase = d.phase := rfl
@[simp] theorem addFld_ltb (a hi lo n : Nat) (d : Dev) : (addFld a hi lo n d).ltb = d.ltb := rfl
@[simp] theorem addFld_raised (a hi lo n : Nat) (d : Dev) : (addFld a hi lo n d).raised = d.raised := rfl
@[simp] theorem addFld_response (a hi lo n : Nat) (d : Dev) : (addFld a hi lo n d).response = d.response := rfl
@[simp] theorem addFld_draws (a hi lo n : Nat) (d : Dev) : (addFld a hi lo n d).draws = d.draws := rfl
@[simp] theorem addFld_cfg (a hi lo n : Nat) (d : Dev) : (addFld a hi lo n d).cfg = d.cfg := rfl
@[simp] theorem addFld_pwm (a hi lo n : Nat) (d : Dev) : (addFld a hi lo n d).pwm = d.pwm := rfl
@[simp] theorem addFld_glk (a hi lo n : Nat) (d : Dev) : (addFld a hi lo n d).glk = d.glk := rfl
@[simp] theorem addFld_psp (a hi lo n : Nat) (d : Dev) : (addFld a hi lo n d).psp = d.psp := rfl
@[simp] theorem addFld_sis (a hi lo n : Nat) (d : Dev) : (addFld a hi lo n d).sis = d.sis := rfl
@[simp] theorem addFld_fcr (a hi lo n : Nat) (d : Dev) : (addFld a hi lo n d).fcr = d.fcr := rfl
@[simp] theorem addFld_jrn (a hi lo n : Nat) (d : Dev) : (addFld a hi lo n d).jrn = d.jrn := rfl
@[simp] theorem addFld_cpx (a hi lo n : Nat) (d : Dev) : (addFld a hi lo n d).cpx = d.cpx := rfl
@[simp] theorem addFld_icf (a hi lo n : Nat) (d : Dev) : (addFld a hi lo n d).icf = d.icf := rfl
@[simp] theorem addFld_cea (a hi lo n : Nat) (d : Dev) : (addFld a hi lo n d).cea = d.cea := rfl
@[simp] theorem addFld_atb (a hi lo n : Nat) (d : Dev) : (addFld a hi lo n d).atb = d.atb := rfl
@[simp] theorem addFld_evs (a hi lo n : Nat) (d : Dev) : (addFld a hi lo n d).evs = d.evs := rfl
@[simp] theorem addFld_pfc (a hi lo n : Nat) (d : Dev) : (addFld a hi lo n d).pfc = d.pfc := rfl
@[simp] theorem addFld_sense (a hi lo n : Nat) (d : Dev) : (addFld a hi lo n d).sense = d.sense := rfl
@[simp] theorem addFld_thm (a hi lo n : Nat) (d : Dev) : (addFld a hi lo n d).thm = d.thm := rfl
@[simp] theorem addFld_sys (a hi lo n : Nat) (d : Dev) : (addFld a hi lo n d).sys = d.sys := rfl
@[simp] theorem addFld_bst (a hi lo n : Nat) (d : Dev) : (addFld a hi lo n d).bst = d.bst := rfl
@[simp] theorem addFld_fls (a hi lo n : Nat) (d : Dev) : (addFld a hi lo n d).fls = d.fls := rfl
@[simp] theorem addFld_csq (a hi lo n : Nat) (d : Dev) : (addFld a hi lo n d).csq = d.csq := rfl
@[simp] theorem addFld_cte (a hi lo n : Nat) (d : Dev) : (addFld a hi lo n d).cte = d.cte := rfl
@[simp] theorem addFld_eth (a hi lo n : Nat) (d : Dev) : (addFld a hi lo n d).eth = d.eth := rfl
@[simp] theorem addFld_ntu (a hi lo n : Nat) (d : Dev) : (addFld a hi lo n d).ntu = d.ntu := rfl
@[simp] theorem addFld_trc (a hi lo n : Nat) (d : Dev) : (addFld a hi lo n d).trc = d.trc := rfl
@[simp] theorem addFld_can (a hi lo n : Nat) (d : Dev) : (addFld a hi lo n d).can = d.can := rfl
@[simp] theorem addFld_cmds (a hi lo n : Nat) (d : Dev) : (addFld a hi lo n d).cmds = d.cmds := rfl
@[simp] theorem now_addFld (a hi lo n : Nat) (d : Dev) : now (addFld a hi lo n d) = now d := rfl
@[simp] theorem nowLo_addFld (a hi lo n : Nat) (d : Dev) : nowLo (addFld a hi lo n d) = nowLo d := rfl

@[simp] theorem raise_phase (k x : Nat) (d : Dev) : (raise k x d).phase = d.phase := rfl
@[simp] theorem raise_ltb (k x : Nat) (d : Dev) : (raise k x d).ltb = d.ltb := rfl
@[simp] theorem raise_regs (k x : Nat) (d : Dev) : (raise k x d).regs = d.regs := rfl
@[simp] theorem raise_response (k x : Nat) (d : Dev) : (raise k x d).response = d.response := rfl
@[simp] theorem raise_draws (k x : Nat) (d : Dev) : (raise k x d).draws = d.draws := rfl
@[simp] theorem raise_cfg (k x : Nat) (d : Dev) : (raise k x d).cfg = d.cfg := rfl
@[simp] theorem raise_pwm (k x : Nat) (d : Dev) : (raise k x d).pwm = d.pwm := rfl
@[simp] theorem raise_glk (k x : Nat) (d : Dev) : (raise k x d).glk = d.glk := rfl
@[simp] theorem raise_psp (k x : Nat) (d : Dev) : (raise k x d).psp = d.psp := rfl
@[simp] theorem raise_sis (k x : Nat) (d : Dev) : (raise k x d).sis = d.sis := rfl
@[simp] theorem raise_fcr (k x : Nat) (d : Dev) : (raise k x d).fcr = d.fcr := rfl
@[simp] theorem raise_jrn (k x : Nat) (d : Dev) : (raise k x d).jrn = d.jrn := rfl
@[simp] theorem raise_cpx (k x : Nat) (d : Dev) : (raise k x d).cpx = d.cpx := rfl
@[simp] theorem raise_icf (k x : Nat) (d : Dev) : (raise k x d).icf = d.icf := rfl
@[simp] theorem raise_cea (k x : Nat) (d : Dev) : (raise k x d).cea = d.cea := rfl
@[simp] theorem raise_atb (k x : Nat) (d : Dev) : (raise k x d).atb = d.atb := rfl
@[simp] theorem raise_evs (k x : Nat) (d : Dev) : (raise k x d).evs = d.evs := rfl
@[simp] theorem raise_pfc (k x : Nat) (d : Dev) : (raise k x d).pfc = d.pfc := rfl
@[simp] theorem raise_sense (k x : Nat) (d : Dev) : (raise k x d).sense = d.sense := rfl
@[simp] theorem raise_thm (k x : Nat) (d : Dev) : (raise k x d).thm = d.thm := rfl
@[simp] theorem raise_sys (k x : Nat) (d : Dev) : (raise k x d).sys = d.sys := rfl
@[simp] theorem raise_bst (k x : Nat) (d : Dev) : (raise k x d).bst = d.bst := rfl
@[simp] theorem raise_fls (k x : Nat) (d : Dev) : (raise k x d).fls = d.fls := rfl
@[simp] theorem raise_csq (k x : Nat) (d : Dev) : (raise k x d).csq = d.csq := rfl
@[simp] theorem raise_cte (k x : Nat) (d : Dev) : (raise k x d).cte = d.cte := rfl
@[simp] theorem raise_eth (k x : Nat) (d : Dev) : (raise k x d).eth = d.eth := rfl
@[simp] theorem raise_ntu (k x : Nat) (d : Dev) : (raise k x d).ntu = d.ntu := rfl
@[simp] theorem raise_trc (k x : Nat) (d : Dev) : (raise k x d).trc = d.trc := rfl
@[simp] theorem raise_can (k x : Nat) (d : Dev) : (raise k x d).can = d.can := rfl
@[simp] theorem raise_cmds (k x : Nat) (d : Dev) : (raise k x d).cmds = d.cmds := rfl
@[simp] theorem rd_raise (k x : Nat) (d : Dev) (b : Nat) : rd (raise k x d) b = rd d b := rfl
@[simp] theorem now_raise (k x : Nat) (d : Dev) : now (raise k x d) = now d := rfl
@[simp] theorem nowLo_raise (k x : Nat) (d : Dev) : nowLo (raise k x d) = nowLo d := rfl

@[simp] theorem raiseForced_phase (k : Nat) (d : Dev) : (raiseForced k d).phase = d.phase := rfl
@[simp] theorem raiseForced_ltb (k : Nat) (d : Dev) : (raiseForced k d).ltb = d.ltb := rfl
@[simp] theorem raiseForced_regs (k : Nat) (d : Dev) : (raiseForced k d).regs = d.regs := rfl
@[simp] theorem raiseForced_response (k : Nat) (d : Dev) : (raiseForced k d).response = d.response := rfl
@[simp] theorem raiseForced_draws (k : Nat) (d : Dev) : (raiseForced k d).draws = d.draws := rfl
@[simp] theorem raiseForced_cfg (k : Nat) (d : Dev) : (raiseForced k d).cfg = d.cfg := rfl
@[simp] theorem raiseForced_pwm (k : Nat) (d : Dev) : (raiseForced k d).pwm = d.pwm := rfl
@[simp] theorem raiseForced_glk (k : Nat) (d : Dev) : (raiseForced k d).glk = d.glk := rfl
@[simp] theorem raiseForced_psp (k : Nat) (d : Dev) : (raiseForced k d).psp = d.psp := rfl
@[simp] theorem raiseForced_sis (k : Nat) (d : Dev) : (raiseForced k d).sis = d.sis := rfl
@[simp] theorem raiseForced_fcr (k : Nat) (d : Dev) : (raiseForced k d).fcr = d.fcr := rfl
@[simp] theorem raiseForced_jrn (k : Nat) (d : Dev) : (raiseForced k d).jrn = d.jrn := rfl
@[simp] theorem raiseForced_cpx (k : Nat) (d : Dev) : (raiseForced k d).cpx = d.cpx := rfl
@[simp] theorem raiseForced_icf (k : Nat) (d : Dev) : (raiseForced k d).icf = d.icf := rfl
@[simp] theorem raiseForced_cea (k : Nat) (d : Dev) : (raiseForced k d).cea = d.cea := rfl
@[simp] theorem raiseForced_atb (k : Nat) (d : Dev) : (raiseForced k d).atb = d.atb := rfl
@[simp] theorem raiseForced_evs (k : Nat) (d : Dev) : (raiseForced k d).evs = d.evs := rfl
@[simp] theorem raiseForced_pfc (k : Nat) (d : Dev) : (raiseForced k d).pfc = d.pfc := rfl
@[simp] theorem raiseForced_sense (k : Nat) (d : Dev) : (raiseForced k d).sense = d.sense := rfl
@[simp] theorem raiseForced_thm (k : Nat) (d : Dev) : (raiseForced k d).thm = d.thm := rfl
@[simp] theorem raiseForced_sys (k : Nat) (d : Dev) : (raiseForced k d).sys = d.sys := rfl
@[simp] theorem raiseForced_bst (k : Nat) (d : Dev) : (raiseForced k d).bst = d.bst := rfl
@[simp] theorem raiseForced_fls (k : Nat) (d : Dev) : (raiseForced k d).fls = d.fls := rfl
@[simp] theorem raiseForced_csq (k : Nat) (d : Dev) : (raiseForced k d).csq = d.csq := rfl
@[simp] theorem raiseForced_cte (k : Nat) (d : Dev) : (raiseForced k d).cte = d.cte := rfl
@[simp] theorem raiseForced_eth (k : Nat) (d : Dev) : (raiseForced k d).eth = d.eth := rfl
@[simp] theorem raiseForced_ntu (k : Nat) (d : Dev) : (raiseForced k d).ntu = d.ntu := rfl
@[simp] theorem raiseForced_trc (k : Nat) (d : Dev) : (raiseForced k d).trc = d.trc := rfl
@[simp] theorem raiseForced_can (k : Nat) (d : Dev) : (raiseForced k d).can = d.can := rfl
@[simp] theorem raiseForced_cmds (k : Nat) (d : Dev) : (raiseForced k d).cmds = d.cmds := rfl
@[simp] theorem rd_raiseForced (k : Nat) (d : Dev) (b : Nat) : rd (raiseForced k d) b = rd d b := rfl
@[simp] theorem now_raiseForced (k : Nat) (d : Dev) : now (raiseForced k d) = now d := rfl
@[simp] theorem nowLo_raiseForced (k : Nat) (d : Dev) : nowLo (raiseForced k d) = nowLo d := rfl

@[simp] theorem respOk_phase  (d : Dev) : (respOk d).phase = d.phase := rfl
@[simp] theorem respOk_ltb  (d : Dev) : (respOk d).ltb = d.ltb := rfl
@[simp] theorem respOk_regs  (d : Dev) : (respOk d).regs = d.regs := rfl
@[simp] theorem respOk_raised  (d : Dev) : (respOk d).raised = d.raised := rfl
@[simp] theorem respOk_draws  (d : Dev) : (respOk d).draws = d.draws := rfl
@[simp] theorem respOk_cfg  (d : Dev) : (respOk d).cfg = d.cfg := rfl
@[simp] theorem respOk_pwm  (d : Dev) : (respOk d).pwm = d.pwm := rfl
@[simp] theorem respOk_glk  (d : Dev) : (respOk d).glk = d.glk := rfl
@[simp] theorem respOk_psp  (d : Dev) : (respOk d).psp = d.psp := rfl
@[simp] theorem respOk_sis  (d : Dev) : (respOk d).sis = d.sis := rfl
@[simp] theorem respOk_fcr  (d : Dev) : (respOk d).fcr = d.fcr := rfl
@[simp] theorem respOk_jrn  (d : Dev) : (respOk d).jrn = d.jrn := rfl
@[simp] theorem respOk_cpx  (d : Dev) : (respOk d).cpx = d.cpx := rfl
@[simp] theorem respOk_icf  (d : Dev) : (respOk d).icf = d.icf := rfl
@[simp] theorem respOk_cea  (d : Dev) : (respOk d).cea = d.cea := rfl
@[simp] theorem respOk_atb  (d : Dev) : (respOk d).atb = d.atb := rfl
@[simp] theorem respOk_evs  (d : Dev) : (respOk d).evs = d.evs := rfl
@[simp] theorem respOk_pfc  (d : Dev) : (respOk d).pfc = d.pfc := rfl
@[simp] theorem respOk_sense  (d : Dev) : (respOk d).sense = d.sense := rfl
@[simp] theorem respOk_thm  (d : Dev) : (respOk d).thm = d.thm := rfl
@[simp] theorem respOk_sys  (d : Dev) : (respOk d).sys = d.sys := rfl
@[simp] theorem respOk_bst  (d : Dev) : (respOk d).bst = d.bst := rfl
@[simp] theorem respOk_fls  (d : Dev) : (respOk d).fls = d.fls := rfl
@[simp] theorem respOk_csq  (d : Dev) : (respOk d).csq = d.csq := rfl
@[simp] theorem respOk_cte  (d : Dev) : (respOk d).cte = d.cte := rfl
@[simp] theorem respOk_eth  (d : Dev) : (respOk d).eth = d.eth := rfl
@[simp] theorem respOk_ntu  (d : Dev) : (respOk d).ntu = d.ntu := rfl
@[simp] theorem respOk_trc  (d : Dev) : (respOk d).trc = d.trc := rfl
@[simp] theorem respOk_can  (d : Dev) : (respOk d).can = d.can := rfl
@[simp] theorem respOk_cmds  (d : Dev) : (respOk d).cmds = d.cmds := rfl
@[simp] theorem rd_respOk  (d : Dev) (b : Nat) : rd (respOk d) b = rd d b := rfl
@[simp] theorem now_respOk  (d : Dev) : now (respOk d) = now d := rfl
@[simp] theorem nowLo_respOk  (d : Dev) : nowLo (respOk d) = nowLo d := rfl

@[simp] theorem respData_phase (v : Word) (d : Dev) : (respData v d).phase = d.phase := rfl
@[simp] theorem respData_ltb (v : Word) (d : Dev) : (respData v d).ltb = d.ltb := rfl
@[simp] theorem respData_regs (v : Word) (d : Dev) : (respData v d).regs = d.regs := rfl
@[simp] theorem respData_raised (v : Word) (d : Dev) : (respData v d).raised = d.raised := rfl
@[simp] theorem respData_draws (v : Word) (d : Dev) : (respData v d).draws = d.draws := rfl
@[simp] theorem respData_cfg (v : Word) (d : Dev) : (respData v d).cfg = d.cfg := rfl
@[simp] theorem respData_pwm (v : Word) (d : Dev) : (respData v d).pwm = d.pwm := rfl
@[simp] theorem respData_glk (v : Word) (d : Dev) : (respData v d).glk = d.glk := rfl
@[simp] theorem respData_psp (v : Word) (d : Dev) : (respData v d).psp = d.psp := rfl
@[simp] theorem respData_sis (v : Word) (d : Dev) : (respData v d).sis = d.sis := rfl
@[simp] theorem respData_fcr (v : Word) (d : Dev) : (respData v d).fcr = d.fcr := rfl
@[simp] theorem respData_jrn (v : Word) (d : Dev) : (respData v d).jrn = d.jrn := rfl
@[simp] theorem respData_cpx (v : Word) (d : Dev) : (respData v d).cpx = d.cpx := rfl
@[simp] theorem respData_icf (v : Word) (d : Dev) : (respData v d).icf = d.icf := rfl
@[simp] theorem respData_cea (v : Word) (d : Dev) : (respData v d).cea = d.cea := rfl
@[simp] theorem respData_atb (v : Word) (d : Dev) : (respData v d).atb = d.atb := rfl
@[simp] theorem respData_evs (v : Word) (d : Dev) : (respData v d).evs = d.evs := rfl
@[simp] theorem respData_pfc (v : Word) (d : Dev) : (respData v d).pfc = d.pfc := rfl
@[simp] theorem respData_sense (v : Word) (d : Dev) : (respData v d).sense = d.sense := rfl
@[simp] theorem respData_thm (v : Word) (d : Dev) : (respData v d).thm = d.thm := rfl
@[simp] theorem respData_sys (v : Word) (d : Dev) : (respData v d).sys = d.sys := rfl
@[simp] theorem respData_bst (v : Word) (d : Dev) : (respData v d).bst = d.bst := rfl
@[simp] theorem respData_fls (v : Word) (d : Dev) : (respData v d).fls = d.fls := rfl
@[simp] theorem respData_csq (v : Word) (d : Dev) : (respData v d).csq = d.csq := rfl
@[simp] theorem respData_cte (v : Word) (d : Dev) : (respData v d).cte = d.cte := rfl
@[simp] theorem respData_eth (v : Word) (d : Dev) : (respData v d).eth = d.eth := rfl
@[simp] theorem respData_ntu (v : Word) (d : Dev) : (respData v d).ntu = d.ntu := rfl
@[simp] theorem respData_trc (v : Word) (d : Dev) : (respData v d).trc = d.trc := rfl
@[simp] theorem respData_can (v : Word) (d : Dev) : (respData v d).can = d.can := rfl
@[simp] theorem respData_cmds (v : Word) (d : Dev) : (respData v d).cmds = d.cmds := rfl
@[simp] theorem rd_respData (v : Word) (d : Dev) (b : Nat) : rd (respData v d) b = rd d b := rfl
@[simp] theorem now_respData (v : Word) (d : Dev) : now (respData v d) = now d := rfl
@[simp] theorem nowLo_respData (v : Word) (d : Dev) : nowLo (respData v d) = nowLo d := rfl

@[simp] theorem respErr_phase  (d : Dev) : (respErr d).phase = d.phase := rfl
@[simp] theorem respErr_ltb  (d : Dev) : (respErr d).ltb = d.ltb := rfl
@[simp] theorem respErr_regs  (d : Dev) : (respErr d).regs = d.regs := rfl
@[simp] theorem respErr_raised  (d : Dev) : (respErr d).raised = d.raised := rfl
@[simp] theorem respErr_draws  (d : Dev) : (respErr d).draws = d.draws := rfl
@[simp] theorem respErr_cfg  (d : Dev) : (respErr d).cfg = d.cfg := rfl
@[simp] theorem respErr_pwm  (d : Dev) : (respErr d).pwm = d.pwm := rfl
@[simp] theorem respErr_glk  (d : Dev) : (respErr d).glk = d.glk := rfl
@[simp] theorem respErr_psp  (d : Dev) : (respErr d).psp = d.psp := rfl
@[simp] theorem respErr_sis  (d : Dev) : (respErr d).sis = d.sis := rfl
@[simp] theorem respErr_fcr  (d : Dev) : (respErr d).fcr = d.fcr := rfl
@[simp] theorem respErr_jrn  (d : Dev) : (respErr d).jrn = d.jrn := rfl
@[simp] theorem respErr_cpx  (d : Dev) : (respErr d).cpx = d.cpx := rfl
@[simp] theorem respErr_icf  (d : Dev) : (respErr d).icf = d.icf := rfl
@[simp] theorem respErr_cea  (d : Dev) : (respErr d).cea = d.cea := rfl
@[simp] theorem respErr_atb  (d : Dev) : (respErr d).atb = d.atb := rfl
@[simp] theorem respErr_evs  (d : Dev) : (respErr d).evs = d.evs := rfl
@[simp] theorem respErr_pfc  (d : Dev) : (respErr d).pfc = d.pfc := rfl
@[simp] theorem respErr_sense  (d : Dev) : (respErr d).sense = d.sense := rfl
@[simp] theorem respErr_thm  (d : Dev) : (respErr d).thm = d.thm := rfl
@[simp] theorem respErr_sys  (d : Dev) : (respErr d).sys = d.sys := rfl
@[simp] theorem respErr_bst  (d : Dev) : (respErr d).bst = d.bst := rfl
@[simp] theorem respErr_fls  (d : Dev) : (respErr d).fls = d.fls := rfl
@[simp] theorem respErr_csq  (d : Dev) : (respErr d).csq = d.csq := rfl
@[simp] theorem respErr_cte  (d : Dev) : (respErr d).cte = d.cte := rfl
@[simp] theorem respErr_eth  (d : Dev) : (respErr d).eth = d.eth := rfl
@[simp] theorem respErr_ntu  (d : Dev) : (respErr d).ntu = d.ntu := rfl
@[simp] theorem respErr_trc  (d : Dev) : (respErr d).trc = d.trc := rfl
@[simp] theorem respErr_can  (d : Dev) : (respErr d).can = d.can := rfl
@[simp] theorem respErr_cmds  (d : Dev) : (respErr d).cmds = d.cmds := rfl
@[simp] theorem rd_respErr  (d : Dev) (b : Nat) : rd (respErr d) b = rd d b := rfl
@[simp] theorem now_respErr  (d : Dev) : now (respErr d) = now d := rfl
@[simp] theorem nowLo_respErr  (d : Dev) : nowLo (respErr d) = nowLo d := rfl

@[simp] theorem journal_phase (t o : Nat) (p : List Byte) (d : Dev) : (journal t o p d).phase = d.phase := rfl
@[simp] theorem journal_ltb (t o : Nat) (p : List Byte) (d : Dev) : (journal t o p d).ltb = d.ltb := rfl
@[simp] theorem journal_regs (t o : Nat) (p : List Byte) (d : Dev) : (journal t o p d).regs = d.regs := rfl
@[simp] theorem journal_raised (t o : Nat) (p : List Byte) (d : Dev) : (journal t o p d).raised = d.raised := rfl
@[simp] theorem journal_response (t o : Nat) (p : List Byte) (d : Dev) : (journal t o p d).response = d.response := rfl
@[simp] theorem journal_draws (t o : Nat) (p : List Byte) (d : Dev) : (journal t o p d).draws = d.draws := rfl
@[simp] theorem journal_cfg (t o : Nat) (p : List Byte) (d : Dev) : (journal t o p d).cfg = d.cfg := rfl
@[simp] theorem journal_pwm (t o : Nat) (p : List Byte) (d : Dev) : (journal t o p d).pwm = d.pwm := rfl
@[simp] theorem journal_glk (t o : Nat) (p : List Byte) (d : Dev) : (journal t o p d).glk = d.glk := rfl
@[simp] theorem journal_psp (t o : Nat) (p : List Byte) (d : Dev) : (journal t o p d).psp = d.psp := rfl
@[simp] theorem journal_sis (t o : Nat) (p : List Byte) (d : Dev) : (journal t o p d).sis = d.sis := rfl
@[simp] theorem journal_fcr (t o : Nat) (p : List Byte) (d : Dev) : (journal t o p d).fcr = d.fcr := rfl
@[simp] theorem journal_cpx (t o : Nat) (p : List Byte) (d : Dev) : (journal t o p d).cpx = d.cpx := rfl
@[simp] theorem journal_icf (t o : Nat) (p : List Byte) (d : Dev) : (journal t o p d).icf = d.icf := rfl
@[simp] theorem journal_cea (t o : Nat) (p : List Byte) (d : Dev) : (journal t o p d).cea = d.cea := rfl
@[simp] theorem journal_atb (t o : Nat) (p : List Byte) (d : Dev) : (journal t o p d).atb = d.atb := rfl
@[simp] theorem journal_evs (t o : Nat) (p : List Byte) (d : Dev) : (journal t o p d).evs = d.evs := rfl
@[simp] theorem journal_pfc (t o : Nat) (p : List Byte) (d : Dev) : (journal t o p d).pfc = d.pfc := rfl
@[simp] theorem journal_sense (t o : Nat) (p : List Byte) (d : Dev) : (journal t o p d).sense = d.sense := rfl
@[simp] theorem journal_thm (t o : Nat) (p : List Byte) (d : Dev) : (journal t o p d).thm = d.thm := rfl
@[simp] theorem journal_sys (t o : Nat) (p : List Byte) (d : Dev) : (journal t o p d).sys = d.sys := rfl
@[simp] theorem journal_bst (t o : Nat) (p : List Byte) (d : Dev) : (journal t o p d).bst = d.bst := rfl
@[simp] theorem journal_fls (t o : Nat) (p : List Byte) (d : Dev) : (journal t o p d).fls = d.fls := rfl
@[simp] theorem journal_csq (t o : Nat) (p : List Byte) (d : Dev) : (journal t o p d).csq = d.csq := rfl
@[simp] theorem journal_cte (t o : Nat) (p : List Byte) (d : Dev) : (journal t o p d).cte = d.cte := rfl
@[simp] theorem journal_eth (t o : Nat) (p : List Byte) (d : Dev) : (journal t o p d).eth = d.eth := rfl
@[simp] theorem journal_ntu (t o : Nat) (p : List Byte) (d : Dev) : (journal t o p d).ntu = d.ntu := rfl
@[simp] theorem journal_trc (t o : Nat) (p : List Byte) (d : Dev) : (journal t o p d).trc = d.trc := rfl
@[simp] theorem journal_can (t o : Nat) (p : List Byte) (d : Dev) : (journal t o p d).can = d.can := rfl
@[simp] theorem journal_cmds (t o : Nat) (p : List Byte) (d : Dev) : (journal t o p d).cmds = d.cmds := rfl
@[simp] theorem rd_journal (t o : Nat) (p : List Byte) (d : Dev) (b : Nat) : rd (journal t o p d) b = rd d b := rfl
@[simp] theorem now_journal (t o : Nat) (p : List Byte) (d : Dev) : now (journal t o p d) = now d := rfl
@[simp] theorem nowLo_journal (t o : Nat) (p : List Byte) (d : Dev) : nowLo (journal t o p d) = nowLo d := rfl

@[simp] theorem raise_raised (k x : Nat) (d : Dev) : (raise k x d).raised = d.raised ++ [⟨k, x % 256, false⟩] := rfl
@[simp] theorem raiseForced_raised (k : Nat) (d : Dev) : (raiseForced k d).raised = d.raised ++ [⟨k, 0xFF, true⟩] := rfl
@[simp] theorem respOk_response (d : Dev) : (respOk d).response = ⟨false, 0⟩ := rfl
@[simp] theorem respData_response (v : Word) (d : Dev) : (respData v d).response = ⟨false, v⟩ := rfl
@[simp] theorem respErr_response (d : Dev) : (respErr d).response = ⟨true, 0⟩ := rfl

@[simp] theorem modAtb_phase (a : Nat) (f : Atb → Atb) (d : Dev) : (modAtb a f d).phase = d.phase := rfl
@[simp] theorem modAtb_ltb (a : Nat) (f : Atb → Atb) (d : Dev) : (modAtb a f d).ltb = d.ltb := rfl
@[simp] theorem modAtb_regs (a : Nat) (f : Atb → Atb) (d : Dev) : (modAtb a f d).regs = d.regs := rfl
@[simp] theorem modAtb_raised (a : Nat) (f : Atb → Atb) (d : Dev) : (modAtb a f d).raised = d.raised := rfl
@[simp] theorem modAtb_response (a : Nat) (f : Atb → Atb) (d : Dev) : (modAtb a f d).response = d.response := rfl
@[simp] theorem modAtb_draws (a : Nat) (f : Atb → Atb) (d : Dev) : (modAtb a f d).draws = d.draws := rfl
@[simp] theorem modAtb_cfg (a : Nat) (f : Atb → Atb) (d : Dev) : (modAtb a f d).cfg = d.cfg := rfl
@[simp] theorem modAtb_glk (a : Nat) (f : Atb → Atb) (d : Dev) : (modAtb a f d).glk = d.glk := rfl
@[simp] theorem modAtb_sis (a : Nat) (f : Atb → Atb) (d : Dev) : (modAtb a f d).sis = d.sis := rfl
@[simp] theorem modAtb_cpx (a : Nat) (f : Atb → Atb) (d : Dev) : (modAtb a f d).cpx = d.cpx := rfl
@[simp] theorem modAtb_icf (a : Nat) (f : Atb → Atb) (d : Dev) : (modAtb a f d).icf = d.icf := rfl
@[simp] theorem modAtb_cte (a : Nat) (f : Atb → Atb) (d : Dev) : (modAtb a f d).cte = d.cte := rfl
@[simp] theorem rd_modAtb (a : Nat) (f : Atb → Atb) (d : Dev) (b : Nat) : rd (modAtb a f d) b = rd d b := rfl
@[simp] theorem now_modAtb (a : Nat) (f : Atb → Atb) (d : Dev) : now (modAtb a f d) = now d := rfl

@[simp] theorem modBst_phase (f : BstState → BstState) (d : Dev) : (modBst f d).phase = d.phase := rfl
@[simp] theorem modBst_ltb (f : BstState → BstState) (d : Dev) : (modBst f d).ltb = d.ltb := rfl
@[simp] theorem modBst_regs (f : BstState → BstState) (d : Dev) : (modBst f d).regs = d.regs := rfl
@[simp] theorem modBst_raised (f : BstState → BstState) (d : Dev) : (modBst f d).raised = d.raised := rfl
@[simp] theorem modBst_response (f : BstState → BstState) (d : Dev) : (modBst f d).response = d.response := rfl
@[simp] theorem modBst_draws (f : BstState → BstState) (d : Dev) : (modBst f d).draws = d.draws := rfl
@[simp] theorem modBst_cfg (f : BstState → BstState) (d : Dev) : (modBst f d).cfg = d.cfg := rfl
@[simp] theorem modBst_glk (f : BstState → BstState) (d : Dev) : (modBst f d).glk = d.glk := rfl
@[simp] theorem modBst_sis (f : BstState → BstState) (d : Dev) : (modBst f d).sis = d.sis := rfl
@[simp] theorem modBst_cpx (f : BstState → BstState) (d : Dev) : (modBst f d).cpx = d.cpx := rfl
@[simp] theorem modBst_icf (f : BstState → BstState) (d : Dev) : (modBst f d).icf = d.icf := rfl
@[simp] theorem modBst_cte (f : BstState → BstState) (d : Dev) : (modBst f d).cte = d.cte := rfl
@[simp] theorem rd_modBst (f : BstState → BstState) (d : Dev) (b : Nat) : rd (modBst f d) b = rd d b := rfl
@[simp] theorem now_modBst (f : BstState → BstState) (d : Dev) : now (modBst f d) = now d := rfl

@[simp] theorem modBuf_phase (c b : Nat) (f : CanBuf → CanBuf) (d : Dev) : (modBuf c b f d).phase = d.phase := rfl
@[simp] theorem modBuf_ltb (c b : Nat) (f : CanBuf → CanBuf) (d : Dev) : (modBuf c b f d).ltb = d.ltb := rfl
@[simp] theorem modBuf_regs (c b : Nat) (f : CanBuf → CanBuf) (d : Dev) : (modBuf c b f d).regs = d.regs := rfl
@[simp] theorem modBuf_raised (c b : Nat) (f : CanBuf → CanBuf) (d : Dev) : (modBuf c b f d).raised = d.raised := rfl
@[simp] theorem modBuf_response (c b : Nat) (f : CanBuf → CanBuf) (d : Dev) : (modBuf c b f d).response = d.response := rfl
@[simp] theorem modBuf_draws (c b : Nat) (f : CanBuf → CanBuf) (d : Dev) : (modBuf c b f d).draws = d.draws := rfl
@[simp] theorem modBuf_cfg (c b : Nat) (f : CanBuf → CanBuf) (d : Dev) : (modBuf c b f d).cfg = d.cfg := rfl
@[simp] theorem modBuf_glk (c b : Nat) (f : CanBuf → CanBuf) (d : Dev) : (modBuf c b f d).glk = d.glk := rfl
@[simp] theorem modBuf_sis (c b : Nat) (f : CanBuf → CanBuf) (d : Dev) : (modBuf c b f d).sis = d.sis := rfl
@[simp] theorem modBuf_cpx (c b : Nat) (f : CanBuf → CanBuf) (d : Dev) : (modBuf c b f d).cpx = d.cpx := rfl
@[simp] theorem modBuf_icf (c b : Nat) (f : CanBuf → CanBuf) (d : Dev) : (modBuf c b f d).icf = d.icf := rfl
@[simp] theorem modBuf_cte (c b : Nat) (f : CanBuf → CanBuf) (d : Dev) : (modBuf c b f d).cte = d.cte := rfl
@[simp] theorem rd_modBuf (c b : Nat) (f : CanBuf → CanBuf) (d : Dev) (k : Nat) : rd (modBuf c b f d) k = rd d k := rfl
@[simp] theorem now_modBuf (c b : Nat) (f : CanBuf → CanBuf) (d : Dev) : now (modBuf c b f d) = now d := rfl

@[simp] theorem modCan_phase (c : Nat) (f : CanState → CanState) (d : Dev) : (modCan c f d).phase = d.phase := rfl
@[simp] theorem modCan_ltb (c : Nat) (f : CanState → CanState) (d : Dev) : (modCan c f d).ltb = d.ltb := rfl
@[simp] theorem modCan_regs (c : Nat) (f : CanState → CanState) (d : Dev) : (modCan c f d).regs = d.regs := rfl
@[simp] theorem modCan_raised (c : Nat) (f : CanState → CanState) (d : Dev) : (modCan c f d).raised = d.raised := rfl
@[simp] theorem modCan_response (c : Nat) (f : CanState → CanState) (d : Dev) : (modCan c f d).response = d.response := rfl
@[simp] theorem modCan_draws (c : Nat) (f : CanState → CanState) (d : Dev) : (modCan c f d).draws = d.draws := rfl
@[simp] theorem modCan_cfg (c : Nat) (f : CanState → CanState) (d : Dev) : (modCan c f d).cfg = d.cfg := rfl
@[simp] theorem modCan_glk (c : Nat) (f : CanState → CanState) (d : Dev) : (modCan c f d).glk = d.glk := rfl
@[simp] theorem modCan_sis (c : Nat) (f : CanState → CanState) (d : Dev) : (modCan c f d).sis = d.sis := rfl
@[simp] theorem modCan_cpx (c : Nat) (f : CanState → CanState) (d : Dev) : (modCan c f d).cpx = d.cpx := rfl
@[simp] theorem modCan_icf (c : Nat) (f : CanState → CanState) (d : Dev) : (modCan c f d).icf = d.icf := rfl
@[simp] theorem modCan_cte (c : Nat) (f : CanState → CanState) (d : Dev) : (modCan c f d).cte = d.cte := rfl
@[simp] theorem rd_modCan (c : Nat) (f : CanState → CanState) (d : Dev) (b : Nat) : rd (modCan c f d) b = rd d b := rfl
@[simp] theorem now_modCan (c : Nat) (f : CanState → CanState) (d : Dev) : now (modCan c f d) = now d := rfl

@[simp] theorem modCeAxis_phase (a : Nat) (f : CeAxis → CeAxis) (d : Dev) : (modCeAxis a f d).phase = d.phase := rfl
@[simp] theorem modCeAxis_ltb (a : Nat) (f : CeAxis → CeAxis) (d : Dev) : (modCeAxis a f d).ltb = d.ltb := rfl
@[simp] theorem modCeAxis_regs (a : Nat) (f : CeAxis → CeAxis) (d : Dev) : (modCeAxis a f d).regs = d.regs := rfl
@[simp] theorem modCeAxis_raised (a : Nat) (f : CeAxis → CeAxis) (d : Dev) : (modCeAxis a f d).raised = d.raised := rfl
@[simp] theorem modCeAxis_response (a : Nat) (f : CeAxis → CeAxis) (d : Dev) : (modCeAxis a f d).response = d.response := rfl
@[simp] theorem modCeAxis_draws (a : Nat) (f : CeAxis → CeAxis) (d : Dev) : (modCeAxis a f d).draws = d.draws := rfl
@[simp] theorem modCeAxis_cfg (a : Nat) (f : CeAxis → CeAxis) (d : Dev) : (modCeAxis a f d).cfg = d.cfg := rfl
@[simp] theorem modCeAxis_glk (a : Nat) (f : CeAxis → CeAxis) (d : Dev) : (modCeAxis a f d).glk = d.glk := rfl
@[simp] theorem modCeAxis_sis (a : Nat) (f : CeAxis → CeAxis) (d : Dev) : (modCeAxis a f d).sis = d.sis := rfl
@[simp] theorem modCeAxis_cpx (a : Nat) (f : CeAxis → CeAxis) (d : Dev) : (modCeAxis a f d).cpx = d.cpx := rfl
@[simp] theorem modCeAxis_icf (a : Nat) (f : CeAxis → CeAxis) (d : Dev) : (modCeAxis a f d).icf = d.icf := rfl
@[simp] theorem modCeAxis_cte (a : Nat) (f : CeAxis → CeAxis) (d : Dev) : (modCeAxis a f d).cte = d.cte := rfl
@[simp] theorem rd_modCeAxis (a : Nat) (f : CeAxis → CeAxis) (d : Dev) (b : Nat) : rd (modCeAxis a f d) b = rd d b := rfl
@[simp] theorem now_modCeAxis (a : Nat) (f : CeAxis → CeAxis) (d : Dev) : now (modCeAxis a f d) = now d := rfl

@[simp] theorem modCfg_phase (f : CfgState → CfgState) (d : Dev) : (modCfg f d).phase = d.phase := rfl
@[simp] theorem modCfg_ltb (f : CfgState → CfgState) (d : Dev) : (modCfg f d).ltb = d.ltb := rfl
@[simp] theorem modCfg_regs (f : CfgState → CfgState) (d : Dev) : (modCfg f d).regs = d.regs := rfl
@[simp] theorem modCfg_raised (f : CfgState → CfgState) (d : Dev) : (modCfg f d).raised = d.raised := rfl
@[simp] theorem modCfg_response (f : CfgState → CfgState) (d : Dev) : (modCfg f d).response = d.response := rfl
@[simp] theorem modCfg_draws (f : CfgState → CfgState) (d : Dev) : (modCfg f d).draws = d.draws := rfl
@[simp] theorem modCfg_glk (f : CfgState → CfgState) (d : Dev) : (modCfg f d).glk = d.glk := rfl
@[simp] theorem modCfg_sis (f : CfgState → CfgState) (d : Dev) : (modCfg f d).sis = d.sis := rfl
@[simp] theorem modCfg_cpx (f : CfgState → CfgState) (d : Dev) : (modCfg f d).cpx = d.cpx := rfl
@[simp] theorem modCfg_icf (f : CfgState → CfgState) (d : Dev) : (modCfg f d).icf = d.icf := rfl
@[simp] theorem modCfg_cte (f : CfgState → CfgState) (d : Dev) : (modCfg f d).cte = d.cte := rfl
@[simp] theorem rd_modCfg (f : CfgState → CfgState) (d : Dev) (b : Nat) : rd (modCfg f d) b = rd d b := rfl
@[simp] theorem now_modCfg (f : CfgState → CfgState) (d : Dev) : now (modCfg f d) = now d := rfl

@[simp] theorem modChan_phase (n : Nat) (f : PosChan → PosChan) (d : Dev) : (modChan n f d).phase = d.phase := rfl
@[simp] theorem modChan_ltb (n : Nat) (f : PosChan → PosChan) (d : Dev) : (modChan n f d).ltb = d.ltb := rfl
@[simp] theorem modChan_regs (n : Nat) (f : PosChan → PosChan) (d : Dev) : (modChan n f d).regs = d.regs := rfl
@[simp] theorem modChan_raised (n : Nat) (f : PosChan → PosChan) (d : Dev) : (modChan n f d).raised = d.raised := rfl
@[simp] theorem modChan_response (n : Nat) (f : PosChan → PosChan) (d : Dev) : (modChan n f d).response = d.response := rfl
@[simp] theorem modChan_draws (n : Nat) (f : PosChan → PosChan) (d : Dev) : (modChan n f d).draws = d.draws := rfl
@[simp] theorem modChan_cfg (n : Nat) (f : PosChan → PosChan) (d : Dev) : (modChan n f d).cfg = d.cfg := rfl
@[simp] theorem modChan_glk (n : Nat) (f : PosChan → PosChan) (d : Dev) : (modChan n f d).glk = d.glk := rfl
@[simp] theorem modChan_sis (n : Nat) (f : PosChan → PosChan) (d : Dev) : (modChan n f d).sis = d.sis := rfl
@[simp] theorem modChan_cpx (n : Nat) (f : PosChan → PosChan) (d : Dev) : (modChan n f d).cpx = d.cpx := rfl
@[simp] theorem modChan_icf (n : Nat) (f : PosChan → PosChan) (d : Dev) : (modChan n f d).icf = d.icf := rfl
@[simp] theorem modChan_cte (n : Nat) (f : PosChan → PosChan) (d : Dev) : (modChan n f d).cte = d.cte := rfl
@[simp] theorem rd_modChan (n : Nat) (f : PosChan → PosChan) (d : Dev) (b : Nat) : rd (modChan n f d) b = rd d b := rfl
@[simp] theorem now_modChan (n : Nat) (f : PosChan → PosChan) (d : Dev) : now (modChan n f d) = now d := rfl

@[simp] theorem modCsq_phase (f : CsqState → CsqState) (d : Dev) : (modCsq f d).phase = d.phase := rfl
@[simp] theorem modCsq_ltb (f : CsqState → CsqState) (d : Dev) : (modCsq f d).ltb = d.ltb := rfl
@[simp] theorem modCsq_regs (f : CsqState → CsqState) (d : Dev) : (modCsq f d).regs = d.regs := rfl
@[simp] theorem modCsq_raised (f : CsqState → CsqState) (d : Dev) : (modCsq f d).raised = d.raised := rfl
@[simp] theorem modCsq_response (f : CsqState → CsqState) (d : Dev) : (modCsq f d).response = d.response := rfl
@[simp] theorem modCsq_draws (f : CsqState → CsqState) (d : Dev) : (modCsq f d).draws = d.draws := rfl
@[simp] theorem modCsq_cfg (f : CsqState → CsqState) (d : Dev) : (modCsq f d).cfg = d.cfg := rfl
@[simp] theorem modCsq_glk (f : CsqState → CsqState) (d : Dev) : (modCsq f d).glk = d.glk := rfl
@[simp] theorem modCsq_sis (f : CsqState → CsqState) (d : Dev) : (modCsq f d).sis = d.sis := rfl
@[simp] theorem modCsq_cpx (f : CsqState → CsqState) (d : Dev) : (modCsq f d).cpx = d.cpx := rfl
@[simp] theorem modCsq_icf (f : CsqState → CsqState) (d : Dev) : (modCsq f d).icf = d.icf := rfl
@[simp] theorem modCsq_cte (f : CsqState → CsqState) (d : Dev) : (modCsq f d).cte = d.cte := rfl
@[simp] theorem rd_modCsq (f : CsqState → CsqState) (d : Dev) (b : Nat) : rd (modCsq f d) b = rd d b := rfl
@[simp] theorem now_modCsq (f : CsqState → CsqState) (d : Dev) : now (modCsq f d) = now d := rfl

@[simp] theorem modCt_phase (k : Nat) (f : Contactor → Contactor) (d : Dev) : (modCt k f d).phase = d.phase := rfl
@[simp] theorem modCt_ltb (k : Nat) (f : Contactor → Contactor) (d : Dev) : (modCt k f d).ltb = d.ltb := rfl
@[simp] theorem modCt_regs (k : Nat) (f : Contactor → Contactor) (d : Dev) : (modCt k f d).regs = d.regs := rfl
@[simp] theorem modCt_raised (k : Nat) (f : Contactor → Contactor) (d : Dev) : (modCt k f d).raised = d.raised := rfl
@[simp] theorem modCt_response (k : Nat) (f : Contactor → Contactor) (d : Dev) : (modCt k f d).response = d.response := rfl
@[simp] theorem modCt_draws (k : Nat) (f : Contactor → Contactor) (d : Dev) : (modCt k f d).draws = d.draws := rfl
@[simp] theorem modCt_cfg (k : Nat) (f : Contactor → Contactor) (d : Dev) : (modCt k f d).cfg = d.cfg := rfl
@[simp] theorem modCt_glk (k : Nat) (f : Contactor → Contactor) (d : Dev) : (modCt k f d).glk = d.glk := rfl
@[simp] theorem modCt_cpx (k : Nat) (f : Contactor → Contactor) (d : Dev) : (modCt k f d).cpx = d.cpx := rfl
@[simp] theorem modCt_icf (k : Nat) (f : Contactor → Contactor) (d : Dev) : (modCt k f d).icf = d.icf := rfl
@[simp] theorem modCt_cte (k : Nat) (f : Contactor → Contactor) (d : Dev) : (modCt k f d).cte = d.cte := rfl
@[simp] theorem rd_modCt (k : Nat) (f : Contactor → Contactor) (d : Dev) (b : Nat) : rd (modCt k f d) b = rd d b := rfl
@[simp] theorem now_modCt (k : Nat) (f : Contactor → Contactor) (d : Dev) : now (modCt k f d) = now d := rfl

@[simp] theorem modCte_phase (f : CteState → CteState) (d : Dev) : (modCte f d).phase = d.phase := rfl
@[simp] theorem modCte_ltb (f : CteState → CteState) (d : Dev) : (modCte f d).ltb = d.ltb := rfl
@[simp] theorem modCte_regs (f : CteState → CteState) (d : Dev) : (modCte f d).regs = d.regs := rfl
@[simp] theorem modCte_raised (f : CteState → CteState) (d : Dev) : (modCte f d).raised = d.raised := rfl
@[simp] theorem modCte_response (f : CteState → CteState) (d : Dev) : (modCte f d).response = d.response := rfl
@[simp] theorem modCte_draws (f : CteState → CteState) (d : Dev) : (modCte f d).draws = d.draws := rfl
@[simp] theorem modCte_cfg (f : CteState → CteState) (d : Dev) : (modCte f d).cfg = d.cfg := rfl
@[simp] theorem modCte_glk (f : CteState → CteState) (d : Dev) : (modCte f d).glk = d.glk := rfl
@[simp] theorem modCte_sis (f : CteState → CteState) (d : Dev) : (modCte f d).sis = d.sis := rfl
@[simp] theorem modCte_cpx (f : CteState → CteState) (d : Dev) : (modCte f d).cpx = d.cpx := rfl
@[simp] theorem modCte_icf (f : CteState → CteState) (d : Dev) : (modCte f d).icf = d.icf := rfl
@[simp] theorem rd_modCte (f : CteState → CteState) (d : Dev) (b : Nat) : rd (modCte f d) b = rd d b := rfl
@[simp] theorem now_modCte (f : CteState → CteState) (d : Dev) : now (modCte f d) = now d := rfl

@[simp] theorem modDriver_phase (p : Nat) (f : Driver → Driver) (d : Dev) : (modDriver p f d).phase = d.phase := rfl
@[simp] theorem modDriver_ltb (p : Nat) (f : Driver → Driver) (d : Dev) : (modDriver p f d).ltb = d.ltb := rfl
@[simp] theorem modDriver_regs (p : Nat) (f : Driver → Driver) (d : Dev) : (modDriver p f d).regs = d.regs := rfl
@[simp] theorem modDriver_raised (p : Nat) (f : Driver → Driver) (d : Dev) : (modDriver p f d).raised = d.raised := rfl
@[simp] theorem modDriver_response (p : Nat) (f : Driver → Driver) (d : Dev) : (modDriver p f d).response = d.response := rfl
@[simp] theorem modDriver_draws (p : Nat) (f : Driver → Driver) (d : Dev) : (modDriver p f d).draws = d.draws := rfl
@[simp] theorem modDriver_cfg (p : Nat) (f : Driver → Driver) (d : Dev) : (modDriver p f d).cfg = d.cfg := rfl
@[simp] theorem modDriver_sis (p : Nat) (f : Driver → Driver) (d : Dev) : (modDriver p f d).sis = d.sis := rfl
@[simp] theorem modDriver_cpx (p : Nat) (f : Driver → Driver) (d : Dev) : (modDriver p f d).cpx = d.cpx := rfl
@[simp] theorem modDriver_icf (p : Nat) (f : Driver → Driver) (d : Dev) : (modDriver p f d).icf = d.icf := rfl
@[simp] theorem modDriver_cte (p : Nat) (f : Driver → Driver) (d : Dev) : (modDriver p f d).cte = d.cte := rfl
@[simp] theorem rd_modDriver (p : Nat) (f : Driver → Driver) (d : Dev) (b : Nat) : rd (modDriver p f d) b = rd d b := rfl
@[simp] theorem now_modDriver (p : Nat) (f : Driver → Driver) (d : Dev) : now (modDriver p f d) = now d := rfl

@[simp] theorem modEem_phase (n : Nat) (f : Eem → Eem) (d : Dev) : (modEem n f d).phase = d.phase := rfl
@[simp] theorem modEem_ltb (n : Nat) (f : Eem → Eem) (d : Dev) : (modEem n f d).ltb = d.ltb := rfl
@[simp] theorem modEem_regs (n : Nat) (f : Eem → Eem) (d : Dev) : (modEem n f d).regs = d.regs := rfl
@[simp] theorem modEem_raised (n : Nat) (f : Eem → Eem) (d : Dev) : (modEem n f d).raised = d.raised := rfl
@[simp] theorem modEem_response (n : Nat) (f : Eem → Eem) (d : Dev) : (modEem n f d).response = d.response := rfl
@[simp] theorem modEem_draws (n : Nat) (f : Eem → Eem) (d : Dev) : (modEem n f d).draws = d.draws := rfl
@[simp] theorem modEem_cfg (n : Nat) (f : Eem → Eem) (d : Dev) : (modEem n f d).cfg = d.cfg := rfl
@[simp] theorem modEem_glk (n : Nat) (f : Eem → Eem) (d : Dev) : (modEem n f d).glk = d.glk := rfl
@[simp] theorem modEem_sis (n : Nat) (f : Eem → Eem) (d : Dev) : (modEem n f d).sis = d.sis := rfl
@[simp] theorem modEem_cpx (n : Nat) (f : Eem → Eem) (d : Dev) : (modEem n f d).cpx = d.cpx := rfl
@[simp] theorem modEem_icf (n : Nat) (f : Eem → Eem) (d : Dev) : (modEem n f d).icf = d.icf := rfl
@[simp] theorem modEem_cte (n : Nat) (f : Eem → Eem) (d : Dev) : (modEem n f d).cte = d.cte := rfl
@[simp] theorem rd_modEem (n : Nat) (f : Eem → Eem) (d : Dev) (b : Nat) : rd (modEem n f d) b = rd d b := rfl
@[simp] theorem now_modEem (n : Nat) (f : Eem → Eem) (d : Dev) : now (modEem n f d) = now d := rfl

@[simp] theorem modEngine_phase (n : Nat) (f : Engine → Engine) (d : Dev) : (modEngine n f d).phase = d.phase := rfl
@[simp] theorem modEngine_ltb (n : Nat) (f : Engine → Engine) (d : Dev) : (modEngine n f d).ltb = d.ltb := rfl
@[simp] theorem modEngine_regs (n : Nat) (f : Engine → Engine) (d : Dev) : (modEngine n f d).regs = d.regs := rfl
@[simp] theorem modEngine_raised (n : Nat) (f : Engine → Engine) (d : Dev) : (modEngine n f d).raised = d.raised := rfl
@[simp] theorem modEngine_response (n : Nat) (f : Engine → Engine) (d : Dev) : (modEngine n f d).response = d.response := rfl
@[simp] theorem modEngine_draws (n : Nat) (f : Engine → Engine) (d : Dev) : (modEngine n f d).draws = d.draws := rfl
@[simp] theorem modEngine_cfg (n : Nat) (f : Engine → Engine) (d : Dev) : (modEngine n f d).cfg = d.cfg := rfl
@[simp] theorem modEngine_glk (n : Nat) (f : Engine → Engine) (d : Dev) : (modEngine n f d).glk = d.glk := rfl
@[simp] theorem modEngine_sis (n : Nat) (f : Engine → Engine) (d : Dev) : (modEngine n f d).sis = d.sis := rfl
@[simp] theorem modEngine_cpx (n : Nat) (f : Engine → Engine) (d : Dev) : (modEngine n f d).cpx = d.cpx := rfl
@[simp] theorem modEngine_icf (n : Nat) (f : Engine → Engine) (d : Dev) : (modEngine n f d).icf = d.icf := rfl
@[simp] theorem modEngine_cte (n : Nat) (f : Engine → Engine) (d : Dev) : (modEngine n f d).cte = d.cte := rfl
@[simp] theorem rd_modEngine (n : Nat) (f : Engine → Engine) (d : Dev) (b : Nat) : rd (modEngine n f d) b = rd d b := rfl
@[simp] theorem now_modEngine (n : Nat) (f : Engine → Engine) (d : Dev) : now (modEngine n f d) = now d := rfl

@[simp] theorem modEvs_phase (f : EvsState → EvsState) (d : Dev) : (modEvs f d).phase = d.phase := rfl
@[simp] theorem modEvs_ltb (f : EvsState → EvsState) (d : Dev) : (modEvs f d).ltb = d.ltb := rfl
@[simp] theorem modEvs_regs (f : EvsState → EvsState) (d : Dev) : (modEvs f d).regs = d.regs := rfl
@[simp] theorem modEvs_raised (f : EvsState → EvsState) (d : Dev) : (modEvs f d).raised = d.raised := rfl
@[simp] theorem modEvs_response (f : EvsState → EvsState) (d : Dev) : (modEvs f d).response = d.response := rfl
@[simp] theorem modEvs_draws (f : EvsState → EvsState) (d : Dev) : (modEvs f d).draws = d.draws := rfl
@[simp] theorem modEvs_cfg (f : EvsState → EvsState) (d : Dev) : (modEvs f d).cfg = d.cfg := rfl
@[simp] theorem modEvs_glk (f : EvsState → EvsState) (d : Dev) : (modEvs f d).glk = d.glk := rfl
@[simp] theorem modEvs_sis (f : EvsState → EvsState) (d : Dev) : (modEvs f d).sis = d.sis := rfl
@[simp] theorem modEvs_cpx (f : EvsState → EvsState) (d : Dev) : (modEvs f d).cpx = d.cpx := rfl
@[simp] theorem modEvs_icf (f : EvsState → EvsState) (d : Dev) : (modEvs f d).icf = d.icf := rfl
@[simp] theorem modEvs_cte (f : EvsState → EvsState) (d : Dev) : (modEvs f d).cte = d.cte := rfl
@[simp] theorem rd_modEvs (f : EvsState → EvsState) (d : Dev) (b : Nat) : rd (modEvs f d) b = rd d b := rfl
@[simp] theorem now_modEvs (f : EvsState → EvsState) (d : Dev) : now (modEvs f d) = now d := rfl

@[simp] theorem modExc_phase (e : Nat) (f : Exc → Exc) (d : Dev) : (modExc e f d).phase = d.phase := rfl
@[simp] theorem modExc_ltb (e : Nat) (f : Exc → Exc) (d : Dev) : (modExc e f d).ltb = d.ltb := rfl
@[simp] theorem modExc_regs (e : Nat) (f : Exc → Exc) (d : Dev) : (modExc e f d).regs = d.regs := rfl
@[simp] theorem modExc_raised (e : Nat) (f : Exc → Exc) (d : Dev) : (modExc e f d).raised = d.raised := rfl
@[simp] theorem modExc_response (e : Nat) (f : Exc → Exc) (d : Dev) : (modExc e f d).response = d.response := rfl
@[simp] theorem modExc_draws (e : Nat) (f : Exc → Exc) (d : Dev) : (modExc e f d).draws = d.draws := rfl
@[simp] theorem modExc_cfg (e : Nat) (f : Exc → Exc) (d : Dev) : (modExc e f d).cfg = d.cfg := rfl
@[simp] theorem modExc_glk (e : Nat) (f : Exc → Exc) (d : Dev) : (modExc e f d).glk = d.glk := rfl
@[simp] theorem modExc_sis (e : Nat) (f : Exc → Exc) (d : Dev) : (modExc e f d).sis = d.sis := rfl
@[simp] theorem modExc_cpx (e : Nat) (f : Exc → Exc) (d : Dev) : (modExc e f d).cpx = d.cpx := rfl
@[simp] theorem modExc_icf (e : Nat) (f : Exc → Exc) (d : Dev) : (modExc e f d).icf = d.icf := rfl
@[simp] theorem modExc_cte (e : Nat) (f : Exc → Exc) (d : Dev) : (modExc e f d).cte = d.cte := rfl
@[simp] theorem rd_modExc (e : Nat) (f : Exc → Exc) (d : Dev) (b : Nat) : rd (modExc e f d) b = rd d b := rfl
@[simp] theorem now_modExc (e : Nat) (f : Exc → Exc) (d : Dev) : now (modExc e f d) = now d := rfl

@[simp] theorem modFls_phase (f : FlsState → FlsState) (d : Dev) : (modFls f d).phase = d.phase := rfl
@[simp] theorem modFls_ltb (f : FlsState → FlsState) (d : Dev) : (modFls f d).ltb = d.ltb := rfl
@[simp] theorem modFls_regs (f : FlsState → FlsState) (d : Dev) : (modFls f d).regs = d.regs := rfl
@[simp] theorem modFls_raised (f : FlsState → FlsState) (d : Dev) : (modFls f d).raised = d.raised := rfl
@[simp] theorem modFls_response (f : FlsState → FlsState) (d : Dev) : (modFls f d).response = d.response := rfl
@[simp] theorem modFls_draws (f : FlsState → FlsState) (d : Dev) : (modFls f d).draws = d.draws := rfl
@[simp] theorem modFls_cfg (f : FlsState → FlsState) (d : Dev) : (modFls f d).cfg = d.cfg := rfl
@[simp] theorem modFls_glk (f : FlsState → FlsState) (d : Dev) : (modFls f d).glk = d.glk := rfl
@[simp] theorem modFls_sis (f : FlsState → FlsState) (d : Dev) : (modFls f d).sis = d.sis := rfl
@[simp] theorem modFls_cpx (f : FlsState → FlsState) (d : Dev) : (modFls f d).cpx = d.cpx := rfl
@[simp] theorem modFls_icf (f : FlsState → FlsState) (d : Dev) : (modFls f d).icf = d.icf := rfl
@[simp] theorem modFls_cte (f : FlsState → FlsState) (d : Dev) : (modFls f d).cte = d.cte := rfl
@[simp] theorem rd_modFls (f : FlsState → FlsState) (d : Dev) (b : Nat) : rd (modFls f d) b = rd d b := rfl
@[simp] theorem now_modFls (f : FlsState → FlsState) (d : Dev) : now (modFls f d) = now d := rfl

@[simp] theorem modGroup_phase (g : Nat) (f : Group → Group) (d : Dev) : (modGroup g f d).phase = d.phase := rfl
@[simp] theorem modGroup_ltb (g : Nat) (f : Group → Group) (d : Dev) : (modGroup g f d).ltb = d.ltb := rfl
@[simp] theorem modGroup_regs (g : Nat) (f : Group → Group) (d : Dev) : (modGroup g f d).regs = d.regs := rfl
@[simp] theorem modGroup_raised (g : Nat) (f : Group → Group) (d : Dev) : (modGroup g f d).raised = d.raised := rfl
@[simp] theorem modGroup_response (g : Nat) (f : Group → Group) (d : Dev) : (modGroup g f d).response = d.response := rfl
@[simp] theorem modGroup_draws (g : Nat) (f : Group → Group) (d : Dev) : (modGroup g f d).draws = d.draws := rfl
@[simp] theorem modGroup_cfg (g : Nat) (f : Group → Group) (d : Dev) : (modGroup g f d).cfg = d.cfg := rfl
@[simp] theorem modGroup_glk (g : Nat) (f : Group → Group) (d : Dev) : (modGroup g f d).glk = d.glk := rfl
@[simp] theorem modGroup_sis (g : Nat) (f : Group → Group) (d : Dev) : (modGroup g f d).sis = d.sis := rfl
@[simp] theorem modGroup_cpx (g : Nat) (f : Group → Group) (d : Dev) : (modGroup g f d).cpx = d.cpx := rfl
@[simp] theorem modGroup_icf (g : Nat) (f : Group → Group) (d : Dev) : (modGroup g f d).icf = d.icf := rfl
@[simp] theorem modGroup_cte (g : Nat) (f : Group → Group) (d : Dev) : (modGroup g f d).cte = d.cte := rfl
@[simp] theorem rd_modGroup (g : Nat) (f : Group → Group) (d : Dev) (b : Nat) : rd (modGroup g f d) b = rd d b := rfl
@[simp] theorem now_modGroup (g : Nat) (f : Group → Group) (d : Dev) : now (modGroup g f d) = now d := rfl

@[simp] theorem modJrn_phase (f : JrnState → JrnState) (d : Dev) : (modJrn f d).phase = d.phase := rfl
@[simp] theorem modJrn_ltb (f : JrnState → JrnState) (d : Dev) : (modJrn f d).ltb = d.ltb := rfl
@[simp] theorem modJrn_regs (f : JrnState → JrnState) (d : Dev) : (modJrn f d).regs = d.regs := rfl
@[simp] theorem modJrn_raised (f : JrnState → JrnState) (d : Dev) : (modJrn f d).raised = d.raised := rfl
@[simp] theorem modJrn_response (f : JrnState → JrnState) (d : Dev) : (modJrn f d).response = d.response := rfl
@[simp] theorem modJrn_draws (f : JrnState → JrnState) (d : Dev) : (modJrn f d).draws = d.draws := rfl
@[simp] theorem modJrn_cfg (f : JrnState → JrnState) (d : Dev) : (modJrn f d).cfg = d.cfg := rfl
@[simp] theorem modJrn_glk (f : JrnState → JrnState) (d : Dev) : (modJrn f d).glk = d.glk := rfl
@[simp] theorem modJrn_sis (f : JrnState → JrnState) (d : Dev) : (modJrn f d).sis = d.sis := rfl
@[simp] theorem modJrn_cpx (f : JrnState → JrnState) (d : Dev) : (modJrn f d).cpx = d.cpx := rfl
@[simp] theorem modJrn_icf (f : JrnState → JrnState) (d : Dev) : (modJrn f d).icf = d.icf := rfl
@[simp] theorem modJrn_cte (f : JrnState → JrnState) (d : Dev) : (modJrn f d).cte = d.cte := rfl
@[simp] theorem rd_modJrn (f : JrnState → JrnState) (d : Dev) (b : Nat) : rd (modJrn f d) b = rd d b := rfl
@[simp] theorem now_modJrn (f : JrnState → JrnState) (d : Dev) : now (modJrn f d) = now d := rfl

@[simp] theorem modLeg_phase (l : Nat) (f : Leg → Leg) (d : Dev) : (modLeg l f d).phase = d.phase := rfl
@[simp] theorem modLeg_ltb (l : Nat) (f : Leg → Leg) (d : Dev) : (modLeg l f d).ltb = d.ltb := rfl
@[simp] theorem modLeg_regs (l : Nat) (f : Leg → Leg) (d : Dev) : (modLeg l f d).regs = d.regs := rfl
@[simp] theorem modLeg_raised (l : Nat) (f : Leg → Leg) (d : Dev) : (modLeg l f d).raised = d.raised := rfl
@[simp] theorem modLeg_response (l : Nat) (f : Leg → Leg) (d : Dev) : (modLeg l f d).response = d.response := rfl
@[simp] theorem modLeg_draws (l : Nat) (f : Leg → Leg) (d : Dev) : (modLeg l f d).draws = d.draws := rfl
@[simp] theorem modLeg_cfg (l : Nat) (f : Leg → Leg) (d : Dev) : (modLeg l f d).cfg = d.cfg := rfl
@[simp] theorem modLeg_glk (l : Nat) (f : Leg → Leg) (d : Dev) : (modLeg l f d).glk = d.glk := rfl
@[simp] theorem modLeg_sis (l : Nat) (f : Leg → Leg) (d : Dev) : (modLeg l f d).sis = d.sis := rfl
@[simp] theorem modLeg_cpx (l : Nat) (f : Leg → Leg) (d : Dev) : (modLeg l f d).cpx = d.cpx := rfl
@[simp] theorem modLeg_icf (l : Nat) (f : Leg → Leg) (d : Dev) : (modLeg l f d).icf = d.icf := rfl
@[simp] theorem modLeg_cte (l : Nat) (f : Leg → Leg) (d : Dev) : (modLeg l f d).cte = d.cte := rfl
@[simp] theorem rd_modLeg (l : Nat) (f : Leg → Leg) (d : Dev) (b : Nat) : rd (modLeg l f d) b = rd d b := rfl
@[simp] theorem now_modLeg (l : Nat) (f : Leg → Leg) (d : Dev) : now (modLeg l f d) = now d := rfl

@[simp] theorem modMac_phase (n : Nat) (f : EthMac → EthMac) (d : Dev) : (modMac n f d).phase = d.phase := rfl
@[simp] theorem modMac_ltb (n : Nat) (f : EthMac → EthMac) (d : Dev) : (modMac n f d).ltb = d.ltb := rfl
@[simp] theorem modMac_regs (n : Nat) (f : EthMac → EthMac) (d : Dev) : (modMac n f d).regs = d.regs := rfl
@[simp] theorem modMac_raised (n : Nat) (f : EthMac → EthMac) (d : Dev) : (modMac n f d).raised = d.raised := rfl
@[simp] theorem modMac_response (n : Nat) (f : EthMac → EthMac) (d : Dev) : (modMac n f d).response = d.response := rfl
@[simp] theorem modMac_draws (n : Nat) (f : EthMac → EthMac) (d : Dev) : (modMac n f d).draws = d.draws := rfl
@[simp] theorem modMac_cfg (n : Nat) (f : EthMac → EthMac) (d : Dev) : (modMac n f d).cfg = d.cfg := rfl
@[simp] theorem modMac_glk (n : Nat) (f : EthMac → EthMac) (d : Dev) : (modMac n f d).glk = d.glk := rfl
@[simp] theorem modMac_sis (n : Nat) (f : EthMac → EthMac) (d : Dev) : (modMac n f d).sis = d.sis := rfl
@[simp] theorem modMac_cpx (n : Nat) (f : EthMac → EthMac) (d : Dev) : (modMac n f d).cpx = d.cpx := rfl
@[simp] theorem modMac_icf (n : Nat) (f : EthMac → EthMac) (d : Dev) : (modMac n f d).icf = d.icf := rfl
@[simp] theorem modMac_cte (n : Nat) (f : EthMac → EthMac) (d : Dev) : (modMac n f d).cte = d.cte := rfl
@[simp] theorem rd_modMac (n : Nat) (f : EthMac → EthMac) (d : Dev) (b : Nat) : rd (modMac n f d) b = rd d b := rfl
@[simp] theorem now_modMac (n : Nat) (f : EthMac → EthMac) (d : Dev) : now (modMac n f d) = now d := rfl

@[simp] theorem modMonitor_phase (a : Nat) (f : TrqMon → TrqMon) (d : Dev) : (modMonitor a f d).phase = d.phase := rfl
@[simp] theorem modMonitor_ltb (a : Nat) (f : TrqMon → TrqMon) (d : Dev) : (modMonitor a f d).ltb = d.ltb := rfl
@[simp] theorem modMonitor_regs (a : Nat) (f : TrqMon → TrqMon) (d : Dev) : (modMonitor a f d).regs = d.regs := rfl
@[simp] theorem modMonitor_raised (a : Nat) (f : TrqMon → TrqMon) (d : Dev) : (modMonitor a f d).raised = d.raised := rfl
@[simp] theorem modMonitor_response (a : Nat) (f : TrqMon → TrqMon) (d : Dev) : (modMonitor a f d).response = d.response := rfl
@[simp] theorem modMonitor_draws (a : Nat) (f : TrqMon → TrqMon) (d : Dev) : (modMonitor a f d).draws = d.draws := rfl
@[simp] theorem modMonitor_cfg (a : Nat) (f : TrqMon → TrqMon) (d : Dev) : (modMonitor a f d).cfg = d.cfg := rfl
@[simp] theorem modMonitor_glk (a : Nat) (f : TrqMon → TrqMon) (d : Dev) : (modMonitor a f d).glk = d.glk := rfl
@[simp] theorem modMonitor_cpx (a : Nat) (f : TrqMon → TrqMon) (d : Dev) : (modMonitor a f d).cpx = d.cpx := rfl
@[simp] theorem modMonitor_icf (a : Nat) (f : TrqMon → TrqMon) (d : Dev) : (modMonitor a f d).icf = d.icf := rfl
@[simp] theorem modMonitor_cte (a : Nat) (f : TrqMon → TrqMon) (d : Dev) : (modMonitor a f d).cte = d.cte := rfl
@[simp] theorem rd_modMonitor (a : Nat) (f : TrqMon → TrqMon) (d : Dev) (b : Nat) : rd (modMonitor a f d) b = rd d b := rfl
@[simp] theorem now_modMonitor (a : Nat) (f : TrqMon → TrqMon) (d : Dev) : now (modMonitor a f d) = now d := rfl

@[simp] theorem modNtu_phase (f : NtuState → NtuState) (d : Dev) : (modNtu f d).phase = d.phase := rfl
@[simp] theorem modNtu_ltb (f : NtuState → NtuState) (d : Dev) : (modNtu f d).ltb = d.ltb := rfl
@[simp] theorem modNtu_regs (f : NtuState → NtuState) (d : Dev) : (modNtu f d).regs = d.regs := rfl
@[simp] theorem modNtu_raised (f : NtuState → NtuState) (d : Dev) : (modNtu f d).raised = d.raised := rfl
@[simp] theorem modNtu_response (f : NtuState → NtuState) (d : Dev) : (modNtu f d).response = d.response := rfl
@[simp] theorem modNtu_draws (f : NtuState → NtuState) (d : Dev) : (modNtu f d).draws = d.draws := rfl
@[simp] theorem modNtu_cfg (f : NtuState → NtuState) (d : Dev) : (modNtu f d).cfg = d.cfg := rfl
@[simp] theorem modNtu_glk (f : NtuState → NtuState) (d : Dev) : (modNtu f d).glk = d.glk := rfl
@[simp] theorem modNtu_sis (f : NtuState → NtuState) (d : Dev) : (modNtu f d).sis = d.sis := rfl
@[simp] theorem modNtu_cpx (f : NtuState → NtuState) (d : Dev) : (modNtu f d).cpx = d.cpx := rfl
@[simp] theorem modNtu_icf (f : NtuState → NtuState) (d : Dev) : (modNtu f d).icf = d.icf := rfl
@[simp] theorem modNtu_cte (f : NtuState → NtuState) (d : Dev) : (modNtu f d).cte = d.cte := rfl
@[simp] theorem rd_modNtu (f : NtuState → NtuState) (d : Dev) (b : Nat) : rd (modNtu f d) b = rd d b := rfl
@[simp] theorem now_modNtu (f : NtuState → NtuState) (d : Dev) : now (modNtu f d) = now d := rfl

@[simp] theorem modPair_phase (p : Nat) (f : AdsPair → AdsPair) (d : Dev) : (modPair p f d).phase = d.phase := rfl
@[simp] theorem modPair_ltb (p : Nat) (f : AdsPair → AdsPair) (d : Dev) : (modPair p f d).ltb = d.ltb := rfl
@[simp] theorem modPair_regs (p : Nat) (f : AdsPair → AdsPair) (d : Dev) : (modPair p f d).regs = d.regs := rfl
@[simp] theorem modPair_raised (p : Nat) (f : AdsPair → AdsPair) (d : Dev) : (modPair p f d).raised = d.raised := rfl
@[simp] theorem modPair_response (p : Nat) (f : AdsPair → AdsPair) (d : Dev) : (modPair p f d).response = d.response := rfl
@[simp] theorem modPair_draws (p : Nat) (f : AdsPair → AdsPair) (d : Dev) : (modPair p f d).draws = d.draws := rfl
@[simp] theorem modPair_cfg (p : Nat) (f : AdsPair → AdsPair) (d : Dev) : (modPair p f d).cfg = d.cfg := rfl
@[simp] theorem modPair_glk (p : Nat) (f : AdsPair → AdsPair) (d : Dev) : (modPair p f d).glk = d.glk := rfl
@[simp] theorem modPair_sis (p : Nat) (f : AdsPair → AdsPair) (d : Dev) : (modPair p f d).sis = d.sis := rfl
@[simp] theorem modPair_cpx (p : Nat) (f : AdsPair → AdsPair) (d : Dev) : (modPair p f d).cpx = d.cpx := rfl
@[simp] theorem modPair_icf (p : Nat) (f : AdsPair → AdsPair) (d : Dev) : (modPair p f d).icf = d.icf := rfl
@[simp] theorem modPair_cte (p : Nat) (f : AdsPair → AdsPair) (d : Dev) : (modPair p f d).cte = d.cte := rfl
@[simp] theorem rd_modPair (p : Nat) (f : AdsPair → AdsPair) (d : Dev) (b : Nat) : rd (modPair p f d) b = rd d b := rfl
@[simp] theorem now_modPair (p : Nat) (f : AdsPair → AdsPair) (d : Dev) : now (modPair p f d) = now d := rfl

@[simp] theorem modPort_phase (p : Nat) (f : Port → Port) (d : Dev) : (modPort p f d).phase = d.phase := rfl
@[simp] theorem modPort_ltb (p : Nat) (f : Port → Port) (d : Dev) : (modPort p f d).ltb = d.ltb := rfl
@[simp] theorem modPort_regs (p : Nat) (f : Port → Port) (d : Dev) : (modPort p f d).regs = d.regs := rfl
@[simp] theorem modPort_raised (p : Nat) (f : Port → Port) (d : Dev) : (modPort p f d).raised = d.raised := rfl
@[simp] theorem modPort_response (p : Nat) (f : Port → Port) (d : Dev) : (modPort p f d).response = d.response := rfl
@[simp] theorem modPort_draws (p : Nat) (f : Port → Port) (d : Dev) : (modPort p f d).draws = d.draws := rfl
@[simp] theorem modPort_cfg (p : Nat) (f : Port → Port) (d : Dev) : (modPort p f d).cfg = d.cfg := rfl
@[simp] theorem modPort_sis (p : Nat) (f : Port → Port) (d : Dev) : (modPort p f d).sis = d.sis := rfl
@[simp] theorem modPort_cpx (p : Nat) (f : Port → Port) (d : Dev) : (modPort p f d).cpx = d.cpx := rfl
@[simp] theorem modPort_icf (p : Nat) (f : Port → Port) (d : Dev) : (modPort p f d).icf = d.icf := rfl
@[simp] theorem modPort_cte (p : Nat) (f : Port → Port) (d : Dev) : (modPort p f d).cte = d.cte := rfl
@[simp] theorem rd_modPort (p : Nat) (f : Port → Port) (d : Dev) (b : Nat) : rd (modPort p f d) b = rd d b := rfl
@[simp] theorem now_modPort (p : Nat) (f : Port → Port) (d : Dev) : now (modPort p f d) = now d := rfl

@[simp] theorem modPp_phase (n : Nat) (f : Pair → Pair) (d : Dev) : (modPp n f d).phase = d.phase := rfl
@[simp] theorem modPp_ltb (n : Nat) (f : Pair → Pair) (d : Dev) : (modPp n f d).ltb = d.ltb := rfl
@[simp] theorem modPp_regs (n : Nat) (f : Pair → Pair) (d : Dev) : (modPp n f d).regs = d.regs := rfl
@[simp] theorem modPp_raised (n : Nat) (f : Pair → Pair) (d : Dev) : (modPp n f d).raised = d.raised := rfl
@[simp] theorem modPp_response (n : Nat) (f : Pair → Pair) (d : Dev) : (modPp n f d).response = d.response := rfl
@[simp] theorem modPp_draws (n : Nat) (f : Pair → Pair) (d : Dev) : (modPp n f d).draws = d.draws := rfl
@[simp] theorem modPp_cfg (n : Nat) (f : Pair → Pair) (d : Dev) : (modPp n f d).cfg = d.cfg := rfl
@[simp] theorem modPp_glk (n : Nat) (f : Pair → Pair) (d : Dev) : (modPp n f d).glk = d.glk := rfl
@[simp] theorem modPp_sis (n : Nat) (f : Pair → Pair) (d : Dev) : (modPp n f d).sis = d.sis := rfl
@[simp] theorem modPp_icf (n : Nat) (f : Pair → Pair) (d : Dev) : (modPp n f d).icf = d.icf := rfl
@[simp] theorem modPp_cte (n : Nat) (f : Pair → Pair) (d : Dev) : (modPp n f d).cte = d.cte := rfl
@[simp] theorem rd_modPp (n : Nat) (f : Pair → Pair) (d : Dev) (b : Nat) : rd (modPp n f d) b = rd d b := rfl
@[simp] theorem now_modPp (n : Nat) (f : Pair → Pair) (d : Dev) : now (modPp n f d) = now d := rfl

@[simp] theorem modPspAxis_phase (a : Nat) (f : PspAxis → PspAxis) (d : Dev) : (modPspAxis a f d).phase = d.phase := rfl
@[simp] theorem modPspAxis_ltb (a : Nat) (f : PspAxis → PspAxis) (d : Dev) : (modPspAxis a f d).ltb = d.ltb := rfl
@[simp] theorem modPspAxis_regs (a : Nat) (f : PspAxis → PspAxis) (d : Dev) : (modPspAxis a f d).regs = d.regs := rfl
@[simp] theorem modPspAxis_raised (a : Nat) (f : PspAxis → PspAxis) (d : Dev) : (modPspAxis a f d).raised = d.raised := rfl
@[simp] theorem modPspAxis_response (a : Nat) (f : PspAxis → PspAxis) (d : Dev) : (modPspAxis a f d).response = d.response := rfl
@[simp] theorem modPspAxis_draws (a : Nat) (f : PspAxis → PspAxis) (d : Dev) : (modPspAxis a f d).draws = d.draws := rfl
@[simp] theorem modPspAxis_cfg (a : Nat) (f : PspAxis → PspAxis) (d : Dev) : (modPspAxis a f d).cfg = d.cfg := rfl
@[simp] theorem modPspAxis_glk (a : Nat) (f : PspAxis → PspAxis) (d : Dev) : (modPspAxis a f d).glk = d.glk := rfl
@[simp] theorem modPspAxis_sis (a : Nat) (f : PspAxis → PspAxis) (d : Dev) : (modPspAxis a f d).sis = d.sis := rfl
@[simp] theorem modPspAxis_cpx (a : Nat) (f : PspAxis → PspAxis) (d : Dev) : (modPspAxis a f d).cpx = d.cpx := rfl
@[simp] theorem modPspAxis_icf (a : Nat) (f : PspAxis → PspAxis) (d : Dev) : (modPspAxis a f d).icf = d.icf := rfl
@[simp] theorem modPspAxis_cte (a : Nat) (f : PspAxis → PspAxis) (d : Dev) : (modPspAxis a f d).cte = d.cte := rfl
@[simp] theorem rd_modPspAxis (a : Nat) (f : PspAxis → PspAxis) (d : Dev) (b : Nat) : rd (modPspAxis a f d) b = rd d b := rfl
@[simp] theorem now_modPspAxis (a : Nat) (f : PspAxis → PspAxis) (d : Dev) : now (modPspAxis a f d) = now d := rfl

@[simp] theorem modPspLink_phase (l : Nat) (f : PspLink → PspLink) (d : Dev) : (modPspLink l f d).phase = d.phase := rfl
@[simp] theorem modPspLink_ltb (l : Nat) (f : PspLink → PspLink) (d : Dev) : (modPspLink l f d).ltb = d.ltb := rfl
@[simp] theorem modPspLink_regs (l : Nat) (f : PspLink → PspLink) (d : Dev) : (modPspLink l f d).regs = d.regs := rfl
@[simp] theorem modPspLink_raised (l : Nat) (f : PspLink → PspLink) (d : Dev) : (modPspLink l f d).raised = d.raised := rfl
@[simp] theorem modPspLink_response (l : Nat) (f : PspLink → PspLink) (d : Dev) : (modPspLink l f d).response = d.response := rfl
@[simp] theorem modPspLink_draws (l : Nat) (f : PspLink → PspLink) (d : Dev) : (modPspLink l f d).draws = d.draws := rfl
@[simp] theorem modPspLink_cfg (l : Nat) (f : PspLink → PspLink) (d : Dev) : (modPspLink l f d).cfg = d.cfg := rfl
@[simp] theorem modPspLink_glk (l : Nat) (f : PspLink → PspLink) (d : Dev) : (modPspLink l f d).glk = d.glk := rfl
@[simp] theorem modPspLink_sis (l : Nat) (f : PspLink → PspLink) (d : Dev) : (modPspLink l f d).sis = d.sis := rfl
@[simp] theorem modPspLink_cpx (l : Nat) (f : PspLink → PspLink) (d : Dev) : (modPspLink l f d).cpx = d.cpx := rfl
@[simp] theorem modPspLink_icf (l : Nat) (f : PspLink → PspLink) (d : Dev) : (modPspLink l f d).icf = d.icf := rfl
@[simp] theorem modPspLink_cte (l : Nat) (f : PspLink → PspLink) (d : Dev) : (modPspLink l f d).cte = d.cte := rfl
@[simp] theorem rd_modPspLink (l : Nat) (f : PspLink → PspLink) (d : Dev) (b : Nat) : rd (modPspLink l f d) b = rd d b := rfl
@[simp] theorem now_modPspLink (l : Nat) (f : PspLink → PspLink) (d : Dev) : now (modPspLink l f d) = now d := rfl

@[simp] theorem modRegion_phase (r : Nat) (f : ThmRegion → ThmRegion) (d : Dev) : (modRegion r f d).phase = d.phase := rfl
@[simp] theorem modRegion_ltb (r : Nat) (f : ThmRegion → ThmRegion) (d : Dev) : (modRegion r f d).ltb = d.ltb := rfl
@[simp] theorem modRegion_regs (r : Nat) (f : ThmRegion → ThmRegion) (d : Dev) : (modRegion r f d).regs = d.regs := rfl
@[simp] theorem modRegion_raised (r : Nat) (f : ThmRegion → ThmRegion) (d : Dev) : (modRegion r f d).raised = d.raised := rfl
@[simp] theorem modRegion_response (r : Nat) (f : ThmRegion → ThmRegion) (d : Dev) : (modRegion r f d).response = d.response := rfl
@[simp] theorem modRegion_draws (r : Nat) (f : ThmRegion → ThmRegion) (d : Dev) : (modRegion r f d).draws = d.draws := rfl
@[simp] theorem modRegion_cfg (r : Nat) (f : ThmRegion → ThmRegion) (d : Dev) : (modRegion r f d).cfg = d.cfg := rfl
@[simp] theorem modRegion_glk (r : Nat) (f : ThmRegion → ThmRegion) (d : Dev) : (modRegion r f d).glk = d.glk := rfl
@[simp] theorem modRegion_sis (r : Nat) (f : ThmRegion → ThmRegion) (d : Dev) : (modRegion r f d).sis = d.sis := rfl
@[simp] theorem modRegion_cpx (r : Nat) (f : ThmRegion → ThmRegion) (d : Dev) : (modRegion r f d).cpx = d.cpx := rfl
@[simp] theorem modRegion_icf (r : Nat) (f : ThmRegion → ThmRegion) (d : Dev) : (modRegion r f d).icf = d.icf := rfl
@[simp] theorem modRegion_cte (r : Nat) (f : ThmRegion → ThmRegion) (d : Dev) : (modRegion r f d).cte = d.cte := rfl
@[simp] theorem rd_modRegion (r : Nat) (f : ThmRegion → ThmRegion) (d : Dev) (b : Nat) : rd (modRegion r f d) b = rd d b := rfl
@[simp] theorem now_modRegion (r : Nat) (f : ThmRegion → ThmRegion) (d : Dev) : now (modRegion r f d) = now d := rfl

@[simp] theorem modRs_phase (a : Nat) (f : RsChan → RsChan) (d : Dev) : (modRs a f d).phase = d.phase := rfl
@[simp] theorem modRs_ltb (a : Nat) (f : RsChan → RsChan) (d : Dev) : (modRs a f d).ltb = d.ltb := rfl
@[simp] theorem modRs_regs (a : Nat) (f : RsChan → RsChan) (d : Dev) : (modRs a f d).regs = d.regs := rfl
@[simp] theorem modRs_raised (a : Nat) (f : RsChan → RsChan) (d : Dev) : (modRs a f d).raised = d.raised := rfl
@[simp] theorem modRs_response (a : Nat) (f : RsChan → RsChan) (d : Dev) : (modRs a f d).response = d.response := rfl
@[simp] theorem modRs_draws (a : Nat) (f : RsChan → RsChan) (d : Dev) : (modRs a f d).draws = d.draws := rfl
@[simp] theorem modRs_cfg (a : Nat) (f : RsChan → RsChan) (d : Dev) : (modRs a f d).cfg = d.cfg := rfl
@[simp] theorem modRs_glk (a : Nat) (f : RsChan → RsChan) (d : Dev) : (modRs a f d).glk = d.glk := rfl
@[simp] theorem modRs_sis (a : Nat) (f : RsChan → RsChan) (d : Dev) : (modRs a f d).sis = d.sis := rfl
@[simp] theorem modRs_cpx (a : Nat) (f : RsChan → RsChan) (d : Dev) : (modRs a f d).cpx = d.cpx := rfl
@[simp] theorem modRs_icf (a : Nat) (f : RsChan → RsChan) (d : Dev) : (modRs a f d).icf = d.icf := rfl
@[simp] theorem modRs_cte (a : Nat) (f : RsChan → RsChan) (d : Dev) : (modRs a f d).cte = d.cte := rfl
@[simp] theorem rd_modRs (a : Nat) (f : RsChan → RsChan) (d : Dev) (b : Nat) : rd (modRs a f d) b = rd d b := rfl
@[simp] theorem now_modRs (a : Nat) (f : RsChan → RsChan) (d : Dev) : now (modRs a f d) = now d := rfl

@[simp] theorem modSdm_phase (n : Nat) (f : SdmChan → SdmChan) (d : Dev) : (modSdm n f d).phase = d.phase := rfl
@[simp] theorem modSdm_ltb (n : Nat) (f : SdmChan → SdmChan) (d : Dev) : (modSdm n f d).ltb = d.ltb := rfl
@[simp] theorem modSdm_regs (n : Nat) (f : SdmChan → SdmChan) (d : Dev) : (modSdm n f d).regs = d.regs := rfl
@[simp] theorem modSdm_raised (n : Nat) (f : SdmChan → SdmChan) (d : Dev) : (modSdm n f d).raised = d.raised := rfl
@[simp] theorem modSdm_response (n : Nat) (f : SdmChan → SdmChan) (d : Dev) : (modSdm n f d).response = d.response := rfl
@[simp] theorem modSdm_draws (n : Nat) (f : SdmChan → SdmChan) (d : Dev) : (modSdm n f d).draws = d.draws := rfl
@[simp] theorem modSdm_cfg (n : Nat) (f : SdmChan → SdmChan) (d : Dev) : (modSdm n f d).cfg = d.cfg := rfl
@[simp] theorem modSdm_glk (n : Nat) (f : SdmChan → SdmChan) (d : Dev) : (modSdm n f d).glk = d.glk := rfl
@[simp] theorem modSdm_sis (n : Nat) (f : SdmChan → SdmChan) (d : Dev) : (modSdm n f d).sis = d.sis := rfl
@[simp] theorem modSdm_cpx (n : Nat) (f : SdmChan → SdmChan) (d : Dev) : (modSdm n f d).cpx = d.cpx := rfl
@[simp] theorem modSdm_icf (n : Nat) (f : SdmChan → SdmChan) (d : Dev) : (modSdm n f d).icf = d.icf := rfl
@[simp] theorem modSdm_cte (n : Nat) (f : SdmChan → SdmChan) (d : Dev) : (modSdm n f d).cte = d.cte := rfl
@[simp] theorem rd_modSdm (n : Nat) (f : SdmChan → SdmChan) (d : Dev) (b : Nat) : rd (modSdm n f d) b = rd d b := rfl
@[simp] theorem now_modSdm (n : Nat) (f : SdmChan → SdmChan) (d : Dev) : now (modSdm n f d) = now d := rfl

@[simp] theorem modSis_phase (f : SisState → SisState) (d : Dev) : (modSis f d).phase = d.phase := rfl
@[simp] theorem modSis_ltb (f : SisState → SisState) (d : Dev) : (modSis f d).ltb = d.ltb := rfl
@[simp] theorem modSis_regs (f : SisState → SisState) (d : Dev) : (modSis f d).regs = d.regs := rfl
@[simp] theorem modSis_raised (f : SisState → SisState) (d : Dev) : (modSis f d).raised = d.raised := rfl
@[simp] theorem modSis_response (f : SisState → SisState) (d : Dev) : (modSis f d).response = d.response := rfl
@[simp] theorem modSis_draws (f : SisState → SisState) (d : Dev) : (modSis f d).draws = d.draws := rfl
@[simp] theorem modSis_cfg (f : SisState → SisState) (d : Dev) : (modSis f d).cfg = d.cfg := rfl
@[simp] theorem modSis_glk (f : SisState → SisState) (d : Dev) : (modSis f d).glk = d.glk := rfl
@[simp] theorem modSis_cpx (f : SisState → SisState) (d : Dev) : (modSis f d).cpx = d.cpx := rfl
@[simp] theorem modSis_icf (f : SisState → SisState) (d : Dev) : (modSis f d).icf = d.icf := rfl
@[simp] theorem modSis_cte (f : SisState → SisState) (d : Dev) : (modSis f d).cte = d.cte := rfl
@[simp] theorem rd_modSis (f : SisState → SisState) (d : Dev) (b : Nat) : rd (modSis f d) b = rd d b := rfl
@[simp] theorem now_modSis (f : SisState → SisState) (d : Dev) : now (modSis f d) = now d := rfl

@[simp] theorem modSisLink_phase (l : Nat) (f : SisLink → SisLink) (d : Dev) : (modSisLink l f d).phase = d.phase := rfl
@[simp] theorem modSisLink_ltb (l : Nat) (f : SisLink → SisLink) (d : Dev) : (modSisLink l f d).ltb = d.ltb := rfl
@[simp] theorem modSisLink_regs (l : Nat) (f : SisLink → SisLink) (d : Dev) : (modSisLink l f d).regs = d.regs := rfl
@[simp] theorem modSisLink_raised (l : Nat) (f : SisLink → SisLink) (d : Dev) : (modSisLink l f d).raised = d.raised := rfl
@[simp] theorem modSisLink_response (l : Nat) (f : SisLink → SisLink) (d : Dev) : (modSisLink l f d).response = d.response := rfl
@[simp] theorem modSisLink_draws (l : Nat) (f : SisLink → SisLink) (d : Dev) : (modSisLink l f d).draws = d.draws := rfl
@[simp] theorem modSisLink_cfg (l : Nat) (f : SisLink → SisLink) (d : Dev) : (modSisLink l f d).cfg = d.cfg := rfl
@[simp] theorem modSisLink_glk (l : Nat) (f : SisLink → SisLink) (d : Dev) : (modSisLink l f d).glk = d.glk := rfl
@[simp] theorem modSisLink_cpx (l : Nat) (f : SisLink → SisLink) (d : Dev) : (modSisLink l f d).cpx = d.cpx := rfl
@[simp] theorem modSisLink_icf (l : Nat) (f : SisLink → SisLink) (d : Dev) : (modSisLink l f d).icf = d.icf := rfl
@[simp] theorem modSisLink_cte (l : Nat) (f : SisLink → SisLink) (d : Dev) : (modSisLink l f d).cte = d.cte := rfl
@[simp] theorem rd_modSisLink (l : Nat) (f : SisLink → SisLink) (d : Dev) (b : Nat) : rd (modSisLink l f d) b = rd d b := rfl
@[simp] theorem now_modSisLink (l : Nat) (f : SisLink → SisLink) (d : Dev) : now (modSisLink l f d) = now d := rfl

@[simp] theorem modSlot_phase (s : Nat) (f : CsqSlot → CsqSlot) (d : Dev) : (modSlot s f d).phase = d.phase := rfl
@[simp] theorem modSlot_ltb (s : Nat) (f : CsqSlot → CsqSlot) (d : Dev) : (modSlot s f d).ltb = d.ltb := rfl
@[simp] theorem modSlot_raised (s : Nat) (f : CsqSlot → CsqSlot) (d : Dev) : (modSlot s f d).raised = d.raised := rfl
@[simp] theorem modSlot_response (s : Nat) (f : CsqSlot → CsqSlot) (d : Dev) : (modSlot s f d).response = d.response := rfl
@[simp] theorem modSlot_draws (s : Nat) (f : CsqSlot → CsqSlot) (d : Dev) : (modSlot s f d).draws = d.draws := rfl
@[simp] theorem modSlot_cfg (s : Nat) (f : CsqSlot → CsqSlot) (d : Dev) : (modSlot s f d).cfg = d.cfg := rfl
@[simp] theorem modSlot_glk (s : Nat) (f : CsqSlot → CsqSlot) (d : Dev) : (modSlot s f d).glk = d.glk := rfl
@[simp] theorem modSlot_sis (s : Nat) (f : CsqSlot → CsqSlot) (d : Dev) : (modSlot s f d).sis = d.sis := rfl
@[simp] theorem modSlot_cpx (s : Nat) (f : CsqSlot → CsqSlot) (d : Dev) : (modSlot s f d).cpx = d.cpx := rfl
@[simp] theorem modSlot_icf (s : Nat) (f : CsqSlot → CsqSlot) (d : Dev) : (modSlot s f d).icf = d.icf := rfl
@[simp] theorem modSlot_cte (s : Nat) (f : CsqSlot → CsqSlot) (d : Dev) : (modSlot s f d).cte = d.cte := rfl
@[simp] theorem now_modSlot (s : Nat) (f : CsqSlot → CsqSlot) (d : Dev) : now (modSlot s f d) = now d := rfl

@[simp] theorem modSub_phase (s : Nat) (f : Subscription → Subscription) (d : Dev) : (modSub s f d).phase = d.phase := rfl
@[simp] theorem modSub_ltb (s : Nat) (f : Subscription → Subscription) (d : Dev) : (modSub s f d).ltb = d.ltb := rfl
@[simp] theorem modSub_regs (s : Nat) (f : Subscription → Subscription) (d : Dev) : (modSub s f d).regs = d.regs := rfl
@[simp] theorem modSub_raised (s : Nat) (f : Subscription → Subscription) (d : Dev) : (modSub s f d).raised = d.raised := rfl
@[simp] theorem modSub_response (s : Nat) (f : Subscription → Subscription) (d : Dev) : (modSub s f d).response = d.response := rfl
@[simp] theorem modSub_draws (s : Nat) (f : Subscription → Subscription) (d : Dev) : (modSub s f d).draws = d.draws := rfl
@[simp] theorem modSub_cfg (s : Nat) (f : Subscription → Subscription) (d : Dev) : (modSub s f d).cfg = d.cfg := rfl
@[simp] theorem modSub_glk (s : Nat) (f : Subscription → Subscription) (d : Dev) : (modSub s f d).glk = d.glk := rfl
@[simp] theorem modSub_sis (s : Nat) (f : Subscription → Subscription) (d : Dev) : (modSub s f d).sis = d.sis := rfl
@[simp] theorem modSub_cpx (s : Nat) (f : Subscription → Subscription) (d : Dev) : (modSub s f d).cpx = d.cpx := rfl
@[simp] theorem modSub_icf (s : Nat) (f : Subscription → Subscription) (d : Dev) : (modSub s f d).icf = d.icf := rfl
@[simp] theorem modSub_cte (s : Nat) (f : Subscription → Subscription) (d : Dev) : (modSub s f d).cte = d.cte := rfl
@[simp] theorem rd_modSub (s : Nat) (f : Subscription → Subscription) (d : Dev) (b : Nat) : rd (modSub s f d) b = rd d b := rfl
@[simp] theorem now_modSub (s : Nat) (f : Subscription → Subscription) (d : Dev) : now (modSub s f d) = now d := rfl

@[simp] theorem modSwitch_phase (k : Nat) (f : ThmSwitch → ThmSwitch) (d : Dev) : (modSwitch k f d).phase = d.phase := rfl
@[simp] theorem modSwitch_ltb (k : Nat) (f : ThmSwitch → ThmSwitch) (d : Dev) : (modSwitch k f d).ltb = d.ltb := rfl
@[simp] theorem modSwitch_regs (k : Nat) (f : ThmSwitch → ThmSwitch) (d : Dev) : (modSwitch k f d).regs = d.regs := rfl
@[simp] theorem modSwitch_raised (k : Nat) (f : ThmSwitch → ThmSwitch) (d : Dev) : (modSwitch k f d).raised = d.raised := rfl
@[simp] theorem modSwitch_response (k : Nat) (f : ThmSwitch → ThmSwitch) (d : Dev) : (modSwitch k f d).response = d.response := rfl
@[simp] theorem modSwitch_draws (k : Nat) (f : ThmSwitch → ThmSwitch) (d : Dev) : (modSwitch k f d).draws = d.draws := rfl
@[simp] theorem modSwitch_cfg (k : Nat) (f : ThmSwitch → ThmSwitch) (d : Dev) : (modSwitch k f d).cfg = d.cfg := rfl
@[simp] theorem modSwitch_glk (k : Nat) (f : ThmSwitch → ThmSwitch) (d : Dev) : (modSwitch k f d).glk = d.glk := rfl
@[simp] theorem modSwitch_sis (k : Nat) (f : ThmSwitch → ThmSwitch) (d : Dev) : (modSwitch k f d).sis = d.sis := rfl
@[simp] theorem modSwitch_cpx (k : Nat) (f : ThmSwitch → ThmSwitch) (d : Dev) : (modSwitch k f d).cpx = d.cpx := rfl
@[simp] theorem modSwitch_icf (k : Nat) (f : ThmSwitch → ThmSwitch) (d : Dev) : (modSwitch k f d).icf = d.icf := rfl
@[simp] theorem modSwitch_cte (k : Nat) (f : ThmSwitch → ThmSwitch) (d : Dev) : (modSwitch k f d).cte = d.cte := rfl
@[simp] theorem rd_modSwitch (k : Nat) (f : ThmSwitch → ThmSwitch) (d : Dev) (b : Nat) : rd (modSwitch k f d) b = rd d b := rfl
@[simp] theorem now_modSwitch (k : Nat) (f : ThmSwitch → ThmSwitch) (d : Dev) : now (modSwitch k f d) = now d := rfl

@[simp] theorem modVote_phase (a : Nat) (f : Vote → Vote) (d : Dev) : (modVote a f d).phase = d.phase := rfl
@[simp] theorem modVote_ltb (a : Nat) (f : Vote → Vote) (d : Dev) : (modVote a f d).ltb = d.ltb := rfl
@[simp] theorem modVote_regs (a : Nat) (f : Vote → Vote) (d : Dev) : (modVote a f d).regs = d.regs := rfl
@[simp] theorem modVote_raised (a : Nat) (f : Vote → Vote) (d : Dev) : (modVote a f d).raised = d.raised := rfl
@[simp] theorem modVote_response (a : Nat) (f : Vote → Vote) (d : Dev) : (modVote a f d).response = d.response := rfl
@[simp] theorem modVote_draws (a : Nat) (f : Vote → Vote) (d : Dev) : (modVote a f d).draws = d.draws := rfl
@[simp] theorem modVote_cfg (a : Nat) (f : Vote → Vote) (d : Dev) : (modVote a f d).cfg = d.cfg := rfl
@[simp] theorem modVote_glk (a : Nat) (f : Vote → Vote) (d : Dev) : (modVote a f d).glk = d.glk := rfl
@[simp] theorem modVote_sis (a : Nat) (f : Vote → Vote) (d : Dev) : (modVote a f d).sis = d.sis := rfl
@[simp] theorem modVote_cpx (a : Nat) (f : Vote → Vote) (d : Dev) : (modVote a f d).cpx = d.cpx := rfl
@[simp] theorem modVote_icf (a : Nat) (f : Vote → Vote) (d : Dev) : (modVote a f d).icf = d.icf := rfl
@[simp] theorem modVote_cte (a : Nat) (f : Vote → Vote) (d : Dev) : (modVote a f d).cte = d.cte := rfl
@[simp] theorem rd_modVote (a : Nat) (f : Vote → Vote) (d : Dev) (b : Nat) : rd (modVote a f d) b = rd d b := rfl
@[simp] theorem now_modVote (a : Nat) (f : Vote → Vote) (d : Dev) : now (modVote a f d) = now d := rfl

/-- A step with a command at the front of the queue runs that command on the rest of the queue. -/
theorem step_cons (s : State) (c : Instr) (q : List Instr) (h : s.pending = c :: q) :
    step s = exec c { s with pending := q } := by simp [step, h]

end Sys2Proof.Machine
end

