-- ==== Sys2Proof/Laws/Registers.lean ====
section
/-! SUPPORT. The register file and bit fields: a read after a write. -/

namespace Sys2Proof.Machine

theorem regGet_regSet_self (l : List (Nat × Word)) (a : Nat) (v : Word) : regGet (regSet l a v) a = v := by
  induction l with
  | nil => simp [regSet, regGet]
  | cons c r ih =>
    obtain ⟨k, x⟩ := c
    unfold regSet
    split
    · simp [regGet]
    · split
      · simp [regGet]
      · rename_i h1 h2
        simp [regGet, h1, h2, ih]

theorem regGet_regSet_other (l : List (Nat × Word)) {a b : Nat} (v : Word) (h : b ≠ a) :
    regGet (regSet l a v) b = regGet l b := by
  induction l with
  | nil => simp [regSet, regGet, h]
  | cons c r ih =>
    obtain ⟨k, x⟩ := c
    unfold regSet
    split
    · subst_vars; simp [regGet, h]
    · split
      · rename_i h1 h2
        by_cases hb : b < a
        · have : b < k := by omega
          have : b ≠ k := by omega
          simp_all [regGet]
        · simp [regGet, h, hb]
      · simp [regGet, ih]

@[simp] theorem rd_wr_self (a : Nat) (v : Word) (d : Dev) : rd (wr a v d) a = v := regGet_regSet_self _ _ _

theorem rd_wr_other {a b : Nat} (v : Word) (d : Dev) (h : b ≠ a) : rd (wr a v d) b = rd d b :=
  regGet_regSet_other _ _ h

/-- A read after a write, at any address. -/
theorem rd_wr (a b : Nat) (v : Word) (d : Dev) : rd (wr a v d) b = if b = a then v else rd d b := by
  split
  · subst_vars; exact rd_wr_self _ _ _
  · exact rd_wr_other _ _ ‹_›

theorem rd_setFld_other {a b : Nat} (hi lo v : Nat) (d : Dev) (h : b ≠ a) : rd (setFld a hi lo v d) b = rd d b :=
  rd_wr_other _ _ h
theorem rd_setFlag_other {a b : Nat} (i : Nat) (x : Bool) (d : Dev) (h : b ≠ a) : rd (setFlag a i x d) b = rd d b :=
  rd_wr_other _ _ h
theorem rd_incFld_other {a b : Nat} (hi lo : Nat) (d : Dev) (h : b ≠ a) : rd (incFld a hi lo d) b = rd d b :=
  rd_wr_other _ _ h
theorem rd_addFld_other {a b : Nat} (hi lo n : Nat) (d : Dev) (h : b ≠ a) : rd (addFld a hi lo n d) b = rd d b :=
  rd_wr_other _ _ h

@[simp] theorem rd_setFlag_self (a i : Nat) (x : Bool) (d : Dev) : rd (setFlag a i x d) a = setBit (rd d a) i x :=
  rd_wr_self _ _ _
@[simp] theorem rd_setFld_self (a hi lo v : Nat) (d : Dev) : rd (setFld a hi lo v d) a = setBits (rd d a) hi lo v :=
  rd_wr_self _ _ _

/-- A bit of a field mask. -/
theorem getLsbD_maskOf {hi lo i : Nat} (h : hi < 32) (hl : lo ≤ hi) :
    (maskOf hi lo).getLsbD i = (decide (lo ≤ i) && decide (i ≤ hi)) := by
  unfold maskOf
  rw [BitVec.getLsbD_ofNat]
  rw [Nat.testBit_shiftLeft, Nat.testBit_two_pow_sub_one]
  by_cases h1 : lo ≤ i <;> by_cases h2 : i ≤ hi <;> simp [h1, h2] <;> omega

/-- A bit of a word with a field set: the value's bit inside the field, the old bit outside. -/
theorem getLsbD_setBits (w : Word) {hi lo : Nat} (v i : Nat) (h : hi < 32) (hl : lo ≤ hi) :
    (setBits w hi lo v).getLsbD i =
      if lo ≤ i ∧ i ≤ hi then v.testBit (i - lo) else w.getLsbD i := by
  unfold setBits
  rw [BitVec.getLsbD_or, BitVec.getLsbD_and, BitVec.getLsbD_not, getLsbD_maskOf h hl, BitVec.getLsbD_ofNat,
    Nat.testBit_shiftLeft, Nat.testBit_mod_two_pow]
  by_cases h1 : lo ≤ i <;> by_cases h2 : i ≤ hi
  · have h3 : i < 32 := by omega
    have h4 : i - lo < hi - lo + 1 := by omega
    simp [h1, h2, h3, h4]
  · have h4 : ¬ i - lo < hi - lo + 1 := by omega
    by_cases h3 : i < 32
    · simp [h1, h2, h3, h4]
    · simp [h1, h2, h3, h4, BitVec.getLsbD_of_ge w i (by omega)]
  · by_cases h3 : i < 32
    · simp [h1, h2, h3]
    · simp [h1, h2, h3, BitVec.getLsbD_of_ge w i (by omega)]
  · by_cases h3 : i < 32
    · simp [h1, h2, h3]
    · simp [h1, h2, h3, BitVec.getLsbD_of_ge w i (by omega)]

theorem bit_setBit_self (w : Word) {i : Nat} (b : Bool) (h : i < 32) : bit (setBit w i b) i = b := by
  unfold bit setBit
  rw [getLsbD_setBits w _ _ h (Nat.le_refl _)]
  cases b <;> simp

theorem bit_setBit_other (w : Word) {i j : Nat} (b : Bool) (h : i < 32) (hj : j ≠ i) : bit (setBit w i b) j = bit w j := by
  unfold bit setBit
  rw [getLsbD_setBits w _ _ h (Nat.le_refl _), if_neg (by omega)]

/-- A field is the number that its bits spell. -/
theorem testBit_bits (w : Word) (hi lo i : Nat) :
    (bits w hi lo).testBit i = (decide (i < hi - lo + 1) && w.getLsbD (lo + i)) := by
  unfold bits
  rw [Nat.testBit_mod_two_pow, Nat.testBit_shiftRight]
  rfl

theorem bits_setBits_self (w : Word) {hi lo : Nat} (v : Nat) (h : hi < 32) (hl : lo ≤ hi) :
    bits (setBits w hi lo v) hi lo = v % 2 ^ (hi - lo + 1) := by
  apply Nat.eq_of_testBit_eq
  intro i
  rw [testBit_bits, getLsbD_setBits w v _ h hl, Nat.testBit_mod_two_pow]
  by_cases hi' : i < hi - lo + 1
  · rw [if_pos (by omega)]; simp [hi']
  · simp [hi']

theorem bits_setBits_other (w : Word) {hi lo hi' lo' : Nat} (v : Nat) (h : hi < 32) (hl : lo ≤ hi) (hl' : lo' ≤ hi')
    (hd : hi' < lo ∨ hi < lo') :
    bits (setBits w hi lo v) hi' lo' = bits w hi' lo' := by
  apply Nat.eq_of_testBit_eq
  intro i
  rw [testBit_bits, testBit_bits, getLsbD_setBits w v _ h hl]
  by_cases hi'' : i < hi' - lo' + 1
  · rw [if_neg (by omega)]
  · simp [hi'']

theorem bit_setBits_other (w : Word) {hi lo i : Nat} (v : Nat) (h : hi < 32) (hl : lo ≤ hi) (hd : i < lo ∨ hi < i) :
    bit (setBits w hi lo v) i = bit w i := by
  unfold bit
  rw [getLsbD_setBits w v _ h hl, if_neg (by omega)]

theorem bits_setBit_other (w : Word) {i hi lo : Nat} (b : Bool) (h : i < 32) (hl : lo ≤ hi) (hd : hi < i ∨ i < lo) :
    bits (setBit w i b) hi lo = bits w hi lo := bits_setBits_other w _ h (Nat.le_refl _) hl hd

/-- A flag of a register after the flag is set. -/
theorem flag_setFlag_self (a : Nat) {i : Nat} (b : Bool) (d : Dev) (h : i < 32) : flag (setFlag a i b d) a i = b := by
  simp [flag, bit_setBit_self _ _ h]

theorem flag_setFlag_other (a : Nat) {i j : Nat} (b : Bool) (d : Dev) (h : i < 32) (hj : j ≠ i) :
    flag (setFlag a i b d) a j = flag d a j := by
  simp [flag, bit_setBit_other _ _ h hj]

theorem fld_setFld_self (a : Nat) {hi lo : Nat} (v : Nat) (d : Dev) (h : hi < 32) (hl : lo ≤ hi) :
    fld (setFld a hi lo v d) a hi lo = v % 2 ^ (hi - lo + 1) := by
  simp [fld, bits_setBits_self _ _ h hl]

end Sys2Proof.Machine
end

