-- ==== Sys2Proof/Laws/Commands.lean ====
section
/-! SUPPORT. What every command has in common: the end of a command, held reset, the path of a register write and of a
register read. -/

namespace Sys2Proof

open Sys2Proof.Machine

@[simp] theorem withDev_dev (s : State) (d : Dev) : (withDev s d).dev = d := rfl
@[simp] theorem withDev_mem (s : State) (d : Dev) : (withDev s d).mem = s.mem := rfl
@[simp] theorem withDev_pending (s : State) (d : Dev) : (withDev s d).pending = s.pending := rfl

namespace Machine

/-- The end of a command in whose course nothing was raised changes nothing. -/
theorem settle_quiet {d : Dev} (h : d.raised = []) : settle d = d := by
  obtain ⟨_, _, _, r⟩ := d
  cases h
  rfl

/-- No raising is left at the end of a command. -/
@[simp] theorem settle_raised (d : Dev) : (settle d).raised = [] := rfl

/-- One raising, and none that handling it brings up. -/
theorem settle_one {d : Dev} {r : Raising} (h : d.raised = [r]) (hq : (handleRaising r { d with raised := [] }).raised = []) :
    settle d = handleRaising r { d with raised := [] } := by
  have hc : collect d = handleRaising r { d with raised := [] } := by
    simp [collect, h, sortRaisings, insertRaising]
  have hc2 : collect (collect d) = collect d := by
    rw [hc]
    simp only [collect, hq, sortRaisings, List.foldl_nil]
    cases hd : handleRaising r { d with raised := [] } with
    | mk => rw [hd] at hq; cases hq; rfl
  show { collect (collect d) with raised := [] } = _
  rw [hc2, hc]
  cases hd : handleRaising r { d with raised := [] } with
  | mk => rw [hd] at hq; cases hq; rfl

/-- A raising of a source that FCR does not collect changes nothing (R340). -/
theorem settle_raise_uncollected {k x : Nat} {d : Dev} (h : d.raised = [])
    (he : flag d (Reg.FCR_SRCkkkk_CFG k) 30 = false) : settle (raise k x d) = d := by
  have e : ({ raise k x d with raised := [] } : Dev) = d := by
    obtain ⟨_, _, _, r⟩ := d
    cases h
    rfl
  have hh : handleRaising ⟨k, x % 256, false⟩ d = d := by simp [handleRaising, he]
  have h1 : (raise k x d).raised = [⟨k, x % 256, false⟩] := by simp [h]
  rw [settle_one h1 (by rw [e, hh]; exact h), e, hh]

theorem act_of_acts {s : State} (h : Acts s) (f : Dev → Dev) :
    act s f = .next (withDev s (settle (f s.dev))) := by simp [act, h.1, withDev]

theorem act_quiet {s : State} (h : Acts s) {f : Dev → Dev} (hq : (f s.dev).raised = []) :
    act s f = .next (withDev s (f s.dev)) := by rw [act_of_acts h, settle_quiet hq]

theorem actMem_of_acts {s : State} (h : Acts s) (f : List Host.Cell → Dev → List Host.Cell × Dev) :
    actMem s f = .next { s with mem := (f s.mem s.dev).1, dev := settle (f s.mem s.dev).2 } := by simp [actMem, h.1]

/-- While power-on reset is held and SIS does not run, a command changes nothing. -/
theorem act_inert {s : State} (h : inert s.dev = true) (f : Dev → Dev) : act s f = .next s := by simp [act, h]

theorem actMem_inert {s : State} (h : inert s.dev = true) (f : List Host.Cell → Dev → List Host.Cell × Dev) :
    actMem s f = .next s := by simp [actMem, h]

/-- What a write that reaches the register does. -/
def storeAt (i : Initiator) (a : Nat) (v : Word) (d : Dev) : Dev :=
  match specialWrite i a v (respOk d) with
  | some e => e
  | none =>
    if readOnlyAt a then respOk d
    else if valueOk (respOk d) a v then regPut false (now d) a v (respOk d) else respErr (respOk d)

theorem regWrite_reaches {i : Initiator} {a : Nat} {d : Dev} (h : WriteReaches d i a) (v : Word) :
    regWrite i a v d = storeAt i a v d := by
  obtain ⟨h1, h2, h3, h4, h5, h6⟩ := h
  have a1 : adjShadowed d i a = false := by simp [adjShadowed, h3]
  have w1 : writeDenied d i a .w32 = none := by simp [writeDenied, a1, h2]
  have h3' : openTx (respOk d) i = none := h3
  have h4' : underTestAt (respOk d) a = false := h4
  have h5' : regUnused (respOk d) a = false := h5
  have h6' : txLocked (respOk d) a = false := h6
  simp only [regWrite, h1, w1, registerWrite, h3', h4', if_true, registerStore, h5', h6', Bool.or_self, storeAt,
    Bool.false_eq_true, if_false]
  rfl

/-- A write to a register whose write does more than store. -/
theorem regWrite_special {i : Initiator} {a : Nat} {v : Word} {d e : Dev} (h : WriteReaches d i a)
    (hs : specialWrite i a v (respOk d) = some e) : regWrite i a v d = e := by
  rw [regWrite_reaches h, storeAt, hs]

/-- A write to any other register, of a value that passes its checks. -/
theorem regWrite_plain {i : Initiator} {a : Nat} {v : Word} {d : Dev} (h : WriteReaches d i a)
    (hs : specialWrite i a v (respOk d) = none) (hr : readOnlyAt a = false) (hv : valueOk (respOk d) a v = true) :
    regWrite i a v d = regPut false (now d) a v (respOk d) := by
  rw [regWrite_reaches h, storeAt, hs]; simp [hr, hv]

/-- A read that ICF lets through. -/
theorem busRead_reaches {i : Initiator} {a : Nat} {d : Dev} (h : ReadReaches d i a) (f : Dev → Dev) :
    busRead i a f d = f (respOk d) := by simp [busRead, h.1, h.2]

/-- The element of an array of registers at its own address. -/
theorem elemAt_at {b st n k : Nat} (hs : 0 < st) (hk : k < n) : elemAt b st n (b + st * k) = some k := by
  unfold elemAt
  have h1 : b + st * k - b = st * k := by omega
  simp [h1, Nat.mul_div_cancel_left k hs, hk]

end Machine

end Sys2Proof
end

