-- ==== Sys2Proof/Laws/FaultCollection.lean ====
section
/-! SUPPORT. What handling the raisings of a command can change (R340, R344), and what FCR shows of a raising. -/

open Sys2Proof.Machine in
theorem Sys2Proof.ReactionFrame.trans {d e f : Dev} (h : ReactionFrame d e) (g : ReactionFrame e f) : ReactionFrame d f := by
  constructor
  · exact fun a ha => (g.regs a ha).trans (h.regs a ha)
  · exact g.phase.trans h.phase
  · exact g.ltb.trans h.ltb
  · exact g.response.trans h.response
  · exact g.cfg.trans h.cfg
  · exact g.pwm.trans h.pwm
  · exact g.ports.trans h.ports
  · exact g.drivers.trans h.drivers
  · exact g.cpx.trans h.cpx
  · exact g.icf.trans h.icf
  · exact g.engines.trans h.engines
  · exact g.atb.trans h.atb
  · exact g.evs.trans h.evs
  · exact g.pfc.trans h.pfc
  · exact g.sense.trans h.sense
  · exact g.thm.trans h.thm
  · exact g.sys.trans h.sys
  · exact g.bst.trans h.bst
  · exact g.fls.trans h.fls
  · exact g.csq.trans h.csq
  · exact g.cte.trans h.cte
  · exact g.eth.trans h.eth
  · exact g.ntu.trans h.ntu
  · exact g.trc.trans h.trc
  · exact g.can.trans h.can
  · exact g.cmds.trans h.cmds

namespace Sys2Proof.Machine

open Reg

/-- Every raising names a source and a DETAIL that exist. -/
def Bounded (l : List Raising) : Prop := ∀ r ∈ l, r.source < 1024 ∧ r.detail < 256

/-- The registers that FCR keeps for source `k`. -/
def sourceReg (k a : Nat) : Bool := decide (0x40801000 + 0x20 * k ≤ a ∧ a < 0x40801020 + 0x20 * k)

/-- A register that reactions can change and that is none of FCR's per-source registers. -/
def touchesBase (a : Nat) : Bool := reactionTouches a && decide (¬(0x40801000 ≤ a ∧ a < 0x40809000))

variable {B : Bool} {S : Nat → Prop}

/-- The registers that reactions can change: all of `reactionTouches` where every raising names a source and a DETAIL that
exist (`B`), those from CEA's axes upwards in any case. -/
def touched (B : Bool) (a : Nat) : Bool := if B then reactionTouches a else decide (0x40480000 ≤ a)

/-- The frame of the reactions: units and registers. -/
def Keeps (B : Bool) (d e : Dev) : Prop :=
  ReactionFrame { d with regs := [] } { e with regs := [] } ∧ ∀ a, touched B a = false → rd e a = rd d a

theorem Keeps.trans {d e f : Dev} (h : Keeps B d e) (g : Keeps B e f) : Keeps B d f :=
  ⟨h.1.trans g.1, fun a ha => (g.2 a ha).trans (h.2 a ha)⟩

theorem Keeps.frame {d e : Dev} (h : Keeps true d e) : ReactionFrame d e := by
  have u := h.1
  exact ⟨h.2, u.phase, u.ltb, u.response, u.cfg, u.pwm, u.ports, u.drivers, u.cpx, u.icf, u.engines, u.atb, u.evs, u.pfc,
    u.sense, u.thm, u.sys, u.bst, u.fls, u.csq, u.cte, u.eth, u.ntu, u.trc, u.can, u.cmds⟩

theorem Keeps.refl (d : Dev) : Keeps B d d := ⟨by constructor <;> intros <;> rfl, fun _ _ => rfl⟩

/-- The frame of the reactions, the sources whose registers they can change (`S`), and what they can leave to handle:
only FCR_STAGE_HIGH is ever added. -/
def Reacts (B : Bool) (S : Nat → Prop) (d e : Dev) : Prop :=
  Keeps B d e
    ∧ (B = true → ∀ k a, ¬S k → k < 1024 → sourceReg k a = true → rd e a = rd d a)
    ∧ ∀ P : Raising → Prop, P ⟨Src.FCR_STAGE_HIGH, 0, false⟩ → (∀ r ∈ d.raised, P r) → ∀ r ∈ e.raised, P r

theorem Reacts.refl (d : Dev) : Reacts B S d d := ⟨Keeps.refl d, fun _ _ _ _ _ _ => rfl, fun _ _ h => h⟩

theorem Reacts.trans {d e f : Dev} (h : Reacts B S d e) (g : Reacts B S e f) : Reacts B S d f :=
  ⟨h.1.trans g.1, fun b k a n hk ha => (g.2.1 b k a n hk ha).trans (h.2.1 b k a n hk ha),
    fun P h0 b => g.2.2 P h0 (h.2.2 P h0 b)⟩

theorem Reacts.forEach {l : List Nat} {f : Nat → Dev → Dev} (h : ∀ i ∈ l, ∀ d, Reacts B S d (f i d)) (d : Dev) :
    Reacts B S d (forEach l f d) := by
  induction l generalizing d with
  | nil => exact Reacts.refl d
  | cons i r ih =>
    exact (h i List.mem_cons_self d).trans (ih (fun j hj => h j (List.mem_cons_of_mem _ hj)) (f i d))

/-- Only fields that the frame does not name change, and no raising is added. -/
theorem Reacts.of_unit {d e : Dev} (h : ReactionFrame { d with regs := [] } { e with regs := [] })
    (hr : e.raised = d.raised) (hg : e.regs = d.regs) : Reacts B S d e :=
  ⟨⟨h, fun a _ => by simp [rd, hg]⟩, fun _ k a _ _ _ => by simp [rd, hg], fun P _ b => by rw [hr]; exact b⟩

theorem wr_keeps {a : Nat} (v : Word) (d : Dev) (h : touched B a = true) : Keeps B d (wr a v d) := by
  refine ⟨by constructor <;> intros <;> rfl, fun b hb => rd_wr_other v d ?_⟩
  rintro rfl
  simp [h] at hb

/-- A register that reactions can change, beside those that FCR keeps for a source. -/
def Hit (B : Bool) (a : Nat) : Prop := touched B a = true ∧ (B = true → touchesBase a = true)

theorem reacts_wr {a : Nat} (v : Word) (d : Dev) (h : Hit B a) : Reacts B S d (wr a v d) := by
  refine ⟨wr_keeps v d h.1, fun b0 k b _ hk hb => rd_wr_other v d ?_, fun P _ b => b⟩
  have h' := h.2 b0
  simp only [touchesBase, Bool.and_eq_true, decide_eq_true_eq] at h'
  rintro rfl
  simp only [sourceReg, decide_eq_true_eq] at hb
  omega

/-- A write to a register of source `k`. -/
theorem reacts_wr_source {k o : Nat} (hS : S k) (hk : B = true → k < 1024) (ho : o < 0x20) (v : Word) (d : Dev) :
    Reacts B S d (wr (0x40801000 + o + 0x20 * k) v d) := by
  refine ⟨wr_keeps v d ?_, fun _ j b nj _ hb => rd_wr_other v d ?_, fun P _ b => b⟩
  · unfold touched
    cases B
    · simp; omega
    · have := hk rfl
      have : (0x40801000 + o + 0x20 * k) / 0x10000 = 0x4080 := by omega
      simp [reactionTouches, this]
  · rintro rfl
    simp only [sourceReg, decide_eq_true_eq] at hb
    exact nj (by have : j = k := by omega
                 subst this; exact hS)

theorem hit_of {a : Nat} (h2 : 0x40480000 ≤ a) (h : B = true → touchesBase a = true) : Hit B a := by
  refine ⟨?_, h⟩
  unfold touched
  cases B
  · simpa using h2
  · have h := h rfl
    unfold touchesBase at h
    simp only [Bool.and_eq_true] at h
    exact h.1

/-- A register of SIS, or of FCR beside the sources. -/
theorem hit_base {a : Nat} (h : touchesBase a = true) (h2 : 0x40480000 ≤ a) : Hit B a := hit_of h2 (fun _ => h)

theorem reacts_setFld {a : Nat} (hi lo v : Nat) (d : Dev) (h : Hit B a) : Reacts B S d (setFld a hi lo v d) :=
  reacts_wr _ _ h
theorem reacts_setFlag {a : Nat} (i : Nat) (b : Bool) (d : Dev) (h : Hit B a) : Reacts B S d (setFlag a i b d) :=
  reacts_wr _ _ h
theorem reacts_incFld {a : Nat} (hi lo : Nat) (d : Dev) (h : Hit B a) : Reacts B S d (incFld a hi lo d) :=
  reacts_wr _ _ h

theorem reacts_whenD {c : Bool} {f : Dev → Dev} {d : Dev} (h : ∀ d, Reacts B S d (f d)) : Reacts B S d (whenD c f d) := by
  unfold whenD
  split
  · exact h d
  · exact Reacts.refl d

theorem reacts_stageHigh (d : Dev) : Reacts B S d (raise Src.FCR_STAGE_HIGH 0 d) := by
  refine ⟨⟨by constructor <;> intros <;> rfl, fun _ _ => rfl⟩, fun _ _ _ _ _ _ => rfl, fun P h0 b r hr => ?_⟩
  rcases List.mem_append.1 hr with hr | hr
  · exact b r hr
  · rw [List.mem_singleton.1 hr]
    exact h0

/-! ## SIS and PSP -/

theorem reacts_commandCt (c : Bool) (k : Nat) (d : Dev) : Reacts B S d (commandCt c k d) := by
  unfold commandCt
  dsimp only
  split
  · exact Reacts.refl d
  · refine Reacts.trans ?_ (reacts_setFlag _ _ _ (hit_base (by decide) (by decide)))
    exact .of_unit (by constructor <;> intros <;> rfl) rfl rfl

theorem touches_psp {a : Nat} (h : B = true → a < 256) (o : Nat) (ho : o < 0x100) :
    Hit B (0x40700000 + o + 0x100 * a) := by
  refine hit_of (by omega) fun b => ?_
  have := h b
  have h1 : (0x40700000 + o + 0x100 * a) / 0x10000 = 0x4070 := by omega
  simp [touchesBase, reactionTouches, h1]
  omega

theorem reacts_dropEnable {a : Nat} (h : B = true → a < 256) (d : Dev) : Reacts B S d (dropEnable a d) := by
  unfold dropEnable
  split
  · have t : Hit B (CEA_AXa_FC_STATUS a) := by
      refine hit_of (by unfold CEA_AXa_FC_STATUS; omega) fun b => ?_
      have := h b
      have h1 : CEA_AXa_FC_STATUS a / 0x10000 = 0x4048 := by unfold CEA_AXa_FC_STATUS; omega
      have h2 : CEA_AXa_FC_STATUS a % 0x100 = 0x8C := by unfold CEA_AXa_FC_STATUS; omega
      simp [touchesBase, reactionTouches, h1, h2]
      unfold CEA_AXa_FC_STATUS; omega
    have r1 := (reacts_setFlag (B := B) (S := S) (8 + a) false d (a := SIS_STATE) (hit_base (by decide) (by decide))).trans
      (reacts_setFld 17 13 0 (setFlag SIS_STATE (8 + a) false d) t)
    exact r1.trans (.of_unit (by constructor <;> intros <;> rfl) rfl rfl)
  · exact Reacts.refl d

theorem axesInUse_lt {d : Dev} {a : Nat} (h : a ∈ axesInUse d) : a < 4 := by
  unfold axesInUse idxWhere at h
  exact List.mem_range.1 (List.mem_filter.1 h).1

theorem linkAxes_lt {d : Dev} {l a : Nat} (h : a ∈ linkAxes d l) : a < 4 := axesInUse_lt (List.mem_filter.1 h).1

theorem reacts_setLinkState (l st : Nat) (d : Dev) : Reacts B S d (setLinkState l st d) :=
  reacts_setFld (a := SIS_LINK) _ _ _ _ (hit_base (by decide) (by decide))

theorem reacts_emergencyOpen (l : Nat) (d : Dev) : Reacts B S d (emergencyOpen l d) := by
  unfold emergencyOpen
  dsimp only
  refine Reacts.trans (Reacts.forEach (l := linkCts d l) (f := commandCt false) (fun k _ d => reacts_commandCt false k d) d) ?_
  generalize forEach (linkCts d l) (commandCt false) d = d1
  refine Reacts.trans (Reacts.forEach (l := linkAxes d1 l) (f := dropEnable)
    (fun a ha d => reacts_dropEnable (fun _ => by have := linkAxes_lt ha; omega) d) d1) ?_
  generalize forEach (linkAxes d1 l) dropEnable d1 = d2
  refine Reacts.trans ?_ (reacts_setLinkState _ _ _)
  exact .of_unit (by constructor <;> intros <;> rfl) rfl rfl

theorem reacts_putSetState {a : Nat} (h : B = true → a < 256) (set st : Nat) (d : Dev) : Reacts B S d (putSetState a set st d) := by
  unfold putSetState
  split <;> exact reacts_setFld _ _ _ _ (touches_psp h 0x0C (by omega))

theorem reacts_issue (o : SafeOrigin) (c : SafeCmd) (ps : List Nat) (d : Dev) : Reacts B S d (issue o c ps d) :=
  .of_unit (by constructor <;> intros <;> rfl) rfl rfl

theorem reacts_issueState (a set st : Nat) (d : Dev) : Reacts B S d (issueState a set st d) := by
  unfold issueState
  dsimp only
  refine Reacts.trans (e := { d with glk := { d.glk with orders := d.glk.orders.filter (fun o =>
    !(decide (o.origin = .psp) && decide (o.cmd ≠ .halt) &&
      (bankPorts d (setLegs d a set) true ++ bankPorts d (setLegs d a set) false).contains o.port)) } })
    (.of_unit (by constructor <;> intros <;> rfl) rfl rfl) ?_
  split
  · exact reacts_issue _ _ _ _
  · exact (reacts_issue _ _ _ _).trans (reacts_issue _ _ _ _)
  · exact (reacts_issue _ _ _ _).trans (reacts_issue _ _ _ _)
  · exact reacts_issue _ _ _ _
  · exact Reacts.refl _

theorem reacts_applyState {a : Nat} (h : B = true → a < 256) (set st cause : Nat) (d : Dev) :
    Reacts B S d (applyState a set st cause d) := by
  unfold applyState
  dsimp only
  generalize (if (lockout d || stoInForce d a) && decide (st ≠ 1) then 4 else st) = st
  refine Reacts.trans (reacts_putSetState h set st d) ?_
  refine Reacts.trans ?_ (reacts_issueState a set st _)
  split
  · exact reacts_setFld _ _ _ _ (touches_psp h 0x0C (by omega))
  · exact Reacts.refl _

theorem reacts_markSpeed (a set : Nat) (b : Bool) (d : Dev) : Reacts B S d (markSpeed a set b d) :=
  .of_unit (by constructor <;> intros <;> rfl) rfl rfl

theorem reacts_enterSpeedSet {a : Nat} (h : B = true → a < 256) (cause set : Nat) (d : Dev) :
    Reacts B S d (enterSpeedSet a cause set d) := by
  unfold enterSpeedSet
  dsimp only
  split
  · exact Reacts.refl d
  · refine Reacts.trans ?_ ((reacts_applyState h set _ cause _).trans (reacts_markSpeed a set true _))
    exact reacts_whenD (fun d => reacts_setFlag _ _ _ (touches_psp h 0x10 (by omega)))

theorem reacts_sisSafe {a : Nat} (h : B = true → a < 256) (d : Dev) : Reacts B S d (sisSafe a d) :=
  (reacts_dropEnable h d).trans (Reacts.forEach (fun set _ d => reacts_enterSpeedSet h 5 set d) _)

theorem reacts_classSafe {a : Nat} (h : B = true → a < 256) (k : Nat) (d : Dev) : Reacts B S d (classSafe k a d) := by
  unfold classSafe
  split
  · exact Reacts.refl d
  · exact reacts_sisSafe h d

theorem reacts_journal (t o : Nat) (p : List Byte) (d : Dev) : Reacts B S d (journal t o p d) :=
  .of_unit (by constructor <;> intros <;> rfl) rfl rfl

theorem reacts_showOff {a : Nat} (h : B = true → a < 256) (d : Dev) : Reacts B S d (showOff a d) :=
  Reacts.forEach (fun set _ d => (reacts_putSetState h set 4 d).trans (reacts_markSpeed a set false _)) d

theorem reacts_lockoutEntry (bit : Nat) (d : Dev) : Reacts B S d (lockoutEntry bit d) := by
  unfold lockoutEntry
  dsimp only
  refine Reacts.trans (reacts_setFlag (a := SIS_FAULT) bit true d (hit_base (by decide) (by decide))) ?_
  generalize setFlag SIS_FAULT bit true d = d1
  refine Reacts.trans (reacts_setFlag (a := SIS_LOCK) (16 + bit) true d1 (hit_base (by decide) (by decide))) ?_
  generalize setFlag SIS_LOCK (16 + bit) true d1 = d2
  split
  · exact .of_unit (by constructor <;> intros <;> rfl) rfl rfl
  · refine Reacts.trans (Reacts.forEach (l := [0, 1, 2, 3]) (f := dropEnable)
      (fun a ha d => reacts_dropEnable (fun _ => by simp at ha; omega) d) d2) ?_
    generalize forEach [0, 1, 2, 3] dropEnable d2 = d3
    refine Reacts.trans (reacts_setFld (a := SIS_STATE) 2 0 2 d3 (hit_base (by decide) (by decide))) ?_
    generalize setFld SIS_STATE 2 0 2 d3 = d4
    refine Reacts.trans (reacts_issue .sis .holdOff (phasePorts d4) d4) ?_
    generalize issue .sis .holdOff (phasePorts d4) d4 = d5
    refine Reacts.trans (Reacts.forEach (l := axesInUse d5) (f := showOff)
      (fun a ha d => reacts_showOff (fun _ => by have := axesInUse_lt ha; omega) d) d5) ?_
    generalize forEach (axesInUse d5) showOff d5 = d6
    refine Reacts.trans (Reacts.forEach (l := [0, 1, 2, 3]) (f := emergencyOpen)
      (fun l _ d => reacts_emergencyOpen l d) d6) ?_
    generalize forEach [0, 1, 2, 3] emergencyOpen d6 = d7
    refine Reacts.trans (e := (drawRandom d7).2) (.of_unit (by constructor <;> intros <;> rfl) rfl rfl) ?_
    refine Reacts.trans (reacts_wr (a := SIS_LOCK_CHAL) (drawRandom d7).1 _ (hit_base (by decide) (by decide))) ?_
    refine Reacts.trans (reacts_setFld (a := SIS_LOCK) 2 0 1 _ (hit_base (by decide) (by decide))) ?_
    exact .of_unit (by constructor <;> intros <;> rfl) rfl rfl

/-! ## FCR -/

theorem reacts_stageRecord (r : FcrRec) (d : Dev) : Reacts B S d (stageRecord r d) := by
  unfold stageRecord
  dsimp only
  have put : ∀ q : List FcrRec, ∀ e : Dev, Reacts B S e { e with fcr := { e.fcr with stage := q } } :=
    fun q e => .of_unit (by constructor <;> intros <;> rfl) rfl rfl
  split
  · exact Reacts.trans (put _ d) (reacts_incFld _ _ _ (hit_base (by decide) (by decide)))
  · split
    · exact put _ d
    · split
      · exact Reacts.trans (put _ d) (reacts_incFld _ _ _ (hit_base (by decide) (by decide)))
      · refine Reacts.trans (put (d.fcr.stage ++ [r]) d) ?_
        split
        · exact reacts_stageHigh _
        · exact Reacts.refl _

theorem reacts_recordRaising {k : Nat} (hS : S k) (h : B = true → k < 1024) (x : Nat) (f : Bool) (d : Dev) :
    Reacts B S d (recordRaising k x f d) := by
  have t : ∀ {o : Nat} (v : Word) (d : Dev), o < 0x20 → Reacts B S d (wr (0x40801000 + o + 0x20 * k) v d) :=
    fun v d ho => reacts_wr_source hS h ho v d
  unfold recordRaising
  dsimp only
  refine Reacts.trans ?_ ((t (o := 0x1C) _ _ (by omega)).trans (t (o := 0x18) _ _ (by omega)))
  have r : Reacts B S d (whenD f (setFlag (FCR_SRCkkkk_STATUS k) 1 true)
      (setFld (FCR_SRCkkkk_STATUS k) 31 24 x (setFlag (FCR_SRCkkkk_STATUS k) 0 true d))) :=
    (t (o := 4) _ d (by omega)).trans ((t (o := 4) _ _ (by omega)).trans
      (reacts_whenD (fun d => t (o := 4) _ d (by omega))))
  refine r.trans ?_
  generalize whenD f (setFlag (FCR_SRCkkkk_STATUS k) 1 true)
      (setFld (FCR_SRCkkkk_STATUS k) 31 24 x (setFlag (FCR_SRCkkkk_STATUS k) 0 true d)) = d1
  split
  · exact t (o := 0x0C) _ _ (by omega)
  · exact (t (o := 0x14) _ _ (by omega)).trans ((t (o := 0x10) _ _ (by omega)).trans
      ((t (o := 4) _ _ (by omega)).trans (t (o := 0x0C) _ _ (by omega))))

theorem reacts_showStage (d : Dev) : Reacts B S d (showStage d) :=
  (reacts_setFld (a := FCR_STAGE) _ _ _ _ (hit_base (by decide) (by decide))).trans (reacts_setFld (a := FCR_STAGE) _ _ _ _ (hit_base (by decide) (by decide)))

theorem ownerAxes_lt {d : Dev} {c i a : Nat} (h : a ∈ ownerAxes d c i) : a < 4 := by
  unfold ownerAxes at h
  split at h
  · rename_i b hb
    rw [List.mem_singleton.1 h]
    unfold ownerAxis at hb
    dsimp only at hb
    split at hb
    · have := Option.some.inj hb; omega
    · cases hb
  · exact axesInUse_lt h

theorem mem_ite {c : Prop} [Decidable c] {a : Nat} {l m : List Nat} (h : a ∈ if c then l else m) : a ∈ l ∨ a ∈ m := by
  split at h
  · exact .inl h
  · exact .inr h

theorem concerned_lt {d : Dev} {k x a : Nat} (hx : x < 256) (h : a ∈ concerned d k x) : a < 256 := by
  have one : ∀ {y : Nat}, y < 256 → a ∈ [y] → a < 256 := fun hy h => by rw [List.mem_singleton.1 h]; exact hy
  have own : ∀ {c i : Nat}, a ∈ ownerAxes d c i → a < 256 := fun h => by have := ownerAxes_lt h; omega
  have use : a ∈ axesInUse d → a < 256 := fun h => by have := axesInUse_lt h; omega
  have eng : a ∈ engineAxes d x → a < 256 := by
    intro h
    unfold engineAxes at h
    split at h
    · cases h
    · refine one ?_ h
      have : fld d (CEA_CEn_STATE x) 5 4 < 4 := Nat.mod_lt _ (by decide)
      omega
  unfold concerned at h
  rcases mem_ite h with h | h
  · exact one hx h
  rcases mem_ite h with h | h
  · rcases mem_ite h with h | h
    · exact one hx h
    · exact use h
  rcases mem_ite h with h | h
  · exact eng h
  rcases mem_ite h with h | h
  · have := linkAxes_lt h; omega
  iterate 8
    rcases mem_ite h with h | h
    · exact own h
  exact use h

theorem reacts_classReaction {k x : Nat} (hx : B = true → x < 256) (cls : Nat) (f : Bool) (d : Dev) :
    Reacts B S d (classReaction cls k x f d) := by
  unfold classReaction
  dsimp only
  have s1 : Reacts B S d (if 1 ≤ cls then showStage (stageRecord (fcrRecord d k x f) d) else d) := by
    split
    · exact (reacts_stageRecord _ d).trans (reacts_showStage _)
    · exact Reacts.refl d
  refine Reacts.trans s1 ?_
  generalize (if 1 ≤ cls then showStage (stageRecord (fcrRecord d k x f) d) else d) = d1
  refine Reacts.trans (e := if 2 ≤ cls then { d1 with fcr := { d1.fcr with interrupt := d1.fcr.interrupt ||| 7 } } else d1)
    ?_ ?_
  · split
    · exact .of_unit (by constructor <;> intros <;> rfl) rfl rfl
    · exact Reacts.refl d1
  · generalize (if 2 ≤ cls then { d1 with fcr := { d1.fcr with interrupt := d1.fcr.interrupt ||| 7 } } else d1) = d2
    split
    · exact Reacts.forEach (fun a ha d => reacts_classSafe (fun b => concerned_lt (hx b) ha) k d) d2
    · exact Reacts.forEach (fun a ha d => reacts_classSafe (fun _ => by have := axesInUse_lt ha; omega) k d) d2
    · exact reacts_lockoutEntry 15 d2
    · exact Reacts.refl d2

theorem reacts_handleRaising {r : Raising} (hS : S r.source) (hk : B = true → r.source < 1024) (hx : B = true → r.detail < 256) (d : Dev) :
    Reacts B S d (handleRaising r d) := by
  unfold handleRaising
  split
  · exact (reacts_recordRaising hS hk _ _ d).trans (reacts_classReaction hx _ _ _)
  · exact Reacts.refl d

theorem mem_insertRaising {r x : Raising} {q : List Raising} : x ∈ insertRaising r q ↔ x = r ∨ x ∈ q := by
  induction q with
  | nil => simp [insertRaising]
  | cons y q ih =>
    unfold insertRaising
    split
    · simp
    · simp only [List.mem_cons, ih]; exact or_left_comm

theorem mem_sortRaisings {q : List Raising} {x : Raising} : x ∈ sortRaisings q ↔ x ∈ q := by
  have h : ∀ (q acc : List Raising), x ∈ q.foldl (fun acc r => insertRaising r acc) acc ↔ x ∈ acc ∨ x ∈ q := by
    intro q
    induction q with
    | nil => simp
    | cons r q ih =>
      intro acc
      simp only [List.foldl_cons, ih, mem_insertRaising, List.mem_cons]
      constructor
      · rintro ((h | h) | h)
        · exact .inr (.inl h)
        · exact .inl h
        · exact .inr (.inr h)
      · rintro (h | h | h)
        · exact .inl (.inr h)
        · exact .inl (.inl h)
        · exact .inr h
  simpa [sortRaisings] using h q []

theorem reacts_foldl {q : List Raising} (hq : B = true → Bounded q) (hS : ∀ r ∈ q, S r.source) (d : Dev) :
    Reacts B S d (q.foldl (fun d r => handleRaising r d) d) := by
  induction q generalizing d with
  | nil => exact Reacts.refl d
  | cons r q ih =>
    have m := @List.mem_cons_self _ r q
    exact (reacts_handleRaising (hS r m) (fun b => (hq b r m).1) (fun b => (hq b r m).2) d).trans
      (ih (fun b x hx => hq b x (List.mem_cons_of_mem _ hx)) (fun x hx => hS x (List.mem_cons_of_mem _ hx)) _)

/-- What one round of collection does: only registers of the sources it handles, and after it only FCR_STAGE_HIGH waits. -/
theorem reacts_collect {d : Dev} (h : B = true → Bounded d.raised) (hS : ∀ r ∈ d.raised, S r.source) :
    Keeps B d (collect d)
      ∧ (B = true → ∀ k a, ¬S k → k < 1024 → sourceReg k a = true → rd (collect d) a = rd d a)
      ∧ ∀ r ∈ (collect d).raised, r = ⟨Src.FCR_STAGE_HIGH, 0, false⟩ := by
  have hb : B = true → Bounded (sortRaisings d.raised) := fun b r hr => h b r (mem_sortRaisings.1 hr)
  have hs : ∀ r ∈ sortRaisings d.raised, S r.source := fun r hr => hS r (mem_sortRaisings.1 hr)
  have r := reacts_foldl hb hs ({ d with raised := [] } : Dev)
  have f0 : Keeps B d { d with raised := [] } := ⟨by constructor <;> intros <;> rfl, fun _ _ => rfl⟩
  exact ⟨f0.trans r.1, r.2.1, r.2.2 _ rfl (fun x hx => by cases hx)⟩

theorem bounded_stageHigh {q : List Raising} (h : ∀ r ∈ q, r = ⟨Src.FCR_STAGE_HIGH, 0, false⟩) : Bounded q :=
  fun r hr => by rw [h r hr]; decide

theorem settle_keeps {d : Dev} (h : B = true → Bounded d.raised) : Keeps B d (settle d) := by
  have h1 := reacts_collect (S := fun _ => True) h (fun _ _ => trivial)
  have h2 := reacts_collect (B := B) (S := fun _ => True) (fun _ => bounded_stageHigh h1.2.2) (fun _ _ => trivial)
  have f0 : Keeps B (collect (collect d)) (settle d) := ⟨by constructor <;> intros <;> rfl, fun _ _ => rfl⟩
  exact (h1.1.trans h2.1).trans f0

/-- What the end of a command leaves alone, whatever FCR makes of its raisings. -/
theorem settle_frame {d : Dev} (h : Bounded d.raised) : ReactionFrame d (settle d) := (settle_keeps fun _ => h).frame

/-- What the end of a command leaves alone even where a raising names no source that exists: the units of the frame, and
the registers below CEA's axes. -/
theorem settle_low (d : Dev) : Keeps false d (settle d) := settle_keeps fun h => by cases h

theorem sourceReg_at {k o : Nat} (ho : o < 0x20) : sourceReg k (0x40801000 + o + 0x20 * k) = true := by
  simp only [sourceReg, decide_eq_true_eq]; omega

/-- What FCR shows of a raising as soon as it has recorded it. -/
theorem recordRaising_shows {k x : Nat} (hx : x < 256) (f : Bool) (d : Dev) :
    flag (recordRaising k x f d) (FCR_SRCkkkk_STATUS k) 0 = true
      ∧ fld (recordRaising k x f d) (FCR_SRCkkkk_STATUS k) 31 24 = x
      ∧ rd (recordRaising k x f d) (FCR_SRCkkkk_LAST_LO k) = nowLo d := by
  have nl : FCR_SRCkkkk_STATUS k ≠ FCR_SRCkkkk_LAST_LO k := by unfold FCR_SRCkkkk_STATUS FCR_SRCkkkk_LAST_LO; omega
  have nh : FCR_SRCkkkk_STATUS k ≠ FCR_SRCkkkk_LAST_HI k := by unfold FCR_SRCkkkk_STATUS FCR_SRCkkkk_LAST_HI; omega
  have nc : FCR_SRCkkkk_STATUS k ≠ FCR_SRCkkkk_COUNT k := by unfold FCR_SRCkkkk_STATUS FCR_SRCkkkk_COUNT; omega
  have fl : FCR_SRCkkkk_STATUS k ≠ FCR_SRCkkkk_FIRST_LO k := by unfold FCR_SRCkkkk_STATUS FCR_SRCkkkk_FIRST_LO; omega
  have fh : FCR_SRCkkkk_STATUS k ≠ FCR_SRCkkkk_FIRST_HI k := by unfold FCR_SRCkkkk_STATUS FCR_SRCkkkk_FIRST_HI; omega
  have w1 : bit (setBits (setBit (rd d (FCR_SRCkkkk_STATUS k)) 0 true) 31 24 x) 0 = true := by
    rw [bit_setBits_other _ _ (by decide) (by decide) (by decide), bit_setBit_self _ _ (by decide)]
  have w2 : bits (setBits (setBit (rd d (FCR_SRCkkkk_STATUS k)) 0 true) 31 24 x) 31 24 = x := by
    rw [bits_setBits_self _ _ (by decide) (by decide)]; exact Nat.mod_eq_of_lt hx
  have s0 : rd (setFld (FCR_SRCkkkk_STATUS k) 31 24 x (setFlag (FCR_SRCkkkk_STATUS k) 0 true d)) (FCR_SRCkkkk_STATUS k)
      = setBits (setBit (rd d (FCR_SRCkkkk_STATUS k)) 0 true) 31 24 x := by simp
  generalize setBits (setBit (rd d (FCR_SRCkkkk_STATUS k)) 0 true) 31 24 x = w at w1 w2 s0
  have s1 : ∀ e : Dev, rd e (FCR_SRCkkkk_STATUS k) = w →
      bit (rd (whenD f (setFlag (FCR_SRCkkkk_STATUS k) 1 true) e) (FCR_SRCkkkk_STATUS k)) 0 = true ∧
        bits (rd (whenD f (setFlag (FCR_SRCkkkk_STATUS k) 1 true) e) (FCR_SRCkkkk_STATUS k)) 31 24 = x := by
    intro e he
    unfold whenD
    split
    · rw [rd_setFlag_self, he, bit_setBit_other _ _ (by decide) (by decide),
        bits_setBit_other _ _ (by decide) (by decide) (by decide)]
      exact ⟨w1, w2⟩
    · rw [he]; exact ⟨w1, w2⟩
  have s2 := s1 _ s0
  unfold recordRaising flag fld
  dsimp only
  generalize whenD f (setFlag (FCR_SRCkkkk_STATUS k) 1 true)
      (setFld (FCR_SRCkkkk_STATUS k) 31 24 x (setFlag (FCR_SRCkkkk_STATUS k) 0 true d)) = e at s2
  refine ⟨?_, ?_, rd_wr_self _ _ _⟩
  · rw [rd_wr_other _ _ nl, rd_wr_other _ _ nh]
    split
    · rw [incFld, rd_setFld_other _ _ _ _ nc]; exact s2.1
    · rw [rd_wr_other _ _ nc, rd_setFld_self, rd_wr_other _ _ fl, rd_wr_other _ _ fh,
        bit_setBits_other _ _ (by decide) (by decide) (by decide)]
      exact s2.1
  · rw [rd_wr_other _ _ nl, rd_wr_other _ _ nh]
    split
    · rw [incFld, rd_setFld_other _ _ _ _ nc]; exact s2.2
    · rw [rd_wr_other _ _ nc, rd_setFld_self, rd_wr_other _ _ fl, rd_wr_other _ _ fh,
        bits_setBits_other _ _ (by decide) (by decide) (by decide) (by decide)]
      exact s2.2

/-- A command that raises one source: what is left alone, and what FCR shows of it (R340, R344, R362). -/
theorem settle_raise {k x : Nat} {d : Dev} (h : d.raised = []) (hk : k < 1024) (hn : k ≠ Src.FCR_STAGE_HIGH) :
    ReactionFrame d (settle (raise k x d)) ∧ Reported k (x % 256) d (settle (raise k x d)) := by
  have hb : Bounded (raise k x d).raised := by
    intro r hr
    simp only [raise, h, List.nil_append, List.mem_singleton] at hr
    subst hr
    exact ⟨hk, Nat.mod_lt _ (by omega)⟩
  have f0 : ReactionFrame d (raise k x d) := by constructor <;> intros <;> rfl
  refine ⟨f0.trans (settle_frame hb), fun hc => ?_⟩
  have e : ({ raise k x d with raised := [] } : Dev) = d := by
    obtain ⟨_, _, _, r⟩ := d
    cases h
    rfl
  have hcol : collect (raise k x d) = handleRaising ⟨k, x % 256, false⟩ d := by
    have h1 : (raise k x d).raised = [⟨k, x % 256, false⟩] := by simp [h]
    simp only [collect, h1, e]
    rfl
  have hm : x % 256 < 256 := Nat.mod_lt _ (by omega)
  have c1 := reacts_classReaction (B := true) (S := fun j => j ≠ k) (fun _ => hm) (srcClass d k) false (recordRaising k (x % 256) false d) (k := k)
  have hh : handleRaising ⟨k, x % 256, false⟩ d
      = classReaction (srcClass d k) k (x % 256) false (recordRaising k (x % 256) false d) := by
    have hc' : flag d (FCR_SRCkkkk_CFG k) 30 = true := hc
    simp [handleRaising, hc']
  have c2 := reacts_collect (B := true) (S := fun _ => True) (fun _ => hb) (fun _ _ => trivial)
  have c3 := reacts_collect (B := true) (S := fun j => j ≠ k) (fun _ => bounded_stageHigh c2.2.2)
    (fun r hr => by rw [c2.2.2 r hr]; exact fun h => hn h.symm)
  have keep : ∀ {o}, o < 0x20 → rd (settle (raise k x d)) (0x40801000 + o + 0x20 * k)
      = rd (recordRaising k (x % 256) false d) (0x40801000 + o + 0x20 * k) := by
    intro o ho
    have k1 := c3.2.1 rfl k _ (fun h => h rfl) hk (sourceReg_at ho)
    have k2 := c1.2.1 rfl k _ (fun h => h rfl) hk (sourceReg_at ho)
    rw [hcol, hh] at k1
    exact (congrArg (fun z => rd z _) (show settle (raise k x d) = { collect (collect (raise k x d)) with raised := [] } from rfl)).trans
      ((by rw [hcol, hh]; exact k1 : rd { collect (collect (raise k x d)) with raised := [] } _ = _).trans k2)
  have s := recordRaising_shows (k := k) hm false d
  exact ⟨(congrArg (fun w => bit w 0) (keep (o := 4) (by omega))).trans s.1,
    (congrArg (fun w => bits w 31 24) (keep (o := 4) (by omega))).trans s.2.1,
    (keep (o := 0x18) (by omega)).trans s.2.2⟩

theorem goes_act {s : State} (h : Acts s) {f : Dev → Dev} {d : Dev} (hf : f s.dev = d) (hr : d.raised = []) :
    Goes (act s f) s d := by
  subst hf
  exact act_quiet h hr

theorem goesRaising_act {s : State} (h : Acts s) {f : Dev → Dev} {d : Dev} {k x : Nat} (hf : f s.dev = raise k x d)
    (hr : d.raised = []) (hk : k < 1024) (hx : x < 256) (hn : k ≠ Src.FCR_STAGE_HIGH) :
    GoesRaising (act s f) s d k x := by
  have r := settle_raise (x := x) hr hk hn
  rw [Nat.mod_eq_of_lt hx] at r
  refine ⟨withDev s (settle (raise k x d)), ?_, rfl, rfl, r.1, r.2, fun hc => ?_⟩
  · rw [act_of_acts h, hf]
  · exact settle_raise_uncollected hr (by simpa [Collects] using hc)

end Sys2Proof.Machine
end

