-- ==== Sys2Proof/Laws/Memory.lean ====
section
/-! SUPPORT. The addressed memories: a read after a write, and that every operation keeps the canonical form. -/

namespace Sys2Proof.Machine

/-- `Memory.rising` says that every address is below every later one. -/
theorem Memory.rising_iff (m : List Host.Cell) :
    Memory.rising m = true ↔ m.Pairwise (fun c e => c.1 < e.1) := by
  induction m with
  | nil => simp [Memory.rising]
  | cons c r ih =>
    cases r with
    | nil => simp [Memory.rising]
    | cons e q =>
      obtain ⟨a, v⟩ := c
      obtain ⟨b, w⟩ := e
      simp only [Memory.rising, Bool.and_eq_true, decide_eq_true_eq, ih]
      constructor
      · rintro ⟨h, hp⟩
        refine List.pairwise_cons.2 ⟨?_, hp⟩
        intro x hx
        rcases List.mem_cons.1 hx with rfl | hx
        · exact h
        · exact Nat.lt_trans h ((List.pairwise_cons.1 hp).1 x hx)
      · intro hp
        have := List.pairwise_cons.1 hp
        exact ⟨this.1 _ List.mem_cons_self, this.2⟩

theorem Memory.wf_nil : Memory.wf [] := by simp [Memory.wf, Memory.rising]

theorem Memory.wf_filter {m : List Host.Cell} (p : Host.Cell → Bool) (h : Memory.wf m) : Memory.wf (m.filter p) :=
  ⟨(Memory.rising_iff _).2 (((Memory.rising_iff _).1 h.1).filter p), fun c hc => h.2 c (List.mem_filter.1 hc).1⟩

theorem Memory.wf_drop {m : List Host.Cell} (a : Nat) (h : Memory.wf m) : Memory.wf (Memory.drop m a) :=
  Memory.wf_filter _ h

theorem Memory.wf_clear {m : List Host.Cell} (lo hi : Nat) (h : Memory.wf m) : Memory.wf (Memory.clear m lo hi) :=
  Memory.wf_filter _ h

theorem Memory.mem_insert {m : List Host.Cell} {a : Nat} {v : Byte} {c : Host.Cell} :
    c ∈ Memory.insert m a v ↔ c = (a, v) ∨ c ∈ m := by
  induction m with
  | nil => simp [Memory.insert]
  | cons e r ih =>
    obtain ⟨k, x⟩ := e
    unfold Memory.insert
    split
    · simp
    · simp only [List.mem_cons, ih]; exact or_left_comm

theorem Memory.rising_insert {m : List Host.Cell} {a : Nat} {v : Byte}
    (h : m.Pairwise (fun c e => c.1 < e.1)) (ha : ∀ c ∈ m, c.1 ≠ a) :
    (Memory.insert m a v).Pairwise (fun c e => c.1 < e.1) := by
  induction m with
  | nil => simp [Memory.insert]
  | cons e r ih =>
    obtain ⟨k, x⟩ := e
    have hk : k ≠ a := ha _ List.mem_cons_self
    have hp := List.pairwise_cons.1 h
    unfold Memory.insert
    split
    · rename_i hlt
      refine List.pairwise_cons.2 ⟨fun c hc => ?_, h⟩
      rcases List.mem_cons.1 hc with rfl | hc
      · exact hlt
      · exact Nat.lt_trans hlt (hp.1 c hc)
    · refine List.pairwise_cons.2 ⟨fun c hc => ?_, ih hp.2 (fun c hc => ha c (List.mem_cons_of_mem _ hc))⟩
      rcases Memory.mem_insert.1 hc with rfl | hc
      · show k < a; omega
      · exact hp.1 c hc

theorem Memory.key_drop {m : List Host.Cell} {a : Nat} : ∀ c ∈ Memory.drop m a, c.1 ≠ a := fun c hc => by
  simpa [Memory.drop] using (List.mem_filter.1 hc).2

/-- A write keeps the canonical form. -/
theorem Memory.wf_write {m : List Host.Cell} (a : Nat) (v : Byte) (h : Memory.wf m) : Memory.wf (Memory.write m a v) := by
  unfold Memory.write
  have hd := Memory.wf_drop a h
  split
  · exact hd
  · rename_i hv
    refine ⟨(Memory.rising_iff _).2 (Memory.rising_insert ((Memory.rising_iff _).1 hd.1) Memory.key_drop), fun c hc => ?_⟩
    rcases Memory.mem_insert.1 hc with rfl | hc
    · exact hv
    · exact hd.2 c hc

theorem Memory.wf_writeBytes (l : List Byte) : ∀ {m : List Host.Cell} (a : Nat), Memory.wf m →
    Memory.wf (Memory.writeBytes m a l) := by
  induction l with
  | nil => exact fun _ h => h
  | cons b r ih => exact fun a h => ih (a + 1) (Memory.wf_write a b h)

theorem Memory.read_insert_self {m : List Host.Cell} {a : Nat} {v : Byte} (h : ∀ c ∈ m, c.1 ≠ a) :
    Memory.read (Memory.insert m a v) a = v := by
  induction m with
  | nil => simp [Memory.insert, Memory.read]
  | cons e r ih =>
    obtain ⟨k, x⟩ := e
    have hk : k ≠ a := h _ List.mem_cons_self
    unfold Memory.insert
    split
    · simp [Memory.read]
    · simp [Memory.read, hk, ih (fun c hc => h c (List.mem_cons_of_mem _ hc))]

theorem Memory.read_insert_other {m : List Host.Cell} {a b : Nat} {v : Byte} (h : b ≠ a) :
    Memory.read (Memory.insert m a v) b = Memory.read m b := by
  induction m with
  | nil => simp [Memory.insert, Memory.read, Ne.symm h]
  | cons e r ih =>
    obtain ⟨k, x⟩ := e
    unfold Memory.insert
    split
    · simp [Memory.read, Ne.symm h]
    · simp [Memory.read, ih]

theorem Memory.read_drop_self (m : List Host.Cell) (a : Nat) : Memory.read (Memory.drop m a) a = memDefault a := by
  induction m with
  | nil => simp [Memory.drop, Memory.read]
  | cons e r ih =>
    obtain ⟨k, x⟩ := e
    by_cases hk : k = a
    · simpa [Memory.drop, hk] using ih
    · simpa [Memory.drop, hk, Memory.read] using ih

theorem Memory.read_drop_other (m : List Host.Cell) {a b : Nat} (h : b ≠ a) :
    Memory.read (Memory.drop m a) b = Memory.read m b := by
  induction m with
  | nil => simp [Memory.drop, Memory.read]
  | cons e r ih =>
    obtain ⟨k, x⟩ := e
    by_cases hk : k = a
    · subst hk; simpa [Memory.drop, Memory.read, Ne.symm h] using ih
    · by_cases hb : k = b
      · subst hb; simp [Memory.drop, Memory.read, hk]
      · simpa [Memory.drop, Memory.read, hk, hb] using ih

/-- A read of the byte written gives it. -/
theorem Memory.read_write_self (m : List Host.Cell) (a : Nat) (v : Byte) : Memory.read (Memory.write m a v) a = v := by
  unfold Memory.write
  split
  · rw [Memory.read_drop_self]; exact Eq.symm ‹_›
  · exact Memory.read_insert_self Memory.key_drop

/-- A write leaves every other byte alone. -/
theorem Memory.read_write_other (m : List Host.Cell) {a b : Nat} (v : Byte) (h : b ≠ a) :
    Memory.read (Memory.write m a v) b = Memory.read m b := by
  unfold Memory.write
  split
  · exact Memory.read_drop_other m h
  · rw [Memory.read_insert_other h, Memory.read_drop_other m h]

theorem Memory.read_writeBytes_other (l : List Byte) : ∀ (m : List Host.Cell) (a b : Nat), b < a ∨ a + l.length ≤ b →
    Memory.read (Memory.writeBytes m a l) b = Memory.read m b := by
  induction l with
  | nil => exact fun _ _ _ _ => rfl
  | cons x r ih =>
    intro m a b h
    simp only [List.length_cons] at h
    show Memory.read (Memory.writeBytes (Memory.write m a x) (a + 1) r) b = _
    rw [ih _ (a + 1) b (by omega), Memory.read_write_other m x (by omega)]

/-- The bytes of a block that was written. -/
theorem Memory.read_writeBytes (l : List Byte) : ∀ (m : List Host.Cell) (a k : Nat) (h : k < l.length),
    Memory.read (Memory.writeBytes m a l) (a + k) = l[k] := by
  induction l with
  | nil => intro _ _ k h; simp at h
  | cons x r ih =>
    intro m a k h
    show Memory.read (Memory.writeBytes (Memory.write m a x) (a + 1) r) (a + k) = _
    cases k with
    | zero => rw [Memory.read_writeBytes_other r _ _ _ (by omega)]; simpa using Memory.read_write_self m a x
    | succ k =>
      have := ih (Memory.write m a x) (a + 1) k (by simpa using h)
      rw [Nat.add_assoc, Nat.add_comm 1 k] at this
      simpa using this

/-- Bytes outside a cleared range. -/
theorem Memory.read_clear_other (m : List Host.Cell) {lo hi b : Nat} (h : b < lo ∨ hi < b) :
    Memory.read (Memory.clear m lo hi) b = Memory.read m b := by
  induction m with
  | nil => simp [Memory.clear, Memory.read]
  | cons e r ih =>
    obtain ⟨k, x⟩ := e
    by_cases hk : k < lo ∨ hi < k
    · by_cases hb : k = b
      · subst hb; simp [Memory.clear, Memory.read, hk]
      · simpa [Memory.clear, Memory.read, hk, hb] using ih
    · have hb : k ≠ b := by rintro rfl; exact hk h
      simpa [Memory.clear, Memory.read, hk, hb] using ih

end Sys2Proof.Machine
end

