-- ==== Sys2Proof/Laws/Vectors.lean ====
section
/-! SUPPORT. Reading an element of a vector after an element has been set. -/

namespace Sys2Proof.Machine

theorem vget_vset_self {α : Type} {n : Nat} [Inhabited α] (v : Vector α n) {i : Nat} (x : α) (h : i < n) :
    vget (vset v i x) i = x := by
  simp [vget, vset, h]

theorem vget_vset_other {α : Type} {n : Nat} [Inhabited α] (v : Vector α n) {i j : Nat} (x : α) (h : j ≠ i) :
    vget (vset v i x) j = vget v j := by
  unfold vget vset
  split
  · split
    · rw [Vector.getElem_set_ne _ _ (Ne.symm h)]
    · rfl
  · rfl

end Sys2Proof.Machine
end

