-- ==== Sys2Proof/Tests/Slice0.lean ====
section
/-! SUPPORT. Tests of single commands and functions on small states, with results that the spec's examples state; and for
each statement with hypotheses one theorem that shows, clause by clause, a state and operands that meet all of them
  together.
A clause of a witness repeats the hypotheses of one clause of the statement; equations that only name a value are put
  in. -/

namespace Sys2Proof.Tests

open Sys2Proof.Machine Sys2Proof.Machine.Reg
set_option maxRecDepth 10000
set_option Elab.async false

/-! ## Terms that no sender can produce -/

theorem test_token_short : (Instr.debugToken []).wellFormed = false := by decide

theorem test_readings_short : (Instr.strapSampling [[0]]).wellFormed = false := by decide

theorem test_recheck_short : (Instr.sisStrapRecheck []).wellFormed = false := by decide

theorem test_record_short : (Instr.axisCommand 0 ⟨0, 0, 0⟩ [1]).wellFormed = false := by decide

theorem test_thm_short : (Instr.thmStep [] []).wellFormed = false := by decide

theorem test_frame_long :
    (Instr.canFrameReceive 0 ⟨false, 0, true, false, false, false, 15, List.replicate 65 0⟩ 0 0 0).wellFormed = false
      := by
  decide

theorem test_keys_short : (Instr.bstKeyDone []).wellFormed = false := by decide

theorem test_ill_formed_stops : exec (.bstKeyDone []) State.reset = .fault (.illFormed "BST_KEY_DONE") := rfl

theorem test_no_word_commands : decodeTableWord 32 5 = none := rfl

/-! ## Values of the spec's examples -/

/-- The example after R18: angle 0x00_0310_0000 of a motor with 4 pole pairs stands at 90 °e. -/
theorem test_electrical_angle :
    elecAngle { atb := #v[{ acc := 0x0003100000 <<< 16 }, {}, {}, {}],
                cfg := { axes := #v[{ topology := 1, polePairs := 4 }, {}, {}, {}] } } 0 = 16777216 / 4 :=
                  by decide +kernel

/-- The example after R71: PHASE 0x8000 and 0x4000 of a period of 100,000 ticks. -/
theorem test_carrier_instants : carrierInstant 7 100000 0x8000 = 50007 ∧ carrierInstant 7 100000 0x4000 = 25007 := by
  decide

/-- The example of chapter Shaore Link: EDGE_ON with SEQ 7 and edge time 0x0A_FE69 has the CRC octet 0x31. -/
theorem test_link_crc : crc8 [0x17, 0x0A, 0xFE, 0x69] = 0x31 := by decide +kernel

/-- The example after R32: SECTION_CRC of table entry 4 at offset 0x1A40. -/
theorem test_reject_word : rejWord (some (6, 4, 0x1A40)) = (6, 0x04001A40) := by decide

/-- The example of chapter Thermal: TJ 140.0 °C between TD0 2,000 and TD1 2,400 with FMIN 8,192. -/
theorem test_thermal_factor : thmFactor 2240 2000 2400 8192 = 18022 := by decide

/-- The example after R465: a sample at tick 1,000,024,000, in units of 64 ticks. -/
theorem test_time_records :
    timeExt (1000024000 / 64) = [0xFE, 0, 0, 0, 0] ∧ timeRec (1000024000 / 64) = [0xFF, 0x9F, 0x6C, 0xEE, 0] := by
      decide

/-- The example of chapter Safety Island: setpoint 26,214 and TOL 1,638 give the band from −1,638 to 27,852. -/
theorem test_torque_band :
    trqBand { sis := { safety := List.replicate 0x160 0 ++ [0x66, 0x06] ++ List.replicate 0x300 0,
                       monitors := #v[{ cmds := [⟨0, 1, 26214, 0, 0⟩] }, {}, {}, {}] } } 0 = (-1638, 27852) :=
                         by decide +kernel

/-! ## Lemmas for the witnesses -/

/-- Nothing is there. -/
theorem no {α : Type} {o : Option α} {x : α} {p : Prop} (e : o = some x) (h : o = none) : p := by
  rw [h] at e; cases e

/-- What is there is the one thing. -/
theorem only {α : Type} {o : Option α} {x y : α} (e : o = some x) (h : o = some y) : y = x := by
  rw [h] at e; cases e; rfl

/-- The first entry of a list. -/
theorem onlyHead {α : Type} {l r : List α} {x y : α} (e : l = x :: r) (h : l.head? = some y) : y = x := by
  rw [e] at h; cases h; rfl

/-- The state of an outcome that has one. -/
def outState (o : Host.Outcome State Fault Refusal) : State :=
  match o with
  | .next t => t
  | _ => {}

/-- Is the outcome a next state? -/
def isNext (o : Host.Outcome State Fault Refusal) : Bool :=
  match o with
  | .next _ => true
  | _ => false

theorem goes_next {o : Host.Outcome State Fault Refusal} (h : isNext o = true) : o = .next (outState o) := by
  cases o <;> first | rfl | cases h

/-- A failed validation with its code and address. -/
theorem fail_code {o : Option (CheckFail × Nat)} {addr code : Nat}
    (h : o.map (fun x => (x.1.code, x.2)) = some (code, addr)) : ∃ f : CheckFail, o = some (f, addr) ∧ code = f.code
      := by
  cases o with
  | none => cases h
  | some x => cases h; exact ⟨x.1, rfl, rfl⟩


/-! ## States -/

/-- running, nothing else -/
def up : State := { dev := { phase := .running } }
def dv (l : List (Nat × Word)) (d : Dev := up.dev) : Dev := l.foldl (fun d p => wr p.1 p.2 d) d
def st (d : Dev) (m : List Host.Cell := []) : State := { dev := d, mem := m }
def running (p : Phase) : State := st { phase := p }
/-- `up` with registers and more -/
def sd (l : List (Nat × Word)) (f : Dev → Dev := id) : State := st (f (dv l))
/-- one three-phase axis 0, owning the first six instances of every class -/
def cfgAll : CfgState :=
  { axes := #v[{topology := 1, polePairs := 4, pfMain := 2}, {}, {}, {}], owners := (List.range' 1 13).flatMap (fun c => (List.range 6).map (fun i => (c * 0x1000000 + i, ⟨0x10, true⟩))) }
def cf (l : List (Nat × Word) := []) (ltb : Ticks := 1000) (f : Dev → Dev := id) : State :=
  st (f { dv l with ltb := ltb, cfg := cfgAll })
/-- source `n` is collected by FCR -/
def C (n : Nat) : Nat × Word := (FCR_SRCkkkk_CFG n, 0x40000000)
/-- SAFETY bytes from (offset, value) pairs -/
def saf (b : List (Nat × Byte)) : List Byte := (List.range 0x330).map (fun i => match b.find? (fun x => x.1 == i) with
  | some x => x.2 | none => 0)
def isafe : List (Nat × Byte) := [
  (0x290, 2), (0x292, 3), (0x294, 10), (0x296, 100), (0x298, 50), (0x29A, 0xf),      -- STO
  (0x2A0, 1), (0x2A2, 1), (0x2A4, 30), (0x2A8, 2), (0x2AA, 1), (0x2AC, 30), (0x2B0, 3), (0x2B2, 1), (0x2B4, 30),
  (0x2D0, 1), (0x2D1, 0xff), (0x2D4, 5), (0x2D8, 20), (0x2DA, 50),
  (0x310, 10), (0x312, 2)]
def axisRegs : List (Nat × Word) := [
  (PWM_PLnn_CFG 0, 0x80000000), (PWM_PLnn_CFG 1, 0x80000000), (PWM_PLnn_CFG 2, 0x80000000), (PWM_PLnn_PORT 0, 0x001),
    (PWM_PLnn_PORT 1, 0x203), (PWM_PLnn_PORT 2, 0x405),
  (PWM_PLnn_PORT 28, 0x2800), (PWM_PLnn_PORT 24, 0x2900)]
  ++ ((List.range 6) ++ [40, 41]).flatMap (fun p => [(GLK_GLnn_CFG p, (0x80000000 : Word)), (GLK_GLnn_STATE p,
    0x40000)])
def ownOne : List (Nat × Owner) := [(0x02000000, ⟨0x10, true⟩), (0x02000001, ⟨0x10, true⟩), (0x02000002, ⟨0x10,
  true⟩), (0x02000018, ⟨0x21, true⟩), (0x0200001C, ⟨0x21, true⟩)]
/-- axis 0 three-phase on legs 0–2, link 0, SIS running, SEAL OK, chopper and discharge channel -/
def px (l : List (Nat × Word) := []) (a : PspAxis := {}) (k : PspLink := {}) (sl : SisLink := {}) (f : Dev → Dev :=
  id) (axes : Vector AxisRec 4 := #v[{topology := 1, polePairs := 4, nBase := 600000}, {}, {}, {}]) (owners := ownOne)
  : State :=
  st (f
    { dv (axisRegs ++ [(PSP_AXa_SEL 0, 3), (PFC_AXa_VOTE_STATUS 0, 0), (SIS_SEAL, 1), (SIS_STATE, 1), (SIS_STO, 3), (CFG_FEAT_STATUS, 1)] ++ l) with
    ltb := 100000000, cfg := {axes, owners}, psp :=
      {axes := vset (Vector.replicate 4 {}) 0 a, links := vset (Vector.replicate 4 {}) 0 k},
    sis := {running := true, safety := saf isafe, links := vset (Vector.replicate 4 {}) 0 sl } })

namespace Start

def lenZero : List Host.Cell :=
  [⟨0x1060000C,0⟩,⟨0x1060000D,0⟩,⟨0x1060000E,0⟩,⟨0x1060000F,0⟩,⟨0x1080000C,0⟩,⟨0x1080000D,0⟩,⟨0x1080000E,0⟩,⟨0x1080000F,0⟩]
/-- axis 0 in use -/
def ax (src : Nat) (l : List (Nat × Word) := []) (a : Atb := {}) (ltb : Ticks := 1000): State :=
  st { dv ([(ATB_AXn_CFG 0, BitVec.ofNat 32 (src * 0x10000000))] ++ l) with
    ltb := ltb, cfg := { axes := #v[{topology := 1, polePairs := 4}, {}, {}, {}] }, atb := #v[a, {}, {}, {}] }
def ev (n w1 w2 : Nat) (w0 := 500) (f : EvsState → EvsState := id) (l : List (Nat × Word) := []) : State :=
  st
    { dv ([(evsWordAddr n 0, BitVec.ofNat 32 w0), (evsWordAddr n 1, BitVec.ofNat 32 w1), (evsWordAddr n 2, BitVec.ofNat 32 w2), (evsWordAddr n 3, 0xABCD)] ++ l) with
    ltb := 0x100000300, evs := f {}, cfg :=
      { axes := #v[{topology := 1, polePairs := 4}, {}, {}, {}], owners := [(0x0B000000,⟨0x20,true⟩),(0x0C000000,⟨0x20,true⟩)]}
      }
def live1 (t : Int) (rpt : Nat) (e : EvsState) : EvsState := { e with live := [⟨5, t, rpt, none⟩] }

/-- The hypotheses of Obligations.FrontCommandRuns can be met. -/
theorem witness_FrontCommandRuns :
    (∃ (s : State), ∃ c ∈ s.pending.head?, ∃ q ∈ s.pending.tail?, s.pending = c :: q) ∧
    (∃ (s : State), s.pending = []) :=
  ⟨⟨{up with pending := [.warmReset true, .pllFault]}, by decide +kernel⟩,
   ⟨up, by decide +kernel⟩⟩

/-- The hypotheses of Obligations.OtherCommandsLeaveMemory can be met. -/
theorem witness_OtherCommandsLeaveMemory :
    ∃ (c : Instr) (s : State) (t : State), writesMemory c = false ∧ exec c s = Host.Outcome.next t :=
  ⟨.pllFault, up, (outState (exec .pllFault up)), by decide +kernel, goes_next (by decide +kernel)⟩

/-- The hypotheses of Obligations.FormerCopySelection can be met. -/
theorem witness_FormerCopySelection :
    (∃ (s : State) (c0 : Nat) (c1 : Nat) (v0 : Nat) (v1 : Nat), Acts s ∧ s.dev.phase = Phase.strapped ∧
      s.dev.sys.clockReset = false ∧ c0 = (rejWord (copyRej s.mem s.dev 0)).fst % 16 ∧ c1 = (rejWord (copyRej s.mem
      s.dev 1)).fst % 16 ∧ v0 = le32 (Memory.readBytes s.mem (copyBase 0) 32) 8 ∧ v1 = le32 (Memory.readBytes s.mem
      (copyBase 1) 32) 8) ∧
    (∃ (s : State) (former : List (Nat × Word)), Acts s ∧ s.dev.phase = Phase.checked ∧ formerRej former (copyImage
      s.mem (fld s.dev CFG_STATUS 21 20 - 1)) (loadImage (copyImage s.mem (fld s.dev CFG_STATUS 21 20 - 1)) former
      s.dev) = none) ∧
    (∃ (s : State), Acts s ∧ s.dev.phase ≠ Phase.checked) :=
  ⟨⟨(running .strapped), 1, 1, 0xFFFFFFFF, 0xFFFFFFFF, by unfold Acts; decide +kernel⟩,
   ⟨{running .checked with mem := lenZero}, [], by unfold Acts; decide +kernel⟩,
   ⟨up, by unfold Acts; decide +kernel⟩⟩

/-- The hypotheses of Obligations.StartUpAndWarmReset can be met. -/
theorem witness_StartUpAndWarmReset :
    (∃ (s : State) (porst : Bool), (porst = true ∨ s.dev.phase = Phase.held)) ∧
    (∃ (s : State), Acts s ∧ s.dev.phase = Phase.released ∧ s.dev.sis.running = false) ∧
    (∃ (s : State) (r : List (List Nat)), Acts s ∧ readingsOk r = true ∧ s.dev.sis.running = true ∧ s.dev.phase =
      Phase.sisUp) ∧
    (∃ (s : State), Acts s) ∧
    (∃ (s : State), Acts s ∧ s.dev.sys.warmWaits = none ∧ s.dev.csq.flushing = none ∧ s.dev.phase ≠ Phase.held ∧
      s.dev.phase ≠ Phase.released ∧ s.dev.phase ≠ Phase.sisUp) ∧
    (∃ (s : State) (i : Initiator), Acts s ∧ WriteReaches s.dev i SYS_RST_CTRL) ∧
    (∃ (s : State) (i : Initiator) (v : Word), Acts s ∧ WriteReaches s.dev i CFG_UPD_CTRL ∧ ¬(bit v 0 = true ∧ fld
      s.dev CFG_STATUS 21 20 = bits v 4 4 + 1)) ∧
    (∃ (s : State) (i : Initiator) (v : Word), Acts s ∧ WriteReaches s.dev i CFG_UPD_CTRL ∧ bit v 0 = true ∧ fld s.dev
      CFG_STATUS 21 20 = bits v 4 4 + 1) ∧
    (∃ (s : State) (i : Initiator) (v : Word), Acts s ∧ WriteReaches s.dev i CFG_RES_QUERY ∧ resIdOk (BitVec.toNat v)
      = true ∧ (ownerIn s.dev.cfg.owners (BitVec.toNat v)).code < 256) ∧
    (∃ (s : State) (i : Initiator) (v : Word), Acts s ∧ WriteReaches s.dev i CFG_RES_QUERY ∧ resIdOk (BitVec.toNat v)
      = false) ∧
    (∃ (s : State) (i : Initiator) (k : Fin 8), Acts s ∧ WriteReaches s.dev i (CFG_DRVFEAT ↑k)) ∧
    (∃ (s : State) (i : Initiator) (v : Word), Acts s ∧ WriteReaches s.dev i CFG_FEAT_COMMIT ∧ bit v 0 = true) :=
  ⟨⟨{}, false, by decide +kernel⟩,
   ⟨(running .released), by unfold Acts; decide +kernel⟩,
   ⟨(st { phase := .sisUp, sis := {running := true}}), (List.replicate 8 [0,0,0,0,0,0,0,0]),
     by unfold Acts; decide +kernel⟩,
   ⟨up, by unfold Acts; decide +kernel⟩,
   ⟨(st { up.dev with ltb := 77}), by unfold Acts; decide +kernel⟩,
   ⟨up, .px0, by unfold Acts WriteReaches; decide +kernel⟩,
   ⟨up, .px0, 0x10, by unfold Acts WriteReaches; decide +kernel⟩,
   ⟨(st (dv [(CFG_STATUS, 0x200000)])), .px0, 0x11, by unfold Acts WriteReaches; decide +kernel⟩,
   ⟨up, .px0, 0x01000003, by unfold Acts WriteReaches; decide +kernel⟩,
   ⟨up, .px0, 0x7fffffff, by unfold Acts WriteReaches; decide +kernel⟩,
   ⟨up, .px0, 3, by unfold Acts WriteReaches; decide +kernel⟩,
   ⟨up, .px0, 1, by unfold Acts WriteReaches; decide +kernel⟩⟩

/-- The hypotheses of Obligations.DebugToken can be met. -/
theorem witness_DebugToken :
    ∃ (s : State) (t : List Byte), Acts s ∧ t.length = 160 ∧ tokenErr s.dev t ≠ 0 :=
  ⟨up, (List.replicate 160 0), by unfold Acts; decide +kernel⟩

/-- The hypotheses of Obligations.DebugClose can be met. -/
theorem witness_DebugClose :
    (∃ (s : State) (i : Initiator) (v : Word), Acts s ∧ WriteReaches s.dev i CFG_DBG_CLOSE ∧ bit v 0 = false) ∧
    (∃ (s : State) (i : Initiator) (v : Word), Acts s ∧ WriteReaches s.dev i CFG_DBG_CLOSE ∧ bit v 0 = true) :=
  ⟨⟨up, .px0, 0, by unfold Acts WriteReaches; decide +kernel⟩,
   ⟨(st (dv [(CFG_DBG_STATUS, 0x3F01)])), .px0, 1, by unfold Acts WriteReaches; decide +kernel⟩⟩

/-- The hypotheses of Obligations.LocalTimebaseRead can be met. -/
theorem witness_LocalTimebaseRead :
    ∃ (s : State) (i : Initiator), Acts s ∧ ReadReaches s.dev i ATB_LTB_LO :=
  ⟨(st {up.dev with ltb := 0x500000007}), .px0, by unfold Acts ReadReaches; decide +kernel⟩

/-- The hypotheses of Obligations.TimebaseTickAndUpdates can be met. -/
theorem witness_TimebaseTickAndUpdates :
    (∃ (s : State) (i : Initiator) (a : Fin 4), Acts s ∧ ReadReaches s.dev i (ATB_AXn_ANG_LO ↑a) ∧ axisInUse s.dev ↑a
      = true) ∧
    (∃ (s : State), Acts s) ∧
    (∃ (s : State) (a : Fin 4), Acts s ∧ fld s.dev (ATB_AXn_CFG ↑a) 29 28 = 1 ∧ (atb s.dev ↑a).prev = none) ∧
    (∃ (s : State) (a : Fin 4) (th0 : BitVec 40) (tk : Nat) (tk0 : Nat), Acts s ∧ fld s.dev (ATB_AXn_CFG ↑a) 29 28 = 1
      ∧ (atb s.dev ↑a).prev = some (th0, tk0) ∧ tk0 < tk) ∧
    (∃ (s : State) (a : Fin 4), Acts s ∧ fld s.dev (ATB_AXn_CFG ↑a) 29 28 ≠ 1) ∧
    (∃ (s : State) (i : Initiator) (a : Fin 4), Acts s ∧ WriteReaches s.dev i (ATB_AXn_SETPOS ↑a) ∧ fld s.dev
      (ATB_AXn_CFG ↑a) 29 28 = 2) ∧
    (∃ (s : State) (i : Initiator) (a : Fin 4), Acts s ∧ WriteReaches s.dev i (ATB_AXn_SETSPD ↑a) ∧ fld s.dev
      (ATB_AXn_CFG ↑a) 29 28 = 2) ∧
    (∃ (s : State) (i : Initiator) (a : Fin 4), Acts s ∧ fld s.dev (ATB_AXn_CFG ↑a) 29 28 ≠ 2 ∧ fld s.dev
      (CEA_AXa_FC_STATUS ↑a) 15 13 ≠ 2 ∧ WriteReaches s.dev i (ATB_AXn_SETPOS ↑a)) ∧
    (∃ (s : State) (i : Initiator) (a : Fin 4), Acts s ∧ fld s.dev (ATB_AXn_CFG ↑a) 29 28 ≠ 2 ∧ fld s.dev
      (CEA_AXa_FC_STATUS ↑a) 15 13 ≠ 2 ∧ WriteReaches s.dev i (ATB_AXn_SETSPD ↑a)) ∧
    (∃ (s : State) (a : Fin 4), Acts s ∧ axisInUse s.dev ↑a = true ∧ fld s.dev (ATB_AXn_CFG ↑a) 29 28 ≠ 0 ∧ (atb s.dev
      ↑a).staleNow = false ∧ (atb s.dev ↑a).lastUpdate + fld s.dev (ATB_AXn_TIMEOUT ↑a) 23 0 ≤ BitVec.toNat s.dev.ltb)
      :=
  ⟨⟨(ax 1 [] {acc := 0x81234567890ABC}), .px0, 0, by unfold Acts ReadReaches; decide +kernel⟩,
   ⟨(ax 1 [(ATB_AXn_SPEED 0, 0xFFFFFFF0)] {acc := 5}), by unfold Acts; decide +kernel⟩,
   ⟨(ax 1 [(ATB_AXn_SPEED 0, 0xFFFFFFF0)] {acc := 5}), 0, by unfold Acts; decide +kernel⟩,
   ⟨(ax 1 [(ATB_AXn_SPEED 0, 0x1F0)] {acc := 5, prev := some (0x123450000, 500)}), 0, 0x123450000, 990, 500,
     by unfold Acts; decide +kernel⟩,
   ⟨(ax 2), 0, by unfold Acts; decide +kernel⟩,
   ⟨(ax 2), .px0, 0, by unfold Acts WriteReaches; decide +kernel⟩,
   ⟨(ax 2), .px0, 0, by unfold Acts WriteReaches; decide +kernel⟩,
   ⟨(ax 1), .px0, 0, by unfold Acts WriteReaches; decide +kernel⟩,
   ⟨(ax 3), .px0, 0, by unfold Acts WriteReaches; decide +kernel⟩,
   ⟨(ax 1 [(ATB_AXn_TIMEOUT 0, 900)] {lastUpdate := 100}), 0, by unfold Acts; decide +kernel⟩⟩

/-- The hypotheses of Obligations.EventEntriesAndFiring can be met. -/
theorem witness_EventEntriesAndFiring :
    (∃ (s : State) (i : Initiator) (n : Fin 4096) (v : Word), Acts s ∧ WriteReaches s.dev i (evsWordAddr (↑n) 2) ∧
      evsLive? s.dev ↑n = none ∧ evsArmCode s.dev (↑n) (evsWord s.dev (↑n) 0) (evsWord s.dev (↑n) 1) (setBit v 31
      true) = 0) ∧
    (∃ (s : State) (i : Initiator) (n : Fin 4096) (v : Word), Acts s ∧ WriteReaches s.dev i (evsWordAddr (↑n) 2) ∧
      evsLive? s.dev ↑n = none ∧ evsArmCode s.dev (↑n) (evsWord s.dev (↑n) 0) (evsWord s.dev (↑n) 1) (setBit v 31
      true) ≠ 0) ∧
    (∃ (s : State) (i : Initiator) (n : Fin 4096), Acts s ∧ WriteReaches s.dev i (evsWordAddr (↑n) 2) ∧ evsLive? s.dev
      ↑n ≠ none) ∧
    (∃ (s : State) (i : Initiator) (n : Fin 4096), Acts s ∧ WriteReaches s.dev i (evsWordAddr (↑n) 2)) ∧
    (∃ (s : State) (i : Initiator) (n : Fin 4096) (w : Fin 4), Acts s ∧ WriteReaches s.dev i (evsWordAddr ↑n ↑w) ∧ w ≠
      2) ∧
    (∃ (s : State) (n : Fin 4096), Acts s ∧ (bits (evsWord s.dev (↑n) 2) 30 29 = 0 ∨ bits (evsWord s.dev (↑n) 2) 30 29
      = 2) ∧ ∃ l ∈ evsLive? s.dev ↑n, l.target ≤ ↑(BitVec.toNat s.dev.ltb) ∧ l.rpt ≠ 0 ∧ l.rpt ≠ 255) ∧
    (∃ (s : State) (n : Fin 4096), Acts s ∧ (bits (evsWord s.dev (↑n) 2) 30 29 = 0 ∨ bits (evsWord s.dev (↑n) 2) 30 29
      = 2) ∧ bit (evsWord s.dev (↑n) 2) 22 = false ∧ ∃ l ∈ evsLive? s.dev ↑n, l.target ≤ ↑(BitVec.toNat s.dev.ltb) ∧
      l.rpt = 0) ∧
    (∃ (s : State) (n : Fin 4096), Acts s ∧ evsLive? s.dev ↑n = none) ∧
    (∃ (s : State), Acts s ∧ (∀ (x : EvsDue), x ∈ s.dev.evs.due → s.dev.evs.window.contains x.entry = true) ∧
      s.dev.evs.window.length < 256 ∧ s.dev.evs.window.contains s.dev.evs.scan = false) ∧
    (∃ (s : State), Acts s ∧ flag s.dev EVS_CTRL 0 = true ∧ s.dev.evs.queue.length < 16 ∧ ∃ x ∈ List.find? (fun (x :
      EvsDue) ↦ s.dev.evs.window.contains x.entry) s.dev.evs.due, evsLateness s.dev x.trig ≤ fld s.dev EVS_CTRL 31 16)
      ∧
    (∃ (s : State), Acts s ∧ flag s.dev EVS_CTRL 0 = true ∧ s.dev.evs.queue.length < 16 ∧ ∃ x ∈ List.find? (fun (x :
      EvsDue) ↦ s.dev.evs.window.contains x.entry) s.dev.evs.due, fld s.dev EVS_CTRL 31 16 < evsLateness s.dev x.trig)
      ∧
    (∃ (s : State), Acts s ∧ s.dev.evs.queue = [] ∧ s.dev.trc.ringOut = []) ∧
    (∃ (s : State) (i : Initiator) (v : Word), Acts s ∧ WriteReaches s.dev i EVS_CTRL ∧ 2 ≤ bits v 31 16) ∧
    (∃ (s : State) (i : Initiator), Acts s ∧ ReadReaches s.dev i EVS_LATELOG1 ∧ ∃ x ∈ s.dev.evs.log.head?, ∃ q ∈
      s.dev.evs.log.tail?, s.dev.evs.log = x :: q) ∧
    (∃ (s : State) (i : Initiator), Acts s ∧ ReadReaches s.dev i EVS_LATELOG1 ∧ s.dev.evs.log = []) ∧
    (∃ (s : State) (r : Nat) (v : Word) (q : List (Nat × Word)), Acts s ∧ s.dev.evs.queue = (r, v) :: q) :=
  ⟨⟨(ev 5 0 0), .px0, 5, 0, by unfold Acts WriteReaches; decide +kernel⟩,
   ⟨(ev 5 0 0), .px0, 5, 0x000ff000, by unfold Acts WriteReaches; decide +kernel⟩,
   ⟨(ev 5 0 0 500 (live1 800 0)), .px0, 5, by unfold Acts WriteReaches; decide +kernel⟩,
   ⟨(ev 5 0 0 500 (live1 800 0)), .px0, 5, by unfold Acts WriteReaches; decide +kernel⟩,
   ⟨(ev 5 0 0 500 (live1 800 0)), .px0, 5, 1, by unfold Acts WriteReaches; decide +kernel⟩,
   ⟨(ev 5 0x503 0x80000000 500 (live1 800 3)), 5, by unfold Acts; decide +kernel⟩,
   ⟨(ev 5 0x503 0xC0000000 500 (live1 0x100000300 0)), 5, by unfold Acts; decide +kernel⟩,
   ⟨up, 5, by unfold Acts; decide +kernel⟩,
   ⟨(ev 5 0 0x80000000 500 (fun e => {live1 800 0 e with scan := 5})), by unfold Acts; decide +kernel⟩,
   ⟨(ev 5 0 0x80000000 500 (fun e => {e with scan := 4095, window := [3], due := [⟨4,5,6,7⟩, ⟨3,0x100000300,6,7⟩]})
     [(EVS_CTRL, 0x20001)]), by unfold Acts; decide +kernel⟩,
   ⟨(ev 5 0 0x80000000 500 (fun e => {e with scan := 4095, window := [3], due := [⟨4,5,6,7⟩, ⟨3,0x100000200,6,7⟩]})
     [(EVS_CTRL, 0x20001)]), by unfold Acts; decide +kernel⟩,
   ⟨up, by unfold Acts; decide +kernel⟩,
   ⟨up, .px0, 0x20001, by unfold Acts WriteReaches; decide +kernel⟩,
   ⟨(ev 5 0 0 500 (fun e => {e with log := [⟨5,6,7⟩], lost := true})), .px0,
     by unfold Acts ReadReaches; decide +kernel⟩,
   ⟨(ev 5 0 0 500 (fun e => {e with lost := true})), .px0, by unfold Acts ReadReaches; decide +kernel⟩,
   ⟨ev 5 0 0 500 (fun e => {e with queue := [(3, 0x80000001), (4, 5)]}), 3, 0x80000001, [(4, 5)],
     by unfold Acts; decide +kernel⟩⟩

/-- The hypotheses of Obligations.EveryCommandCompletes can be met. -/
theorem witness_EveryCommandCompletes : Instr.pllFault.wellFormed = true ∧ (Instr.debugToken []).wellFormed = false :=
  by
  decide

/-- The hypotheses of Obligations.NothingActsBeforeRelease can be met. -/
theorem witness_NothingActsBeforeRelease :
    ∃ (c : Instr) (s t : State), inert s.dev = true ∧ exec c s = .next t ∧ ∀ p x m, c ≠ .powerOnResetRelease p x m :=
  ⟨.pllFault, State.reset, State.reset, by decide +kernel, rfl, fun _ _ _ h => nomatch h⟩

/-- The hypotheses of Obligations.StepKeepsInvariant can be met. -/
theorem witness_StepKeepsInvariant : ∃ s t : State, Between s ∧ step s = .next t :=
  ⟨{ up with pending := [.pllFault] }, outState (step { up with pending := [.pllFault] }), by
    unfold Between Collected MemoryCanonical; decide +kernel, goes_next (by decide +kernel)⟩

/-- A token of 160 bytes for this device: no permission, key slot 0, an all-zero key and signature. -/
def token : List Byte :=
  [0x4D, 0x44, 0x42, 0x47] ++ (toLe32 Config.uid0.toNat ++ toLe32 Config.uid1.toNat) ++ (toLe32 7 ++ toLe32 8)
    ++ List.replicate 140 0

/-- Running, with key slot 0 provisioned for debug tokens. -/
def keyed : State :=
  { dev := wr CFG_DBG_NONCE1 8 (wr CFG_DBG_NONCE0 7
      { phase := .running
        cfg :=
          { keys := #v[{ provisioned := true, debug := true, digest := sha256 (List.replicate 64 0) }, {}, {}, {}] }
          }) }

/-- The hypotheses of the first clause of Obligations.DebugToken can be met where the signature function accepts: it is an
opaque constant of Config. -/
theorem witness_DebugToken_accepted
    (h : Config.ecdsaP256 (slice token 32 64) (sha256 (token.take 96)) (slice token 96 64) = true) :
    ∃ (s : State) (t : List Byte), Acts s ∧ t.length = 160 ∧ tokenErr s.dev t = 0 ∧ anyGranted s.dev = false := by
  have hk : keyOk keyed.dev (byteAt token 24) (fun x => x.debug) (slice token 32 64) = true := by
    have e : slice token 32 64 = List.replicate 64 0 := rfl
    have b : byteAt token 24 = 0 := rfl
    have v : vget keyed.dev.cfg.keys 0
        = { provisioned := true, debug := true, digest := sha256 (List.replicate 64 0) } := rfl
    rw [e, b]
    simp [keyOk, v]
  refine ⟨keyed, token, by unfold Acts; decide +kernel, rfl, ?_, by decide +kernel⟩
  have h1 : ¬ (token.length ≠ 160 ∨ slice token 0 4 ≠ [0x4D, 0x44, 0x42, 0x47] ∨ 64 ≤ le32 token 20
      ∨ zeroAt token 25 7 = false) := by
    intro x
    rcases x with x | x | x | x
    · exact x rfl
    · exact x rfl
    · exact absurd x (show ¬ 64 ≤ le32 token 20 by rw [show le32 token 20 = 0 from rfl]; decide)
    · rw [show zeroAt token 25 7 = true from rfl] at x; cases x
  have h2 : slice token 4 8 = toLe32 Config.uid0.toNat ++ toLe32 Config.uid1.toNat := rfl
  have h3 : ¬ (keyed.dev.cfg.nonceUsed = true ∨ slice token 12 8
      ≠ toLe32 (rd keyed.dev CFG_DBG_NONCE0).toNat ++ toLe32 (rd keyed.dev CFG_DBG_NONCE1).toNat) := by
    intro x
    rcases x with x | x
    · cases x
    · exact x (by rw [show slice token 12 8 = toLe32 7 ++ toLe32 8 from rfl]; decide +kernel)
  unfold tokenErr
  rw [if_neg h1, if_neg (not_not_intro h2), if_neg h3, hk, h]
  rfl

end Start

namespace Position

def pf (cfg : Word) (l : List (Nat × Word) := []) (ch : PosChan := {}) (ltb : Ticks := 1000) (f : Dev → Dev := id):
  State :=
  st (f
    { dv ([(PFC_PFn_CFG 2, cfg), (PFC_PFn_CPR 2, 4096)] ++ l) with ltb := ltb, pfc := { chans := #v[{}, {}, ch, {}, {}, {}, {}, {}] }, cfg := cfgAll })
def lines (a b z : PosLine) : PosChan := { lines := #v[a,b,z] }

/-- The hypotheses of Obligations.CardingAndCounting can be met. -/
theorem witness_CardingAndCounting :
    (∃ (s : State) (c : Fin 8) (l : Fin 3) (lv : Bool), Acts s ∧ (fld s.dev (PFC_PFn_CFG ↑c) 3 0 = 0 ∨ fld s.dev
      (PFC_PFn_CFG ↑c) 3 0 = 5 ∨ (vget (posChan s.dev ↑c).lines ↑l).ball = lv)) ∧
    (∃ (s : State) (c : Fin 8) (l : Fin 3) (lv : Bool), Acts s ∧ fld s.dev (PFC_PFn_CFG ↑c) 3 0 ≠ 0 ∧ fld s.dev
      (PFC_PFn_CFG ↑c) 3 0 ≠ 5 ∧ (vget (posChan s.dev ↑c).lines ↑l).ball ≠ lv ∧ (∀ (t : Nat), (vget (posChan s.dev
      ↑c).lines ↑l).wait = some t → t + fld s.dev (PFC_PFn_CARD ↑c) 16 0 ≤ BitVec.toNat s.dev.ltb)) ∧
    (∃ (s : State) (c : Fin 8) (l : Fin 3) (lv : Bool), Acts s ∧ fld s.dev (PFC_PFn_CFG ↑c) 3 0 ≠ 0 ∧ fld s.dev
      (PFC_PFn_CFG ↑c) 3 0 ≠ 5 ∧ (vget (posChan s.dev ↑c).lines ↑l).ball ≠ lv ∧ ∃ t ∈ (vget (posChan s.dev ↑c).lines
      ↑l).wait, BitVec.toNat s.dev.ltb < t + fld s.dev (PFC_PFn_CARD ↑c) 16 0) ∧
    (∃ (s : State) (c : Fin 8), Acts s ∧ (∀ (l : Fin 3), (vget (posChan s.dev ↑c).lines ↑l).wait = none)) ∧
    (∃ (s : State) (c : Fin 8) (l : Fin 2), Acts s ∧ fld s.dev (PFC_PFn_CFG ↑c) 3 0 = 1 ∧ flag s.dev (PFC_PFn_CFG ↑c)
      29 = true ∧ (vget (posChan s.dev ↑c).lines ↑l).ball ≠ (vget (posChan s.dev ↑c).lines ↑l).level ∧ (vget (posChan
      s.dev ↑c).lines (1 - ↑l)).wait = none ∧ (vget (posChan s.dev ↑c).lines 2).wait = none ∧ ∃ t ∈ (vget (posChan
      s.dev ↑c).lines ↑l).wait, t + fld s.dev (PFC_PFn_CARD ↑c) 16 0 ≤ BitVec.toNat s.dev.ltb) ∧
    (∃ (s : State) (c : Fin 8) (l : Fin 2), Acts s ∧ fld s.dev (PFC_PFn_CFG ↑c) 3 0 = 1 ∧ flag s.dev (PFC_PFn_CFG ↑c)
      29 = false ∧ (vget (posChan s.dev ↑c).lines ↑l).ball ≠ (vget (posChan s.dev ↑c).lines ↑l).level ∧ (vget (posChan
      s.dev ↑c).lines (1 - ↑l)).wait = none ∧ (vget (posChan s.dev ↑c).lines 2).wait = none ∧ ∃ t ∈ (vget (posChan
      s.dev ↑c).lines ↑l).wait, t + fld s.dev (PFC_PFn_CARD ↑c) 16 0 ≤ BitVec.toNat s.dev.ltb) ∧
    (∃ (s : State) (c : Fin 8), Acts s ∧ fld s.dev (PFC_PFn_CFG ↑c) 3 0 = 1 ∧ (vget (posChan s.dev ↑c).lines 0).ball ≠
      (vget (posChan s.dev ↑c).lines 0).level ∧ (vget (posChan s.dev ↑c).lines 1).ball ≠ (vget (posChan s.dev
      ↑c).lines 1).level ∧ (vget (posChan s.dev ↑c).lines 2).wait = none ∧ ∃ t ∈ (vget (posChan s.dev ↑c).lines
      0).wait, (vget (posChan s.dev ↑c).lines 1).wait = some t ∧ t + fld s.dev (PFC_PFn_CARD ↑c) 16 0 ≤ BitVec.toNat
      s.dev.ltb) ∧
    (∃ (s : State) (c : Fin 8), Acts s ∧ fld s.dev (PFC_PFn_CFG ↑c) 19 16 ≠ 0 ∧ (posChan s.dev ↑c).decayFrom / 2 ^
      (fld s.dev (PFC_PFn_CFG ↑c) 19 16 + 9) < BitVec.toNat s.dev.ltb / 2 ^ (fld s.dev (PFC_PFn_CFG ↑c) 19 16 + 9) ∧
      (fld s.dev (PFC_PFn_CARD_CNT ↑c) 15 0 - 1 < fld s.dev (PFC_PFn_CARD ↑c) 31 20 ∨ (posChan s.dev ↑c).carded =
      true)) ∧
    (∃ (s : State) (c : Fin 8), Acts s ∧ fld s.dev (PFC_PFn_CFG ↑c) 19 16 = 0) ∧
    (∃ (s : State) (i : Initiator) (c : Fin 8), Acts s ∧ WriteReaches s.dev i (PFC_PFn_CNTCLR ↑c)) :=
  ⟨⟨up, 2, 0, true, by unfold Acts; decide +kernel⟩,
   ⟨(pf 1), 2, 0, true, by unfold Acts; decide +kernel⟩,
   ⟨(pf 1 [(PFC_PFn_CARD 2, 100)] (lines {wait := some 901} {} {})), 2, 0, true, by unfold Acts; decide +kernel⟩,
   ⟨up, 2, by unfold Acts; decide +kernel⟩,
   ⟨(pf 0x20000001 [] (lines {wait := some 901, ball := true} {} {})), 2, 0, by unfold Acts; decide +kernel⟩,
   ⟨(pf 0x1 [] (lines {wait := some 901, ball := true} {} {})), 2, 0, by unfold Acts; decide +kernel⟩,
   ⟨(pf 1 [] (lines {wait := some 901, ball := true} {wait := some 901, ball := true} {})), 2,
     by unfold Acts; decide +kernel⟩,
   ⟨(pf 0x10001 [(PFC_PFn_CARD_CNT 2, 5), (PFC_PFn_CARD 2, 0x00400000)] {carded := true} 1024), 2,
     by unfold Acts; decide +kernel⟩,
   ⟨(pf 1), 2, by unfold Acts; decide +kernel⟩,
   ⟨(pf 1 [(PFC_PFn_CARD_CNT 2, 5), (PFC_PFn_SKIP_CNT 2, 5),(PFC_PFn_REQBUSY_CNT 2, 5)]), .px0, 2,
     by unfold Acts WriteReaches; decide +kernel⟩⟩

/-- The hypotheses of Obligations.FramesAndExcitation can be met. -/
theorem witness_FramesAndExcitation :
    (∃ (s : State) (i : Initiator) (c : Fin 8) (v : Word), Acts s ∧ WriteReaches s.dev i (PFC_PFn_REQ ↑c) ∧ bit v 0 =
      false) ∧
    (∃ (s : State) (i : Initiator) (c : Fin 8) (v : Word), Acts s ∧ WriteReaches s.dev i (PFC_PFn_REQ ↑c) ∧ bit v 0 =
      true ∧ (fld s.dev (PFC_PFn_CFG ↑c) 3 0 = 3 ∨ fld s.dev (PFC_PFn_CFG ↑c) 3 0 = 4) ∧ (posChan s.dev ↑c).frame =
      none ∧ (posChan s.dev ↑c).idleEnd ≤ BitVec.toNat s.dev.ltb) ∧
    (∃ (s : State) (i : Initiator) (c : Fin 8) (v : Word), Acts s ∧ WriteReaches s.dev i (PFC_PFn_REQ ↑c) ∧ bit v 0 =
      true ∧ (fld s.dev (PFC_PFn_CFG ↑c) 3 0 = 3 ∨ fld s.dev (PFC_PFn_CFG ↑c) 3 0 = 4) ∧ ((posChan s.dev
      ↑c).frame.isSome = true ∨ BitVec.toNat s.dev.ltb < (posChan s.dev ↑c).idleEnd)) ∧
    (∃ (s : State) (i : Initiator) (c : Fin 8) (v : Word), Acts s ∧ WriteReaches s.dev i (PFC_PFn_REQ ↑c) ∧ bit v 0 =
      true ∧ (fld s.dev (PFC_PFn_CFG ↑c) 3 0 = 1 ∨ fld s.dev (PFC_PFn_CFG ↑c) 3 0 = 2)) ∧
    (∃ (s : State) (i : Initiator) (c : Fin 8) (v : Word), Acts s ∧ WriteReaches s.dev i (PFC_PFn_REQ ↑c) ∧ bit v 0 =
      true ∧ fld s.dev (PFC_PFn_CFG ↑c) 3 0 = 5) ∧
    (∃ (s : State) (c : Fin 8), Acts s ∧ (fld s.dev (PFC_PFn_CFG ↑c) 3 0 = 3 ∨ fld s.dev (PFC_PFn_CFG ↑c) 3 0 = 4) ∧
      fld s.dev (PFC_PFn_FRAME ↑c) 23 0 ≠ 0 ∧ (posChan s.dev ↑c).nextPer ≤ BitVec.toNat s.dev.ltb) ∧
    (∃ (s : State) (c : Fin 8), Acts s ∧ (fld s.dev (PFC_PFn_FRAME ↑c) 23 0 = 0 ∨ BitVec.toNat s.dev.ltb < (posChan
      s.dev ↑c).nextPer)) ∧
    (∃ (s : State) (c : Fin 8), Acts s ∧ (posChan s.dev ↑c).frame = none) ∧
    (∃ (s : State) (c : Fin 8) (fr : BitVec 64) (dl : Nat), Acts s ∧ (fld s.dev (PFC_PFn_CFG ↑c) 3 0 = 3 ∨ fld s.dev
      (PFC_PFn_CFG ↑c) 3 0 = 4 ∧ dl ≤ 6400) ∧ ((fr.toNat % 2 ^ fld s.dev (PFC_PFn_SER2 ↑c) 6 0 % 2 ^ fld s.dev
      (PFC_PFn_SER2 ↑c) 12 8 = if flag s.dev (PFC_PFn_SER2 ↑c) 15 = true then 2 ^ fld s.dev (PFC_PFn_SER2 ↑c) 12 8 - 1
      - frameCrc (fr.toNat % 2 ^ fld s.dev (PFC_PFn_SER2 ↑c) 6 0) (fld s.dev (PFC_PFn_SER2 ↑c) 6 0) (fld s.dev
      (PFC_PFn_SER2 ↑c) 31 16) (fld s.dev (PFC_PFn_SER2 ↑c) 12 8) (fld s.dev (PFC_PFn_SER2 ↑c) 6 0 - fld s.dev
      (PFC_PFn_SER2 ↑c) 12 8) else frameCrc (fr.toNat % 2 ^ fld s.dev (PFC_PFn_SER2 ↑c) 6 0) (fld s.dev (PFC_PFn_SER2
      ↑c) 6 0) (fld s.dev (PFC_PFn_SER2 ↑c) 31 16) (fld s.dev (PFC_PFn_SER2 ↑c) 12 8) (fld s.dev (PFC_PFn_SER2 ↑c) 6 0
      - fld s.dev (PFC_PFn_SER2 ↑c) 12 8)) ∨ fld s.dev (PFC_PFn_SER2 ↑c) 12 8 = 0) ∧ (flag s.dev (PFC_PFn_SER ↑c) 31 =
      false ∨ frameBit (fr.toNat % 2 ^ fld s.dev (PFC_PFn_SER2 ↑c) 6 0) (fld s.dev (PFC_PFn_SER2 ↑c) 6 0) (fld s.dev
      (PFC_PFn_SER ↑c) 29 24) ≠ flag s.dev (PFC_PFn_SER ↑c) 30) ∧ ∃ tk ∈ (posChan s.dev ↑c).frame, True) ∧
    (∃ (s : State) (c : Fin 8) (fr : BitVec 64), Acts s ∧ fld s.dev (PFC_PFn_CFG ↑c) 3 0 ≠ 4 ∧ (fr.toNat % 2 ^ fld
      s.dev (PFC_PFn_SER2 ↑c) 6 0 % 2 ^ fld s.dev (PFC_PFn_SER2 ↑c) 12 8 ≠ if flag s.dev (PFC_PFn_SER2 ↑c) 15 = true
      then 2 ^ fld s.dev (PFC_PFn_SER2 ↑c) 12 8 - 1 - frameCrc (fr.toNat % 2 ^ fld s.dev (PFC_PFn_SER2 ↑c) 6 0) (fld
      s.dev (PFC_PFn_SER2 ↑c) 6 0) (fld s.dev (PFC_PFn_SER2 ↑c) 31 16) (fld s.dev (PFC_PFn_SER2 ↑c) 12 8) (fld s.dev
      (PFC_PFn_SER2 ↑c) 6 0 - fld s.dev (PFC_PFn_SER2 ↑c) 12 8) else frameCrc (fr.toNat % 2 ^ fld s.dev (PFC_PFn_SER2
      ↑c) 6 0) (fld s.dev (PFC_PFn_SER2 ↑c) 6 0) (fld s.dev (PFC_PFn_SER2 ↑c) 31 16) (fld s.dev (PFC_PFn_SER2 ↑c) 12
      8) (fld s.dev (PFC_PFn_SER2 ↑c) 6 0 - fld s.dev (PFC_PFn_SER2 ↑c) 12 8)) ∧ fld s.dev (PFC_PFn_SER2 ↑c) 12 8 ≠ 0
      ∧ flag s.dev (PFC_PFn_SER ↑c) 31 = false ∧ ∃ tk ∈ (posChan s.dev ↑c).frame, True) ∧
    (∃ (s : State) (c : Fin 8), Acts s ∧ fld s.dev (PFC_PFn_CFG ↑c) 3 0 = 3 ∧ (posChan s.dev ↑c).frame.isSome = true)
      ∧
    (∃ (s : State) (c : Fin 8), Acts s ∧ (posChan s.dev ↑c).frame = none ∧ (posChan s.dev ↑c).idleEnd < BitVec.toNat
      s.dev.ltb) ∧
    (∃ (s : State) (e : Fin 4), Acts s ∧ flag s.dev (PFC_EXCe_CFG ↑e) 31 = true ∧ (vget s.dev.pfc.excs ↑e).t0 + (vget
      s.dev.pfc.excs ↑e).per ≤ BitVec.toNat s.dev.ltb) ∧
    (∃ (s : State) (e : Fin 4), Acts s ∧ flag s.dev (PFC_EXCe_CFG ↑e) 31 = false) :=
  ⟨⟨(pf 3), .px0, 2, 0xFFFFFFFE, by unfold Acts WriteReaches; decide +kernel⟩,
   ⟨(pf 3), .px0, 2, 1, by unfold Acts WriteReaches; decide +kernel⟩,
   ⟨(pf 3 [] {idleEnd := 1001}), .px0, 2, 1, by unfold Acts WriteReaches; decide +kernel⟩,
   ⟨(pf 1), .px0, 2, 1, by unfold Acts WriteReaches; decide +kernel⟩,
   ⟨(pf 5), .px0, 2, 1, by unfold Acts WriteReaches; decide +kernel⟩,
   ⟨(pf 3 [(PFC_PFn_FRAME 2, 500)] {nextPer := 1000}), 2, by unfold Acts; decide +kernel⟩,
   ⟨(pf 3 [(PFC_PFn_FRAME 2, 500)] {nextPer := 1001}), 2, by unfold Acts; decide +kernel⟩,
   ⟨(pf 3), 2, by unfold Acts; decide +kernel⟩,
   ⟨(pf 3 [(PFC_PFn_SER2 2, 0x18),(PFC_PFn_SER 2, 0xC00)] {frame := some 7}), 2, 0xFFFF123456, 0,
     by unfold Acts; decide +kernel⟩,
   ⟨(pf 3 [(PFC_PFn_SER2 2, 0x00430618),(PFC_PFn_SER 2, 0xC0C)] {frame := some 7}), 2, 0xFFFF123456,
     by unfold Acts; decide +kernel⟩,
   ⟨(pf 3 [] {frame := some 7}), 2, by unfold Acts; decide +kernel⟩,
   ⟨(pf 3 [] {idleEnd := 999}), 2, by unfold Acts; decide +kernel⟩,
   ⟨(pf 3 [(PFC_EXCe_CFG 1, 0x80000800)] {} 80000), 1, by unfold Acts; decide +kernel⟩,
   ⟨(pf 3), 1, by unfold Acts; decide +kernel⟩⟩

end Position

namespace Sensing

def pv (v : Vote) (l : List (Nat × Word) := []) (f : Dev → Dev := id) : State :=
  cf ([(ATB_AXn_CFG 0, 0x10000000),(ATB_AXn_TIMEOUT 0, 100)] ++ l) 1000 (fun d => f
    { d with pfc := {votes := #v[v, {}, {}, {}], chans := #v[{},{},{good := true},{},{},{},{},{}] } })
def em (l : List (Nat × Word)) (e : Eem) (acc : BitVec 56) : State :=
  cf ([(ATB_AXn_CFG 0, 0x10000000), (EEM_EMn_LINES 1, 100), (EEM_EMn_CFG 1, 0x80000800),(EEM_EMn_LAGTHR 1, 5)] ++ l)
    1000 (fun d => { d with atb := #v[{acc := acc}, {}, {}, {}], pfc := { eems := #v[{}, e, {}, {}]} })
def ad (l : List (Nat × Word)) (x : AdsPair := {}) : State :=
  cf l 1000 (fun d => {d with sense := {pairs := #v[{}, x, {},{},{},{},{},{}]}})
def req (n := 1) (rs := false) : AdsReq := ⟨2, 3, n, rs, 1, true⟩
def cv (i := 10) (rs := false) : AdsConv := ⟨i,true,rs,1,false,true,true,false,55⟩

/-- The hypotheses of Obligations.PositionVoteAndEmulation can be met. -/
theorem witness_PositionVoteAndEmulation :
    (∃ (s : State) (i : Initiator) (a : Fin 4), Acts s ∧ WriteReaches s.dev i (PFC_AXa_OBS ↑a)) ∧
    (∃ (s : State) (i : Initiator) (a : Fin 4) (v : Word), Acts s ∧ WriteReaches s.dev i (PFC_AXa_OBS ↑a) ∧ bit v 31 =
      false) ∧
    (∃ (s : State) (a : Fin 4) (k : Fin 3), Acts s ∧ (∀ (t : Nat), (vget (vote s.dev ↑a).srcs ↑k).at_ = some t →
      BitVec.toNat s.dev.ltb ≤ t + fld s.dev (ATB_AXn_TIMEOUT ↑a) 23 0)) ∧
    (∃ (s : State) (a : Fin 4), Acts s ∧ axisInUse s.dev ↑a = true ∧ voteValid s.dev (↑a) 1 = true ∧ ∃ t ∈ (vget (vote
      s.dev ↑a).srcs 0).at_, t + fld s.dev (ATB_AXn_TIMEOUT ↑a) 23 0 < BitVec.toNat s.dev.ltb) ∧
    (∃ (s : State) (a : Fin 4), Acts s ∧ axisInUse s.dev ↑a = true ∧ (∀ (k : Fin 3), voteValid s.dev ↑a ↑k = false) ∧
      fld s.dev (PFC_AXa_VOTE_CFG ↑a) 31 24 ≤ 1 ∧ (vote s.dev ↑a).inForce ≠ some
      { row := 6, delivered := 7, named := 7 } ∧ ∃ t ∈ (vget (vote s.dev ↑a).srcs 2).at_, t + fld s.dev
      (ATB_AXn_TIMEOUT ↑a) 23 0 < BitVec.toNat s.dev.ltb) ∧
    (∃ (s : State) (i : Initiator) (a : Fin 4), Acts s ∧ WriteReaches s.dev i (PFC_AXa_VOTE_READMIT ↑a)) ∧
    (∃ (s : State) (m : Fin 4), Acts s ∧ (flag s.dev (EEM_EMn_STATUS ↑m) 2 = false ∨ BitVec.toNat s.dev.ltb < (eem
      s.dev ↑m).lastEdge + fld s.dev (EEM_EMn_CFG ↑m) 23 8)) ∧
    (∃ (s : State) (m : Fin 4), Acts s ∧ flag s.dev (EEM_EMn_STATUS ↑m) 2 = true ∧ (eem s.dev ↑m).lastEdge + fld s.dev
      (EEM_EMn_CFG ↑m) 23 8 ≤ BitVec.toNat s.dev.ltb ∧ eemLag s.dev ↑m ≠ 0 ∧ (eemLag s.dev ↑m).natAbs ≤ fld s.dev
      (EEM_EMn_LAGTHR ↑m) 23 0 ∧ 2 * (eemLag s.dev ↑m).natAbs < eemCounts s.dev ↑m) ∧
    (∃ (s : State) (m : Fin 4), Acts s ∧ flag s.dev (EEM_EMn_STATUS ↑m) 2 = true ∧ (eem s.dev ↑m).lastEdge + fld s.dev
      (EEM_EMn_CFG ↑m) 23 8 ≤ BitVec.toNat s.dev.ltb ∧ fld s.dev (EEM_EMn_LAGTHR ↑m) 23 0 < (eemLag s.dev ↑m).natAbs ∧
      (eem s.dev ↑m).lagging = false ∧ 2 * (eemLag s.dev ↑m).natAbs < eemCounts s.dev ↑m) ∧
    (∃ (s : State) (m : Fin 4), Acts s ∧ flag s.dev (EEM_EMn_STATUS ↑m) 2 = true ∧ (eem s.dev ↑m).lastEdge + fld s.dev
      (EEM_EMn_CFG ↑m) 23 8 ≤ BitVec.toNat s.dev.ltb ∧ eemCounts s.dev ↑m ≤ 2 * (eemLag s.dev ↑m).natAbs ∧ (eem s.dev
      ↑m).lagging = true) ∧
    (∃ (s : State) (i : Initiator) (m : Fin 4) (v : Word), Acts s ∧ WriteReaches s.dev i (EEM_EMn_CFG ↑m) ∧ valueOk
      s.dev (EEM_EMn_CFG ↑m) (setBit v 31 true) = true ∧ flag s.dev (EEM_EMn_STATUS ↑m) 2 = false) :=
  ⟨⟨(pv {}), .px0, 0, by unfold Acts WriteReaches; decide +kernel⟩,
   ⟨(pv {}), .px0, 0, 0x00001234, by unfold Acts WriteReaches; decide +kernel⟩,
   ⟨(pv {}), 0, 2, by unfold Acts; decide +kernel⟩,
   ⟨(pv {srcs := #v[{at_ := some 800},{at_:= some 950},{}]} [] (fun d =>
     {d with cfg := {d.cfg with axes := #v[{topology := 1, polePairs := 4, pfMain := 2, pfSecond := some 2},{},{},{}]}})),
     0, by unfold Acts; decide +kernel⟩,
   ⟨(pv {srcs := #v[{at_ := some 800},{},{at_:= some 899}]} [(PFC_AXa_VOTE_CFG 0, 0x0)]), 0,
     by unfold Acts; decide +kernel⟩,
   ⟨(pv {srcs := #v[{at_ := some 800},{},{at_:= some 899}]} [(PFC_AXa_VOTE_STATUS 0, 0xFFFFFFFF)]), .px0, 0,
     by unfold Acts WriteReaches; decide +kernel⟩,
   ⟨up, 1, by unfold Acts; decide +kernel⟩,
   ⟨(em [(EEM_EMn_STATUS 1, 4)] {lastEdge := 992, out := 1} 0), 1, by unfold Acts; decide +kernel⟩,
   ⟨(em [(EEM_EMn_STATUS 1, 4)] {lastEdge := 992, out := 7} 0), 1, by unfold Acts; decide +kernel⟩,
   ⟨(em [(EEM_EMn_STATUS 1, 4)] {lastEdge := 992, out := 200, lagging := true} 0), 1, by unfold Acts; decide +kernel⟩,
   ⟨(em [] {} 0x12345678), .px0, 1, 0x00005000, by unfold Acts WriteReaches; decide +kernel⟩⟩

/-- The hypotheses of Obligations.ConversionsAndCalibration can be met. -/
theorem witness_ConversionsAndCalibration :
    (∃ (s : State) (i : Initiator) (p : Fin 8) (v : Word), Acts s ∧ WriteReaches s.dev i (ADS_Pp_START ↑p) ∧ bit v 0 =
      false) ∧
    (∃ (s : State) (i : Initiator) (p : Fin 8) (v : Word), Acts s ∧ WriteReaches s.dev i (ADS_Pp_START ↑p) ∧ bit v 0 =
      true ∧ (bits v 23 16 = 0 ∨ bits v 29 28 = 3 ∨ bit v 26 = true ∧ (bits v 23 16 ≠ 1 ∨ fld s.dev (ADS_Pp_CFG ↑p) 1
      0 = 1 ∨ ∀ (a : Fin 4), flag s.dev (ADS_RSa_CFG ↑a) 31 = true → fld s.dev (ADS_RSa_CFG ↑a) 5 0 ≠ 8 * ↑p + bits v
      6 4))) ∧
    (∃ (s : State) (i : Initiator) (p : Fin 8) (v : Word), Acts s ∧ WriteReaches s.dev i (ADS_Pp_START ↑p) ∧ bit v 0 =
      true ∧ bits v 23 16 ≠ 0 ∧ bits v 29 28 ≠ 3 ∧ bit v 26 = false ∧ (bit v 1 = true ∧ (adsPair s.dev
      ↑p).injQueue.length < 4 ∨ bit v 1 = false ∧ (adsPair s.dev ↑p).regQueue.length < 8)) ∧
    (∃ (s : State) (i : Initiator) (p : Fin 8) (v : Word), Acts s ∧ WriteReaches s.dev i (ADS_Pp_START ↑p) ∧ bit v 0 =
      true ∧ bits v 23 16 ≠ 0 ∧ bits v 29 28 ≠ 3 ∧ bit v 26 = false ∧ (bit v 1 = true ∧ 4 ≤ (adsPair s.dev
      ↑p).injQueue.length ∨ bit v 1 = false ∧ 8 ≤ (adsPair s.dev ↑p).regQueue.length)) ∧
    (∃ (s : State) (p : Fin 8) (h : Bool), Acts s ∧ (adsNext (adsPair s.dev ↑p) = none ∨ fld s.dev (ADS_Pp_CFG ↑p) 1 0
      ≠ 1 ∧ vget (adsPair s.dev ↑p).halves (b2n h) ≠ none ∨ (fld s.dev (ADS_Pp_CFG ↑p) 1 0 = if h = true then 2 else
      3) ∧ flag s.dev (ADS_Pp_CAL_STATUS ↑p) 16 = false)) ∧
    (∃ (s : State) (p : Fin 8) (h : Bool) (inj : Bool) (r : AdsReq) (x : AdsPair), Acts s ∧ adsNext (adsPair s.dev ↑p)
      = some (inj, r, x) ∧ (fld s.dev (ADS_Pp_CFG ↑p) 1 0 = 0 ∨ fld s.dev (ADS_Pp_CFG ↑p) 1 0 = if h = true then 3
      else 2) ∧ vget (adsPair s.dev ↑p).halves (b2n h) = none ∧ flag s.dev (ADS_Pp_CAL_STATUS ↑p) 16 = false) ∧
    (∃ (s : State) (p : Fin 8), Acts s ∧ (adsPair s.dev ↑p).injCur = none ∧ fld s.dev (ADS_Pp_CFG ↑p) 1 0 = 1 ∧ vget
      (adsPair s.dev ↑p).halves 0 = none ∧ vget (adsPair s.dev ↑p).halves 1 = none ∧ ∃ r ∈ (adsPair s.dev
      ↑p).injQueue.head?, ∃ q ∈ (adsPair s.dev ↑p).injQueue.tail?, (adsPair s.dev ↑p).injQueue = r :: q) ∧
    (∃ (s : State) (p : Fin 8) (h : Bool), Acts s ∧ vget (adsPair s.dev ↑p).halves (b2n h) = none) ∧
    (∃ (s : State) (p : Fin 8) (h : Bool), Acts s ∧ ∃ c ∈ vget (adsPair s.dev ↑p).halves (b2n h), c.input < 64) ∧
    (∃ (s : State) (i : Initiator) (n : Fin 64), Acts s ∧ ReadReaches s.dev i (ADS_AINnn_RES ↑n)) ∧
    (∃ (s : State), Acts s) ∧
    (∃ (s : State) (p : Fin 8), Acts s ∧ flag s.dev (ADS_Pp_CAL_STATUS ↑p) 16 = false ∧ (∀ (k : Fin 32), flag s.dev
      (FCMP_CMPkk_CFG ↑k) 31 = true → flag s.dev (FCMP_CMPkk_CFG ↑k) 5 = true → fld s.dev (FCMP_CMPkk_CFG ↑k) 4 0 / 8
      ≠ ↑p)) ∧
    (∃ (s : State) (i : Initiator) (p : Fin 8), Acts s ∧ WriteReaches s.dev i (ADS_Pp_CAL ↑p)) ∧
    (∃ (s : State) (p : Fin 8), Acts s ∧ ((adsPair s.dev ↑p).calPending = false ∨ flag s.dev (ADS_Pp_CAL_STATUS ↑p) 16
      = true)) ∧
    (∃ (s : State) (p : Fin 8), Acts s ∧ (adsPair s.dev ↑p).calPending = true ∧ flag s.dev (ADS_Pp_CAL_STATUS ↑p) 16 =
      false ∧ injectedWork s.dev ↑p = false) ∧
    (∃ (s : State) (p : Fin 8), Acts s ∧ (adsPair s.dev ↑p).calPending = true ∧ flag s.dev (ADS_Pp_CAL_STATUS ↑p) 16 =
      false ∧ (adsPair s.dev ↑p).injQueue ≠ []) ∧
    (∃ (s : State) (p : Fin 8), Acts s ∧ flag s.dev (ADS_Pp_CAL_STATUS ↑p) 16 = false) ∧
    (∃ (s : State) (p : Fin 8), Acts s ∧ flag s.dev (ADS_Pp_CAL_STATUS ↑p) 16 = true) ∧
    (∃ (s : State) (p : Fin 8) (h : Bool), Acts s ∧ vget (adsPair s.dev ↑p).calLate (b2n h) = false ∧ vget (adsPair
      s.dev ↑p).calDone (b2n h) + 3200000000 ≤ BitVec.toNat s.dev.ltb) ∧
    (∃ (s : State) (p : Fin 8) (h : Bool), Acts s ∧ BitVec.toNat s.dev.ltb < vget (adsPair s.dev ↑p).calDone (b2n h) +
      3200000000) :=
  ⟨⟨(ad []), .px0, 1, 0xFFFFFFFE, by unfold Acts WriteReaches; decide +kernel⟩,
   ⟨(ad []), .px0, 1, 0x1, by unfold Acts WriteReaches; decide +kernel⟩,
   ⟨(ad []), .px0, 1, 0x18010323, by unfold Acts WriteReaches; decide +kernel⟩,
   ⟨(ad [] {injQueue := List.replicate 4 (req)}), .px0, 1, 0x18010323, by unfold Acts WriteReaches; decide +kernel⟩,
   ⟨up, 1, true, by unfold Acts; decide +kernel⟩,
   ⟨(ad [(ADS_Pp_CFG 1, 0x120000)] {regQueue := List.replicate 7 (req)}), 1, true, ((adsNext
     {regQueue := List.replicate 7 req}).get!.1), ((adsNext {regQueue := List.replicate 7 req}).get!.2.1), ((adsNext
     {regQueue := List.replicate 7 req}).get!.2.2), by unfold Acts; decide +kernel⟩,
   ⟨(ad [(ADS_Pp_CFG 1, 0x120001)] {regQueue := List.replicate 7 (req), injQueue := [req 5 true, req]}), 1,
     by unfold Acts; decide +kernel⟩,
   ⟨up, 1, true, by unfold Acts; decide +kernel⟩,
   ⟨(ad [(ADS_AINnn_CFG 10, 0x82052000)] {halves := #v[none, some (cv)]}), 1, true, by unfold Acts; decide +kernel⟩,
   ⟨(ad [(ADS_AINnn_RES 10, 55),(ADS_AINnn_TS 10, 56)] {unread := 0xFF}), .px1, 10,
     by unfold Acts ReadReaches; decide +kernel⟩,
   ⟨up, by unfold Acts; decide +kernel⟩,
   ⟨(ad [(ADS_Pp_STATUS 1,1), C Src.ADS_REF]), 1, by unfold Acts; decide +kernel⟩,
   ⟨(ad []), .px0, 1, by unfold Acts WriteReaches; decide +kernel⟩,
   ⟨up, 1, by unfold Acts; decide +kernel⟩,
   ⟨(ad [] {calPending := true, regQueue := [req]}), 1, by unfold Acts; decide +kernel⟩,
   ⟨(ad [(ADS_Pp_CAL_STATUS 1,0xFFFF)] {calPending := true, injQueue := [req]}), 1, by unfold Acts; decide +kernel⟩,
   ⟨up, 1, by unfold Acts; decide +kernel⟩,
   ⟨(ad [(ADS_Pp_CAL_STATUS 1,0x10000)]), 1, by unfold Acts; decide +kernel⟩,
   ⟨{ad [] with dev.ltb := 3200000000}, 1, true, by unfold Acts; decide +kernel⟩,
   ⟨{ad [] with dev.ltb := 3199999999}, 1, true, by unfold Acts; decide +kernel⟩⟩

end Sensing

namespace Monitors

def sm (l : List (Nat × Word)) (x : SdmChan := {}) (f : Dev → Dev := id): State :=
  cf ([(SDM_SDnn_FILT 3, 0x80080304)] ++ l) 1000 (fun d => f
    {d with sense := {sdm := vset (Vector.replicate 24 {}) 3 x}})
def bitsIn : List Bool := [true,true,false,true,true,true,false,true,true]
def dacOf (s : State) (src : Nat) (v : Int) : Int := clampInt 0 1023 ((4 * (fld s.dev (ADS_AINnn_CFG src) 13 0 : Int)
  + v) / 64)
def fc (cfg : Word) (l : List (Nat × Word) := []) : State := sm ([(FCMP_CMPkk_CFG 5, cfg), (FCMP_CMPkk_THR 5,
  0x10000000 + 0xF000), (SDM_SDnn_STATUS 3, 0x100), (ADS_Pp_STATUS 0, 1),(ADS_AINnn_CFG 3, 0x2000)] ++ l)
def ma (use : Byte) : State := st
  { up.dev with sis := { running := true, safety := saf [(0x258, use), (0x259, 1), (0x25A, 0), (0x25B, 0x10), (0x25C, 5)] } }

/-- The hypotheses of Obligations.SigmaDeltaChannels can be met. -/
theorem witness_SigmaDeltaChannels :
    (∃ (s : State) (n : Fin 24), Acts s ∧ flag s.dev (SDM_SDnn_CFG ↑n) 31 = false) ∧
    (∃ (s : State) (n : Fin 24), Acts s ∧ flag s.dev (SDM_SDnn_CFG ↑n) 31 = true ∧ (flag s.dev (SDM_SDnn_STATUS ↑n) 8
      = false ∨ flag s.dev (SDM_SDnn_CFG ↑n) 30 = false ∧ (sdmChan s.dev ↑n).capture = none)) ∧
    (∃ (s : State) (n : Fin 24) (ts : Nat), Acts s ∧ flag s.dev (SDM_SDnn_CFG ↑n) 31 = true ∧ flag s.dev
      (SDM_SDnn_STATUS ↑n) 8 = true ∧ ∃ c ∈ (sdmChan s.dev ↑n).capture, c.avg = false ∧ (c.resync = false ∨ c.tick ≤
      ts)) ∧
    (∃ (s : State) (n : Fin 24) (ts : Nat), Acts s ∧ flag s.dev (SDM_SDnn_CFG ↑n) 31 = true ∧ flag s.dev (SDM_SDnn_CFG
      ↑n) 30 = false ∧ flag s.dev (SDM_SDnn_STATUS ↑n) 8 = true ∧ ∃ c ∈ (sdmChan s.dev ↑n).capture, c.avg = true ∧
      (c.resync = false ∨ c.tick ≤ ts) ∧ c.taken.length + 1 < c.len) ∧
    (∃ (s : State) (n : Fin 24) (ts : Nat) (v0 : Int) (t0 : Nat), Acts s ∧ flag s.dev (SDM_SDnn_CFG ↑n) 31 = true ∧
      flag s.dev (SDM_SDnn_CFG ↑n) 30 = false ∧ flag s.dev (SDM_SDnn_STATUS ↑n) 8 = true ∧ ∃ c ∈ (sdmChan s.dev
      ↑n).capture, ∃ r ∈ c.taken.tail?, c.avg = true ∧ (c.resync = false ∨ c.tick ≤ ts) ∧ c.taken = (v0, t0) :: r ∧
      c.len = c.taken.length + 1) ∧
    (∃ (s : State) (n : Fin 24), Acts s ∧ flag s.dev (SDM_SDnn_CFG ↑n) 31 = true ∧ flag s.dev (SDM_SDnn_CFG ↑n) 30 =
      true ∧ flag s.dev (SDM_SDnn_STATUS ↑n) 8 = true ∧ (sdmChan s.dev ↑n).capture = none) ∧
    (∃ (s : State) (i : Initiator) (n : Fin 24), Acts s ∧ WriteReaches s.dev i (SDM_SDnn_WIN ↑n)) ∧
    (∃ (s : State) (i : Initiator) (n : Fin 24), Acts s ∧ ReadReaches s.dev i (SDM_SDnn_RES ↑n)) ∧
    (∃ (s : State) (n : Fin 24) (j : Fin 3) (src : Nat) (o : Host.Outcome State Fault Refusal), Acts s ∧ (j = 0 ∧ src
      = Src.SDM_CLK_LOSS ∧ o = exec (Instr.sdmClockLoss n) s ∨ j = 1 ∧ src = Src.SDM_STUCK ∧ o = exec
      (Instr.sdmStuckBits n) s ∨ j = 2 ∧ src = Src.SDM_MAN_ERR ∧ o = exec (Instr.sdmManchesterError n) s)) ∧
    (∃ (s : State) (n : Fin 24) (j : Fin 3) (src : Nat) (o : Host.Outcome State Fault Refusal), Acts s ∧ (j = 0 ∧ src
      = Src.SDM_CLK_LOSS ∧ o = exec (Instr.sdmClockLoss n) s ∨ j = 1 ∧ src = Src.SDM_STUCK ∧ o = exec
      (Instr.sdmStuckBits n) s ∨ j = 2 ∧ src = Src.SDM_MAN_ERR ∧ o = exec (Instr.sdmManchesterError n) s) ∧ (∀ (k :
      Fin 32), flag s.dev (FCMP_CMPkk_CFG ↑k) 31 = true → flag s.dev (FCMP_CMPkk_CFG ↑k) 5 = false → fld s.dev
      (FCMP_CMPkk_CFG ↑k) 4 0 ≠ ↑n)) ∧
    (∃ (s : State), Acts s) :=
  ⟨⟨up, 3, by unfold Acts; decide +kernel⟩,
   ⟨(sm [(SDM_SDnn_CFG 3, 0xC0000000)]), 3, by unfold Acts; decide +kernel⟩,
   ⟨(sm [(SDM_SDnn_CFG 3, 0x80000000),(SDM_SDnn_STATUS 3,0x100)]
     {history := List.replicate 766 true, capture := some ⟨5,true,false,1,[]⟩}), 3, 5,
     by unfold Acts; decide +kernel⟩,
   ⟨(sm [(SDM_SDnn_CFG 3, 0x80000000),(SDM_SDnn_STATUS 3,0x100)]
     {history := bitsIn, capture := some ⟨9,false,true,3,[(5,6)]⟩}), 3, 5, by unfold Acts; decide +kernel⟩,
   ⟨(sm [(SDM_SDnn_CFG 3, 0x80000000),(SDM_SDnn_STATUS 3,0x100)]
     {history := bitsIn, capture := some ⟨9,false,true,2,[(5,6)]⟩}), 3, 5, 5, 6, by unfold Acts; decide +kernel⟩,
   ⟨(sm [(SDM_SDnn_CFG 3, 0xC0000000),(SDM_SDnn_STATUS 3,0x100),(SDM_SDnn_ROUTE 3, 0x80000007),(CEA_CEn_STATE
     1,1),(CEA_AXa_STATUS 0,1)] {history := bitsIn}), 3, by unfold Acts; decide +kernel⟩,
   ⟨(sm []), .px0, 3, by unfold Acts WriteReaches; decide +kernel⟩,
   ⟨(sm [(SDM_SDnn_TS 3, 55), (SDM_SDnn_RES 3, 0x18000)] {unread := true}), .px0, 3,
     by unfold Acts ReadReaches; decide +kernel⟩,
   ⟨(sm [(FCMP_CMPkk_CFG 5, 0xC0000003)]), 3, 0, Src.SDM_CLK_LOSS, (exec (.sdmClockLoss 3) (sm [(FCMP_CMPkk_CFG 5,
     0xC0000003)])), by unfold Acts; decide +kernel, .inl ⟨rfl, rfl, rfl⟩⟩,
   ⟨(sm [C Src.SDM_CLK_LOSS,(SDM_SDnn_STATUS 3,0x100)]), 3, 0, Src.SDM_CLK_LOSS, (exec (.sdmClockLoss 3) (sm [C
     Src.SDM_CLK_LOSS,(SDM_SDnn_STATUS 3,0x100)])), by unfold Acts; decide +kernel, .inl ⟨rfl, rfl, rfl⟩,
     by decide +kernel⟩,
   ⟨(sm [(FCMP_CMPkk_CFG 5, 0x80000003),(FCMP_CMPkk_STATUS 5, 1)]), by unfold Acts; decide +kernel⟩⟩

/-- The hypotheses of Obligations.ComparatorsShuntAndMonitors can be met. -/
theorem witness_ComparatorsShuntAndMonitors :
    (∃ (s : State) (k : Fin 32) (x : BitVec 16) (n : Nat), Acts s ∧ (flag s.dev (FCMP_CMPkk_CFG ↑k) 31 = false ∨
      fcmpInvalid s.dev ↑k = true ∨ flag s.dev (FCMP_CMPkk_STATUS ↑k) 0 = true ∨ flag s.dev (FCMP_CMPkk_CFG ↑k) 5 =
      false ∧ n < fld s.dev (FCMP_CMPkk_CFG ↑k) 15 8 ∨ flag s.dev (FCMP_CMPkk_CFG ↑k) 5 = true ∧ n < fld s.dev
      (FCMP_CMPkk_CFG ↑k) 23 16 ∨ flag s.dev (FCMP_CMPkk_CFG ↑k) 5 = false ∧ sfld s.dev (FCMP_CMPkk_THR ↑k) 15 0 ≤
      x.toInt ∧ x.toInt ≤ sfld s.dev (FCMP_CMPkk_THR ↑k) 31 16)) ∧
    (∃ (s : State) (k : Fin 32) (x : BitVec 16) (n : Nat) (src : Nat) (dac : Int → Int), Acts s ∧ flag s.dev
      (FCMP_CMPkk_CFG ↑k) 31 = true ∧ fcmpInvalid s.dev ↑k = false ∧ flag s.dev (FCMP_CMPkk_STATUS ↑k) 0 = false ∧ src
      = fld s.dev (FCMP_CMPkk_CFG ↑k) 4 0 ∧ (∀ (v : Int), dac v = clampInt 0 1023 ((4 * ↑(fld s.dev (ADS_AINnn_CFG
      src) 13 0) + v) / 64)) ∧ (flag s.dev (FCMP_CMPkk_CFG ↑k) 5 = false ∧ fld s.dev (FCMP_CMPkk_CFG ↑k) 15 8 ≤ n ∧ 1
      ≤ n ∧ (x.toInt < sfld s.dev (FCMP_CMPkk_THR ↑k) 15 0 ∨ sfld s.dev (FCMP_CMPkk_THR ↑k) 31 16 < x.toInt) ∨ flag
      s.dev (FCMP_CMPkk_CFG ↑k) 5 = true ∧ fld s.dev (FCMP_CMPkk_CFG ↑k) 23 16 ≤ n ∧ (↑x.toNat < 16 * dac (sfld s.dev
      (FCMP_CMPkk_THR ↑k) 15 0) ∨ 16 * dac (sfld s.dev (FCMP_CMPkk_THR ↑k) 31 16) < ↑x.toNat))) ∧
    (∃ (s : State) (k : Fin 32) (x : BitVec 16) (n : Nat) (src : Nat) (dac : Int → Int), Acts s ∧ flag s.dev
      (FCMP_CMPkk_CFG ↑k) 31 = true ∧ fcmpInvalid s.dev ↑k = false ∧ flag s.dev (FCMP_CMPkk_STATUS ↑k) 0 = false ∧ src
      = fld s.dev (FCMP_CMPkk_CFG ↑k) 4 0 ∧ (∀ (v : Int), dac v = clampInt 0 1023 ((4 * ↑(fld s.dev (ADS_AINnn_CFG
      src) 13 0) + v) / 64)) ∧ (flag s.dev (FCMP_CMPkk_CFG ↑k) 5 = false ∧ fld s.dev (FCMP_CMPkk_CFG ↑k) 15 8 ≤ n ∧ 1
      ≤ n ∧ (x.toInt < sfld s.dev (FCMP_CMPkk_THR ↑k) 15 0 ∨ sfld s.dev (FCMP_CMPkk_THR ↑k) 31 16 < x.toInt) ∨ flag
      s.dev (FCMP_CMPkk_CFG ↑k) 5 = true ∧ fld s.dev (FCMP_CMPkk_CFG ↑k) 23 16 ≤ n ∧ (↑x.toNat < 16 * dac (sfld s.dev
      (FCMP_CMPkk_THR ↑k) 15 0) ∨ 16 * dac (sfld s.dev (FCMP_CMPkk_THR ↑k) 31 16) < ↑x.toNat)) ∧ (∀ (a : Fin 4),
      dcocNames s.dev ↑a ↑k = false) ∧ (∀ (l : Fin 4), flag s.dev (PSP_LKl_OV ↑l) 7 = false)) ∧
    (∃ (s : State), Acts s) ∧
    (∃ (s : State) (i : Initiator) (k : Fin 32), Acts s ∧ WriteReaches s.dev i (FCMP_CMPkk_TEST ↑k)) ∧
    (∃ (s : State) (k : Fin 32), Acts s ∧ s.dev.sense.testing.getLsbD ↑k = false) ∧
    (∃ (s : State) (k : Fin 32), Acts s ∧ s.dev.sense.testing.getLsbD ↑k = true) ∧
    (∃ (s : State) (a : Fin 4), Acts s ∧ flag s.dev (ADS_RSa_CFG ↑a) 31 = false) ∧
    (∃ (s : State) (a : Fin 4), Acts s ∧ flag s.dev (ADS_RSa_CFG ↑a) 31 = true ∧ (rsChan s.dev ↑a).reconstructed =
      true) ∧
    (∃ (s : State) (a : Fin 4), Acts s ∧ flag s.dev (ADS_RSa_CFG ↑a) 31 = true ∧ (rsChan s.dev ↑a).reconstructed =
      false) ∧
    (∃ (s : State) (k : Fin 8), Acts s ∧ (s.dev.sis.running = false ∨ mainUse s.dev ↑k = 0)) ∧
    (∃ (s : State) (k : Fin 8), Acts s ∧ s.dev.sis.running = true ∧ mainUse s.dev ↑k ≠ 0 ∧ mainUse s.dev ↑k ≠ 1 ∧ (∀
      (l : Fin 4), (sisLink s.dev ↑l).seq = LinkSeq.idle)) ∧
    (∃ (s : State) (k : Fin 8), Acts s ∧ s.dev.sis.running = true ∧ mainUse s.dev ↑k = 1) :=
  ⟨⟨up, 5, 0, 0, by unfold Acts; decide +kernel⟩,
   ⟨(fc 0x80000003), 5, 0x1001, 1, 3, (dacOf (fc 0x80000003) 3), by unfold Acts; decide +kernel, by decide +kernel,
     by decide +kernel, by decide +kernel, by decide +kernel, fun v => rfl, by decide +kernel⟩,
   ⟨(fc 0x80000003 [C Src.FCMP_TRIP]), 5, 0x1001, 1, 3, (dacOf (fc 0x80000003) 3), by unfold Acts; decide +kernel,
     by decide +kernel, by decide +kernel, by decide +kernel, by decide +kernel, fun v => rfl, by decide +kernel⟩,
   ⟨(fc 0x80000003 [(FCMP_CMPkk_STATUS 5, 1)]), by unfold Acts; decide +kernel⟩,
   ⟨(fc 0x80000003), .px0, 5, by unfold Acts WriteReaches; decide +kernel⟩,
   ⟨up, 5, by unfold Acts; decide +kernel⟩,
   ⟨{up with dev.sense.testing := 0x20}, 5, by unfold Acts; decide +kernel⟩,
   ⟨up, 1, by unfold Acts; decide +kernel⟩,
   ⟨(sd [(ADS_RSa_CFG 1, 0xA0000000),(EVS_CGg_START 2, 55)] (fun d =>
     {d with sense := {rs := #v[{},{reconstructed := true, samples := [(1,2,true)], markComing := true},{},{}]}})), 1,
     by unfold Acts; decide +kernel⟩,
   ⟨(sd [(ADS_RSa_CFG 1, 0xA0020000),(EVS_CGg_START 2, 55),(ADS_RSa_IU 1, 77)] (fun d =>
     {d with sense := {rs := #v[{},{run := 1, samples := [(1,2,true)], markComing := true},{},{}]}})), 1,
     by unfold Acts; decide +kernel⟩,
   ⟨up, 1, by unfold Acts; decide +kernel⟩,
   ⟨(ma 2), 1, by unfold Acts; decide +kernel⟩,
   ⟨(ma 1), 1, by unfold Acts; decide +kernel⟩⟩

end Monitors

namespace Engines

def prog (v : Nat) : CeProg :=
  { axis := 0, variant := v, wcet := 100, flowsig := 0xABCD, stateOfs := 0, stateLen := 4, insts := [⟨1,2,1,0,3,4,0,[64+5,66]⟩] }
def en (l : List (Nat × Word)) (e : Engine := {}) (f : CeaState → CeaState := id) (g : Dev → Dev := id) : State :=
  cf ([(CEA_CEn_STATE 1, 1), (CEA_AXa_STATUS 0, 1), (CEA_SPARE, 2), (CEA_CEn_STATE 3, 5)] ++ l) 5000 (fun d => g
    {d with cea := f {progs := [prog 0, prog 1], engines := #v[{}, e, {}, {}, {}]}})
def rn (v := 0) (res : Option CeResult := none) (ooc := false) (start := 4000) : CeRun := ⟨0, v, start, List.replicate
  128 3, 100, ooc, res⟩
def rs : CeResult := ⟨77, [(3,4)], [⟨5, none, 6⟩], [], [(1,2)]⟩
def tk (t : Takeover) (l : List (Nat × Word) := []) (os : List SafeOrder := []) : State := en l {} (fun c =>
  {c with axes := #v[{takeover := t},{},{},{}]}) (fun d => {d with glk := {orders := os}})
def fr (l : List (Nat × Word)) (x : CeAxis := {}) : State := en l {} (fun c => {c with axes := #v[x,{},{},{}]}) (fun d
  => {d with ltb := 200000})
def ho (h : Handover) : State := en [] {} (fun c =>
  {c with handover := some h, axes := #v[{ckpt := some ⟨7, [(0,5),(3,6)]⟩},{},{},{}]})

/-- The hypotheses of Obligations.EngineSamples can be met. -/
theorem witness_EngineSamples :
    (∃ (s : State) (i : Initiator) (a : Fin 4) (v : Word), Acts s ∧ WriteReaches s.dev i (CEA_AXa_START ↑a) ∧ bit v 0
      = false) ∧
    (∃ (s : State) (i : Initiator) (a : Fin 4) (n : Fin 5) (v : Word), Acts s ∧ WriteReaches s.dev i (CEA_AXa_START
      ↑a) ∧ bit v 0 = true ∧ (ceAxis s.dev ↑a).takeover = Takeover.none ∧ engineServes s.dev ↑n ↑a) ∧
    (∃ (s : State) (i : Initiator) (a : Fin 4) (v : Word), Acts s ∧ WriteReaches s.dev i (CEA_AXa_START ↑a) ∧ bit v 0
      = true ∧ (ceAxis s.dev ↑a).takeover ≠ Takeover.none ∧ (ceAxis s.dev ↑a).held = false) ∧
    (∃ (s : State) (n : Fin 5), Acts s ∧ (∀ (r : CeRun), (engine s.dev ↑n).run = some r → r.result.isSome = true)) ∧
    (∃ (s : State) (n : Fin 5) (p : CeProg), Acts s ∧ p.insts.length ≤ 1024 ∧ s.dev.cea.handover = none ∧ ∃ r ∈
      (engine s.dev ↑n).run, r.result = none ∧ r.axis < 4 ∧ progOf s.dev r.axis r.variant = some p) ∧
    (∃ (s : State) (n : Fin 5) (g : Word) (p : CeProg), Acts s ∧ p.insts.length ≤ 1024 ∧ g ≠ p.flowsig ∧ ceRole s.dev
      ↑n ≠ 5 ∧ s.dev.cea.handover = none ∧ spareEngine s.dev ≠ some ↑n ∧ ∃ r ∈ (engine s.dev ↑n).run, r.result = none
      ∧ r.axis < 4 ∧ progOf s.dev r.axis r.variant = some p) ∧
    (∃ (s : State) (n : Fin 5), Acts s ∧ (∀ (r : CeRun), (engine s.dev ↑n).run = some r → r.result = none)) ∧
    (∃ (s : State) (n : Fin 5), Acts s ∧ ceRole s.dev ↑n ≠ 1 ∧ ∃ r ∈ (engine s.dev ↑n).run, r.result.isSome = true) ∧
    (∃ (s : State) (n : Fin 5) (a : Fin 4), Acts s ∧ ceRole s.dev ↑n = 1 ∧ s.dev.cea.handover = none ∧ ∃ r ∈ (engine
      s.dev ↑n).run, ∃ res ∈ r.result, r.axis = ↑a ∧ r.outOfCycle = false) ∧
    (∃ (s : State) (n : Fin 5) (a : Fin 4), Acts s ∧ engineServes s.dev ↑n ↑a ∧ ∃ r ∈ (engine s.dev ↑n).run,
      (r.outOfCycle = true ∨ fld s.dev (CEA_AXa_DEADLINE ↑a) 19 0 = 0 ∨ BitVec.toNat s.dev.ltb < r.start + fld s.dev
      (CEA_AXa_DEADLINE ↑a) 19 0)) ∧
    (∃ (s : State) (n : Fin 5) (a : Fin 4), Acts s ∧ engineServes s.dev ↑n ↑a ∧ fld s.dev (CEA_AXa_DEADLINE ↑a) 19 0 ≠
      0 ∧ ∃ r ∈ (engine s.dev ↑n).run, r.outOfCycle = false ∧ r.axis = ↑a ∧ r.start + fld s.dev (CEA_AXa_DEADLINE ↑a)
      19 0 ≤ BitVec.toNat s.dev.ltb) :=
  ⟨⟨(en []), .px0, 0, 0xFFFFFFFE, by unfold Acts WriteReaches; decide +kernel⟩,
   ⟨(en [(CEA_CEn_INa_kk 1 0 5, 0x17FFF),(CEA_AXa_CFG 0, 1)]), .px0, 0, 1, 1,
     by unfold Acts WriteReaches engineServes; decide +kernel⟩,
   ⟨(en [] {} (fun c => {c with axes := #v[{takeover := .selecting},{},{},{}]})), .px0, 0, 1,
     by unfold Acts WriteReaches; decide +kernel⟩,
   ⟨(en []), 1, by unfold Acts; decide +kernel⟩,
   ⟨(en [] {run := some rn}), 1, (prog 0), by unfold Acts; decide +kernel⟩,
   ⟨(en [] {run := some rn}), 1, 0xABCC, (prog 0), by unfold Acts; decide +kernel⟩,
   ⟨(en [] {run := some rn}), 1, by unfold Acts; decide +kernel⟩,
   ⟨(en [(CEA_CEn_STATE 1, 2)] {run := some (rn 0 (some rs))}), 1, by unfold Acts; decide +kernel⟩,
   ⟨(en [] {run := some (rn 0 (some rs))}), 1, 0, by unfold Acts; decide +kernel⟩,
   ⟨(en [] {run := some rn}), 1, 0, by unfold Acts engineServes; decide +kernel⟩,
   ⟨(en [(CEA_AXa_DEADLINE 0, 1000)] {run := some rn}), 1, 0, by unfold Acts engineServes; decide +kernel⟩⟩

/-- The hypotheses of Obligations.EngineFaultsAndTakeover can be met. -/
theorem witness_EngineFaultsAndTakeover :
    (∃ (s : State) (n : Fin 5), Acts s ∧ (engine s.dev ↑n).run = none) ∧
    (∃ (s : State) (n : Fin 5), Acts s ∧ ceRole s.dev ↑n = 5) ∧
    (∃ (s : State) (n : Fin 5), Acts s ∧ ∃ r ∈ (engine s.dev ↑n).run, BitVec.toNat s.dev.ltb < r.start + 2000) ∧
    (∃ (s : State) (n : Fin 5) (m : Fin 5) (a : Fin 4) (j : Fin 4) (o : Host.Outcome State Fault Refusal), Acts s ∧
      engineServes s.dev ↑n ↑a ∧ spareEngine s.dev = some ↑m ∧ m ≠ n ∧ (j = 0 ∧ o = exec (Instr.ceResidueError n) s ∨
      (j = 2 ∧ o = exec (Instr.ceHangTimeout n) s ∧ ∃ (r : CeRun), (engine s.dev ↑n).run = some r ∧ r.result = none ∧
      r.start + 2000 ≤ BitVec.toNat s.dev.ltb) ∨ j = 3 ∧ o = exec (Instr.ceEccError n) s ∧ ∃ (r : CeRun), (engine
      s.dev ↑n).run = some r ∧ r.result = none)) ∧
    (∃ (s : State) (n : Fin 5) (a : Fin 4), Acts s ∧ engineServes s.dev ↑n ↑a ∧ spareEngine s.dev = none) ∧
    (∃ (s : State) (a : Fin 4), Acts s ∧ (ceAxis s.dev ↑a).takeover ≠ Takeover.selecting) ∧
    (∃ (s : State) (a : Fin 4) (m : Fin 5), Acts s ∧ (ceAxis s.dev ↑a).takeover = Takeover.selecting ∧ servingEngine
      s.dev ↑a = some ↑m ∧ ceRole s.dev ↑m = 1) ∧
    (∃ (s : State) (a : Fin 4) (p : Nat), Acts s ∧ ((ceAxis s.dev ↑a).takeover ≠ Takeover.awaitRelease ∨ p ∈ axisPorts
      s.dev ↑a ∧ { origin := SafeOrigin.sis, cmd := SafeCmd.release, port := p } ∈ s.dev.glk.orders)) ∧
    (∃ (s : State) (a : Fin 4) (n : Fin 5), Acts s ∧ (ceAxis s.dev ↑a).takeover = Takeover.awaitRelease ∧ engineServes
      s.dev ↑n ↑a ∧ (∀ (p : Nat), p ∈ axisPorts s.dev ↑a →
      ¬{ origin := SafeOrigin.sis, cmd := SafeCmd.release, port := p } ∈ s.dev.glk.orders)) :=
  ⟨⟨up, 1, by unfold Acts; decide +kernel⟩,
   ⟨(en []), 3, by unfold Acts; decide +kernel⟩,
   ⟨(en [] {run := some (rn 0 none false 3001)}), 1, by unfold Acts; decide +kernel⟩,
   ⟨(en []), 1, 2, 0, 0, (exec (.ceResidueError 1) (en [])), by unfold Acts; decide +kernel,
     by unfold engineServes; decide +kernel, by decide +kernel, by decide +kernel, .inl ⟨rfl, rfl⟩⟩,
   ⟨(en [(CEA_SPARE, 7)] {run := some rn}), 1, 0, by unfold Acts engineServes; decide +kernel⟩,
   ⟨(en []), 0, by unfold Acts; decide +kernel⟩,
   ⟨(tk .selecting), 0, 1, by unfold Acts; decide +kernel⟩,
   ⟨(tk .none), 0, 0, by unfold Acts; decide +kernel⟩,
   ⟨(tk .awaitRelease), 0, 1, by unfold Acts engineServes; decide +kernel⟩⟩

/-- The hypotheses of Obligations.RestartHandoverAndCheckpoints can be met. -/
theorem witness_RestartHandoverAndCheckpoints :
    (∃ (s : State) (a : Fin 4), Acts s ∧ (fld s.dev (CEA_AXa_FC_STATUS ↑a) 15 13 ≠ 1 ∨ BitVec.toNat s.dev.ltb <
      (ceAxis s.dev ↑a).frSince + 80000 * fld s.dev (CEA_AXa_FR_TIME ↑a) 31 16)) ∧
    (∃ (s : State) (a : Fin 4), Acts s ∧ fld s.dev (CEA_AXa_FC_STATUS ↑a) 15 13 = 1 ∧ (ceAxis s.dev ↑a).frSince +
      80000 * fld s.dev (CEA_AXa_FR_TIME ↑a) 31 16 ≤ BitVec.toNat s.dev.ltb) ∧
    (∃ (s : State) (a : Fin 4), Acts s ∧ (fld s.dev (CEA_AXa_FC_STATUS ↑a) 15 13 ≠ 2 ∨ BitVec.toNat s.dev.ltb <
      (ceAxis s.dev ↑a).frSince + 8000 * fld s.dev (CEA_AXa_FR_TIME ↑a) 15 0)) ∧
    (∃ (s : State) (a : Fin 4), Acts s ∧ fld s.dev (CEA_AXa_FC_STATUS ↑a) 15 13 = 2 ∧ (ceAxis s.dev ↑a).frSince + 8000
      * fld s.dev (CEA_AXa_FR_TIME ↑a) 15 0 ≤ BitVec.toNat s.dev.ltb) ∧
    (∃ (s : State) (a : Fin 4), Acts s ∧ (ceAxis s.dev ↑a).ckpt = none) ∧
    (∃ (s : State) (a : Fin 4), Acts s ∧ ∃ k ∈ (ceAxis s.dev ↑a).ckpt, True) ∧
    (∃ (s : State) (a : Fin 4) (m : Fin 5), Acts s ∧ s.dev.cea.handover = none ∧ ceRole s.dev ↑m = 0 ∧ ∃ k ∈ (ceAxis
      s.dev ↑a).ckpt, True) ∧
    (∃ (s : State) (a : Fin 4), Acts s ∧ (ceAxis s.dev ↑a).ckpt.isSome = true ∧ ∃ h ∈ s.dev.cea.handover, h.axis = ↑a
      ∧ h.shadow = false ∧ h.completed = true ∧ h.incoming < 5) ∧
    (∃ (s : State) (i : Initiator) (v : Word), Acts s ∧ WriteReaches s.dev i CEA_HANDOVER ∧ bit v 31 = false) ∧
    (∃ (s : State) (i : Initiator) (v : Word), Acts s ∧ WriteReaches s.dev i CEA_HANDOVER ∧ bit v 31 = true ∧
      s.dev.cea.handover.isSome = true) ∧
    (∃ (s : State) (i : Initiator) (v : Word), Acts s ∧ WriteReaches s.dev i CEA_HANDOVER ∧ bit v 31 = true ∧
      s.dev.cea.handover = none ∧ (∀ (a : Fin 4), (ceAxis s.dev ↑a).takeover = Takeover.none) ∧ spareEngine s.dev ≠
      some (bits v 6 4)) ∧
    (∃ (s : State) (i : Initiator) (v : Word), Acts s ∧ WriteReaches s.dev i CEA_HANDOVER ∧ bit v 31 = true ∧
      s.dev.cea.handover = none ∧ (∀ (a : Fin 4), (ceAxis s.dev ↑a).takeover = Takeover.none) ∧ spareEngine s.dev =
      some (bits v 6 4) ∧ ceRole s.dev (bits v 6 4) = 0 ∧ ∃ n ∈ servingEngine s.dev (bits v 1 0), True) ∧
    (∃ (s : State) (i : Initiator), Acts s ∧ WriteReaches s.dev i CEA_READMIT) ∧
    (∃ (s : State) (i : Initiator) (n : Fin 5), Acts s ∧ WriteReaches s.dev i (CEA_CEn_FLAGCLR ↑n)) :=
  ⟨⟨up, 0, by unfold Acts; decide +kernel⟩,
   ⟨(fr [(CEA_AXa_FC_STATUS 0, 0x2000),(CEA_AXa_FR_TIME 0, 0x00020000)] {frSince := 40000}), 0,
     by unfold Acts; decide +kernel⟩,
   ⟨(fr [(CEA_AXa_FC_STATUS 0, 0x4000),(CEA_AXa_FR_TIME 0, 0x2)] {frSince := 184001}), 0,
     by unfold Acts; decide +kernel⟩,
   ⟨(fr [(CEA_AXa_FC_STATUS 0, 0x4000),(CEA_AXa_FR_TIME 0, 0x2)] {frSince := 184000}), 0,
     by unfold Acts; decide +kernel⟩,
   ⟨up, 0, by unfold Acts; decide +kernel⟩,
   ⟨(fr [] {ckpt := some ⟨7, [(0,5),(3,6)]⟩}), 0, by unfold Acts; decide +kernel⟩,
   ⟨(fr [] {ckpt := some ⟨7, [(0,5),(3,6)]⟩}), 0, 2, by unfold Acts; decide +kernel⟩,
   ⟨(ho ⟨0, 2, 1, false, true⟩), 0, by unfold Acts; decide +kernel⟩,
   ⟨(en []), .px0, 0x7fffffff, by unfold Acts WriteReaches; decide +kernel⟩,
   ⟨(ho ⟨0, 2, 1, false, true⟩), .px0, 0x80000000, by unfold Acts WriteReaches; decide +kernel⟩,
   ⟨(en []), .px0, 0x80000030, by unfold Acts WriteReaches; decide +kernel⟩,
   ⟨(en []), .px0, 0x80000020, by unfold Acts WriteReaches; decide +kernel⟩,
   ⟨(en [(CEA_CEn_STATE 4, 0x205),(CEA_SPARE,7)]), .px0, by unfold Acts WriteReaches; decide +kernel⟩,
   ⟨(en [(CEA_CEn_IFLAG 1 3, 0xffffffff)]), .px0, 1, by unfold Acts WriteReaches; decide +kernel⟩⟩

end Engines

namespace Modulation

/-- group 1 with legs 2 and 3 -/
def pw (x : Group) (l : List (Nat × Word) := []) (lg : Leg := {}) (f : Dev → Dev := id): State :=
  cf ([(PWM_PLnn_CFG 2, 0x90000000),(PWM_PLnn_CFG 3, 0x91000000),(PWM_CGg_CFG 1, 0x80000000),(PWM_CGg_PERIOD 1,
    40000),(PWM_PLnn_PORT 2, 0x504)] ++ l) 100000
    (fun d => f
      {d with pwm := {groups := vset (Vector.replicate 8 {}) 1 x, legs := vset (vset (Vector.replicate 32 {}) 2 lg) 3 lg}})
def gr : Group :=
  {running := true, start := 80000, period := 40000, comingStart := 80000, comingPeriod := 40000, nextStart := 120000, nextLi := 118400, loaded := true}
def lv : LegVals := {duty := 0x1234, cmp0 := 5000, cmp1 := 6000}

/-- The hypotheses of Obligations.LoadInstantsAndShadows can be met. -/
theorem witness_LoadInstantsAndShadows :
    (∃ (s : State) (g : Fin 8), Acts s ∧ (∀ (t : Tx), t ∈ pendingTxs s.dev → t.kind ≠ 1) ∧ ((group s.dev ↑g).running =
      false ∨ (group s.dev ↑g).staged = true ∨ BitVec.toNat s.dev.ltb + 16 < (group s.dev ↑g).nextLi)) ∧
    (∃ (s : State) (g : Fin 8), Acts s ∧ (∀ (t : Tx), t ∈ pendingTxs s.dev → t.kind ≠ 1) ∧ (group s.dev ↑g).running =
      true ∧ (group s.dev ↑g).staged = false ∧ (group s.dev ↑g).nextLi ≤ BitVec.toNat s.dev.ltb + 16 ∧ (group s.dev
      ↑g).stopping = false ∧ (group s.dev ↑g).pending = none) ∧
    (∃ (s : State) (g : Fin 8), Acts s ∧ (∀ (t : Tx), t ∈ pendingTxs s.dev → t.kind ≠ 1) ∧ (group s.dev ↑g).running =
      true ∧ (group s.dev ↑g).staged = false ∧ (group s.dev ↑g).nextLi ≤ BitVec.toNat s.dev.ltb + 16 ∧ (group s.dev
      ↑g).stopping = false ∧ ∃ q ∈ (group s.dev ↑g).pending, True) ∧
    (∃ (s : State) (g : Fin 8), Acts s ∧ ((group s.dev ↑g).running = false ∨ (group s.dev ↑g).staged = false ∨
      BitVec.toNat s.dev.ltb < (group s.dev ↑g).nextLi)) ∧
    (∃ (s : State) (g : Fin 8), Acts s ∧ (group s.dev ↑g).running = true ∧ (group s.dev ↑g).staged = true ∧ (group
      s.dev ↑g).nextLi ≤ BitVec.toNat s.dev.ltb ∧ (group s.dev ↑g).stopping = false) ∧
    (∃ (s : State) (g : Fin 8), Acts s ∧ ((group s.dev ↑g).running = false ∨ (group s.dev ↑g).loaded = false ∨
      BitVec.toNat s.dev.ltb < (group s.dev ↑g).comingStart)) ∧
    (∃ (s : State) (g : Fin 8), Acts s ∧ (group s.dev ↑g).running = true ∧ (group s.dev ↑g).loaded = true ∧ (group
      s.dev ↑g).comingStart ≤ BitVec.toNat s.dev.ltb) ∧
    (∃ (s : State) (i : Initiator) (r : PwmShadow) (v : Word), Acts s ∧ WriteReaches s.dev i (shadowAddr r) ∧
      (rangesOkAt (shadowAddr r) v = false ∨ (pwmCheck s.dev (storePlain (shadowAddr r) v s.dev) (shadowAddr
      r)).isSome = true)) ∧
    (∃ (s : State) (i : Initiator) (r : PwmShadow) (v : Word), Acts s ∧ WriteReaches s.dev i (shadowAddr r) ∧
      rangesOkAt (shadowAddr r) v = true ∧ pwmCheck s.dev (storePlain (shadowAddr r) v s.dev) (shadowAddr r) = none ∧
      (∀ (g : Fin 8), r ≠ PwmShadow.period g)) ∧
    (∃ (s : State) (i : Initiator) (l : Fin 32) (v : Word), Acts s ∧ WriteReaches s.dev i (PWM_PLnn_DUTY ↑l) ∧
      rangesOkAt (PWM_PLnn_DUTY ↑l) v = true ∧ (∀ (n : Fin 5), i ≠ Initiator.engine n)) ∧
    (∃ (s : State) (i : Initiator) (g : Fin 8) (v : Word), Acts s ∧ WriteReaches s.dev i (PWM_CGg_PERIOD ↑g) ∧
      rangesOkAt (PWM_CGg_PERIOD ↑g) v = true ∧ pwmCheck s.dev (storePlain (PWM_CGg_PERIOD ↑g) v s.dev)
      (PWM_CGg_PERIOD ↑g) = none) :=
  ⟨⟨up, 1, by unfold Acts; decide +kernel⟩,
   ⟨(pw {gr with nextLi := 100016} [(PWM_PLnn_DUTY 2, 0x1234)]), 1, by unfold Acts; decide +kernel⟩,
   ⟨(pw {gr with nextLi := 100016, paired := true, pending := some ⟨50000, 0, 0⟩} [(PWM_PLnn_DUTY 2, 0x1234)] {}), 1,
     by unfold Acts; decide +kernel⟩,
   ⟨up, 1, by unfold Acts; decide +kernel⟩,
   ⟨(pw {gr with nextLi := 100000, staged := true, stagedPeriod := 44000} [] {staged := lv}), 1,
     by unfold Acts; decide +kernel⟩,
   ⟨up, 1, by unfold Acts; decide +kernel⟩,
   ⟨(pw {gr with comingStart := 100000}), 1, by unfold Acts; decide +kernel⟩,
   ⟨(pw gr), .px0, (.period 1), 1, by unfold Acts WriteReaches; decide +kernel⟩,
   ⟨(pw gr), .px0, (.dt 2), 0x00100010, by unfold Acts WriteReaches; decide +kernel⟩,
   ⟨(pw gr), .px0, 2, 0xFFFF8000, by unfold Acts WriteReaches; decide +kernel⟩,
   ⟨(pw gr), .px0, 1, 50000, by unfold Acts WriteReaches; decide +kernel⟩⟩

/-- The hypotheses of Obligations.TripsAndLatches can be met. -/
theorem witness_TripsAndLatches :
    (∃ (s : State) (l : Fin 32) (k : Fin 32), Acts s ∧ (flag s.dev (PWM_PLnn_TRIPSEL0 ↑l) ↑k = false ∨ flag s.dev
      (FCMP_CMPkk_STATUS ↑k) 0 = false ∨ legBlanked s.dev ↑l = true)) ∧
    (∃ (s : State) (l : Fin 32) (k : Fin 8), Acts s ∧ (flag s.dev (PWM_PLnn_TRIPSEL1 ↑l) ↑k = false ∨
      s.dev.pwm.pins.getLsbD ↑k ≠ flag s.dev PWM_TRIP_CFG ↑k ∨ legBlanked s.dev ↑l = true)) ∧
    (∃ (s : State) (l : Fin 32), Acts s ∧ (leg s.dev ↑l).report = false) ∧
    (∃ (s : State) (l : Fin 32), Acts s ∧ (leg s.dev ↑l).report = true ∧ legBlanked s.dev ↑l = true) ∧
    (∃ (s : State) (l : Fin 32) (src : TripSource), Acts s ∧ legBlanked s.dev ↑l = false ∧ match src with
| TripSource.fcmp k => flag s.dev (PWM_PLnn_TRIPSEL0 ↑l) ↑k = true ∧ flag s.dev (FCMP_CMPkk_STATUS ↑k) 0 = true ∧
  s.dev.sense.testing.getLsbD ↑k = false
| TripSource.pin k => flag s.dev (PWM_PLnn_TRIPSEL1 ↑l) ↑k = true ∧ s.dev.pwm.pins.getLsbD ↑k = flag s.dev
  PWM_TRIP_CFG ↑k
| TripSource.driver => (leg s.dev ↑l).report = true) ∧
    (∃ (s : State) (l : Fin 32), Acts s ∧ (legBlanked s.dev ↑l = true ∨ (leg s.dev ↑l).heldReport = false ∧
      levelAsserted s.dev ↑l = false)) ∧
    (∃ (s : State) (l : Fin 32), Acts s ∧ legBlanked s.dev ↑l = false ∧ ((leg s.dev ↑l).heldReport = true ∨
      levelAsserted s.dev ↑l = true)) ∧
    (∃ (s : State) (i : Initiator) (l : Fin 32) (v : Word), Acts s ∧ WriteReaches s.dev i (PWM_PLnn_STATUS ↑l) ∧ bit v
      5 = true ∧ flag s.dev (PWM_PLnn_STATUS ↑l) 5 = true ∧ legState s.dev ↑l ≠ 2 ∧ (group s.dev (legGroup s.dev
      ↑l)).running = true) ∧
    (∃ (s : State) (i : Initiator) (l : Fin 32) (v : Word), Acts s ∧ WriteReaches s.dev i (PWM_PLnn_STATUS ↑l) ∧ bit v
      5 = true ∧ flag s.dev (PWM_PLnn_STATUS ↑l) 5 = true ∧ (legState s.dev ↑l = 2 ∨ (group s.dev (legGroup s.dev
      ↑l)).running = false)) ∧
    (∃ (s : State), Acts s) :=
  ⟨⟨up, 2, 5, by unfold Acts; decide +kernel⟩,
   ⟨(pw gr), 2, 5, by unfold Acts; decide +kernel⟩,
   ⟨(pw gr), 2, by unfold Acts; decide +kernel⟩,
   ⟨(pw gr [] {issued := [800000 - 6399], report := true}), 2, by unfold Acts; decide +kernel⟩,
   ⟨(pw gr [(PWM_PLnn_STATUS 2, 1)] {issued := [800000 - 6400], report := true}), 2, .driver,
     by unfold Acts; decide +kernel⟩,
   ⟨(pw gr), 2, by unfold Acts; decide +kernel⟩,
   ⟨(pw gr [] {heldReport := true}), 2, by unfold Acts; decide +kernel⟩,
   ⟨(pw gr [(PWM_PLnn_STATUS 2, 0x23)]), .px0, 2, 0x20, by unfold Acts WriteReaches; decide +kernel⟩,
   ⟨(pw gr [(PWM_PLnn_STATUS 2, 0x22)]), .px0, 2, 0x20, by unfold Acts WriteReaches; decide +kernel⟩,
   ⟨(pw gr), by unfold Acts; decide +kernel⟩⟩

end Modulation

namespace Driver

def dr (x : Driver) (ltb : Ticks := 100000) : State := st
  {up.dev with ltb := ltb, glk := {drivers := vset (Vector.replicate 64 {}) 7 x}}
def D : Driver := {mode := .run, lock := true, rxSeq := 3, lastValid := 99990, lastSync := 99000}

/-- The hypotheses of Obligations.DriverWordsAndEdges can be met. -/
theorem witness_DriverWordsAndEdges :
    (∃ (s : State), Acts s) ∧
    (∃ (s : State) (a : Byte), Acts s ∧ 16 ≤ BitVec.toNat a ∧ BitVec.toNat a ≤ 127) ∧
    (∃ (s : State) (a : Byte), Acts s ∧ (BitVec.toNat a < 16 ∨ 127 < BitVec.toNat a)) ∧
    (∃ (s : State) (p : Fin 64) (q : BitVec 4), Acts s ∧ (arrived (driver s.dev ↑p) q (BitVec.toNat s.dev.ltb)).level
      = false) ∧
    (∃ (s : State) (p : Fin 64) (q : BitVec 4), Acts s ∧ (arrived (driver s.dev ↑p) q (BitVec.toNat s.dev.ltb)).level
      = true) ∧
    (∃ (s : State) (p : Fin 64) (q : BitVec 4) (t : BitVec 24) (l : BitVec 24) (on : Bool) (o : Host.Outcome State
      Fault Refusal), Acts s ∧ (o = if on = true then exec (Instr.edgeOn p q t l) s else exec (Instr.edgeOff p q t l)
      s) ∧ (arrived (driver s.dev ↑p) q (BitVec.toNat s.dev.ltb)).mode = DrvMode.run ∧ (arrived (driver s.dev ↑p) q
      (BitVec.toNat s.dev.ltb)).lock = true ∧ 1280 ≤ (t - l).toNat ∧ (t - l).toNat ≤ 6400000 ∧ (∀ (e : Bool × BitVec
      24), e ∈ (arrived (driver s.dev ↑p) q (BitVec.toNat s.dev.ltb)).held → e.snd ≠ t) ∧ (arrived (driver s.dev ↑p) q
      (BitVec.toNat s.dev.ltb)).held.length < 8 ∧ (on = false ∨ (arrived (driver s.dev ↑p) q (BitVec.toNat
      s.dev.ltb)).latched &&& ~~~(arrived (driver s.dev ↑p) q (BitVec.toNat s.dev.ltb)).acked = 0)) ∧
    (∃ (s : State) (p : Fin 64) (q : BitVec 4) (t : BitVec 24) (l : BitVec 24) (on : Bool) (o : Host.Outcome State
      Fault Refusal), Acts s ∧ (o = if on = true then exec (Instr.edgeOn p q t l) s else exec (Instr.edgeOff p q t l)
      s) ∧ (arrived (driver s.dev ↑p) q (BitVec.toNat s.dev.ltb)).mode = DrvMode.run ∧ (arrived (driver s.dev ↑p) q
      (BitVec.toNat s.dev.ltb)).lock = true ∧ 1280 ≤ (t - l).toNat ∧ (t - l).toNat ≤ 6400000 ∧ (on, t) ∈ (arrived
      (driver s.dev ↑p) q (BitVec.toNat s.dev.ltb)).held) ∧
    (∃ (s : State) (p : Fin 64) (q : BitVec 4) (t : BitVec 24) (l : BitVec 24) (on : Bool) (o : Host.Outcome State
      Fault Refusal) (code : Nat), Acts s ∧ (o = if on = true then exec (Instr.edgeOn p q t l) s else exec
      (Instr.edgeOff p q t l) s) ∧ ((arrived (driver s.dev ↑p) q (BitVec.toNat s.dev.ltb)).mode ≠ DrvMode.run ∧ code =
      4 ∨ (arrived (driver s.dev ↑p) q (BitVec.toNat s.dev.ltb)).mode = DrvMode.run ∧ (arrived (driver s.dev ↑p) q
      (BitVec.toNat s.dev.ltb)).lock = false ∧ code = 6 ∨ (arrived (driver s.dev ↑p) q (BitVec.toNat s.dev.ltb)).mode
      = DrvMode.run ∧ (arrived (driver s.dev ↑p) q (BitVec.toNat s.dev.ltb)).lock = true ∧ ((t - l).toNat < 1280 ∨
      8388608 ≤ (t - l).toNat) ∧ code = 2 ∨ (arrived (driver s.dev ↑p) q (BitVec.toNat s.dev.ltb)).mode = DrvMode.run
      ∧ (arrived (driver s.dev ↑p) q (BitVec.toNat s.dev.ltb)).lock = true ∧ 6400000 < (t - l).toNat ∧ (t - l).toNat <
      8388608 ∧ code = 1 ∨ (arrived (driver s.dev ↑p) q (BitVec.toNat s.dev.ltb)).mode = DrvMode.run ∧ (arrived
      (driver s.dev ↑p) q (BitVec.toNat s.dev.ltb)).lock = true ∧ 1280 ≤ (t - l).toNat ∧ (t - l).toNat ≤ 6400000 ∧
      ¬(on, t) ∈ (arrived (driver s.dev ↑p) q (BitVec.toNat s.dev.ltb)).held ∧ ((!on, t) ∈ (arrived (driver s.dev ↑p)
      q (BitVec.toNat s.dev.ltb)).held ∧ code = 7 ∨ ¬(!on, t) ∈ (arrived (driver s.dev ↑p) q (BitVec.toNat
      s.dev.ltb)).held ∧ (8 ≤ (arrived (driver s.dev ↑p) q (BitVec.toNat s.dev.ltb)).held.length ∧ code = 3 ∨ (arrived
      (driver s.dev ↑p) q (BitVec.toNat s.dev.ltb)).held.length < 8 ∧ on = true ∧ (arrived (driver s.dev ↑p) q
      (BitVec.toNat s.dev.ltb)).latched &&& ~~~(arrived (driver s.dev ↑p) q (BitVec.toNat s.dev.ltb)).acked ≠ 0 ∧ code
      = 5))) ∧ waitingEvents (arrived (driver s.dev ↑p) q (BitVec.toNat s.dev.ltb)) < 4) ∧
    (∃ (s : State) (p : Fin 64), Acts s ∧ (∀ (e : Bool × BitVec 24), firstHeld (8 * BitVec.toNat s.dev.ltb) (driver
      s.dev ↑p) = some e → edgeAge (8 * BitVec.toNat s.dev.ltb) e.snd ≤ -8)) ∧
    (∃ (s : State) (p : Fin 64) (on : Bool) (t : BitVec 24), Acts s ∧ firstHeld (8 * BitVec.toNat s.dev.ltb) (driver
      s.dev ↑p) = some (on, t) ∧ -8 < edgeAge (8 * BitVec.toNat s.dev.ltb) t ∧ on = false) ∧
    (∃ (s : State) (p : Fin 64) (on : Bool) (t : BitVec 24), Acts s ∧ firstHeld (8 * BitVec.toNat s.dev.ltb) (driver
      s.dev ↑p) = some (on, t) ∧ -8 < edgeAge (8 * BitVec.toNat s.dev.ltb) t ∧ on = true ∧ (driver s.dev ↑p).selftest
      = none) ∧
    (∃ (s : State) (p : Fin 64) (on : Bool) (t : BitVec 24) (i : Nat), Acts s ∧ firstHeld (8 * BitVec.toNat s.dev.ltb)
      (driver s.dev ↑p) = some (on, t) ∧ -8 < edgeAge (8 * BitVec.toNat s.dev.ltb) t ∧ on = true ∧ (driver s.dev
      ↑p).selftest = some i ∧ (driver s.dev ↑p).latched = 0) :=
  ⟨⟨(dr D), by unfold Acts; decide +kernel⟩,
   ⟨(dr D), 0x10, by unfold Acts; decide +kernel⟩,
   ⟨(dr D), 0xF, by unfold Acts; decide +kernel⟩,
   ⟨(dr D), 7, 3, by unfold Acts; decide +kernel⟩,
   ⟨(dr {D with level := true}), 7, 3, by unfold Acts; decide +kernel⟩,
   ⟨(dr D), 7, 3, 0x500, 0, true, (exec (.edgeOn 7 3 0x500 0) (dr D)), by unfold Acts; decide +kernel,
     (if_pos rfl).symm, by decide +kernel, by decide +kernel, by decide +kernel, by decide +kernel,
     @of_decide_eq_true _ (List.decidableBAll _ _) (by decide +kernel), by decide +kernel⟩,
   ⟨(dr {D with held := [(true, 0x500)]}), 7, 3, 0x500, 0, true, (exec (.edgeOn 7 3 0x500 0) (dr
     {D with held := [(true, 0x500)]})), by unfold Acts; decide +kernel, (if_pos rfl).symm, by decide +kernel⟩,
   ⟨(dr D), 7, 3, 0x4FF, 0, true, (exec (.edgeOn 7 3 0x4FF 0) (dr D)), 2, by unfold Acts; decide +kernel, (if_pos
     rfl).symm, by decide +kernel⟩,
   ⟨(dr {D with held := [(true, 800008)]}), 7, by unfold Acts; decide +kernel,
     fun e h => by cases only h (y := (true, 800008)) (by decide +kernel); decide +kernel⟩,
   ⟨(dr {D with level := true, held := [(true, 800008), (false, 800007)]}), 7, false, 800007,
     by unfold Acts; decide +kernel⟩,
   ⟨(dr {D with held := [(true, 800007)]}), 7, true, 800007, by unfold Acts; decide +kernel⟩,
   ⟨(dr {D with held := [(true, 700007)], selftest := some 3}), 7, true, 700007, 3, by unfold Acts; decide +kernel⟩⟩

/-- The hypotheses of Obligations.DriverTimeLossAndFaults can be met. -/
theorem witness_DriverTimeLossAndFaults :
    (∃ (s : State) (p : Fin 64) (q : BitVec 4) (a : BitVec 24) (l : BitVec 24), Acts s ∧ (arrived (driver s.dev ↑p) q
      (BitVec.toNat s.dev.ltb)).lock = true ∧ (signed 24 (a - l).toNat).natAbs ≤ 64) ∧
    (∃ (s : State) (p : Fin 64) (q : BitVec 4) (a : BitVec 24) (l : BitVec 24), Acts s ∧ (arrived (driver s.dev ↑p) q
      (BitVec.toNat s.dev.ltb)).lock = true ∧ 64 < (signed 24 (a - l).toNat).natAbs ∧ (arrived (driver s.dev ↑p) q
      (BitVec.toNat s.dev.ltb)).selftest ≠ some 5) ∧
    (∃ (s : State) (p : Fin 64) (q : BitVec 4) (a : BitVec 24) (l : BitVec 24), Acts s ∧ (arrived (driver s.dev ↑p) q
      (BitVec.toNat s.dev.ltb)).lock = false ∧ (signed 24 (a - l).toNat).natAbs ≤ 8 ∧ 3 ≤ (arrived (driver s.dev ↑p) q
      (BitVec.toNat s.dev.ltb)).goodSyncs) ∧
    (∃ (s : State) (p : Fin 64) (q : BitVec 4) (a : BitVec 24) (l : BitVec 24), Acts s ∧ (arrived (driver s.dev ↑p) q
      (BitVec.toNat s.dev.ltb)).lock = false ∧ (8 < (signed 24 (a - l).toNat).natAbs ∨ (arrived (driver s.dev ↑p) q
      (BitVec.toNat s.dev.ltb)).goodSyncs < 3)) ∧
    (∃ (s : State) (p : Fin 64), Acts s ∧ ((driver s.dev ↑p).lock = false ∨ BitVec.toNat s.dev.ltb < (driver s.dev
      ↑p).lastSync + 32000)) ∧
    (∃ (s : State) (p : Fin 64), Acts s ∧ (driver s.dev ↑p).lock = true ∧ (driver s.dev ↑p).lastSync + 32000 ≤
      BitVec.toNat s.dev.ltb ∧ (driver s.dev ↑p).selftest ≠ some 5) ∧
    (∃ (s : State) (p : Fin 64), Acts s ∧ ((driver s.dev ↑p).mode = DrvMode.lol ∨ BitVec.toNat s.dev.ltb < (driver
      s.dev ↑p).lastValid + 1520)) ∧
    (∃ (s : State) (p : Fin 64), Acts s ∧ (driver s.dev ↑p).mode ≠ DrvMode.lol ∧ (driver s.dev ↑p).lastValid + 1520 ≤
      BitVec.toNat s.dev.ltb) ∧
    (∃ (s : State), Acts s) ∧
    (∃ (s : State) (p : Fin 64) (c : Byte), Acts s ∧ (driver s.dev ↑p).selftest = none ∧ c &&& 127 = 0) ∧
    (∃ (s : State) (p : Fin 64) (c : Byte), Acts s ∧ (driver s.dev ↑p).selftest = none ∧ c &&& 127 ≠ 0) ∧
    (∃ (s : State) (p : Fin 64) (c : Byte), Acts s ∧ ∃ i ∈ (driver s.dev ↑p).selftest, i < 7 ∧ c = BitVec.ofNat 8 (2 ^
      i)) ∧
    (∃ (s : State) (p : Fin 64) (a : Byte), Acts s ∧ a &&& 127 &&& ~~~(driver s.dev ↑p).latched = 0) ∧
    (∃ (s : State) (p : Fin 64) (a : Byte), Acts s ∧ (driver s.dev ↑p).selftest = none ∧ a &&& 127 &&& ~~~(driver
      s.dev ↑p).latched ≠ 0) ∧
    (∃ (s : State) (p : Fin 64), Acts s ∧ (driver s.dev ↑p).selftest = none) ∧
    (∃ (s : State) (p : Fin 64) (i : Nat), Acts s ∧ (driver s.dev ↑p).selftest = some i) :=
  ⟨⟨(dr D), 7, 3, 64, 0, by unfold Acts; decide +kernel⟩,
   ⟨(dr {D with level := true}), 7, 3, 0, 65, by unfold Acts; decide +kernel⟩,
   ⟨(dr {D with lock := false, goodSyncs := 3, latched := 0x20, active := 0x21}), 7, 3, 0xFFFFFF, 7,
     by unfold Acts; decide +kernel⟩,
   ⟨(dr {D with lock := false, goodSyncs := 2}), 7, 3, 0xFFFFFF, 7, by unfold Acts; decide +kernel⟩,
   ⟨(dr {D with lastSync := 68001}), 7, by unfold Acts; decide +kernel⟩,
   ⟨(dr {D with lastSync := 68000}), 7, by unfold Acts; decide +kernel⟩,
   ⟨(dr {D with lastValid := 98481}), 7, by unfold Acts; decide +kernel⟩,
   ⟨(dr {D with lastValid := 98480, level := true, held := [(true, 800008)]}), 7, by unfold Acts; decide +kernel⟩,
   ⟨(dr {D with mode := .lol, pref := true, lolSince := 99200}), by unfold Acts; decide +kernel⟩,
   ⟨(dr D), 7, 0x80, by unfold Acts; decide +kernel⟩,
   ⟨(dr {D with level := true, active := 1, latched := 7, acked := 7}), 7, 0x86, by unfold Acts; decide +kernel⟩,
   ⟨(dr {D with selftest := some 6}), 7, 0x40, by unfold Acts; decide +kernel⟩,
   ⟨(dr {D with latched := 3, acked := 1, lastFault := 92000}), 7, 0x83, by unfold Acts; decide +kernel⟩,
   ⟨(dr {D with latched := 3, acked := 1, lastFault := 92001}), 7, 0x87, by unfold Acts; decide +kernel⟩,
   ⟨(dr D), 7, by unfold Acts; decide +kernel⟩,
   ⟨(dr {D with selftest := some 6}), 7, 6, by unfold Acts; decide +kernel⟩⟩

end Driver

namespace Link

/-- ports 4 (high) and 5 (low) of leg 2, which is leg of axis 0 and in group 1 -/
def po (x : Port) (ps : Nat := 4) (l : List (Nat × Word) := []) (y : Port := {}) (os : List SafeOrder := []) (ltb :
  Ticks := 100000): State :=
  cf ([(PWM_PLnn_CFG 2, 0x90000000),(PWM_PLnn_PORT 2, 0x504),(GLK_GLnn_CFG 4, 0x80000000),(GLK_GLnn_CFG 5,
    0x80000000),(GLK_GLnn_STATE 4, BitVec.ofNat 32 (ps * 65536))] ++ l) ltb
    (fun d =>
      {d with pwm := {groups := vset (Vector.replicate 8 {}) 1 {running := true}}, glk := {orders := os, ports := vset (vset (Vector.replicate 64 {}) 4 x) 5 y}})
def cl : Calibration := {sent := 5, good := 3, sum := 900, lastDep := some 700, waiting := [(2, 800),(3, 900)]}
def q6 : Port := {rxSeq := some 6, lastUp := 99000}
def O (r : SafeOrigin) (c : SafeCmd) (p := 4) : SafeOrder := ⟨r, c, p⟩

/-- The hypotheses of Obligations.SchedulerAndCalibration can be met. -/
theorem witness_SchedulerAndCalibration :
    (∃ (s : State) (p : Fin 64), Acts s ∧ (pstate s.dev ↑p < 2 ∨ BitVec.toNat s.dev.ltb < (port s.dev ↑p).busyUntil ∧
      (port s.dev ↑p).haltDue = false ∧ (port s.dev ↑p).offNowDue = false)) ∧
    (∃ (s : State) (p : Fin 64), Acts s ∧ 2 ≤ pstate s.dev ↑p ∧ (port s.dev ↑p).busyUntil ≤ BitVec.toNat s.dev.ltb ∧
      (port s.dev ↑p).haltDue = true) ∧
    (∃ (s : State) (p : Fin 64), Acts s ∧ 2 ≤ pstate s.dev ↑p ∧ (port s.dev ↑p).busyUntil ≤ BitVec.toNat s.dev.ltb ∧
      (port s.dev ↑p).haltDue = false ∧ (port s.dev ↑p).offNowDue = false ∧ ∃ r ∈ (port s.dev ↑p).safeDue.tail?, (port
      s.dev ↑p).safeDue = LinkWord.release :: r) ∧
    (∃ (s : State) (p : Fin 64) (w : LinkWord) (t : Nat), Acts s ∧ 2 ≤ pstate s.dev ↑p ∧ (port s.dev ↑p).busyUntil ≤
      BitVec.toNat s.dev.ltb ∧ ((port s.dev ↑p).haltDue = false ∧ (port s.dev ↑p).offNowDue = true ∧ w =
      LinkWord.offNow ∧ t = 0 ∨ ((port s.dev ↑p).haltDue = false ∧ (port s.dev ↑p).offNowDue = false ∧ t = 0 ∧ ∃ (r :
      List LinkWord), (port s.dev ↑p).safeDue = w :: r ∧ w ≠ LinkWord.release) ∨ ((port s.dev ↑p).haltDue = false ∧
      (port s.dev ↑p).offNowDue = false ∧ (port s.dev ↑p).safeDue = [] ∧ ∃ (e : QueuedEdge), ∃ (r : List QueuedEdge),
      (port s.dev ↑p).edges = e :: r ∧ e.time ≤ 8 * BitVec.toNat s.dev.ltb + 6000000 ∧ t = e.time ∧ w = if e.on = true
      then LinkWord.edgeOn (BitVec.ofNat 24 e.time) else LinkWord.edgeOff (BitVec.ofNat 24 e.time)) ∨ (port s.dev
      ↑p).haltDue = false ∧ (port s.dev ↑p).offNowDue = false ∧ (port s.dev ↑p).safeDue = [] ∧ t = 0 ∧ (∀ (e :
      QueuedEdge) (r : List QueuedEdge), (port s.dev ↑p).edges = e :: r → 8 * BitVec.toNat s.dev.ltb + 6000000 <
      e.time) ∧ ((∃ (m : Byte), ∃ (r : List Byte), (port s.dev ↑p).ackDue = m :: r ∧ w = LinkWord.ackFault m) ∨ (port
      s.dev ↑p).ackDue = [] ∧ syncDue s.dev ↑p = true ∧ w = LinkWord.timeSync (BitVec.ofNat 24 (8 * BitVec.toNat
      s.dev.ltb + fld s.dev (GLK_GLnn_DLY ↑p) 15 0)) ∨ ((port s.dev ↑p).ackDue = [] ∧ syncDue s.dev ↑p = false ∧ ∃ (r
      : List LinkWord), (port s.dev ↑p).lowDue = w :: r) ∨ (port s.dev ↑p).ackDue = [] ∧ syncDue s.dev ↑p = false ∧
      (port s.dev ↑p).lowDue = [] ∧ w = LinkWord.nop))) ∧
    (∃ (s : State) (p : Fin 64), Acts s ∧ 2 ≤ pstate s.dev ↑p ∧ BitVec.toNat s.dev.ltb < (port s.dev ↑p).busyUntil ∧
      (port s.dev ↑p).haltDue = true ∧ ∃ f ∈ (port s.dev ↑p).flying, True) ∧
    (∃ (s : State) (p : Fin 64), Acts s ∧ ((port s.dev ↑p).holdOn = none ∨ partnerOffLongEnough s.dev ↑p = false)) ∧
    (∃ (s : State) (p : Fin 64), Acts s ∧ (∀ (q : Nat), q ∈ partnerPorts s.dev ↑p → ∃ (u : Nat), commandedOffSince
      s.dev q = some u ∧ u + fld s.dev GLK_SAFE_DT 12 0 ≤ BitVec.toNat s.dev.ltb) ∧ ∃ t ∈ (port s.dev ↑p).holdOn,
      True) ∧
    (∃ (s : State) (p : Fin 64) (q : BitVec 4) (r : BitVec 4) (c : Calibration) (w : BitVec 4 × Nat), Acts s ∧ pstate
      s.dev ↑p = 4 ∧ (port s.dev ↑p).rxSeq = some q ∧ (port s.dev ↑p).cal = some c ∧ List.find? (fun (w : BitVec 4 ×
      Nat) ↦ decide (w.fst = r)) c.waiting = some w ∧ (∀ (l : Nat), c.lastDep = some l → l < w.snd)) ∧
    (∃ (s : State) (p : Fin 64), Acts s ∧ (∀ (c : Calibration), (port s.dev ↑p).cal = some c → c.sent < 16)) ∧
    (∃ (s : State) (p : Fin 64), Acts s ∧ ∃ c ∈ (port s.dev ↑p).cal, 16 ≤ c.sent ∧ c.good < 12) ∧
    (∃ (s : State) (p : Fin 64), Acts s ∧ pstate s.dev ↑p = 4 ∧ ∃ c ∈ (port s.dev ↑p).cal, 16 ≤ c.sent ∧ 12 ≤ c.good ∧
      (↑(clampInt 0 65535 (roundDiv (c.sum + 2 * sfld s.dev (GLK_GLnn_ASYM ↑p) 9 0 * ↑c.good) (2 * ↑c.good))).toNat -
      (fld s.dev (GLK_GLnn_DLY ↑p) 15 0 : Int)).natAbs ≤ fld s.dev GLK_CTRL 15 0) ∧
    (∃ (s : State) (p : Fin 64), Acts s ∧ pstate s.dev ↑p = 4 ∧ ∃ c ∈ (port s.dev ↑p).cal, 16 ≤ c.sent ∧ 12 ≤ c.good ∧
      fld s.dev GLK_CTRL 15 0 < (↑(clampInt 0 65535 (roundDiv (c.sum + 2 * sfld s.dev (GLK_GLnn_ASYM ↑p) 9 0 *
      ↑c.good) (2 * ↑c.good))).toNat - (fld s.dev (GLK_GLnn_DLY ↑p) 15 0 : Int)).natAbs) ∧
    (∃ (s : State) (p : Fin 64), Acts s ∧ pstate s.dev ↑p = 2 ∧ ∃ c ∈ (port s.dev ↑p).cal, 16 ≤ c.sent ∧ 12 ≤ c.good)
      ∧
    (∃ (s : State) (i : Initiator) (p : Fin 64) (v : Word), Acts s ∧ WriteReaches s.dev i (GLK_GLnn_DLYACC ↑p) ∧
      ((port s.dev ↑p).candidate = none ∨ bit v 0 = false)) ∧
    (∃ (s : State) (i : Initiator) (p : Fin 64) (v : Word), Acts s ∧ WriteReaches s.dev i (GLK_GLnn_DLYACC ↑p) ∧ bit v
      0 = true ∧ ∃ loop ∈ (port s.dev ↑p).candidate, True) :=
  ⟨⟨up, 4, by unfold Acts; decide +kernel⟩,
   ⟨(po {haltDue := true, offNowDue := true}), 4, by unfold Acts; decide +kernel⟩,
   ⟨(po {safeDue := [.release, .nop]}), 4, by unfold Acts; decide +kernel⟩,
   ⟨(po {offNowDue := true, edges := [⟨true, 900000⟩]}), 4, .offNow, 0, by unfold Acts; decide +kernel,
     by decide +kernel, by decide +kernel, .inl (by decide +kernel)⟩,
   ⟨(po {haltDue := true, busyUntil := 100100, flying := some ⟨3, .echoReq, 0⟩}), 4, by unfold Acts; decide +kernel⟩,
   ⟨(po {}), 4, by unfold Acts; decide +kernel⟩,
   ⟨(po {holdOn := some 5} 4 [(GLK_SAFE_DT, 100)] {offSince := some 99900}), 4, by unfold Acts; decide +kernel⟩,
   ⟨(po {rxSeq := some 6, cal := some cl}), 4, 6, 3, cl, (3, 900), by unfold Acts; decide +kernel⟩,
   ⟨up, 4, by unfold Acts; decide +kernel⟩,
   ⟨(po {cal := some {cl with sent := 16, good := 11}}), 4, by unfold Acts; decide +kernel⟩,
   ⟨(po {cal := some {cl with sent := 16, good := 12, sum := 12000}} 4 [(GLK_GLnn_DLY 4, 500),(GLK_GLnn_ASYM 4,
     0x3FC),(GLK_CTRL, 4)]), 4, by unfold Acts; decide +kernel⟩,
   ⟨(po {cal := some {cl with sent := 16, good := 12, sum := 12000}} 4 [(GLK_GLnn_DLY 4, 500),(GLK_GLnn_ASYM 4,
     0x3FC),(GLK_CTRL, 3)]), 4, by unfold Acts; decide +kernel⟩,
   ⟨(po {cal := some {cl with sent := 16, good := 12, sum := 12000}} 2), 4, by unfold Acts; decide +kernel⟩,
   ⟨(po {}), .px0, 4, 1, by unfold Acts WriteReaches; decide +kernel⟩,
   ⟨(po {candidate := some 8} 4 [(GLK_GLnn_ASYM 4, 0x3FC)]), .px0, 4, 1, by unfold Acts WriteReaches; decide +kernel⟩⟩

/-- The hypotheses of Obligations.UplinkWordsAtTheController can be met. -/
theorem witness_UplinkWordsAtTheController :
    (∃ (s : State) (p : Fin 64) (q : BitVec 4) (a : BitVec 24), Acts s ∧ pstate s.dev ↑p = 4 ∧ (port s.dev ↑p).rxSeq =
      some q ∧ a.toNat < 2097152 ∧ bits (wordOf a.toNat) 15 13 = 0 ∧ bits (wordOf a.toNat) 8 5 = 0 ∧ (bits (wordOf
      a.toNat) 3 2 ≠ 3 ∨ fld s.dev (GLK_GLnn_STATE ↑p) 3 2 = 3)) ∧
    (∃ (s : State) (p : Fin 64) (q : BitVec 4) (a : BitVec 24), Acts s ∧ pstate s.dev ↑p = 4 ∧ (port s.dev ↑p).rxSeq =
      some q ∧ a.toNat < 2097152 ∧ bits (wordOf a.toNat) 15 13 ≠ 0 ∧ bits (wordOf a.toNat) 8 5 = 0 ∧ bits (wordOf
      a.toNat) 3 2 = 0 ∧ ∃ w ∈ sentWord s.dev (↑p) (BitVec.ofNat 4 (bits (wordOf a.toNat) 19 16)), True) ∧
    (∃ (s : State) (p : Fin 64) (q : BitVec 4) (a : BitVec 24), Acts s ∧ pstate s.dev ↑p = 4 ∧ (port s.dev ↑p).rxSeq =
      some q ∧ a.toNat < 2097152 ∧ bits (wordOf a.toNat) 15 13 = 0 ∧ bits (wordOf a.toNat) 8 5 = 0 ∧ bits (wordOf
      a.toNat) 3 2 = 3 ∧ fld s.dev (GLK_GLnn_STATE ↑p) 3 2 ≠ 3 ∧ (port s.dev ↑p).outstanding = none) ∧
    (∃ (s : State) (p : Fin 64) (a : BitVec 24), Acts s ∧ pstate s.dev ↑p ≠ 0 ∧ 2097152 ≤ a.toNat ∧ (port s.dev
      ↑p).upErrs.length < 15) ∧
    (∃ (s : State) (p : Fin 64) (q : BitVec 4) (a : BitVec 24), Acts s ∧ pstate s.dev ↑p = 4 ∧ (port s.dev ↑p).rxSeq =
      some q ∧ a &&& 8421504 = 0) ∧
    (∃ (s : State) (p : Fin 64) (q : BitVec 4) (ad : Byte), Acts s ∧ pstate s.dev ↑p = 4 ∧ (port s.dev ↑p).rxSeq =
      some q ∧ (port s.dev ↑p).diag = none ∧ ∃ c ∈ List.find? (fun (c : CfgWait) ↦ decide (c.addr = ad)) (port s.dev
      ↑p).cfg, True) ∧
    (∃ (s : State) (p : Fin 64) (q : BitVec 4) (ad : Byte), Acts s ∧ pstate s.dev ↑p = 4 ∧ (port s.dev ↑p).rxSeq =
      some q ∧ (port s.dev ↑p).cfg = [] ∧ ∃ g ∈ (port s.dev ↑p).diag, g.selftest = true ∧ BitVec.toNat ad = 240 +
      g.item) ∧
    (∃ (s : State) (p : Fin 64) (q : BitVec 4), Acts s ∧ pstate s.dev ↑p = 4 ∧ (port s.dev ↑p).rxSeq = some q) ∧
    (∃ (s : State) (p : Fin 64) (q : BitVec 4) (k : Byte), Acts s ∧ pstate s.dev ↑p = 4 ∧ (port s.dev ↑p).rxSeq = some
      q ∧ BitVec.toNat k ≤ 2) ∧
    (∃ (s : State) (p : Fin 64), Acts s ∧ (pstate s.dev ↑p ≠ 4 ∨ BitVec.toNat s.dev.ltb < (port s.dev ↑p).lastUp +
      1600)) ∧
    (∃ (s : State) (p : Fin 64) (o : Host.Outcome State Fault Refusal) (lim : Nat), Acts s ∧ (o = exec
      (Instr.glkUplinkTimeout p) s ∧ pstate s.dev ↑p = 4 ∧ (port s.dev ↑p).lastUp + 1600 ≤ BitVec.toNat s.dev.ltb ∨ o
      = exec (Instr.glkPortLimitTimeout p) s ∧ (port s.dev ↑p).entered + lim ≤ BitVec.toNat s.dev.ltb ∧ (pstate s.dev
      ↑p = 1 ∧ lim = 16000 ∨ pstate s.dev ↑p = 2 ∧ lim = 80000 ∨ pstate s.dev ↑p = 3 ∧ lim = 40000))) ∧
    (∃ (s : State) (p : Fin 64), Acts s ∧ (pstate s.dev ↑p = 0 ∨ 4 ≤ pstate s.dev ↑p)) ∧
    (∃ (s : State) (p : Fin 64), Acts s ∧ pstate s.dev ↑p = 0) ∧
    (∃ (s : State) (p : Fin 64), Acts s ∧ pstate s.dev ↑p ≠ 0) :=
  ⟨⟨(po q6), 4, 6, 0x10, by unfold Acts; decide +kernel⟩,
   ⟨(po {q6 with sent := [⟨5, .edgeOn 0x123, 0x9000123⟩]}), 4, 6, 0x5E000, by unfold Acts; decide +kernel⟩,
   ⟨(po q6), 4, 6, 0x1C, by unfold Acts; decide +kernel⟩,
   ⟨(po {q6 with upErrs := List.replicate 14 99999}), 4, 0x200000, by unfold Acts; decide +kernel⟩,
   ⟨(po q6), 4, 6, 0x070503, by unfold Acts; decide +kernel⟩,
   ⟨(po {q6 with cfg := [⟨false, 3, 0, some 4⟩, ⟨true, 5, 6, none⟩]}), 4, 6, 5, by unfold Acts; decide +kernel⟩,
   ⟨(po {q6 with diag := some ⟨true, 3, some 5⟩}), 4, 6, 0xF3, by unfold Acts; decide +kernel⟩,
   ⟨(po q6), 4, 6, by unfold Acts; decide +kernel⟩,
   ⟨(po q6), 4, 6, 2, by unfold Acts; decide +kernel⟩,
   ⟨up, 4, by unfold Acts; decide +kernel⟩,
   ⟨(po {q6 with lastUp := 98400}), 4, (exec (.glkUplinkTimeout 4) (po {q6 with lastUp := 98400})), 0,
     by unfold Acts; decide +kernel, .inl ⟨rfl, by decide +kernel, by decide +kernel⟩⟩,
   ⟨(po q6), 4, by unfold Acts; decide +kernel⟩,
   ⟨up, 4, by unfold Acts; decide +kernel⟩,
   ⟨(po q6), 4, by unfold Acts; decide +kernel⟩⟩

/-- The hypotheses of Obligations.SafeStateCommands can be met. -/
theorem witness_SafeStateCommands :
    (∃ (s : State) (r : SafeOrigin) (p : Fin 64), Acts s ∧ ¬{ origin := r, cmd := SafeCmd.halt, port := ↑p } ∈
      s.dev.glk.orders) ∧
    (∃ (s : State) (r : SafeOrigin) (p : Fin 64), Acts s ∧ { origin := r, cmd := SafeCmd.halt, port := ↑p } ∈
      s.dev.glk.orders) ∧
    (∃ (s : State) (r : SafeOrigin) (p : Fin 64), Acts s ∧ { origin := r, cmd := SafeCmd.holdOff, port := ↑p } ∈
      s.dev.glk.orders ∧ (∀ (e : SafeCmd), (port s.dev ↑p).lastAccept ≠ some (e, BitVec.toNat s.dev.ltb)) ∧ (r =
      SafeOrigin.sis ∨ ¬{ origin := SafeOrigin.psp, cmd := SafeCmd.halt, port := ↑p } ∈ s.dev.glk.orders)) ∧
    (∃ (s : State) (r : SafeOrigin) (p : Fin 64) (c : SafeCmd), Acts s ∧ (c = SafeCmd.holdOff ∨ c = SafeCmd.holdOn) ∧
      { origin := r, cmd := c, port := ↑p } ∈ s.dev.glk.orders ∧ r = SafeOrigin.sis ∧ (port s.dev ↑p).lastAccept =
      some (SafeCmd.halt, BitVec.toNat s.dev.ltb)) ∧
    (∃ (s : State) (p : Fin 64), Acts s ∧ { origin := SafeOrigin.psp, cmd := SafeCmd.halt, port := ↑p } ∈
      s.dev.glk.orders) ∧
    (∃ (s : State) (p : Fin 64), Acts s ∧ { origin := SafeOrigin.sis, cmd := SafeCmd.holdOn, port := ↑p } ∈
      s.dev.glk.orders ∧ (∀ (e : SafeCmd), (port s.dev ↑p).lastAccept ≠ some (e, BitVec.toNat s.dev.ltb)) ∧
      holdOnBarred s.dev ↑p = true) ∧
    (∃ (s : State) (p : Fin 64), Acts s ∧ { origin := SafeOrigin.sis, cmd := SafeCmd.holdOn, port := ↑p } ∈
      s.dev.glk.orders ∧ (∀ (e : SafeCmd), (port s.dev ↑p).lastAccept ≠ some (e, BitVec.toNat s.dev.ltb)) ∧
      holdOnBarred s.dev ↑p = false ∧ (∀ (q : Nat), q ∈ partnerPorts s.dev ↑p → (port s.dev q).holdOnAt = none)) ∧
    (∃ (s : State) (p : Fin 64) (q : Nat), Acts s ∧ { origin := SafeOrigin.sis, cmd := SafeCmd.holdOn, port := ↑p } ∈
      s.dev.glk.orders ∧ (∀ (e : SafeCmd), (port s.dev ↑p).lastAccept ≠ some (e, BitVec.toNat s.dev.ltb)) ∧
      holdOnBarred s.dev ↑p = false ∧ q ∈ partnerPorts s.dev ↑p ∧ ∃ t ∈ (port s.dev q).holdOnAt, t ≠ BitVec.toNat
      s.dev.ltb) ∧
    (∃ (s : State) (p : Fin 64), Acts s ∧ ¬{ origin := SafeOrigin.sis, cmd := SafeCmd.release, port := ↑p } ∈
      s.dev.glk.orders) ∧
    (∃ (s : State) (p : Fin 64) (a : Fin 4) (l : Fin 32) (h : Bool), Acts s ∧
      { origin := SafeOrigin.sis, cmd := SafeCmd.release, port := ↑p } ∈ s.dev.glk.orders ∧ (∀ (e : SafeCmd), (port
      s.dev ↑p).lastAccept ≠ some (e, BitVec.toNat s.dev.ltb)) ∧ axisOfPort s.dev ↑p = some ↑a ∧ switchOfPort s.dev ↑p
      = some (↑l, h) ∧ safeOwned s.dev ↑p = true) :=
  ⟨⟨up, .psp, 4, by unfold Acts; decide +kernel⟩,
   ⟨(po {edges := [⟨true, 900000⟩], lowDue := [.nop]} 4 [] {} [O .psp .halt]), .psp, 4,
     by unfold Acts; decide +kernel⟩,
   ⟨(po {} 4 [(GLK_GLnn_STATE 4, 0x41000)] {} [O .psp .holdOff]), .psp, 4, by unfold Acts; decide +kernel,
     by decide +kernel, fun e => by cases e <;> decide +kernel, by decide +kernel⟩,
   ⟨(po {lastAccept := some (.halt, 100000)} 4 [] {} [O .sis .holdOn]), .sis, 4, .holdOn,
     by unfold Acts; decide +kernel⟩,
   ⟨(po {} 4 [] {} [O .psp .halt]), 4, by unfold Acts; decide +kernel⟩,
   ⟨(po {} 4 [(SIS_STATE, 2)] {holdOnAt := some 99999} [O .sis .holdOn]), 4, by unfold Acts; decide +kernel,
     by decide +kernel, fun e => by cases e <;> decide +kernel, by decide +kernel⟩,
   ⟨(po {} 4 [] {} [O .sis .holdOn]), 4, by unfold Acts; decide +kernel, by decide +kernel, fun e =>
     by cases e <;> decide +kernel, by decide +kernel⟩,
   ⟨(po {} 4 [] {holdOnAt := some 99999} [O .sis .holdOn]), 4, 5, by unfold Acts; decide +kernel, by decide +kernel,
     fun e => by cases e <;> decide +kernel, by decide +kernel⟩,
   ⟨up, 4, by unfold Acts; decide +kernel⟩,
   ⟨(po {released := none} 4 [(GLK_GLnn_STATE 4, 0x41100),(SIS_STATE, 0x100),(PWM_PLnn_STATUS 2, 2)] {} [O .sis
     .release]), 4, 0, 2, false, by unfold Acts; decide +kernel, by decide +kernel, fun e =>
     by cases e <;> decide +kernel, by decide +kernel⟩⟩

/-- The hypotheses of Obligations.LinkRequests can be met. -/
theorem witness_LinkRequests :
    (∃ (s : State) (i : Initiator) (p : Fin 64), Acts s ∧ WriteReaches s.dev i (GLK_GLnn_FACK ↑p) ∧ safeOwned s.dev ↑p
      = false) ∧
    (∃ (s : State) (i : Initiator) (p : Fin 64), Acts s ∧ WriteReaches s.dev i (GLK_GLnn_FACK ↑p) ∧ safeOwned s.dev ↑p
      = true ∧ ¬↑p ∈ mirrorsOf s.dev ↑p) ∧
    (∃ (s : State) (i : Initiator) (p : Fin 64) (v : Word), Acts s ∧ WriteReaches s.dev i (GLK_GLnn_DIAG_SLOT ↑p) ∧
      bit v 31 = false) ∧
    (∃ (s : State) (i : Initiator) (p : Fin 64) (v : Word), Acts s ∧ WriteReaches s.dev i (GLK_GLnn_DIAG_SLOT ↑p) ∧
      bit v 31 = true ∧ (port s.dev ↑p).diag.isSome = true) ∧
    (∃ (s : State) (i : Initiator) (p : Fin 64) (v : Word) (w : LinkWord) (g : Option DiagWait), Acts s ∧ WriteReaches
      s.dev i (GLK_GLnn_DIAG_SLOT ↑p) ∧ bit v 31 = true ∧ (port s.dev ↑p).diag = none ∧ ¬↑p ∈ mirrorsOf s.dev ↑p ∧
      (bits v 23 0 = 0 ∧ w = LinkWord.echoReq ∧ g = none ∨ bits v 23 20 = 1 ∧ bits v 19 0 ≤ 4 ∧ w = LinkWord.selftest
      (bits v 19 0) ∧ g = some { selftest := true, item := bits v 19 0 } ∨ bits v 23 20 = 2 ∧ bits v 19 0 ≤ 2 ∧ w =
      LinkWord.meas (bits v 19 0) ∧ g = some { selftest := false, item := bits v 19 0 })) ∧
    (∃ (s : State) (p : Fin 64), Acts s ∧ (∀ (g : DiagWait) (t : Nat), (port s.dev ↑p).diag = some g → g.sent = some t
      → BitVec.toNat s.dev.ltb < t + 20000)) ∧
    (∃ (s : State) (p : Fin 64), Acts s ∧ ∃ g ∈ (port s.dev ↑p).diag, ∃ t ∈ g.sent, t + 20000 ≤ BitVec.toNat
      s.dev.ltb) ∧
    (∃ (s : State) (i : Initiator) (p : Fin 64) (v : Word) (rd_ : Bool) (o : Host.Outcome State Fault Refusal), Acts s
      ∧ WriteReaches s.dev i (GLK_GLnn_CFGACC ↑p) ∧ (o = if rd_ = true then exec (Instr.glkCfgReadRequest i p v) s
      else exec (Instr.glkCfgWriteRequest i p v) s) ∧ bit v 31 = false) ∧
    (∃ (s : State) (i : Initiator) (p : Fin 64) (v : Word) (rd_ : Bool) (o : Host.Outcome State Fault Refusal), Acts s
      ∧ WriteReaches s.dev i (GLK_GLnn_CFGACC ↑p) ∧ (o = if rd_ = true then exec (Instr.glkCfgReadRequest i p v) s
      else exec (Instr.glkCfgWriteRequest i p v) s) ∧ bit v 31 = true ∧ rd_ = false ∧ safeOwned s.dev ↑p = false ∧
      portGroupRuns s.dev ↑p = true) ∧
    (∃ (s : State) (i : Initiator) (p : Fin 64) (v : Word) (rd_ : Bool) (o : Host.Outcome State Fault Refusal), Acts s
      ∧ WriteReaches s.dev i (GLK_GLnn_CFGACC ↑p) ∧ (o = if rd_ = true then exec (Instr.glkCfgReadRequest i p v) s
      else exec (Instr.glkCfgWriteRequest i p v) s) ∧ bit v 31 = true ∧ (rd_ = true ∨ safeOwned s.dev ↑p = true ∨
      portGroupRuns s.dev ↑p = false) ∧ ¬↑p ∈ mirrorsOf s.dev ↑p) ∧
    (∃ (s : State) (p : Fin 64), Acts s ∧ (∀ (c : CfgWait) (r : List CfgWait) (t : Nat), (port s.dev ↑p).cfg = c :: r
      → c.sent = some t → BitVec.toNat s.dev.ltb < t + 1600)) ∧
    (∃ (s : State) (p : Fin 64), Acts s ∧ ∃ c ∈ (port s.dev ↑p).cfg.head?, ∃ r ∈ (port s.dev ↑p).cfg.tail?, ∃ t ∈
      c.sent, (port s.dev ↑p).cfg = c :: r ∧ t + 1600 ≤ BitVec.toNat s.dev.ltb) ∧
    (∃ (s : State), Acts s) :=
  ⟨⟨(po {}), .px0, 4, by unfold Acts WriteReaches; decide +kernel⟩,
   ⟨(po {} 4 [(GLK_GLnn_STATE 4, 0x41100)]), .px0, 4, by unfold Acts WriteReaches; decide +kernel⟩,
   ⟨(po {}), .px0, 4, 0x7fffffff, by unfold Acts WriteReaches; decide +kernel⟩,
   ⟨(po {diag := some ⟨true, 3, some 5⟩}), .px0, 4, 0x80100000, by unfold Acts WriteReaches; decide +kernel⟩,
   ⟨(po {}), .px0, 4, 0x80000000, .echoReq, none, by unfold Acts WriteReaches; decide +kernel⟩,
   ⟨(po {diag := some ⟨true, 3, some 80001⟩}), 4, by unfold Acts; decide +kernel, fun g t h1 h2 =>
     by cases only h1 (y := ⟨true, 3, some 80001⟩) (by decide +kernel); cases h2; decide +kernel⟩,
   ⟨(po {diag := some ⟨true, 3, some 80000⟩}), 4, by unfold Acts; decide +kernel⟩,
   ⟨(po {}), .px0, 4, 0, true, (exec (.glkCfgReadRequest .px0 4 0) (po {})), by unfold Acts; decide +kernel,
     by unfold WriteReaches; decide +kernel, (if_pos rfl).symm, by decide +kernel⟩,
   ⟨(po {}), .px0, 4, 0x80050006, false, (exec (.glkCfgWriteRequest .px0 4 0x80050006) (po {})),
     by unfold Acts; decide +kernel, by unfold WriteReaches; decide +kernel, (if_neg (by decide)).symm,
     by decide +kernel⟩,
   ⟨(po {}), .px0, 4, 0x80050006, true, (exec (.glkCfgReadRequest .px0 4 0x80050006) (po {})),
     by unfold Acts; decide +kernel, by unfold WriteReaches; decide +kernel, (if_pos rfl).symm, by decide +kernel⟩,
   ⟨(po {cfg := [⟨true, 5, 6, some 98401⟩]}), 4, by unfold Acts; decide +kernel, fun c r t h1 h2 =>
     by cases onlyHead h1 (y := ⟨true, 5, 6, some 98401⟩) (by decide +kernel); cases h2; decide +kernel⟩,
   ⟨(po {cfg := [⟨true, 5, 6, some 98400⟩, ⟨false, 5, 6, none⟩]}), 4, by unfold Acts; decide +kernel⟩,
   ⟨up, by unfold Acts; decide +kernel⟩⟩

end Link

namespace AxisStates

def cm (v : Word) : Nat × Word := (FCMP_CMPkk_STATUS 3, v)
def dc : Nat × Word := (PSP_AXa_DCOC 0, 0x80100003)
def spd (v : Int) (l := ([] : List (Nat × Word))) (x : PspAxis := {speedSel1 := true}) := px ([(ATB_AXn_SPEED 0,
  BitVec.ofInt 32 v), (PSP_AXa_OFFSPD 0, 0x04001000)] ++ l) x {} {} (fun d => {d with psp.lastSpeed := some 99999200})
def lk (x : PspLink := {}) (sl : SisLink := {}) (l := ([] : List (Nat × Word))) (a : PspAxis := {}) := px
  ([(PSP_LKl_UDC 0, 0x80640005), (PSP_LKl_DIS 0, 0x80000004), (PSP_LKl_CH 0, 0x80000100), (PSP_LKl_CHCHK 0,
  0x01002000),(PSP_LKl_DCURVE 0 0, 0x00010800),(PSP_LKl_DCURVE 0 1, 0x00020400)] ++ l) a x sl

/-- The hypotheses of Obligations.AxisSafeStates can be met. -/
theorem witness_AxisSafeStates :
    (∃ (s : State) (a : Fin 4), Acts s ∧ ((pspAxis s.dev ↑a).dcocHeld = false ∨ dcocBlanked s.dev ↑a = true)) ∧
    (∃ (s : State) (a : Fin 4), Acts s ∧ (pspAxis s.dev ↑a).dcocHeld = true ∧ dcocBlanked s.dev ↑a = false ∧ (flag
      s.dev (FCMP_CMPkk_STATUS (fld s.dev (PSP_AXa_DCOC ↑a) 4 0)) 0 = false ∨ flag s.dev (PSP_AXa_STATE ↑a) 9 = true))
      ∧
    (∃ (s : State) (a : Fin 4), Acts s ∧ (pspAxis s.dev ↑a).dcocHeld = true ∧ dcocBlanked s.dev ↑a = false ∧ flag
      s.dev (FCMP_CMPkk_STATUS (fld s.dev (PSP_AXa_DCOC ↑a) 4 0)) 0 = true ∧ flag s.dev (PSP_AXa_STATE ↑a) 9 = false)
      ∧
    (∃ (s : State) (a : Fin 4), Acts s ∧ (flag s.dev (PSP_AXa_STATE ↑a) 9 = false ∨ BitVec.toNat s.dev.ltb < (pspAxis
      s.dev ↑a).detect + 8000)) ∧
    (∃ (s : State) (a : Fin 4), Acts s ∧ flag s.dev (PSP_AXa_STATE ↑a) 9 = true ∧ (pspAxis s.dev ↑a).detect + 8000 ≤
      BitVec.toNat s.dev.ltb) ∧
    (∃ (s : State) (t : Nat), Acts s ∧ s.dev.psp.lastSpeed = some t ∧ BitVec.toNat s.dev.ltb < t + 800) ∧
    (∃ (s : State), Acts s ∧ (∀ (t : Nat), s.dev.psp.lastSpeed = some t → t + 800 ≤ BitVec.toNat s.dev.ltb)) :=
  ⟨⟨px, 0, by unfold Acts; decide +kernel⟩,
   ⟨(px [dc, cm 0] {dcocHeld := true}), 0, by unfold Acts; decide +kernel⟩,
   ⟨(px [dc, cm 1] {dcocHeld := true}), 0, by unfold Acts; decide +kernel⟩,
   ⟨px, 0, by unfold Acts; decide +kernel⟩,
   ⟨(px [(PSP_AXa_STATE 0, 0x201)] {detect := 99992000}), 0, by unfold Acts; decide +kernel⟩,
   ⟨(px [] {} {} {} (fun d => {d with psp.lastSpeed := some 99999201})), 99999201, by unfold Acts; decide +kernel⟩,
   ⟨(spd 0), by unfold Acts; decide +kernel⟩⟩

/-- The hypotheses of Obligations.LinkProtection can be met. -/
theorem witness_LinkProtection :
    (∃ (s : State) (l : Fin 4), Acts s ∧ linkInUse s.dev ↑l = true ∧ flag s.dev (PSP_LKl_UDC ↑l) 31 = true ∧ (pspLink
      s.dev ↑l).stale = false ∧ (pspLink s.dev ↑l).udcTick + fld s.dev (PSP_LKl_UDC ↑l) 23 16 * 800 ≤ BitVec.toNat
      s.dev.ltb) ∧
    (∃ (s : State) (l : Fin 4), Acts s ∧ (linkInUse s.dev ↑l = false ∨ flag s.dev (PSP_LKl_UDC ↑l) 31 = false ∨
      (pspLink s.dev ↑l).stale = true ∨ BitVec.toNat s.dev.ltb < (pspLink s.dev ↑l).udcTick + fld s.dev (PSP_LKl_UDC
      ↑l) 23 16 * 800)) ∧
    (∃ (s : State) (l : Fin 4), Acts s ∧ (∀ (t : Nat) (v : Int), (pspLink s.dev ↑l).chCheck = some (t, v) →
      BitVec.toNat s.dev.ltb < t + fld s.dev (PSP_LKl_CHCHK ↑l) 15 0)) ∧
    (∃ (s : State) (l : Fin 4) (t : Nat) (v : Int), Acts s ∧ (pspLink s.dev ↑l).chCheck = some (t, v) ∧ t + fld s.dev
      (PSP_LKl_CHCHK ↑l) 15 0 ≤ BitVec.toNat s.dev.ltb) ∧
    (∃ (s : State) (l : Fin 4), Acts s ∧ ((sisLink s.dev ↑l).wantDischarge = false ∨ hasDischarge s.dev ↑l = false ∨
      mainsOpen s.dev ↑l = false)) ∧
    (∃ (s : State) (l : Fin 4), Acts s ∧ (sisLink s.dev ↑l).wantDischarge = true ∧ hasDischarge s.dev ↑l = true ∧
      mainsOpen s.dev ↑l = true) ∧
    (∃ (s : State) (l : Fin 4), Acts s ∧ (disState s.dev ↑l ≠ 1 ∨ (pspLink s.dev ↑l).disT0 = none ∨ ∀ (t0 : Nat),
      (pspLink s.dev ↑l).disT0 = some t0 → ∀ (k : Fin 8), fld s.dev (PSP_LKl_DCURVE ↑l ↑k) 31 16 ≠ 0 → (pspLink s.dev
      ↑l).disChecked.testBit ↑k = false → BitVec.toNat s.dev.ltb < t0 + fld s.dev (PSP_LKl_DCURVE ↑l ↑k) 31 16 *
      800000 + fld s.dev (PSP_LKl_UDC ↑l) 23 16 * 800)) ∧
    (∃ (s : State) (l : Fin 4) (t0 : Nat) (k : Fin 8), Acts s ∧ disState s.dev ↑l = 1 ∧ (pspLink s.dev ↑l).disT0 =
      some t0 ∧ fld s.dev (PSP_LKl_DCURVE ↑l ↑k) 31 16 ≠ 0 ∧ (pspLink s.dev ↑l).disChecked.testBit ↑k = false ∧ t0 +
      fld s.dev (PSP_LKl_DCURVE ↑l ↑k) 31 16 * 800000 + fld s.dev (PSP_LKl_UDC ↑l) 23 16 * 800 ≤ BitVec.toNat
      s.dev.ltb ∧ flag s.dev (PSP_LKl_DIS ↑l) 30 = false) ∧
    (∃ (s : State) (l : Fin 4) (t0 : Nat) (k : Fin 8), Acts s ∧ disState s.dev ↑l = 1 ∧ (pspLink s.dev ↑l).disT0 =
      some t0 ∧ fld s.dev (PSP_LKl_DCURVE ↑l ↑k) 31 16 ≠ 0 ∧ (pspLink s.dev ↑l).disChecked.testBit ↑k = false ∧ t0 +
      fld s.dev (PSP_LKl_DCURVE ↑l ↑k) 31 16 * 800000 + fld s.dev (PSP_LKl_UDC ↑l) 23 16 * 800 ≤ BitVec.toNat
      s.dev.ltb ∧ flag s.dev (PSP_LKl_DIS ↑l) 30 = true ∧ windingAllowed s.dev ↑l) ∧
    (∃ (s : State) (l : Fin 4) (t0 : Nat) (k : Fin 8), Acts s ∧ disState s.dev ↑l = 1 ∧ (pspLink s.dev ↑l).disT0 =
      some t0 ∧ fld s.dev (PSP_LKl_DCURVE ↑l ↑k) 31 16 ≠ 0 ∧ (pspLink s.dev ↑l).disChecked.testBit ↑k = false ∧ t0 +
      fld s.dev (PSP_LKl_DCURVE ↑l ↑k) 31 16 * 800000 + fld s.dev (PSP_LKl_UDC ↑l) 23 16 * 800 ≤ BitVec.toNat
      s.dev.ltb ∧ flag s.dev (PSP_LKl_DIS ↑l) 30 = true ∧ ¬windingAllowed s.dev ↑l) ∧
    (∃ (s : State) (l : Fin 4), Acts s ∧ (disState s.dev ↑l ≠ 1 ∧ disState s.dev ↑l ≠ 2 ∨ (pspLink s.dev ↑l).disT0 =
      none ∨ ∀ (t0 : Nat), (pspLink s.dev ↑l).disT0 = some t0 → BitVec.toNat s.dev.ltb < t0 + fld s.dev (PSP_LKl_DIS
      ↑l) 15 0 * 800000)) ∧
    (∃ (s : State) (l : Fin 4) (t0 : Nat), Acts s ∧ (pspLink s.dev ↑l).disT0 = some t0 ∧ t0 + fld s.dev (PSP_LKl_DIS
      ↑l) 15 0 * 800000 ≤ BitVec.toNat s.dev.ltb ∧ disState s.dev ↑l = 1) ∧
    (∃ (s : State) (l : Fin 4) (t0 : Nat), Acts s ∧ (pspLink s.dev ↑l).disT0 = some t0 ∧ t0 + fld s.dev (PSP_LKl_DIS
      ↑l) 15 0 * 800000 ≤ BitVec.toNat s.dev.ltb ∧ disState s.dev ↑l = 2) :=
  ⟨⟨(lk {udcTick := 99920000}), 0, by unfold Acts; decide +kernel⟩,
   ⟨(lk {udcTick := 99920001}), 0, by unfold Acts; decide +kernel⟩,
   ⟨lk, 0, by unfold Acts; decide +kernel, fun t v h => no h (by decide +kernel)⟩,
   ⟨(lk {chCheck := some (99991808, 5)}), 0, 99991808, 5, by unfold Acts; decide +kernel⟩,
   ⟨lk, 0, by unfold Acts; decide +kernel⟩,
   ⟨(lk {disT0 := some 5} {wantDischarge := true}), 0, by unfold Acts; decide +kernel⟩,
   ⟨lk, 0, by unfold Acts; decide +kernel⟩,
   ⟨(lk {disT0 := some 99120000} {} [(PSP_LKl_STATUS 0, 0x200)]), 0, 99120000, 0, by unfold Acts; decide +kernel⟩,
   ⟨(lk {disT0 := some 99120000} {} [(PSP_LKl_STATUS 0, 0x200), (PSP_LKl_DIS 0, 0xC0000004), (PSP_AXa_OFFSPD 0,
     0x04001000)]), 0, 99120000, 0, by unfold Acts windingAllowed; decide +kernel⟩,
   ⟨(lk {disT0 := some 99120000} {} [(PSP_LKl_STATUS 0, 0x200), (PSP_LKl_DIS 0, 0xC0000004), (PSP_AXa_OFFSPD 0,
     0x04000400)]), 0, 99120000, 0, by unfold Acts windingAllowed; decide +kernel⟩,
   ⟨lk, 0, by unfold Acts; decide +kernel⟩,
   ⟨(lk {disT0 := some 96800000} {} [(PSP_LKl_STATUS 0, 0x200)]), 0, 96800000, by unfold Acts; decide +kernel⟩,
   ⟨(lk {disT0 := some 96800000} {} [(PSP_LKl_STATUS 0, 0x400),(PSP_AXa_STATE 0, 5)]), 0, 96800000,
     by unfold Acts; decide +kernel⟩⟩

end AxisStates

namespace Commands

def lo (l : List (Nat × Word)) (f : Dev → Dev := id) := px ([(SIS_STATE, 2)] ++ l) {} {} {} f

/-- The hypotheses of Obligations.EnableAndLinkCommands can be met. -/
theorem witness_EnableAndLinkCommands :
    (∃ (s : State) (i : Initiator) (arg : Word), Acts s ∧ ringReaches s.dev i ∧ lockPhase s.dev ≠ 4 ∧ badMask s.dev
      arg) ∧
    (∃ (s : State) (i : Initiator) (arg : Word), Acts s ∧ ringReaches s.dev i ∧ lockPhase s.dev ≠ 4 ∧ ¬badMask s.dev
      arg) ∧
    (∃ (s : State) (i : Initiator) (arg : Word) (l : Nat) (code : Nat), Acts s ∧ ringReaches s.dev i ∧ lockPhase s.dev
      ≠ 4 ∧ l = bits arg 1 0 ∧ (bits arg 31 2 ≠ 0 ∧ code = 2 ∨ bits arg 31 2 = 0 ∧ (linkState s.dev l ≠ 0 ∨ saf8 s.dev
      (720 + 16 * l) = 0) ∧ code = 3 ∨ bits arg 31 2 = 0 ∧ linkState s.dev l = 0 ∧ saf8 s.dev (720 + 16 * l) ≠ 0 ∧ fld
      s.dev SIS_SEAL 2 0 ≠ 1 ∧ code = 6 ∨ bits arg 31 2 = 0 ∧ linkState s.dev l = 0 ∧ saf8 s.dev (720 + 16 * l) ≠ 0 ∧
      fld s.dev SIS_SEAL 2 0 = 1 ∧ lockout s.dev = true ∧ code = 4 ∨ bits arg 31 2 = 0 ∧ linkState s.dev l = 0 ∧ saf8
      s.dev (720 + 16 * l) ≠ 0 ∧ fld s.dev SIS_SEAL 2 0 = 1 ∧ lockout s.dev = false ∧ (∃ (k : Nat), k ∈ linkCts s.dev
      l ∧ (contactor s.dev k).feedback = true) ∧ code = 12)) ∧
    (∃ (s : State) (i : Initiator) (arg : Word) (l : Nat), Acts s ∧ ringReaches s.dev i ∧ lockPhase s.dev ≠ 4 ∧ l =
      bits arg 1 0 ∧ bits arg 31 2 = 0 ∧ linkState s.dev l = 0 ∧ saf8 s.dev (720 + 16 * l) ≠ 0 ∧ fld s.dev SIS_SEAL 2
      0 = 1 ∧ lockout s.dev = false ∧ (∀ (k : Nat), k ∈ linkCts s.dev l → (contactor s.dev k).feedback = false) ∧
      ctsOf s.dev l 2 ≠ []) ∧
    (∃ (s : State) (i : Initiator) (arg : Word) (l : Nat) (code : Nat), Acts s ∧ ringReaches s.dev i ∧ lockPhase s.dev
      ≠ 4 ∧ l = bits arg 1 0 ∧ (bits arg 31 2 ≠ 0 ∧ code = 2 ∨ bits arg 31 2 = 0 ∧ (∃ (a : Nat), a ∈ linkAxes s.dev l
      ∧ granted s.dev a = true) ∧ code = 3 ∨ bits arg 31 2 = 0 ∧ (∀ (a : Nat), a ∈ linkAxes s.dev l → granted s.dev a
      = false) ∧ linkState s.dev l ≠ 1 ∧ linkState s.dev l ≠ 2 ∧ code = 0)) ∧
    (∃ (s : State) (i : Initiator) (arg : Word) (l : Nat), Acts s ∧ ringReaches s.dev i ∧ lockPhase s.dev ≠ 4 ∧ l =
      bits arg 1 0 ∧ bits arg 31 2 = 0 ∧ (∀ (a : Nat), a ∈ linkAxes s.dev l → granted s.dev a = false) ∧ (linkState
      s.dev l = 1 ∨ linkState s.dev l = 2) ∧ (∃ (k : Nat), k ∈ ctsOf s.dev l 1 ++ ctsOf s.dev l 3 ∧ (contactor s.dev
      k).feedback = true)) ∧
    (∃ (s : State) (i : Initiator) (arg : Word) (l : Nat), Acts s ∧ ringReaches s.dev i ∧ lockPhase s.dev ≠ 4 ∧ l =
      bits arg 1 0) :=
  ⟨⟨px, .px0, 0x10, by unfold Acts ringReaches badMask; decide +kernel⟩,
   ⟨(px [(SIS_LINK, 2)]), .px0, 1, by unfold Acts ringReaches badMask; decide +kernel⟩,
   ⟨px, .px0, 4, 0, 2, by unfold Acts ringReaches; decide +kernel⟩,
   ⟨px, .px0, 0, 0, by unfold Acts ringReaches; decide +kernel⟩,
   ⟨px, .px0, 4, 0, 2, by unfold Acts ringReaches; decide +kernel⟩,
   ⟨(px [(SIS_LINK, 2), (SIS_CT, 7)] {} {} {} (fun d => modCt 0 (fun c => {c with close := true, feedback := true})
     (modCt 1 (fun c => {c with close := true, feedback := true}) d))), .px0, 0, 0,
     by unfold Acts ringReaches; decide +kernel⟩,
   ⟨px, .px0, 4, 0, by unfold Acts ringReaches; decide +kernel⟩⟩

/-- The hypotheses of Obligations.LeavingLockoutAndSeal can be met. -/
theorem witness_LeavingLockoutAndSeal :
    (∃ (s : State) (n : Nat), Acts s ∧ n < 16000000) ∧
    (∃ (s : State) (n : Nat), Acts s ∧ 16000000 ≤ n ∧ (n < 400000000 ∨ 2400000000 < n)) ∧
    (∃ (s : State) (n : Nat), Acts s ∧ 400000000 ≤ n ∧ n ≤ 2400000000 ∧ (lockout s.dev = false ∨ lockPhase s.dev ≠ 1))
      ∧
    (∃ (s : State) (n : Nat), Acts s ∧ 400000000 ≤ n ∧ n ≤ 2400000000 ∧ lockout s.dev = true ∧ lockPhase s.dev = 1 ∧
      (∀ (k : Fin 16), flag s.dev SIS_LOCK (16 + ↑k) = true → causeCleared s.dev ↑k = true)) ∧
    (∃ (s : State) (n : Nat), Acts s ∧ 400000000 ≤ n ∧ n ≤ 2400000000 ∧ lockout s.dev = true ∧ lockPhase s.dev = 1 ∧
      (∃ (k : Fin 16), flag s.dev SIS_LOCK (16 + ↑k) = true ∧ causeCleared s.dev ↑k = false)) ∧
    (∃ (s : State), Acts s ∧ lockPhase s.dev = 2) ∧
    (∃ (s : State), Acts s ∧ lockPhase s.dev ≠ 2) ∧
    (∃ (s : State), Acts s) ∧
    (∃ (s : State) (i : Initiator), Acts s ∧ ringReaches s.dev i ∧ (lockout s.dev = false ∨ lockPhase s.dev ≠ 3 ∧
      lockPhase s.dev ≠ 4)) ∧
    (∃ (s : State) (i : Initiator), Acts s ∧ ringReaches s.dev i ∧ lockout s.dev = true ∧ (lockPhase s.dev = 3 ∨
      lockPhase s.dev = 4) ∧ s.dev.sis.keyFrom + 8000000000 ≤ BitVec.toNat s.dev.ltb) ∧
    (∃ (s : State) (i : Initiator) (arg : Word), Acts s ∧ ringReaches s.dev i ∧ lockout s.dev = true ∧ (lockPhase
      s.dev = 3 ∨ lockPhase s.dev = 4) ∧ BitVec.toNat s.dev.ltb < s.dev.sis.keyFrom + 8000000000 ∧ arg ≠ ~~~rd s.dev
      SIS_LOCK_CHAL) ∧
    (∃ (s : State) (i : Initiator) (arg : Word), Acts s ∧ ringReaches s.dev i ∧ lockout s.dev = true ∧ (lockPhase
      s.dev = 3 ∨ lockPhase s.dev = 4) ∧ BitVec.toNat s.dev.ltb < s.dev.sis.keyFrom + 8000000000 ∧ arg = ~~~rd s.dev
      SIS_LOCK_CHAL ∧ lockPhase s.dev = 3) ∧
    (∃ (s : State) (i : Initiator) (arg : Word), Acts s ∧ ringReaches s.dev i ∧ lockout s.dev = true ∧ (lockPhase
      s.dev = 3 ∨ lockPhase s.dev = 4) ∧ BitVec.toNat s.dev.ltb < s.dev.sis.keyFrom + 8000000000 ∧ arg = ~~~rd s.dev
      SIS_LOCK_CHAL ∧ lockPhase s.dev = 4) ∧
    (∃ (s : State) (i : Initiator) (arg : Word), Acts s ∧ ringReaches s.dev i ∧ lockPhase s.dev = 4 ∧ bits arg 31 4 ≠
      0) ∧
    (∃ (s : State), Acts s ∧ ((lockPhase s.dev = 3 ∨ lockPhase s.dev = 4) ∧ s.dev.sis.keyFrom + 8000000000 ≤
      BitVec.toNat s.dev.ltb)) ∧
    (∃ (s : State), Acts s ∧ (lockPhase s.dev ≠ 3 ∧ lockPhase s.dev ≠ 4 ∨ BitVec.toNat s.dev.ltb < s.dev.sis.keyFrom +
      8000000000)) ∧
    (∃ (s : State) (i : Initiator) (arg : Word), Acts s ∧ ringReaches s.dev i ∧ lockPhase s.dev ≠ 4 ∧ arg ≠ 0) ∧
    (∃ (s : State) (i : Initiator) (arg : Word), Acts s ∧ ringReaches s.dev i ∧ lockPhase s.dev ≠ 4 ∧ arg = 0 ∧
      (s.dev.sis.straps = none ∨ fld s.dev SIS_SEAL 2 0 ≠ 2 ∨ s.dev.sis.fuses.isSealed = true ∨ selCopy s.dev = 0)) ∧
    (∃ (s : State) (i : Initiator) (arg : Word) (c : Nat), Acts s ∧ ringReaches s.dev i ∧ lockPhase s.dev ≠ 4 ∧ arg =
      0 ∧ s.dev.sis.straps = some c ∧ fld s.dev SIS_SEAL 2 0 = 2 ∧ s.dev.sis.fuses.isSealed = false ∧ selCopy s.dev ≠
      0) ∧
    (∃ (s : State) (i : Initiator) (arg : Word), Acts s ∧ ringReaches s.dev i ∧ lockPhase s.dev ≠ 4 ∧ bits arg 31 16 ≠
      0) ∧
    (∃ (s : State) (i : Initiator) (arg : Word), Acts s ∧ ringReaches s.dev i ∧ lockPhase s.dev ≠ 4 ∧ bits arg 31 16 =
      0 ∧ (∃ (k : Fin 16), bit arg ↑k = true ∧ flag s.dev SIS_FAULT ↑k = true ∧ causeCleared s.dev ↑k = false)) ∧
    (∃ (s : State) (i : Initiator) (arg : Word), Acts s ∧ ringReaches s.dev i ∧ lockPhase s.dev ≠ 4 ∧ bits arg 31 16 =
      0 ∧ (∀ (k : Fin 16), bit arg ↑k = true → flag s.dev SIS_FAULT ↑k = true → causeCleared s.dev ↑k = true)) :=
  ⟨⟨px, 15999999, by unfold Acts; decide +kernel⟩,
   ⟨px, 16000000, by unfold Acts; decide +kernel⟩,
   ⟨px, 400000000, by unfold Acts; decide +kernel⟩,
   ⟨(lo [(SIS_LOCK, 0x00080001)]), 400000000, by unfold Acts; decide +kernel⟩,
   ⟨(lo [(SIS_LOCK, 0x00080001)] (fun d => {d with sis.stoA := false})), 400000000, by unfold Acts; decide +kernel⟩,
   ⟨(lo [(SIS_LOCK, 0x00080002)]), by unfold Acts; decide +kernel⟩,
   ⟨(lo [(SIS_LOCK, 0x00080003)]), by unfold Acts; decide +kernel⟩,
   ⟨px, by unfold Acts; decide +kernel⟩,
   ⟨px, .px1, by unfold Acts ringReaches; decide +kernel⟩,
   ⟨(lo [(SIS_LOCK, 0x00080003)] (fun d => {d with ltb := 9000000000, sis.keyFrom := 1000000000})), .px0,
     by unfold Acts ringReaches; decide +kernel⟩,
   ⟨(lo [(SIS_LOCK, 0x00080003)] (fun d => {d with ltb := 8999999999, sis.keyFrom := 1000000000})), .px0, 5,
     by unfold Acts ringReaches; decide +kernel⟩,
   ⟨(lo [(SIS_LOCK, 0x00080003)] (fun d => {d with ltb := 8999999999, sis.keyFrom := 1000000000})), .px0, 0xffffffff,
     by unfold Acts ringReaches; decide +kernel⟩,
   ⟨(lo [(SIS_LOCK, 0x00080004)] (fun d => {d with ltb := 8999999999, sis.keyFrom := 1000000000})), .px0, 0xffffffff,
     by unfold Acts ringReaches; decide +kernel⟩,
   ⟨(lo [(SIS_LOCK, 0x00080004)]), .px0, 0x10, by unfold Acts ringReaches; decide +kernel⟩,
   ⟨(lo [(SIS_LOCK, 0x00080004)] (fun d => {d with ltb := 9000000000, sis.keyFrom := 1000000000})),
     by unfold Acts; decide +kernel⟩,
   ⟨px, by unfold Acts; decide +kernel⟩,
   ⟨px, .px0, 1, by unfold Acts ringReaches; decide +kernel⟩,
   ⟨px, .px0, 0, by unfold Acts ringReaches; decide +kernel⟩,
   ⟨(px [(SIS_SEAL, 2), (CFG_STATUS, 0x100000)] {} {} {} (fun d =>
     {d with sis.straps := some 3, sis.safetyDigest := [1,2]})), .px0, 0, 3,
     by unfold Acts ringReaches; decide +kernel⟩,
   ⟨px, .px0, 0x10000, by unfold Acts ringReaches; decide +kernel⟩,
   ⟨(px [(SIS_FAULT, 8)] {} {} {} (fun d => {d with sis.stoA := false})), .px0, 0x8,
     by unfold Acts ringReaches; decide +kernel⟩,
   ⟨(px [(SIS_FAULT, 0x18)]), .px0, 0x8, by unfold Acts ringReaches; decide +kernel⟩⟩

end Commands

namespace Contactors

def ct (cs : List (Nat × Contactor)) (q : LinkSeq := .idle) (l : List (Nat × Word) := []) (x : SisLink := {}) (f : Dev
  → Dev := id) := px ([C Src.SIS_CT_WELD] ++ l) {} {} {x with seq := q} (fun d => f (cs.foldl (fun d c => modCt c.1
  (fun _ => c.2) d) d))
def cl : Contactor := {close := true, ever := true, checked := true, settled := true, feedback := true}
def cw : Contactor :=
  {close := true, ever := true, checked := true, settled := false, feedback := false, cmdTick := 76000000}
def so (a b : Bool) (ta tb : Nat) (l : List (Nat × Word) := []) (f : Dev → Dev := id) := px l {} {} {} (fun d => f
  {d with sis.stoA := a, sis.stoB := b, sis.stoATick := ta, sis.stoBTick := tb})
def ss (h0 hA since v0 : Nat) := so false false 5 5 [(SIS_STO, 0x10C), C Src.SIS_SS1_FAIL, (SIS_STATE, 0x101)] (fun d
  => modMonitor 0 (fun m => {m with angles := h0 :: List.replicate 10 hA})
  {d with sis.ss1Since := since, sis.ss1Speed := [v0]})

/-- The hypotheses of Obligations.ContactorsAndPrecharge can be met. -/
theorem witness_ContactorsAndPrecharge :
    (∃ (s : State) (k : Fin 6), Acts s ∧ ctRole s.dev ↑k = 0) ∧
    (∃ (s : State) (k : Fin 6) (b : Bool) (c : Bool), Acts s ∧ ctRole s.dev ↑k ≠ 0 ∧ c = decide (b = ctFbPol s.dev ↑k)
      ∧ ((contactor s.dev ↑k).checked = true ∨ (contactor s.dev ↑k).ever = true ∨ c = false) ∧ ((contactor s.dev
      ↑k).settled = false ∨ c = (contactor s.dev ↑k).feedback ∨ c = (contactor s.dev ↑k).close)) ∧
    (∃ (s : State) (k : Fin 6) (b : Bool), Acts s ∧ ctRole s.dev ↑k ≠ 0 ∧ b = ctFbPol s.dev ↑k ∧ (contactor s.dev
      ↑k).checked = false ∧ (contactor s.dev ↑k).ever = false) ∧
    (∃ (s : State) (k : Fin 6) (b : Bool) (c : Bool), Acts s ∧ ctRole s.dev ↑k ≠ 0 ∧ c = decide (b = ctFbPol s.dev ↑k)
      ∧ ((contactor s.dev ↑k).checked = true ∨ (contactor s.dev ↑k).ever = true ∨ c = false) ∧ (contactor s.dev
      ↑k).settled = true ∧ c ≠ (contactor s.dev ↑k).feedback ∧ c ≠ (contactor s.dev ↑k).close) ∧
    (∃ (s : State) (k : Fin 6), Acts s ∧ (ctRole s.dev ↑k = 0 ∨ (contactor s.dev ↑k).settled = true ∨ BitVec.toNat
      s.dev.ltb < (contactor s.dev ↑k).cmdTick + ctTfb s.dev ↑k)) ∧
    (∃ (s : State) (k : Fin 6), Acts s ∧ ctRole s.dev ↑k ≠ 0 ∧ (contactor s.dev ↑k).settled = false ∧ (contactor s.dev
      ↑k).cmdTick + ctTfb s.dev ↑k ≤ BitVec.toNat s.dev.ltb) ∧
    (∃ (s : State) (l : Fin 4), Acts s ∧ (∀ (t : Nat) (b : Bool), (sisLink s.dev ↑l).seq ≠ LinkSeq.pcPre t b)) ∧
    (∃ (s : State) (l : Fin 4) (t : Nat) (b : Bool), Acts s ∧ (sisLink s.dev ↑l).seq = LinkSeq.pcPre t b ∧ (b = true ∨
      BitVec.toNat s.dev.ltb < t + saf16 s.dev (724 + 16 * ↑l) * 800000) ∧ BitVec.toNat s.dev.ltb < t + saf16 s.dev
      (728 + 16 * ↑l) * 800000) ∧
    (∃ (s : State) (l : Fin 4) (t : Nat) (b : Bool), Acts s ∧ (sisLink s.dev ↑l).seq = LinkSeq.pcPre t b ∧ (b = false
      ∧ t + saf16 s.dev (724 + 16 * ↑l) * 800000 ≤ BitVec.toNat s.dev.ltb ∨ t + saf16 s.dev (728 + 16 * ↑l) * 800000 ≤
      BitVec.toNat s.dev.ltb) ∧ (sisLink s.dev ↑l).fails < 2) ∧
    (∃ (s : State) (l : Fin 4) (t : Nat) (b : Bool), Acts s ∧ (sisLink s.dev ↑l).seq = LinkSeq.pcPre t b ∧ (b = false
      ∧ t + saf16 s.dev (724 + 16 * ↑l) * 800000 ≤ BitVec.toNat s.dev.ltb ∨ t + saf16 s.dev (728 + 16 * ↑l) * 800000 ≤
      BitVec.toNat s.dev.ltb) ∧ 2 ≤ (sisLink s.dev ↑l).fails) ∧
    (∃ (s : State) (l : Fin 4), Acts s ∧ linkState s.dev ↑l = 4 ∧ (sisLink s.dev ↑l).retryFrom + saf16 s.dev (730 + 16
      * ↑l) * 800000 ≤ BitVec.toNat s.dev.ltb) ∧
    (∃ (s : State) (l : Fin 4), Acts s ∧ (linkState s.dev ↑l ≠ 4 ∨ BitVec.toNat s.dev.ltb < (sisLink s.dev
      ↑l).retryFrom + saf16 s.dev (730 + 16 * ↑l) * 800000)) :=
  ⟨⟨(ct []), 3, by unfold Acts; decide +kernel⟩,
   ⟨(ct [(1, cw)] .pcNeg [(SIS_LINK, 1)]), 1, true, true, by unfold Acts; decide +kernel⟩,
   ⟨(ct [] .idle []), 0, true, by unfold Acts; decide +kernel⟩,
   ⟨(ct [(0, cl), (1, cl)] .idle [(SIS_STATE, 0x101), (SIS_LINK, 2)]), 0, false, false,
     by unfold Acts; decide +kernel⟩,
   ⟨(ct [(0, cl), (1, {cw with cmdTick := 76000001})]), 1, by unfold Acts; decide +kernel⟩,
   ⟨(ct [(0, cl), (1, {cw with cmdTick := 76000000})]), 1, by unfold Acts; decide +kernel⟩,
   ⟨(ct [] .pcPos), 0, by unfold Acts; decide +kernel, fun t b h => nomatch ((show LinkSeq.pcPos = (sisLink (ct []
     .pcPos).dev 0).seq by decide +kernel).trans h)⟩,
   ⟨(ct [] (.pcPre 96000001 false)), 0, 96000001, false, by unfold Acts; decide +kernel⟩,
   ⟨(ct [(1, cl), (2, cl)] (.pcPre 96000000 false) [(SIS_LINK, 1), (SIS_CT, 6)]), 0, 96000000, false,
     by unfold Acts; decide +kernel⟩,
   ⟨(ct [(1, cl), (2, cl)] (.pcPre 84000000 true) [(SIS_LINK, 1), (SIS_CT, 6), C Src.SIS_PCH_FAIL] {fails := 2}), 0,
     84000000, true, by unfold Acts; decide +kernel⟩,
   ⟨(ct [] .idle [(SIS_LINK, 0x24)] {retryFrom := 60000000}), 0, by unfold Acts; decide +kernel⟩,
   ⟨(ct [] .idle [(SIS_LINK, 0x24)] {retryFrom := 60000001}), 0, by unfold Acts; decide +kernel⟩⟩

/-- The hypotheses of Obligations.StoAndSs1 can be met. -/
theorem witness_StoAndSs1 :
    (∃ (s : State), Acts s) ∧
    (∃ (s : State), Acts s ∧ s.dev.sis.running = false) ∧
    (∃ (s : State) (x : Bool) (y : Bool), Acts s ∧ s.dev.sis.running = true ∧ x = filteredLevel s.dev s.dev.sis.stoA
      s.dev.sis.stoATick (flag s.dev SIS_STO 0) ∧ y = filteredLevel s.dev s.dev.sis.stoB s.dev.sis.stoBTick (flag
      s.dev SIS_STO 1) ∧ (x = true ∧ y = true ∨ flag s.dev SIS_STO 2 = true)) ∧
    (∃ (s : State) (x : Bool) (y : Bool), Acts s ∧ s.dev.sis.running = true ∧ x = filteredLevel s.dev s.dev.sis.stoA
      s.dev.sis.stoATick (flag s.dev SIS_STO 0) ∧ y = filteredLevel s.dev s.dev.sis.stoB s.dev.sis.stoBTick (flag
      s.dev SIS_STO 1) ∧ (x = false ∨ y = false) ∧ flag s.dev SIS_STO 2 = false ∧ fld s.dev SIS_STO 9 8 ≠ 1) ∧
    (∃ (s : State) (x : Bool) (y : Bool) (a : Fin 4), Acts s ∧ s.dev.sis.running = true ∧ x = filteredLevel s.dev
      s.dev.sis.stoA s.dev.sis.stoATick (flag s.dev SIS_STO 0) ∧ y = filteredLevel s.dev s.dev.sis.stoB
      s.dev.sis.stoBTick (flag s.dev SIS_STO 1) ∧ (x = false ∨ y = false) ∧ flag s.dev SIS_STO 2 = false ∧ fld s.dev
      SIS_STO 9 8 = 1 ∧ stoList s.dev = [↑a]) ∧
    (∃ (s : State), Acts s ∧ (s.dev.sis.running = false ∨ flag s.dev SIS_FAULT 3 = true ∨ ∀ (t : Nat),
      s.dev.sis.stoDiffer = some t → BitVec.toNat s.dev.ltb ≤ t + saf16 s.dev 656 * 800000)) ∧
    (∃ (s : State) (t : Nat), Acts s ∧ s.dev.sis.running = true ∧ flag s.dev SIS_FAULT 3 = false ∧ s.dev.sis.stoDiffer
      = some t ∧ t + saf16 s.dev 656 * 800000 < BitVec.toNat s.dev.ltb) ∧
    (∃ (s : State), Acts s ∧ (flag s.dev SIS_STO 4 = false ∨ s.dev.sis.stoA = false ∨ s.dev.sis.stoB = false ∨
      BitVec.toNat s.dev.ltb < s.dev.sis.stoATick + stoFilt s.dev ∨ BitVec.toNat s.dev.ltb < s.dev.sis.stoBTick +
      stoFilt s.dev)) ∧
    (∃ (s : State), Acts s ∧ flag s.dev SIS_STO 4 = true ∧ s.dev.sis.stoA = true ∧ s.dev.sis.stoB = true ∧
      s.dev.sis.stoATick + stoFilt s.dev ≤ BitVec.toNat s.dev.ltb ∧ s.dev.sis.stoBTick + stoFilt s.dev ≤ BitVec.toNat
      s.dev.ltb) ∧
    (∃ (s : State) (a : Fin 4), Acts s ∧ (flag s.dev SIS_STO 3 = false ∨ ¬↑a ∈ stoList s.dev)) ∧
    (∃ (s : State) (a : Fin 4) (v0 : Nat), Acts s ∧ flag s.dev SIS_STO 3 = true ∧ ↑a ∈ stoList s.dev ∧ v0 = listGet 0
      s.dev.sis.ss1Speed ↑a ∧ saf16 s.dev 664 < (sisSpeed s.dev ↑a).natAbs ∧ v0 * 800000000 < (sisSpeed s.dev
      ↑a).natAbs * 800000000 + saf16 s.dev 662 * (BitVec.toNat s.dev.ltb - s.dev.sis.ss1Since)) ∧
    (∃ (s : State) (a : Fin 4) (v0 : Nat), Acts s ∧ flag s.dev SIS_STO 3 = true ∧ ↑a ∈ stoList s.dev ∧ v0 = listGet 0
      s.dev.sis.ss1Speed ↑a ∧ saf16 s.dev 664 < (sisSpeed s.dev ↑a).natAbs ∧ (sisSpeed s.dev ↑a).natAbs * 800000000 +
      saf16 s.dev 662 * (BitVec.toNat s.dev.ltb - s.dev.sis.ss1Since) ≤ v0 * 800000000) ∧
    (∃ (s : State) (a : Fin 4) (v0 : Nat), Acts s ∧ flag s.dev SIS_STO 3 = true ∧ ↑a ∈ stoList s.dev ∧ v0 = listGet 0
      s.dev.sis.ss1Speed ↑a ∧ (∀ (b : Nat), b ∈ stoList s.dev → (sisSpeed s.dev b).natAbs ≤ saf16 s.dev 664)) ∧
    (∃ (s : State), Acts s ∧ flag s.dev SIS_STO 3 = true ∧ s.dev.sis.ss1Since + saf16 s.dev 660 * 800000 ≤
      BitVec.toNat s.dev.ltb) ∧
    (∃ (s : State), Acts s ∧ (flag s.dev SIS_STO 3 = false ∨ BitVec.toNat s.dev.ltb < s.dev.sis.ss1Since + saf16 s.dev
      660 * 800000)) :=
  ⟨⟨px, by unfold Acts; decide +kernel⟩,
   ⟨up, by unfold Acts; decide +kernel⟩,
   ⟨px, true, true, by unfold Acts; decide +kernel⟩,
   ⟨(so false false 99997600 99997601), false, true, by unfold Acts; decide +kernel⟩,
   ⟨(so true false 99997600 99997600 [(SIS_STATE, 0x101), (SIS_LINK, 2), (SIS_STO, 0x103)]), true, false, 0,
     by unfold Acts; decide +kernel⟩,
   ⟨px, by unfold Acts; decide +kernel⟩,
   ⟨(px [] {} {} {} (fun d => {d with sis.stoDiffer := some 98399999})), 98399999, by unfold Acts; decide +kernel⟩,
   ⟨px, by unfold Acts; decide +kernel⟩,
   ⟨(so true true 99997600 5 [(SIS_STO, 0x14), (PSP_AXa_STATE 0, 4)]), by unfold Acts; decide +kernel⟩,
   ⟨px, 0, by unfold Acts; decide +kernel⟩,
   ⟨(ss 10000 0 99999999 10), 0, 10, by unfold Acts; decide +kernel⟩,
   ⟨(ss 10000 0 99999999 1000), 0, 1000, by unfold Acts; decide +kernel⟩,
   ⟨(ss 10 0 99999999 1000), 0, 1000, by unfold Acts; decide +kernel⟩,
   ⟨(ss 10000 0 92000000 1000), by unfold Acts; decide +kernel⟩,
   ⟨(ss 10000 0 92000001 1000), by unfold Acts; decide +kernel⟩⟩

end Contactors

namespace Island

/-- torque monitor record of axis 0 -/
def tm (more : List (Nat × Byte)) (l : List (Nat × Word) := []) (valid := true) (m : TrqMon := {}) (f : Dev → Dev :=
  id) := px ([(ATB_AXn_TIMEOUT 0, 8000), (ADS_AINnn_RES 0, 100), (ADS_AINnn_RES 1, 0xff00), (ADS_AINnn_RES 2, 0x9c)]
  ++ l) {} {} {}
  (fun d => f (modMonitor 0 (fun _ => m) (modChan 0 (fun c =>
    {c with good := valid, last := some (0x123456, 99999999)})
    {d with sis.safety := saf (isafe ++ [(0x150, 1), (0x152, 3), (0x153, 1), (0x154, 0), (0x155, 1), (0x156, 2), (0x162, 3), (0x160, 50), (0x16A, 1)] ++ more), sis.lastEval := some 99920000})))
def rds (v : Nat) : List (List Nat) := List.replicate 8 (List.replicate 8 v)
def cc (k cls : Nat) : Nat × Word := (FCR_SRCkkkk_CFG k, BitVec.ofNat 32 (0x40000000 + cls))
def th (l : List (Nat × Word) := []) (x : ThmState := {}) := px ([(THM_DIE_STAGE 0, 0x00640100), (THM_DIE_STAGE 1,
  0x00320010), (THM_DIE_THR0, 0x05000600), (THM_DIE_THR1, 0x04000580), (THM_DIE_THR2, 0x40000020)] ++ l) {} {} {} (fun
  d => {d with thm := x})

/-- The hypotheses of Obligations.TorqueMonitorAndSupervision can be met. -/
theorem witness_TorqueMonitorAndSupervision :
    (∃ (s : State), Acts s ∧ (s.dev.sis.running = false ∨ ∃ (t : Nat), s.dev.sis.lastEval = some t ∧ BitVec.toNat
      s.dev.ltb < t + 80000)) ∧
    (∃ (s : State), Acts s ∧ s.dev.sis.running = true ∧ (∀ (t : Nat), s.dev.sis.lastEval = some t → t + 80000 ≤
      BitVec.toNat s.dev.ltb)) ∧
    (∃ (s : State), Acts s) ∧
    (∃ (s : State), Acts s ∧ s.dev.sis.running = false) ∧
    (∃ (s : State), Acts s ∧ s.dev.sis.running = true) ∧
    (∃ (s : State), Acts s ∧ s.dev.sis.running = true ∧ s.dev.sis.coreMissed ≠ 9) ∧
    (∃ (s : State), Acts s ∧ s.dev.sis.running = true ∧ s.dev.sis.coreMissed = 9) ∧
    (∃ (s : State), Acts s ∧ s.dev.sis.sisMissed ≠ 9) ∧
    (∃ (s : State), Acts s ∧ s.dev.sis.sisMissed = 9) ∧
    (∃ (s : State) (x : Int), Acts s ∧ s.dev.sis.running = true ∧ x.natAbs ≤ 3000) ∧
    (∃ (s : State) (x : Int), Acts s ∧ s.dev.sis.running = true ∧ 3000 < x.natAbs ∧ (BitVec.toNat s.dev.ltb <
      s.dev.sys.deviates.getD (BitVec.toNat s.dev.ltb) + 800000 ∨ flag s.dev SIS_LOCK 27 = true)) ∧
    (∃ (s : State) (x : Int), Acts s ∧ s.dev.sis.running = true ∧ 3000 < x.natAbs ∧ s.dev.sys.deviates.getD
      (BitVec.toNat s.dev.ltb) + 800000 ≤ BitVec.toNat s.dev.ltb ∧ flag s.dev SIS_LOCK 27 = false) ∧
    (∃ (s : State) (r : List (List Nat)) (c : Nat), Acts s ∧ readingsOk r = true ∧ strapCode r = some c ∧
      s.dev.sis.straps = some c) ∧
    (∃ (s : State) (r : List (List Nat)), Acts s ∧ readingsOk r = true ∧ (strapCode r = none ∨ strapCode r ≠
      s.dev.sis.straps) ∧ s.dev.sis.strapBad = true) ∧
    (∃ (s : State) (r : List (List Nat)), Acts s ∧ readingsOk r = true ∧ (strapCode r = none ∨ strapCode r ≠
      s.dev.sis.straps) ∧ s.dev.sis.strapBad = false) :=
  ⟨⟨up, by unfold Acts; decide +kernel⟩,
   ⟨(tm []), by unfold Acts; decide +kernel⟩,
   ⟨(px [(SIS_STATE, 0x101), (SIS_LINK, 2)]), by unfold Acts; decide +kernel⟩,
   ⟨up, by unfold Acts; decide +kernel⟩,
   ⟨(px [] {} {} {} (fun d => {d with sis.coreMissed := 5})), by unfold Acts; decide +kernel⟩,
   ⟨(px [] {} {} {} (fun d => {d with sis.coreMissed := 5})), by unfold Acts; decide +kernel⟩,
   ⟨(px [] {} {} {} (fun d => {d with sis.coreMissed := 9})), by unfold Acts; decide +kernel⟩,
   ⟨(px [] {} {} {} (fun d => {d with sis.sisMissed := 10})), by unfold Acts; decide +kernel⟩,
   ⟨(px [(SIS_STATE, 0x101), (SIS_LINK, 2)] {} {} {} (fun d => {d with sis.sisMissed := 9})),
     by unfold Acts; decide +kernel⟩,
   ⟨(px [] {} {} {} (fun d => {d with sys.deviates := some 5})), (-3000), by unfold Acts; decide +kernel⟩,
   ⟨(px [] {} {} {} (fun d => {d with sys.deviates := none})), (-3001), by unfold Acts; decide +kernel⟩,
   ⟨(px [] {} {} {} (fun d => {d with sys.deviates := some 99200000})), 3001, by unfold Acts; decide +kernel⟩,
   ⟨(px [] {} {} {} (fun d => {d with sis.straps := some 0})), (rds 50), 0, by unfold Acts; decide +kernel⟩,
   ⟨(px [] {} {} {} (fun d => {d with sis.straps := some 0, sis.strapBad := true})), (rds 450),
     by unfold Acts; decide +kernel⟩,
   ⟨(px [] {} {} {} (fun d => {d with sis.straps := some 0})), (rds 450), by unfold Acts; decide +kernel⟩⟩

/-- The hypotheses of Obligations.RaisingsAndClasses can be met. -/
theorem witness_RaisingsAndClasses :
    (∃ (s : State) (k : Fin 1024), Acts s ∧ flag s.dev (FCR_SRCkkkk_CFG ↑k) 30 = false) ∧
    (∃ (s : State) (k : Fin 1024), Acts s ∧ flag s.dev (FCR_SRCkkkk_CFG ↑k) 30 = true ∧ (↑k ≠ Src.FCR_STAGE_HIGH ∨
      s.dev.fcr.stage.length ≠ 7168)) ∧
    (∃ (s : State) (k : Fin 1024), Acts s ∧ flag s.dev (FCR_SRCkkkk_CFG ↑k) 30 = true ∧ fld s.dev (FCR_SRCkkkk_CFG ↑k)
      2 0 = 0) ∧
    (∃ (s : State) (k : Fin 1024), Acts s ∧ flag s.dev (FCR_SRCkkkk_CFG ↑k) 30 = true ∧ 1 ≤ fld s.dev (FCR_SRCkkkk_CFG
      ↑k) 2 0 ∧ s.dev.fcr.stage = []) ∧
    (∃ (s : State) (k : Fin 1024) (x : Byte) (a : Fin 4), Acts s ∧ flag s.dev (FCR_SRCkkkk_CFG ↑k) 30 = true ∧ (fld
      s.dev (FCR_SRCkkkk_CFG ↑k) 2 0 = 5 ∧ ↑a ∈ concerned s.dev (↑k) (BitVec.toNat x) ∨ fld s.dev (FCR_SRCkkkk_CFG ↑k)
      2 0 = 6 ∧ axisInUse s.dev ↑a = true) ∧ (↑k ≠ Src.CEA_OBS_LOST ∨ fld s.dev (CEA_AXa_FC_STATUS ↑a) 15 13 ≠ 1) ∧
      s.dev.fcr.stage.length ≠ 7168) ∧
    (∃ (s : State) (k : Fin 1024), Acts s ∧ flag s.dev (FCR_SRCkkkk_CFG ↑k) 30 = true ∧ fld s.dev (FCR_SRCkkkk_CFG ↑k)
      2 0 = 7) :=
  ⟨⟨px, 500, by unfold Acts; decide +kernel⟩,
   ⟨(px [cc 640 1]), 640, by unfold Acts; decide +kernel⟩,
   ⟨(px [cc 500 0]), 500, by unfold Acts; decide +kernel⟩,
   ⟨(px [cc 500 1]), 500, by unfold Acts; decide +kernel⟩,
   ⟨(px [cc 640 5, (SIS_STATE, 0x101)]), 640, 0, 0, by unfold Acts; decide +kernel⟩,
   ⟨(px [cc 500 7, (SIS_STATE, 0x101)]), 500, by unfold Acts; decide +kernel⟩⟩

/-- The hypotheses of Obligations.ForceClearAndSelfFault can be met. -/
theorem witness_ForceClearAndSelfFault :
    (∃ (s : State) (i : Initiator) (k : Fin 1024) (v : Word), Acts s ∧ WriteReaches s.dev i (FCR_SRCkkkk_FORCE ↑k) ∧
      bit v 0 = false) ∧
    (∃ (s : State) (i : Initiator) (k : Fin 1024) (v : Word), Acts s ∧ WriteReaches s.dev i (FCR_SRCkkkk_FORCE ↑k) ∧
      bit v 0 = true ∧ (flag s.dev FCR_CTRL 0 = false ∨ ↑k < 992 ∧ 3 ≤ fld s.dev (FCR_SRCkkkk_CFG ↑k) 2 0 ∧ ∃ (a : Fin
      4), granted s.dev ↑a = true)) ∧
    (∃ (s : State) (i : Initiator) (k : Fin 1024) (v : Word), Acts s ∧ WriteReaches s.dev i (FCR_SRCkkkk_FORCE ↑k) ∧
      bit v 0 = true ∧ flag s.dev FCR_CTRL 0 = true ∧ (992 ≤ ↑k ∨ fld s.dev (FCR_SRCkkkk_CFG ↑k) 2 0 < 3 ∨ ∀ (a : Fin
      4), granted s.dev ↑a = false)) ∧
    (∃ (s : State) (i : Initiator) (k : Fin 1024), Acts s ∧ WriteReaches s.dev i (FCR_SRCkkkk_STATUS ↑k)) ∧
    (∃ (s : State), Acts s) ∧
    (∃ (s : State) (i : Initiator) (k : Fin 1024) (last : Bool), Acts s ∧ ReadReaches s.dev i (if last = true then
      FCR_SRCkkkk_LAST_LO ↑k else FCR_SRCkkkk_FIRST_LO ↑k)) :=
  ⟨⟨px, .px0, 500, 2, by unfold Acts WriteReaches; decide +kernel⟩,
   ⟨px, .px0, 500, 1, by unfold Acts WriteReaches; decide +kernel⟩,
   ⟨(px [cc 500 2, (SIS_STATE, 0x101), (FCR_CTRL, 1)]), .px0, 500, 1, by unfold Acts WriteReaches; decide +kernel⟩,
   ⟨(px [(FCR_SRCkkkk_STATUS 500, 0x05060003)]), .px0, 500, by unfold Acts WriteReaches; decide +kernel⟩,
   ⟨(px [(SIS_STATE, 0x101)]), by unfold Acts; decide +kernel⟩,
   ⟨(px [(FCR_SRCkkkk_LAST_LO 5, 77), (FCR_SRCkkkk_LAST_HI 5, 78)]), .px0, 5, true,
     by unfold Acts ReadReaches; decide +kernel⟩⟩

/-- The hypotheses of Obligations.ThermalStep can be met. -/
theorem witness_ThermalStep :
    (∃ (s : State) (t : List Int) (p : List Nat), Acts s ∧ t.length = 9 ∧ p.length = 9 ∧ thmDue s.dev = false) ∧
    (∃ (s : State) (t : List Int) (p : List Nat), Acts s ∧ t.length = 9 ∧ p.length = 9 ∧ (s.dev.phase =
      Phase.programmed ∨ s.dev.phase = Phase.running) ∧ (∀ (k : Nat), s.dev.thm.last = some k → k < BitVec.toNat
      s.dev.ltb / 800000)) :=
  ⟨⟨{up with dev.thm.last := some 0}, (List.replicate 9 400), (List.replicate 9 5), by unfold Acts; decide +kernel⟩,
   ⟨th, (List.replicate 9 400), (List.replicate 9 5), by unfold Acts; decide +kernel⟩⟩

end Island

namespace Complex

def R4 (a b c d : Pair) (l : List (Nat × Word) := []) (f : Dev → Dev := id) := px l {} {} {} (fun x => f
  {x with cpx.pairs := #v[a,b,c,d]})
def sv (t : Nat) : Pair := {role := .serving, task := t}
def sp : Pair := {}
def ho (cause from_ : Nat) (t := 1) : Pair := {role := .handover, task := t, cause, hoFrom := from_}
def hm : State :=
  {R4 (sv 0) {role := .failed} (sv 2) (ho 1 5) with mem := Memory.writeBytes [] 0x207D0000 (toLe32 0x4B48504D ++ List.replicate 4 0 ++ toLe32 0x20001000 ++ List.replicate 48 0 ++ toLe32 (crc32 (toLe32 0x4B48504D ++ List.replicate 4 0 ++ toLe32 0x20001000 ++ List.replicate 48 0)))}

/-- The hypotheses of Obligations.PairTakeoverAndRotation can be met. -/
theorem witness_PairTakeoverAndRotation :
    (∃ (s : State) (n : Fin 4), Acts s ∧ ((pair s.dev ↑n).role = PairRole.failed ∨ (pair s.dev ↑n).role =
      PairRole.underTest)) ∧
    (∃ (s : State) (n : Fin 4), Acts s ∧ (pair s.dev ↑n).role = PairRole.spare) ∧
    (∃ (s : State) (n : Fin 4) (m : Fin 4) (t : Nat), Acts s ∧ ((pair s.dev ↑n).role = PairRole.serving ∨ (pair s.dev
      ↑n).role = PairRole.handover) ∧ t = (pair s.dev ↑n).task ∧ t < 3 ∧ sparePair s.dev = some ↑m) ∧
    (∃ (s : State) (n : Fin 4), Acts s ∧ ((pair s.dev ↑n).role = PairRole.serving ∨ (pair s.dev ↑n).role =
      PairRole.handover) ∧ (pair s.dev ↑n).task < 3 ∧ sparePair s.dev = none) ∧
    (∃ (s : State), Acts s ∧ (∀ (n : Fin 4), (pair s.dev ↑n).role ≠ PairRole.handover ∨ (pair s.dev ↑n).entered =
      true)) ∧
    (∃ (s : State) (n : Fin 4) (t : Nat) (h : Nat), Acts s ∧ (pair s.dev ↑n).role = PairRole.handover ∧ (pair s.dev
      ↑n).entered = false ∧ (∀ (j : Fin 4), j < n → (pair s.dev ↑j).role ≠ PairRole.handover ∨ (pair s.dev ↑j).entered
      = true) ∧ t = (pair s.dev ↑n).task ∧ h = 544997376 + 65536 * t ∧ (le32 (Memory.readBytes s.mem h 64) 0 =
      1263030349 ∧ le32 (Memory.readBytes s.mem h 64) 60 = crc32 (List.take 60 (Memory.readBytes s.mem h 64)) ∧ ∀ (k :
      Fin 8), s.dev.icf.badWords.contains (h / 8 + ↑k) = false)) ∧
    (∃ (s : State) (n : Fin 4) (t : Nat) (h : Nat), Acts s ∧ (pair s.dev ↑n).role = PairRole.handover ∧ (pair s.dev
      ↑n).entered = false ∧ (∀ (j : Fin 4), j < n → (pair s.dev ↑j).role ≠ PairRole.handover ∨ (pair s.dev ↑j).entered
      = true) ∧ t = (pair s.dev ↑n).task ∧ h = 544997376 + 65536 * t ∧ (le32 (Memory.readBytes s.mem h 64) 0 ≠
      1263030349 ∨ le32 (Memory.readBytes s.mem h 64) 60 ≠ crc32 (List.take 60 (Memory.readBytes s.mem h 64)) ∨ ∃ (k :
      Fin 8), s.dev.icf.badWords.contains (h / 8 + ↑k) = true)) ∧
    (∃ (s : State), Acts s) ∧
    (∃ (s : State) (n : Fin 4), Acts s ∧ (pair s.dev ↑n).role = PairRole.handover ∧ (pair s.dev ↑n).cause = 1 ∧ (pair
      s.dev ↑n).slow = false ∧ (pair s.dev ↑n).hoFrom + 160000 ≤ BitVec.toNat s.dev.ltb ∧ (∀ (j : Fin 4), j < n →
      (pair s.dev ↑j).role ≠ PairRole.handover ∨ (pair s.dev ↑j).cause ≠ 1 ∨ (pair s.dev ↑j).slow = true)) ∧
    (∃ (s : State), Acts s ∧ (∀ (n : Fin 4), (pair s.dev ↑n).role ≠ PairRole.handover ∨ (pair s.dev ↑n).cause ≠ 1 ∨
      (pair s.dev ↑n).slow = true ∨ BitVec.toNat s.dev.ltb < (pair s.dev ↑n).hoFrom + 160000)) ∧
    (∃ (s : State) (n : Fin 4) (v : Word), Acts s ∧ (bit v 0 = false ∨ (pair s.dev ↑n).yieldReq = false ∨ (pair s.dev
      ↑n).role ≠ PairRole.serving ∨ sparePair s.dev = none)) ∧
    (∃ (s : State) (n : Fin 4) (m : Fin 4) (v : Word), Acts s ∧ bit v 0 = true ∧ (pair s.dev ↑n).yieldReq = true ∧
      (pair s.dev ↑n).role = PairRole.serving ∧ sparePair s.dev = some ↑m) ∧
    (∃ (s : State) (n : Fin 4), Acts s ∧ (pair s.dev ↑n).role ≠ PairRole.serving) ∧
    (∃ (s : State) (n : Fin 4), Acts s ∧ (pair s.dev ↑n).role = PairRole.serving) :=
  ⟨⟨(R4 (sv 0) {role := .failed} (sv 2) sp), 1, by unfold Acts; decide +kernel⟩,
   ⟨(R4 (sv 0) (sv 1) (sv 2) {role := .spare, testPass := true}), 3, by unfold Acts; decide +kernel⟩,
   ⟨(R4 (sv 0) (sv 1) (sv 2) sp), 1, 3, 1, by unfold Acts; decide +kernel⟩,
   ⟨(R4 (sv 0) (sv 1) (sv 2) {role := .failed} [C Src.CPX_NOSPARE]), 1, by unfold Acts; decide +kernel⟩,
   ⟨px, by unfold Acts; decide +kernel⟩,
   ⟨hm, 3, 1, 0x207D0000, by unfold Acts; decide +kernel⟩,
   ⟨(R4 (sv 0) {role := .failed} (sv 2) (ho 1 5)), 3, 1, 0x207D0000, by unfold Acts; decide +kernel⟩,
   ⟨(R4 (sv 0) {role := .failed} (sv 2) {ho 1 5 with entered := true}), by unfold Acts; decide +kernel⟩,
   ⟨(R4 (sv 0) {role := .failed} (sv 2) (ho 1 99840000) [C Src.CPX_HO_SLOW]), 3, by unfold Acts; decide +kernel⟩,
   ⟨(R4 (sv 0) {role := .failed} (sv 2) (ho 1 99840001)), by unfold Acts; decide +kernel⟩,
   ⟨px, 0, 1, by unfold Acts; decide +kernel⟩,
   ⟨(R4 (sv 0) {sv 1 with yieldReq := true} (sv 2) sp), 1, 3, 1, by unfold Acts; decide +kernel⟩,
   ⟨px, 3, by unfold Acts; decide +kernel⟩,
   ⟨(R4 (sv 0) {role := .failed, testPass := true} {role := .failed} sp), 0, by unfold Acts; decide +kernel⟩⟩

/-- The hypotheses of Obligations.InterconnectEvents can be met. -/
theorem witness_InterconnectEvents :
    (∃ (s : State) (a : Word), Acts s ∧ (badAt s.dev (BitVec.toNat a) = false ∨ sramIndex (BitVec.toNat a) = none)) ∧
    (∃ (s : State) (a : Word) (k : Nat), Acts s ∧ badAt s.dev (BitVec.toNat a) = true ∧ sramIndex (BitVec.toNat a) =
      some k) ∧
    (∃ (s : State) (i : Initiator), Acts s ∧ initiatorLive s.dev i = false) ∧
    (∃ (s : State) (i : Initiator) (a : Word), Acts s ∧ initiatorLive s.dev i = true ∧ denied s.dev i (BitVec.toNat a)
      Width.w32 false = none ∧ sramIndex (BitVec.toNat a) = none) ∧
    (∃ (s : State) (i : Initiator) (a : Word) (k : Nat), Acts s ∧ initiatorLive s.dev i = true ∧ denied s.dev i
      (BitVec.toNat a) Width.w32 false = none ∧ sramIndex (BitVec.toNat a) = some k) ∧
    (∃ (s : State) (i : Initiator), Acts s ∧ ReadReaches s.dev i ICF_VLOG2 ∧ s.dev.icf.vlog = []) ∧
    (∃ (s : State) (i : Initiator) (r : VRec) (q : List VRec), Acts s ∧ ReadReaches s.dev i ICF_VLOG2 ∧ s.dev.icf.vlog
      = r :: q) ∧
    (∃ (s : State) (i : Initiator), Acts s ∧ WriteReaches s.dev i ICF_CTRL) ∧
    (∃ (s : State), Acts s) :=
  ⟨⟨(px [C Src.CPX_L1_UE]), 0x20000000, by unfold Acts; decide +kernel⟩,
   ⟨(px [C Src.CPX_L1_UE, C Src.ICF_ECC_UE] {} {} {} (fun d => {d with icf.badWords := [0x24000008/8]})), 0x2400000c,
     1, by unfold Acts; decide +kernel⟩,
   ⟨px, .jtag, by unfold Acts; decide +kernel⟩,
   ⟨px, .px0, 0x10000000, by unfold Acts; decide +kernel⟩,
   ⟨px, .px0, 0x24000000, 1, by unfold Acts; decide +kernel⟩,
   ⟨px, .px0, by unfold Acts ReadReaches; decide +kernel⟩,
   ⟨(px [] {} {} {} (fun d => {d with icf.vlog := [⟨1,0,2,0x40000000,7⟩], icf.vlost := true})), .px0,
     ⟨1,0,2,0x40000000,7⟩, [], by unfold Acts ReadReaches; decide +kernel⟩,
   ⟨px, .px0, by unfold Acts WriteReaches; decide +kernel⟩,
   ⟨(px [(ICF_FLS_SHARE, 0xfffe0003)]), by unfold Acts; decide +kernel⟩⟩

/-- The hypotheses of Obligations.RegisterAndMemoryWrites can be met. -/
theorem witness_RegisterAndMemoryWrites :
    (∃ (s : State) (i : Initiator), Acts s ∧ initiatorLive s.dev i = false) ∧
    (∃ (s : State) (i : Initiator) (a : Word) (w : Width) (k : VKind), Acts s ∧ initiatorLive s.dev i = true ∧
      writeDenied s.dev i (BitVec.toNat a) w = some k) ∧
    (∃ (s : State) (i : Initiator) (a : Word) (w : Width) (n : Nat), Acts s ∧ initiatorLive s.dev i = true ∧
      writeDenied s.dev i (BitVec.toNat a) w = none ∧ adjShadowed s.dev i (BitVec.toNat a) = false ∧ isPeripheral
      (BitVec.toNat a) = false ∧ unitMemory (BitVec.toNat a) = false ∧ inRange (BitVec.toNat a) 805306368 1073741823 =
      false ∧ (n ≤ 120 ∨ urgent i = false ∨ isSram (BitVec.toNat a) = false) ∧ isSram (BitVec.toNat a) = true ∧ badAt
      s.dev (BitVec.toNat a) = true) ∧
    (∃ (s : State) (i : Initiator) (a : Word) (w : Width) (n : Nat), Acts s ∧ initiatorLive s.dev i = true ∧
      writeDenied s.dev i (BitVec.toNat a) w = none ∧ adjShadowed s.dev i (BitVec.toNat a) = false ∧ isPeripheral
      (BitVec.toNat a) = false ∧ unitMemory (BitVec.toNat a) = false ∧ inRange (BitVec.toNat a) 805306368 1073741823 =
      false ∧ (n ≤ 120 ∨ urgent i = false ∨ isSram (BitVec.toNat a) = false) ∧ (isSram (BitVec.toNat a) = false ∨
      badAt s.dev (BitVec.toNat a) = false)) ∧
    (∃ (s : State) (i : Initiator) (a : Word) (v : Word) (n : Nat), Acts s ∧ WriteReaches s.dev i (BitVec.toNat a) ∧
      isPeripheral (BitVec.toNat a) = true ∧ inRange (BitVec.toNat a) 1074921472 1074987007 = false ∧ (n ≤ 120 ∨
      urgent i = false) ∧ (∀ (k : Fin 2), BitVec.toNat a ≠ ETHn_TXR_TAIL ↑k) ∧ s.dev.trc.ringOut = [] ∧ specialWrite i
      (BitVec.toNat a) v (urgentLatency i (BitVec.toNat a) n (respOk s.dev)) = none ∧ readOnlyAt (BitVec.toNat a) =
      true) ∧
    (∃ (s : State) (i : Initiator) (a : Word) (v : Word) (n : Nat), Acts s ∧ WriteReaches s.dev i (BitVec.toNat a) ∧
      isPeripheral (BitVec.toNat a) = true ∧ inRange (BitVec.toNat a) 1074921472 1074987007 = false ∧ (n ≤ 120 ∨
      urgent i = false) ∧ (∀ (k : Fin 2), BitVec.toNat a ≠ ETHn_TXR_TAIL ↑k) ∧ s.dev.trc.ringOut = [] ∧ specialWrite i
      (BitVec.toNat a) v (urgentLatency i (BitVec.toNat a) n (respOk s.dev)) = none ∧ readOnlyAt (BitVec.toNat a) =
      false ∧ valueOk (urgentLatency i (BitVec.toNat a) n (respOk s.dev)) (BitVec.toNat a) v = false) ∧
    (∃ (s : State) (i : Initiator) (a : Word) (v : Word) (n : Nat), Acts s ∧ WriteReaches s.dev i (BitVec.toNat a) ∧
      isPeripheral (BitVec.toNat a) = true ∧ inRange (BitVec.toNat a) 1074921472 1074987007 = false ∧ (n ≤ 120 ∨
      urgent i = false) ∧ (∀ (k : Fin 2), BitVec.toNat a ≠ ETHn_TXR_TAIL ↑k) ∧ s.dev.trc.ringOut = [] ∧ specialWrite i
      (BitVec.toNat a) v (urgentLatency i (BitVec.toNat a) n (respOk s.dev)) = none ∧ readOnlyAt (BitVec.toNat a) =
      false ∧ valueOk (urgentLatency i (BitVec.toNat a) n (respOk s.dev)) (BitVec.toNat a) v = true ∧ (BitVec.toNat a
      / 65536 = 16512 ∨ BitVec.toNat a / 65536 = 16391 ∨ BitVec.toNat a / 65536 = 16456) ∧ ∃ r ∈ regRow? (BitVec.toNat
      a), True) ∧
    (∃ (s : State) (i : Initiator) (a : Word) (n : Nat), Acts s ∧ WriteReaches s.dev i (BitVec.toNat a) ∧ flag s.dev
      ICF_CTRL 0 = true ∧ isPeripheral (BitVec.toNat a) = true ∧ (n ≤ 120 ∨ urgent i = false) ∧ s.dev.trc.ringOut = []
      ∧ (BitVec.toNat a = ICF_CTRL ∨ BitVec.toNat a = ICF_DEFAULT ∨ ∃ (k : Fin 32), BitVec.toNat a = ICF_RGNn_BASE ↑k
      ∨ BitVec.toNat a = ICF_RGNn_SIZE ↑k ∨ BitVec.toNat a = ICF_RGNn_PERM ↑k)) ∧
    (∃ (s : State) (i : Initiator) (a : Word) (w : Width) (n : Nat), Acts s ∧ initiatorLive s.dev i = true ∧
      writeDenied s.dev i (BitVec.toNat a) w = none ∧ adjShadowed s.dev i (BitVec.toNat a) = false ∧ isSram
      (BitVec.toNat a) = true ∧ isPeripheral (BitVec.toNat a) = false ∧ unitMemory (BitVec.toNat a) = false ∧ badAt
      s.dev (BitVec.toNat a) = false ∧ urgent i = true ∧ 120 < n) :=
  ⟨⟨px, .jtag, by unfold Acts; decide +kernel⟩,
   ⟨px, .px0, 0x1f000000, .w32, .unmapped, by unfold Acts; decide +kernel⟩,
   ⟨(px [] {} {} {} (fun d => {d with icf.badWords := [0x24000008/8]})), .px0, 0x2400000c, .w32, 120,
     by unfold Acts; decide +kernel⟩,
   ⟨(px []), .px0, 0x24000010, .w32, 120, by unfold Acts; decide +kernel⟩,
   ⟨px, .px0, (BitVec.ofNat 32 ICF_VCNT), 5, 0, by unfold Acts WriteReaches; decide +kernel⟩,
   ⟨px, .px0, (BitVec.ofNat 32 (ATB_AXn_TIMEOUT 0)), 0x03000000, 7, by unfold Acts WriteReaches; decide +kernel⟩,
   ⟨(px []), .px0, (BitVec.ofNat 32 FCR_CTRL), 3, 7, by unfold Acts WriteReaches; decide +kernel⟩,
   ⟨(px [(ICF_CTRL, 1)]), .px0, (BitVec.ofNat 32 (ICF_RGNn_PERM 5)), 7, by unfold Acts WriteReaches; decide +kernel⟩,
   ⟨(px [(ICF_URG_MAX, 100)]), .cea, 0x24000010, .w32, 121, by unfold Acts; decide +kernel⟩⟩

end Complex

namespace Datagrams

def pe : Sender := ⟨0xC0A80105, 5000, 0x020304050607⟩
/-- a record: src, axis and mode, seq, setpoint, limits -/
def rc (src am : Byte) (seq : Nat) (sp : Nat := 100) (pl : Nat := 1000) (nl : Nat := 0) (r : Nat := 50) : List Byte :=
  let b := [src, am] ++ toLe32 seq ++ toLe16 sp ++ toLe16 pl ++ toLe16 nl ++ toLe16 r
  b ++ toLe16 (crc16 b)
def bad : List Byte := (rc 9 1 5).take 15 ++ [BitVec.ofNat 8 (byteAt (rc 9 1 5) 15 + 1)]
/-- slot 3 has ID 9 on every path; axes 0 and 1 are its -/
def cq (state : Nat) (last : Word) (l : List (Nat × Word) := []) (sl : CsqSlot := {}) (f : Dev → Dev := id) : State :=
  px ([(CSQ_SRCs_CFG 3, 0x80003f09), (CSQ_SRCs_STATE 3, BitVec.ofNat 32 (state + 256 * sl.held.length)),
    (CSQ_SRCs_LAST 3, last), (CSQ_AXa_SRC 0, 0x3), (CSQ_AXa_SRC 1, 0x3), (CAN_CSQACK 2, 0x80000123), (ETHn_CFG 0,
    0x80000000), (ETHn_CFG 1, 0x80000000), (CSQ_CTRL, 0x00050001)] ++ l)
    {} {} {} (fun d => f {d with csq := {d.csq with slots := vset d.csq.slots 3 sl}})
      #v[{topology := 1, polePairs := 4, nBase := 600000}, {topology := 1, polePairs := 4, nBase := 600000}, {}, {}]
def cmd (kind : Nat) (l : List (Nat × Word) := []) (f : Dev → Dev := id) := cq 1 4 ([(CMD_CFG, BitVec.ofNat 32
  (0x80000F00 + kind)), (CMD_TIME, 3), (CMD_LOSSLO, 100), (CMD_LOSSHI, 3000), (CMD_XLO, 500), (CMD_XHI, 2500),
  (CMD_OUT, 0x70009000), (CSQ_AXa_SRC 0, 0xC0000303), (CSQ_AXa_LIMP0 0, 0x00021000), (CSQ_AXa_LIMP1 0, 0x3000D000)] ++
  l) {} f

/-- The hypotheses of Obligations.AxisCommands can be met. -/
theorem witness_AxisCommands :
    (∃ (s : State) (path : Fin 6) (b : List Byte) (k : Nat), Acts s ∧ recordArrives s.dev path b k ∧ recordLegal s.dev
      b k ∧ featureOn s.dev 0 = false ∧ (slotState s.dev k = 0 ∨ slotState s.dev k = 1 ∧ BitVec.ofNat 32 (le32 b 2) -
      rd s.dev (CSQ_SRCs_LAST k) = 1 ∧ (csqSlot s.dev k).held = [])) ∧
    (∃ (s : State) (path : Fin 6) (b : List Byte) (h : List Byte) (k : Nat), Acts s ∧ recordArrives s.dev path b k ∧
      recordLegal s.dev b k ∧ featureOn s.dev 0 = false ∧ s.dev.icf.badWords = [] ∧ slotState s.dev k = 1 ∧
      BitVec.ofNat 32 (le32 b 2) - rd s.dev (CSQ_SRCs_LAST k) = 1 ∧ le32 b 2 + 1 < 4294967296 ∧ (csqSlot s.dev k).held
      = [(le32 b 2 + 1, h)] ∧ le32 h 2 = le32 b 2 + 1 ∧ byteAt h 1 / 16 < 4 ∧ byteAt h 1 / 16 ≠ byteAt b 1 / 16) ∧
    (∃ (s : State) (path : Fin 6) (b : List Byte) (k : Nat), Acts s ∧ recordArrives s.dev path b k ∧ recordLegal s.dev
      b k ∧ featureOn s.dev 0 = false ∧ slotState s.dev k = 1 ∧ 2 ≤ (BitVec.ofNat 32 (le32 b 2) - rd s.dev
      (CSQ_SRCs_LAST k)).toNat ∧ (BitVec.ofNat 32 (le32 b 2) - rd s.dev (CSQ_SRCs_LAST k)).toNat ≤ 8 ∧ List.find? (fun
      (h : Nat × List Byte) ↦ decide (h.fst = le32 b 2)) (csqSlot s.dev k).held = none) ∧
    (∃ (s : State) (b : List Byte), Acts s ∧ b.length = 16 ∧ flag s.dev CSQ_STATUS 8 = true) ∧
    (∃ (s : State) (b : List Byte), Acts s ∧ b.length = 16 ∧ flag s.dev CSQ_STATUS 8 = false ∧ crc16 (List.take 14 b)
      ≠ le16 b 14) ∧
    (∃ (s : State) (path : Fin 6) (b : List Byte), Acts s ∧ b.length = 16 ∧ flag s.dev CSQ_STATUS 8 = false ∧ crc16
      (List.take 14 b) = le16 b 14 ∧ (slotOf s.dev (byteAt b 0) = none ∨ ∃ (k : Nat), slotOf s.dev (byteAt b 0) = some
      k ∧ flag s.dev (CSQ_SRCs_CFG k) (8 + ↑path) = false)) ∧
    (∃ (s : State) (path : Fin 6) (b : List Byte) (k : Nat) (code : Nat), Acts s ∧ recordArrives s.dev path b k ∧
      featureOn s.dev 0 = false ∧ (slotState s.dev k = 2 ∧ code = 7 ∨ slotState s.dev k ≠ 2 ∧ recLegal s.dev b = false
      ∧ code = 3 ∨ slotState s.dev k ≠ 2 ∧ recLegal s.dev b = true ∧ (fld s.dev (CSQ_AXa_SRC (byteAt b 1 / 16)) 3 0 ≠
      k ∨ flag s.dev (CSQ_AXa_SRC (byteAt b 1 / 16)) 31 = true) ∧ code = 5)) ∧
    (∃ (s : State) (path : Fin 6) (b : List Byte) (k : Nat), Acts s ∧ recordArrives s.dev path b k ∧ recordLegal s.dev
      b k ∧ featureOn s.dev 0 = false ∧ slotState s.dev k = 1 ∧ s.dev.icf.badWords = [] ∧ ((BitVec.ofNat 32 (le32 b 2)
      - rd s.dev (CSQ_SRCs_LAST k)).toNat = 0 ∨ 2147483648 ≤ (BitVec.ofNat 32 (le32 b 2) - rd s.dev (CSQ_SRCs_LAST
      k)).toNat) ∧ (∀ (l : LogRec), logFind s.dev k (le32 b 2) = some l → byteAt l.bytes 1 = byteAt b 1 ∧ slice
      l.bytes 6 8 = slice b 6 8)) ∧
    (∃ (s : State) (path : Fin 6) (b : List Byte) (k : Nat) (l : LogRec), Acts s ∧ recordArrives s.dev path b k ∧
      recordLegal s.dev b k ∧ featureOn s.dev 0 = false ∧ slotState s.dev k = 1 ∧ s.dev.icf.badWords = [] ∧
      ((BitVec.ofNat 32 (le32 b 2) - rd s.dev (CSQ_SRCs_LAST k)).toNat = 0 ∨ 2147483648 ≤ (BitVec.ofNat 32 (le32 b 2)
      - rd s.dev (CSQ_SRCs_LAST k)).toNat) ∧ logFind s.dev k (le32 b 2) = some l ∧ (byteAt l.bytes 1 ≠ byteAt b 1 ∨
      slice l.bytes 6 8 ≠ slice b 6 8)) ∧
    (∃ (s : State) (path : Fin 6) (b : List Byte) (k : Nat), Acts s ∧ recordArrives s.dev path b k ∧ recordLegal s.dev
      b k ∧ featureOn s.dev 0 = false ∧ slotState s.dev k = 1 ∧ s.dev.icf.badWords = [] ∧ 9 ≤ (BitVec.ofNat 32 (le32 b
      2) - rd s.dev (CSQ_SRCs_LAST k)).toNat ∧ (BitVec.ofNat 32 (le32 b 2) - rd s.dev (CSQ_SRCs_LAST k)).toNat <
      2147483648) :=
  ⟨⟨(cq 0 0), 2, (rc 9 1 5), 3, by unfold Acts recordArrives recordLegal; decide +kernel⟩,
   ⟨(cq 1 4 [] {held := [(6, rc 9 0x12 6)]}), 2, (rc 9 1 5), (rc 9 0x12 6), 3,
     by unfold Acts recordArrives recordLegal; decide +kernel⟩,
   ⟨(cq 1 4 [] {held := [(7, rc 9 0x12 7)]}), 2, (rc 9 1 6), 3,
     by unfold Acts recordArrives recordLegal; decide +kernel⟩,
   ⟨(cq 1 4 [(CSQ_STATUS, 0x100)]), (rc 9 1 5), by unfold Acts; decide +kernel⟩,
   ⟨(cq 1 4 [C Src.CSQ_CRC]), bad, by unfold Acts; decide +kernel⟩,
   ⟨(cq 1 4 []), 2, (rc 8 1 5), by unfold Acts; decide +kernel⟩,
   ⟨(cq 2 4 []), 2, (rc 9 1 5), 3, 7, by unfold Acts recordArrives; decide +kernel⟩,
   ⟨(cq 1 4 []), 2, (rc 9 1 4), 3, by unfold Acts recordArrives recordLegal; decide +kernel⟩,
   ⟨(cq 1 4 [] {} (fun d => {d with csq := {d.csq with log := [⟨0, 3, (rc 9 1 4).take 14 ++ [2, 3]⟩]}})), 2, (rc 9 1 4
     101), 3, ⟨0, 3, (rc 9 1 4).take 14 ++ [2, 3]⟩, by unfold Acts recordArrives recordLegal; decide +kernel⟩,
   ⟨(cq 1 4 []), 2, (rc 9 1 13), 3, by unfold Acts recordArrives recordLegal; decide +kernel⟩⟩

/-- The hypotheses of Obligations.DatagramsBatchesAndStalls can be met. -/
theorem witness_DatagramsBatchesAndStalls :
    (∃ (s : State) (n : Fin 2) (p : List Byte) (path : Fin 6), Acts s ∧ (↑path : Nat) = 4 + ↑n ∧ p.length = 16) ∧
    (∃ (s : State), Acts s ∧ flag s.dev CSQ_STATUS 8 = true) ∧
    (∃ (s : State) (n : Fin 2) (p : List Byte) (path : Fin 6), Acts s ∧ (↑path : Nat) = 4 + ↑n ∧ flag s.dev CSQ_STATUS
      8 = false ∧ (p.length % 16 ≠ 0 ∨ p.length < 16 ∨ 128 < p.length)) ∧
    (∃ (s : State) (n : Fin 2) (b : List Byte) (c : List Byte) (path : Fin 6) (k : Nat), Acts s ∧ (↑path : Nat) = 4 +
      ↑n ∧ recordArrives s.dev path b k ∧ recordArrives s.dev path c k ∧ recordLegal s.dev b k ∧ recordLegal s.dev c k
      ∧ featureOn s.dev 0 = false ∧ slotState s.dev k = 1 ∧ (csqSlot s.dev k).held = [] ∧ le32 c 2 = le32 b 2 + 1 ∧
      BitVec.ofNat 32 (le32 b 2) - rd s.dev (CSQ_SRCs_LAST k) = 1) ∧
    (∃ (s : State) (k : Fin 16) (path : Fin 6), Acts s ∧ ((∀ (x : AckBatch), batchOf s.dev ↑k ↑path = some x →
      BitVec.toNat s.dev.ltb < x.since + fld s.dev CSQ_CTRL 9 0 * 800) ∨ flag s.dev CSQ_STATUS 8 = true)) ∧
    (∃ (s : State) (k : Fin 16) (path : Fin 6) (x : AckBatch), Acts s ∧ batchOf s.dev ↑k ↑path = some x ∧ x.since +
      fld s.dev CSQ_CTRL 9 0 * 800 ≤ BitVec.toNat s.dev.ltb ∧ flag s.dev CSQ_STATUS 8 = false) ∧
    (∃ (s : State) (k : Fin 16), Acts s ∧ ((csqSlot s.dev ↑k).held = [] ∨ (csqSlot s.dev ↑k).stalled = true ∨
      BitVec.toNat s.dev.ltb < (csqSlot s.dev ↑k).heldFrom + fld s.dev CSQ_CTRL 31 16 * 800000)) ∧
    (∃ (s : State) (k : Fin 16), Acts s ∧ (csqSlot s.dev ↑k).held ≠ [] ∧ (csqSlot s.dev ↑k).stalled = false ∧ (csqSlot
      s.dev ↑k).heldFrom + fld s.dev CSQ_CTRL 31 16 * 800000 ≤ BitVec.toNat s.dev.ltb) ∧
    (∃ (s : State) (i : Initiator) (k : Fin 16), Acts s ∧ WriteReaches s.dev i (CSQ_SRCs_LAST ↑k) ∧ slotState s.dev ↑k
      = 1) ∧
    (∃ (s : State) (i : Initiator) (k : Fin 16), Acts s ∧ WriteReaches s.dev i (CSQ_SRCs_LAST ↑k) ∧ slotState s.dev ↑k
      ≠ 1) :=
  ⟨⟨(cq 1 4 []), 1, (rc 9 1 5), 5, by unfold Acts; decide +kernel⟩,
   ⟨(cq 1 4 [(CSQ_STATUS, 0x100)]), by unfold Acts; decide +kernel⟩,
   ⟨(cq 1 4 []), 1, [1,2], 5, by unfold Acts; decide +kernel⟩,
   ⟨(cq 1 4 []), 0, (rc 9 1 5), (rc 9 0x11 6), 4, 3, by unfold Acts recordArrives recordLegal; decide +kernel⟩,
   ⟨(cq 1 4 []), 3, 2, by unfold Acts; decide +kernel⟩,
   ⟨(cq 1 4 [] {} (fun d => {d with csq.batches := [⟨3,2,4,5,99999200,pe⟩]})), 3, 2, ⟨3,2,4,5,99999200,pe⟩,
     by unfold Acts; decide +kernel⟩,
   ⟨(cq 1 4 []), 3, by unfold Acts; decide +kernel⟩,
   ⟨(cq 1 4 [] {held := [(7, rc 9 1 7)], heldFrom := 96000000}), 3, by unfold Acts; decide +kernel⟩,
   ⟨(cq 1 4), .px0, 3, by unfold Acts WriteReaches; decide +kernel⟩,
   ⟨(cq 0 4 [] {held := [(7, rc 9 1 7)]}), .px0, 3, by unfold Acts WriteReaches; decide +kernel⟩⟩

/-- The hypotheses of Obligations.PowerFailureAndCommandPin can be met. -/
theorem witness_PowerFailureAndCommandPin :
    (∃ (s : State), Acts s ∧ flag s.dev CSQ_STATUS 8 = true) ∧
    (∃ (s : State), Acts s ∧ flag s.dev CSQ_STATUS 8 = false ∧ s.dev.icf.badWords = []) ∧
    (∃ (s : State) (k : Fin 8), Acts s ∧ s.dev.csq.flushing = some ↑k ∧ s.dev.sys.warmWaits = none) ∧
    (∃ (s : State), Acts s ∧ s.dev.csq.flushing = none ∧ s.dev.sys.warmWaits = none) ∧
    (∃ (s : State), Acts s) ∧
    (∃ (s : State), Acts s ∧ flag s.dev CMD_CFG 31 = false) ∧
    (∃ (s : State) (x : Nat) (ok : Bool), Acts s ∧ flag s.dev CMD_CFG 31 = true ∧ ok = true ∧ fld s.dev CMD_TIME 15 0
      ≠ 0 ∧ fld s.dev CMD_LOSSLO 19 0 ≤ x ∧ x ≤ fld s.dev CMD_LOSSHI 19 0 ∧ (fld s.dev CMD_CFG 1 0 = 0 ∧ x ≤ 3000 ∨
      fld s.dev CMD_CFG 1 0 = 1 ∧ x ≤ 32768 ∨ 2 ≤ fld s.dev CMD_CFG 1 0 ∧ 10 ≤ x ∧ x ≤ 500000) ∧ ↑(fld s.dev CMD_XLO
      19 0) < ↑(fld s.dev CMD_XHI 19 0)) ∧
    (∃ (s : State) (x : Nat) (ok : Bool), Acts s ∧ flag s.dev CMD_CFG 31 = true ∧ cmdValid s.dev x ok = false) ∧
    (∃ (s : State) (a : Fin 4), Acts s ∧ (axisInUse s.dev ↑a = false ∨ fld s.dev (CSQ_AXa_SRC ↑a) 23 8 = 0 ∨ flag
      s.dev (CSQ_AXa_SRC ↑a) 31 = true ∨ BitVec.toNat s.dev.ltb < vget s.dev.csq.appliedAt ↑a + fld s.dev (CSQ_AXa_SRC
      ↑a) 23 8 * 800000)) ∧
    (∃ (s : State) (a : Fin 4), Acts s ∧ axisInUse s.dev ↑a = true ∧ fld s.dev (CSQ_AXa_SRC ↑a) 23 8 ≠ 0 ∧ flag s.dev
      (CSQ_AXa_SRC ↑a) 31 = false ∧ vget s.dev.csq.appliedAt ↑a + fld s.dev (CSQ_AXa_SRC ↑a) 23 8 * 800000 ≤
      BitVec.toNat s.dev.ltb ∧ s.dev.csq.late[a] = false ∧ (flag s.dev (CSQ_AXa_SRC ↑a) 30 = false ∨ flag s.dev
      CMD_CFG (8 + ↑a) = false ∨ flag s.dev CMD_CFG 31 = false ∨ flag s.dev CMD_X 31 = false)) ∧
    (∃ (s : State) (a : Fin 4), Acts s ∧ axisInUse s.dev ↑a = true ∧ fld s.dev (CSQ_AXa_SRC ↑a) 23 8 ≠ 0 ∧ flag s.dev
      (CSQ_AXa_SRC ↑a) 31 = false ∧ vget s.dev.csq.appliedAt ↑a + fld s.dev (CSQ_AXa_SRC ↑a) 23 8 * 800000 ≤
      BitVec.toNat s.dev.ltb ∧ s.dev.csq.late[a] = false ∧ flag s.dev (CSQ_AXa_SRC ↑a) 30 = true ∧ flag s.dev CMD_CFG
      (8 + ↑a) = true ∧ flag s.dev CMD_CFG 31 = true ∧ flag s.dev CMD_X 31 = true) :=
  ⟨⟨(cq 1 4 [(CSQ_STATUS, 0x100)]), by unfold Acts; decide +kernel⟩,
   ⟨(cq 1 4 []), by unfold Acts; decide +kernel⟩,
   ⟨(cq 1 4 [(SYS_PWRFAIL, 0xffff0001)] {} (fun d => {d with csq.flushing := some 5})), 5,
     by unfold Acts; decide +kernel⟩,
   ⟨(cq 1 4), by unfold Acts; decide +kernel⟩,
   ⟨(cq 1 4 [(CSQ_STATUS, 0x100)]), by unfold Acts; decide +kernel⟩,
   ⟨(cq 1 4), by unfold Acts; decide +kernel⟩,
   ⟨(cmd 0), 1234, true, by unfold Acts; decide +kernel⟩,
   ⟨(cmd 2), 3001, true, by unfold Acts; decide +kernel⟩,
   ⟨(cmd 0), 0, by unfold Acts; decide +kernel⟩,
   ⟨(cmd 0 [(CSQ_AXa_SRC 0, 0x303)] (fun d => {d with csq.appliedAt := #v[97600000, 0, 0, 0]})), 0,
     by unfold Acts; decide +kernel⟩,
   ⟨(cmd 0 [(CSQ_AXa_SRC 0, 0x40000303), (CMD_X, 0x80000500), (CMD_SP, 0xfe00)] (fun d =>
     {d with csq.appliedAt := #v[97600000, 0, 0, 0]})), 0, by unfold Acts; decide +kernel⟩⟩

end Datagrams

namespace Transactions

/-- CTE with transactions -/
def tx (ts : List Tx) (l : List (Nat × Word) := []) (f : Dev → Dev := id) := px l {} {} {} (fun d => f
  {d with cte.txs := ts, cte.token := 65535, cte.commits := 9})
def T (e : List CteEntry := []) : Tx := {by_ := .px0, token := 7, entries := e, lastWrite := 5}
def V (e : List CteEntry := []) (kind : Nat := 0) (arg : Word := 0) : Tx :=
  {by_ := .px0, token := 7, entries := e, lastWrite := 5, phase := .validating, kind, arg, order := 3}
def P (e : List CteEntry := []) (b : Nat := 100000000) : Tx :=
  {by_ := .px0, token := 7, entries := e, lastWrite := 5, phase := .pending, kind := 2, order := 3, boundary := some b}
def e1 : CteEntry := ⟨FCR_SRCkkkk_CFG 5, 0x40000003⟩
def jo (l : List (Nat × Word) := []) (o : List JrnRec := []) (st : List FcrRec := []) (ring : List JrnRec := []) := px
  ([(JRN_STATUS, 1), (JRN_HEAD_SEQ, 65)] ++ l) {} {} {} (fun d =>
  {d with jrn.offered := o, jrn.ring := ring, fcr.stage := st})
def fr : JrnRec := {type := 0x85, origin := initiatorId .px1, payload := List.replicate 44 1}
def fc : FcrRec := ⟨640, 5, 1, 2, 3, 4, 5, true, false⟩

/-- The hypotheses of Obligations.TransactionsOpenAndCommit can be met. -/
theorem witness_TransactionsOpenAndCommit :
    (∃ (s : State) (i : Initiator), Acts s ∧ writeArrives s.dev i CTE_BEGIN ∧ mayHold i = false) ∧
    (∃ (s : State) (i : Initiator) (v : Word), Acts s ∧ writeArrives s.dev i CTE_BEGIN ∧ mayHold i = true ∧ bit v 0 =
      false) ∧
    (∃ (s : State) (i : Initiator) (v : Word) (e : Nat), Acts s ∧ writeArrives s.dev i CTE_BEGIN ∧ mayHold i = true ∧
      bit v 0 = true ∧ (fld s.dev CFG_FEAT_STATUS 1 0 ≠ 1 ∧ e = 1 ∨ fld s.dev CFG_FEAT_STATUS 1 0 = 1 ∧ txOf s.dev i ≠
      none ∧ e = 2 ∨ fld s.dev CFG_FEAT_STATUS 1 0 = 1 ∧ txOf s.dev i = none ∧ 4 ≤ s.dev.cte.txs.length ∧ e = 3)) ∧
    (∃ (s : State) (i : Initiator) (v : Word), Acts s ∧ writeArrives s.dev i CTE_BEGIN ∧ mayHold i = true ∧ bit v 0 =
      true ∧ fld s.dev CFG_FEAT_STATUS 1 0 = 1 ∧ txOf s.dev i = none ∧ s.dev.cte.txs.length < 4) ∧
    (∃ (s : State) (i : Initiator) (a : Word) (t : Tx), Acts s ∧ initiatorLive s.dev i = true ∧ openTx s.dev i = some
      t ∧ shadowed s.dev (BitVec.toNat a) = true ∧ writeDenied s.dev i (BitVec.toNat a) Width.w32 = none ∧ underTestAt
      s.dev (BitVec.toNat a) = false ∧ badAt s.dev (BitVec.toNat a) = false ∧ BitVec.toNat a ≠ CTE_OWNSET ∧
      s.dev.trc.ringOut = [] ∧ (adjShadowed s.dev i (BitVec.toNat a) = true ∨ isPeripheral (BitVec.toNat a) = true) ∧
      (∀ (k : Fin 2), BitVec.toNat a ≠ ETHn_TXR_TAIL ↑k) ∧ (t.entries.any fun (e : CteEntry) ↦ decide (e.addr =
      shadowKey s.dev (BitVec.toNat a))) = true) ∧
    (∃ (s : State) (i : Initiator) (a : Word) (t : Tx), Acts s ∧ initiatorLive s.dev i = true ∧ openTx s.dev i = some
      t ∧ shadowed s.dev (BitVec.toNat a) = true ∧ writeDenied s.dev i (BitVec.toNat a) Width.w32 = none ∧ underTestAt
      s.dev (BitVec.toNat a) = false ∧ badAt s.dev (BitVec.toNat a) = false ∧ BitVec.toNat a ≠ CTE_OWNSET ∧
      s.dev.trc.ringOut = [] ∧ (adjShadowed s.dev i (BitVec.toNat a) = true ∨ isPeripheral (BitVec.toNat a) = true) ∧
      (∀ (k : Fin 2), BitVec.toNat a ≠ ETHn_TXR_TAIL ↑k) ∧ (t.entries.any fun (e : CteEntry) ↦ decide (e.addr =
      shadowKey s.dev (BitVec.toNat a))) = false ∧ shadowUsed s.dev < 1024) ∧
    (∃ (s : State) (i : Initiator) (a : Word) (t : Tx), Acts s ∧ initiatorLive s.dev i = true ∧ openTx s.dev i = some
      t ∧ shadowed s.dev (BitVec.toNat a) = true ∧ writeDenied s.dev i (BitVec.toNat a) Width.w32 = none ∧ underTestAt
      s.dev (BitVec.toNat a) = false ∧ badAt s.dev (BitVec.toNat a) = false ∧ BitVec.toNat a ≠ CTE_OWNSET ∧
      s.dev.trc.ringOut = [] ∧ (adjShadowed s.dev i (BitVec.toNat a) = true ∨ isPeripheral (BitVec.toNat a) = true) ∧
      (∀ (k : Fin 2), BitVec.toNat a ≠ ETHn_TXR_TAIL ↑k) ∧ (t.entries.any fun (e : CteEntry) ↦ decide (e.addr =
      shadowKey s.dev (BitVec.toNat a))) = false ∧ 1024 ≤ shadowUsed s.dev) ∧
    (∃ (s : State) (i : Initiator) (kind : Nat) (c : Instr), Acts s ∧ writeArrives s.dev i CTE_COMMIT ∧ (kind, c) ∈
      [(0, Instr.cteCommitImmediate i), (1, Instr.cteCommitLoadInstant i), (2, Instr.cteCommitTime i), (3,
      Instr.cteCommitAngle i)] ∧ mayHold i = false) ∧
    (∃ (s : State) (i : Initiator) (kind : Nat) (c : Instr), Acts s ∧ writeArrives s.dev i CTE_COMMIT ∧ (kind, c) ∈
      [(0, Instr.cteCommitImmediate i), (1, Instr.cteCommitLoadInstant i), (2, Instr.cteCommitTime i), (3,
      Instr.cteCommitAngle i)] ∧ mayHold i = true ∧ openTx s.dev i = none) ∧
    (∃ (s : State) (i : Initiator) (kind : Nat) (c : Instr) (t : Tx), Acts s ∧ writeArrives s.dev i CTE_COMMIT ∧
      (kind, c) ∈ [(0, Instr.cteCommitImmediate i), (1, Instr.cteCommitLoadInstant i), (2, Instr.cteCommitTime i), (3,
      Instr.cteCommitAngle i)] ∧ mayHold i = true ∧ openTx s.dev i = some t) :=
  ⟨⟨px, .sis, by unfold Acts writeArrives; decide +kernel⟩,
   ⟨px, .px0, 2, by unfold Acts writeArrives; decide +kernel⟩,
   ⟨(px [(CFG_FEAT_STATUS, 0)]), .px0, 1, 1, by unfold Acts writeArrives; decide +kernel⟩,
   ⟨(tx [{T with by_ := .px1, token := 1}]), .px0, 1, by unfold Acts writeArrives; decide +kernel⟩,
   ⟨(tx [T [e1]]), .px0, (BitVec.ofNat 32 (FCR_SRCkkkk_CFG 5)), (T [e1]), by unfold Acts; decide +kernel⟩,
   ⟨(tx [T [e1]]), .px0, (BitVec.ofNat 32 (FCR_SRCkkkk_CFG 6)), (T [e1]), by unfold Acts; decide +kernel⟩,
   ⟨(tx [T (List.replicate 1024 e1)]), .px0, (BitVec.ofNat 32 (FCR_SRCkkkk_CFG 6)), (T (List.replicate 1024 e1)),
     by unfold Acts; decide +kernel⟩,
   ⟨px, .sis, 2, (.cteCommitTime .sis), by unfold Acts writeArrives; decide +kernel⟩,
   ⟨px, .px0, 2, (.cteCommitTime .px0), by unfold Acts writeArrives; decide +kernel⟩,
   ⟨(tx [T [e1]] [(bank .px0 CTE_COMMIT_ARG, 77)]), .px0, 0, (.cteCommitImmediate .px0), (T [e1]),
     by unfold Acts writeArrives; decide +kernel⟩⟩

/-- The hypotheses of Obligations.TransactionsApplyAndRollBack can be met. -/
theorem witness_TransactionsApplyAndRollBack :
    (∃ (s : State) (i : Initiator), Acts s ∧ (∀ (t : Tx), txOf s.dev i = some t → t.phase ≠ TxPhase.validating ∨
      firstToValidate s.dev t = false)) ∧
    (∃ (s : State) (i : Initiator) (t : Tx) (code : Nat) (addr : Nat), Acts s ∧ txOf s.dev i = some t ∧ t.phase =
      TxPhase.validating ∧ firstToValidate s.dev t = true ∧ ((∃ (f : CheckFail), txFail s.dev t = some (f, addr) ∧
      code = f.code) ∨ txFail s.dev t = none ∧ addr = 0 ∧ (t.kind = 1 ∧ bits t.arg 7 0 = 0 ∧ code = 6 ∨ t.kind = 2 ∧
      (BitVec.toNat (t.arg - nowLo s.dev) < 16 ∨ 2147483647 < BitVec.toNat (t.arg - nowLo s.dev)) ∧ code = 10 ∨ t.kind
      = 3 ∧ (axisInUse s.dev (bits t.arg 25 24) = false ∨ bits t.arg 27 26 = 0 ∨ bits t.arg 27 26 = 3) ∧ code = 6))) ∧
    (∃ (s : State) (i : Initiator) (t : Tx) (b : Option Nat), Acts s ∧ txOf s.dev i = some t ∧ t.phase =
      TxPhase.validating ∧ firstToValidate s.dev t = true ∧ txFail s.dev t = none ∧ t.rollback = false ∧ (t.kind = 2 ∧
      16 ≤ BitVec.toNat (t.arg - nowLo s.dev) ∧ BitVec.toNat (t.arg - nowLo s.dev) ≤ 2147483647 ∧ b = some
      (BitVec.toNat s.dev.ltb + BitVec.toNat (t.arg - nowLo s.dev)) ∨ t.kind = 3 ∧ axisInUse s.dev (bits t.arg 25 24)
      = true ∧ (bits t.arg 27 26 = 1 ∨ bits t.arg 27 26 = 2) ∧ b = none ∨ t.kind = 1 ∧ ∃ (g : Fin 8), bits t.arg 7 0 =
      2 ^ g.val ∧ (vget s.dev.pwm.groups ↑g).running = true ∧ BitVec.toNat s.dev.ltb + 16 ≤ (vget s.dev.pwm.groups
      ↑g).nextLi ∧ b = some ((vget s.dev.pwm.groups ↑g).nextLi - 16))) ∧
    (∃ (s : State) (i : Initiator) (t : Tx), Acts s ∧ txOf s.dev i = some t ∧ t.phase = TxPhase.validating ∧
      firstToValidate s.dev t = true ∧ txFail s.dev t = none ∧ t.kind = 0 ∧ waitsOn s.dev t = false) ∧
    (∃ (s : State) (i : Initiator), Acts s ∧ (∀ (t : Tx) (b : Nat), txOf s.dev i = some t → t.boundary = some b →
      t.phase = TxPhase.pending → BitVec.toNat s.dev.ltb < b ∨ waitsOn s.dev t = true)) ∧
    (∃ (s : State) (i : Initiator) (t : Tx) (b : Nat), Acts s ∧ txOf s.dev i = some t ∧ t.boundary = some b ∧ t.phase
      = TxPhase.pending ∧ b ≤ BitVec.toNat s.dev.ltb ∧ waitsOn s.dev t = false) ∧
    (∃ (s : State) (i : Initiator), Acts s ∧ writeArrives s.dev i CTE_ROLLBACK ∧ mayHold i = false) ∧
    (∃ (s : State) (i : Initiator) (v : Word), Acts s ∧ writeArrives s.dev i CTE_ROLLBACK ∧ mayHold i = true ∧ bit v 0
      = false) ∧
    (∃ (s : State) (i : Initiator) (v : Word), Acts s ∧ writeArrives s.dev i CTE_ROLLBACK ∧ mayHold i = true ∧ bit v 0
      = true ∧ txOf s.dev i = none) ∧
    (∃ (s : State) (i : Initiator) (v : Word) (t : Tx), Acts s ∧ writeArrives s.dev i CTE_ROLLBACK ∧ mayHold i = true
      ∧ bit v 0 = true ∧ txOf s.dev i = some t ∧ t.phase = TxPhase.validating) ∧
    (∃ (s : State) (i : Initiator) (v : Word) (t : Tx), Acts s ∧ writeArrives s.dev i CTE_ROLLBACK ∧ mayHold i = true
      ∧ bit v 0 = true ∧ txOf s.dev i = some t ∧ t.phase = TxPhase.pending ∧ waitedOn s.dev t = true) ∧
    (∃ (s : State) (i : Initiator) (v : Word) (t : Tx), Acts s ∧ writeArrives s.dev i CTE_ROLLBACK ∧ mayHold i = true
      ∧ bit v 0 = true ∧ txOf s.dev i = some t ∧ (t.phase = TxPhase.opened ∨ t.phase = TxPhase.pending ∧ waitedOn
      s.dev t = false)) ∧
    (∃ (s : State) (i : Initiator), Acts s ∧ (∀ (t : Tx), openTx s.dev i = some t → BitVec.toNat s.dev.ltb <
      t.lastWrite + fld s.dev CTE_CTRL 13 0 * 800000)) ∧
    (∃ (s : State) (i : Initiator) (t : Tx), Acts s ∧ openTx s.dev i = some t ∧ t.lastWrite + fld s.dev CTE_CTRL 13 0
      * 800000 ≤ BitVec.toNat s.dev.ltb) :=
  ⟨⟨(tx [T]), .px0, by unfold Acts; decide +kernel⟩,
   ⟨(tx [{V [e1] with full := true}]), .px0, {V [e1] with full := true}, 5, 0, by unfold Acts; decide +kernel,
     by decide +kernel, by decide +kernel, by decide +kernel, .inl (fail_code (by decide +kernel))⟩,
   ⟨(tx [V [e1] 2 100000016]), .px0, (V [e1] 2 100000016), (some 100000016), by unfold Acts; decide +kernel⟩,
   ⟨(tx [V [e1] 0]), .px0, (V [e1] 0), by unfold Acts; decide +kernel⟩,
   ⟨(tx [P [e1] 100000001]), .px0, by unfold Acts; decide +kernel, fun t b h1 h2 h3 =>
     by cases only h1 (y := P [e1] 100000001) (by decide +kernel); cases h2; left; decide +kernel⟩,
   ⟨(tx [P [e1]] [(FCR_SRCkkkk_CFG 5, 0xC0000007), (CTE_OPEN, 0x00010001), (bank .px0 CTE_TX_WRITES, 1)]), .px0, (P
     [e1]), 100000000, by unfold Acts; decide +kernel⟩,
   ⟨px, .sis, by unfold Acts writeArrives; decide +kernel⟩,
   ⟨px, .px0, 2, by unfold Acts writeArrives; decide +kernel⟩,
   ⟨px, .px0, 1, by unfold Acts writeArrives; decide +kernel⟩,
   ⟨(tx [V [e1]]), .px0, 1, (V [e1]), by unfold Acts writeArrives; decide +kernel⟩,
   ⟨(tx [P [e1], {P [e1] with by_ := .px1, order := 4}]), .px0, 1, (P [e1]),
     by unfold Acts writeArrives; decide +kernel⟩,
   ⟨(tx [T [e1]]), .px0, 1, (T [e1]), by unfold Acts writeArrives; decide +kernel⟩,
   ⟨(tx [{T with lastWrite := 92000001}] [(CTE_CTRL, 10)]), .px0, by unfold Acts; decide +kernel⟩,
   ⟨(tx [{T with lastWrite := 92000000}] [(CTE_CTRL, 10)]), .px0, {T with lastWrite := 92000000},
     by unfold Acts; decide +kernel⟩⟩

/-- The hypotheses of Obligations.OwnershipRequest can be met. -/
theorem witness_OwnershipRequest :
    (∃ (s : State) (i : Initiator), Acts s ∧ writeArrives s.dev i CTE_OWNSET ∧ openTx s.dev i = none) ∧
    (∃ (s : State) (i : Initiator) (t : Tx), Acts s ∧ writeArrives s.dev i CTE_OWNSET ∧ openTx s.dev i = some t ∧
      shadowUsed s.dev < 1024) ∧
    (∃ (s : State) (i : Initiator) (t : Tx), Acts s ∧ writeArrives s.dev i CTE_OWNSET ∧ openTx s.dev i = some t ∧ 1024
      ≤ shadowUsed s.dev) ∧
    (∃ (s : State) (i : Initiator) (t : Tx) (v : Word) (c : Instr), Acts s ∧ txOf s.dev i = some t ∧ t.entries =
      [{ addr := CTE_OWNSET, value := v }] ∧ waitsOn s.dev t = false ∧ (c = Instr.cteValidationDone i ∧ t.phase =
      TxPhase.validating ∧ firstToValidate s.dev t = true ∧ txFail s.dev t = none ∧ t.kind = 0 ∨ c =
      Instr.cteBoundaryApply i ∧ t.phase = TxPhase.pending ∧ ∃ (b : Nat), t.boundary = some b ∧ b ≤ BitVec.toNat
      s.dev.ltb)) :=
  ⟨⟨px, .px0, by unfold Acts writeArrives; decide +kernel⟩,
   ⟨(tx [T [e1, ⟨CTE_OWNSET, 5⟩]]), .px0, (T [e1, ⟨CTE_OWNSET, 5⟩]), by unfold Acts writeArrives; decide +kernel⟩,
   ⟨(tx [T (List.replicate 1024 e1)]), .px0, (T (List.replicate 1024 e1)),
     by unfold Acts writeArrives; decide +kernel⟩,
   ⟨(tx [V [⟨CTE_OWNSET, 0x04100003⟩]]), .px0, (V [⟨CTE_OWNSET, 0x04100003⟩]), 0x04100003, (.cteValidationDone .px0),
     by unfold Acts; decide +kernel⟩⟩

/-- The hypotheses of Obligations.JournalCommands can be met. -/
theorem witness_JournalCommands :
    (∃ (s : State) (i : Initiator) (v : Word), Acts s ∧ writeArrives s.dev i JRN_FW_WRITE ∧ bit v 31 = false) ∧
    (∃ (s : State) (i : Initiator) (v : Word), Acts s ∧ writeArrives s.dev i JRN_FW_WRITE ∧ bit v 31 = true ∧ fwBusy
      s.dev i = true) ∧
    (∃ (s : State) (i : Initiator) (v : Word), Acts s ∧ writeArrives s.dev i JRN_FW_WRITE ∧ bit v 31 = true ∧ fwBusy
      s.dev i = false ∧ bits v 7 0 < 128) ∧
    (∃ (s : State) (i : Initiator) (v : Word), Acts s ∧ writeArrives s.dev i JRN_FW_WRITE ∧ bit v 31 = true ∧ fwBusy
      s.dev i = false ∧ 128 ≤ bits v 7 0 ∧ 7168 < s.dev.fcr.stage.length) ∧
    (∃ (s : State) (i : Initiator) (v : Word), Acts s ∧ writeArrives s.dev i JRN_FW_WRITE ∧ bit v 31 = true ∧ fwBusy
      s.dev i = false ∧ 128 ≤ bits v 7 0 ∧ s.dev.fcr.stage.length ≤ 7168) ∧
    (∃ (s : State), Acts s ∧ (flag s.dev JRN_STATUS 0 = false ∨ s.dev.fcr.stage = [] ∧ s.dev.jrn.offered = [])) ∧
    (∃ (s : State) (r : FcrRec) (l : List FcrRec), Acts s ∧ flag s.dev JRN_STATUS 0 = true ∧ s.dev.fcr.stage = r :: l)
      ∧
    (∃ (s : State) (r : JrnRec) (l : List JrnRec), Acts s ∧ flag s.dev JRN_STATUS 0 = true ∧ s.dev.fcr.stage = [] ∧
      s.dev.jrn.offered = r :: l) ∧
    (∃ (s : State) (i : Initiator), Acts s ∧ writeArrives s.dev i JRN_SEQ_Q ∧ featureOn s.dev 3 = false) ∧
    (∃ (s : State) (i : Initiator) (v : Word), Acts s ∧ writeArrives s.dev i JRN_SEQ_Q ∧ featureOn s.dev 3 = true ∧
      List.find? (fun (r : JrnRec) ↦ decide (r.jseq = BitVec.toNat v)) s.dev.jrn.ring = none) ∧
    (∃ (s : State) (i : Initiator) (v : Word) (r : JrnRec), Acts s ∧ writeArrives s.dev i JRN_SEQ_Q ∧ featureOn s.dev
      3 = true ∧ List.find? (fun (r : JrnRec) ↦ decide (r.jseq = BitVec.toNat v)) s.dev.jrn.ring = some r ∧
      s.dev.icf.badWords = []) :=
  ⟨⟨px, .px0, 5, by unfold Acts writeArrives; decide +kernel⟩,
   ⟨(jo [] [fr]), .px1, 0x80000081, by unfold Acts writeArrives; decide +kernel⟩,
   ⟨(jo [] [fr]), .px0, 0x8000007f, by unfold Acts writeArrives; decide +kernel⟩,
   ⟨(jo [] [fr] (List.replicate 7169 fc)), .px0, 0x80000080, by unfold Acts writeArrives; decide +kernel⟩,
   ⟨(jo [(bank .px0 (JRN_FW_DATA 3), 0x12345678)] [fr] (List.replicate 7168 fc)), .px0, 0x80000080,
     by unfold Acts writeArrives; decide +kernel⟩,
   ⟨jo, by unfold Acts; decide +kernel⟩,
   ⟨(jo [] [fr] [fc, fc]), fc, [fc], by unfold Acts; decide +kernel⟩,
   ⟨(jo [] [fr] []), fr, [], by unfold Acts; decide +kernel⟩,
   ⟨jo, .px0, by unfold Acts writeArrives; decide +kernel⟩,
   ⟨(jo [(CFG_DRVFEAT 0, 8)]), .px0, 5, by unfold Acts writeArrives; decide +kernel⟩,
   ⟨(jo [(CFG_DRVFEAT 0, 8)] [] [] [{fr with jseq := 5}]), .px0, 5, {fr with jseq := 5},
     by unfold Acts writeArrives; decide +kernel⟩⟩

end Transactions

namespace Ethernet

def pe : Sender := ⟨0xC0A80105, 5000, 0x020304050607⟩
def macA : List (Nat × Word) := [(ETHn_CFG 0, 0x80000300), (ETHn_CFG 1, 0x80030000), (ETHn_MAC_LO 0, 0x44332211),
  (ETHn_MAC_HI 0, 0x6655), (ETHn_IPADDR 0, 0xC0A80101),
  (TRC_CFG, 0x8000C000), (ETHn_TSLAT 0, 0x00030005), (ETHn_STATUS 0, 1),
  (ETHn_RXR_BASE 0, 0x20001000), (ETHn_RXR_LEN 0, 4), (ETHn_RXR_HEAD 0, 3), (ETHn_TXR_BASE 0, 0x20010000),
    (ETHn_TXR_LEN 0, 4), (ETHn_TXR_HEAD 0, 3), (NTU_CTRL, 0x8000000A), (NTU_GM_ID_LO, 7)]
def en (l : List (Nat × Word) := []) (f : Dev → Dev := id) (mem : List Host.Cell := []) : State :=
  {px (macA ++ l) {} {} {} f with mem}
/-- a UDP frame to MAC 0 -/
def ufr (dport : Nat) (p : List Byte) (mac : List Byte := [0x11,0x22,0x33,0x44,0x55,0x66]) : List Byte :=
  let src := toBe32 pe.ip.toNat
  let dst := toBe32 0xC0A80101
  let f := mac ++ mac48 pe.mac ++ toBe16 0x0800 ++ ipHeader src dst (28 + p.length) ++ udpPart src dst pe.port.toNat
    dport p
  f ++ List.replicate (60 - f.length) 0
def plain : List Byte := List.replicate 12 0xff ++ toBe16 0x0806 ++ List.replicate 50 7
def ptp (msg : Byte) (gm : Nat := 7) (twoStep : Bool := false) : List Byte := List.replicate 12 0xff ++ toBe16 0x88f7
  ++ [msg, 2, 0, 44, 5, 0] ++ [if twoStep then 2 else 0, 8] ++ List.replicate 8 1 ++ List.replicate 4 0 ++ toBe32 0 ++
  toBe32 gm ++ [0,1] ++ toBe16 0x1234 ++ List.replicate 12 0 ++ List.replicate 20 0
def w0 : List Host.Cell := Memory.writeBytes [] 0x20011800 (toLe32 (0x80000000 + 64 + 3*0x1000000) ++ List.replicate
  12 0 ++ plain)
def oneS := en [(NTU_CNT, 500000), (NTU_EP_SEC_LO, 77), (NTU_EP_NS, 999999999)] (fun d => modMac 0 (fun m =>
  {m with cur := some {pcp := 3, slot := none, bytes := ptp 0}}) d)

/-- The hypotheses of Obligations.EthernetFramesAndLink can be met. -/
theorem witness_EthernetFramesAndLink :
    (∃ (s : State) (n : Fin 2), Acts s ∧ flag s.dev (ETHn_CFG ↑n) 31 = false) ∧
    (∃ (s : State) (n : Fin 2) (f : List Byte), Acts s ∧ flag s.dev (ETHn_CFG ↑n) 31 = true ∧ (f.length < 60 ∨ 1518 <
      f.length)) ∧
    (∃ (s : State) (n : Fin 2) (f : List Byte), Acts s ∧ flag s.dev (ETHn_CFG ↑n) 31 = true ∧ 60 ≤ f.length ∧ f.length
      ≤ 1518) ∧
    (∃ (s : State) (n : Fin 2) (f : List Byte) (p : Nat), Acts s ∧ flag s.dev (ETHn_CFG ↑n) 31 = true ∧ 60 ≤ f.length
      ∧ f.length ≤ 1518 ∧ hwPort s.dev f = some p ∧ hwGood s.dev (↑n) f = false) ∧
    (∃ (s : State) (n : Fin 2) (f : List Byte) (p : Nat) (o : Nat), Acts s ∧ flag s.dev (ETHn_CFG ↑n) 31 = true ∧ 60 ≤
      f.length ∧ f.length ≤ 1518 ∧ hwPort s.dev f = some p ∧ hwGood s.dev (↑n) f = true ∧ etherOfs f = some o ∧ p =
      47860) ∧
    (∃ (s : State) (n : Fin 2) (f : List Byte) (p : Nat) (o : Nat), Acts s ∧ flag s.dev (ETHn_CFG ↑n) 31 = true ∧ 60 ≤
      f.length ∧ f.length ≤ 1518 ∧ hwPort s.dev f = some p ∧ hwGood s.dev (↑n) f = true ∧ etherOfs f = some o ∧ p ≠
      47860 ∧ 2 ≤ (framePayload f o).length ∧ byteAt (framePayload f o) 1 = 1) ∧
    (∃ (s : State) (n : Fin 2) (f : List Byte) (i : Nat) (a : Nat), Acts s ∧ flag s.dev (ETHn_CFG ↑n) 31 = true ∧ 60 ≤
      f.length ∧ f.length ≤ 1518 ∧ hwPort s.dev f = none ∧ ptpOfs f = none ∧ i = fld s.dev (ETHn_RXR_HEAD ↑n) 10 0 ∧ a
      = BitVec.toNat (rd s.dev (ETHn_RXR_BASE ↑n)) + 2048 * i ∧ slotUsable s.dev (↑n) a = true ∧ bit (Memory.readWord
      s.mem a) 31 = true) ∧
    (∃ (s : State) (n : Fin 2) (f : List Byte) (i : Nat) (a : Nat), Acts s ∧ flag s.dev (ETHn_CFG ↑n) 31 = true ∧ 60 ≤
      f.length ∧ f.length ≤ 1518 ∧ hwPort s.dev f = none ∧ ptpOfs f = none ∧ i = fld s.dev (ETHn_RXR_HEAD ↑n) 10 0 ∧ a
      = BitVec.toNat (rd s.dev (ETHn_RXR_BASE ↑n)) + 2048 * i ∧ (slotUsable s.dev (↑n) a = false ∨ bit
      (Memory.readWord s.mem a) 31 = false)) ∧
    (∃ (s : State) (n : Fin 2) (f : List Byte) (p : Nat), Acts s ∧ flag s.dev (ETHn_CFG ↑n) 31 = true ∧ 60 ≤ f.length
      ∧ f.length ≤ 1518 ∧ ptpOfs f = some p ∧ byteAt f p % 16 ≤ 3 ∧ flag s.dev (ETHn_CFG ↑n) 8 = true ∧ (vget
      s.dev.ntu.fifos (2 * ↑n)).items.length < 16) ∧
    (∃ (s : State) (i : Initiator) (n : Fin 2) (v : Word), Acts s ∧ WriteReaches s.dev i (ETHn_TXR_TAIL ↑n) ∧ fld
      s.dev (ETHn_TXR_LEN ↑n) 10 0 ≤ BitVec.toNat v) ∧
    (∃ (s : State) (i : Initiator) (n : Fin 2) (v : Word), Acts s ∧ WriteReaches s.dev i (ETHn_TXR_TAIL ↑n) ∧
      BitVec.toNat v < fld s.dev (ETHn_TXR_LEN ↑n) 10 0) ∧
    (∃ (s : State) (n : Fin 2), Acts s ∧ (macOf s.dev ↑n).cur = none) ∧
    (∃ (s : State) (n : Fin 2) (x : TxFrame), Acts s ∧ (macOf s.dev ↑n).cur = some x ∧ x.slot = none ∧ x.stamp = false
      ∧ ptpOfs x.bytes = none) ∧
    (∃ (s : State) (n : Fin 2) (i : Nat) (a : Nat) (x : TxFrame), Acts s ∧ (macOf s.dev ↑n).cur = some x ∧ x.slot =
      some i ∧ x.stamp = false ∧ ptpOfs x.bytes = none ∧ i = fld s.dev (ETHn_TXR_HEAD ↑n) 10 0 ∧ a = BitVec.toNat (rd
      s.dev (ETHn_TXR_BASE ↑n)) + 2048 * i ∧ slotUsable s.dev (↑n) a = true ∧ ((macOf s.dev ↑n).taken = if fld s.dev
      (ETHn_TXR_LEN ↑n) 10 0 ≤ i + 1 then 0 else i + 1) ∧ (macOf s.dev ↑n).taken ≠ i ∧ (macOf s.dev ↑n).taken < 2048)
      ∧
    (∃ (s : State) (n : Fin 2) (t : Nat) (p : Nat) (sec : Nat) (ns : Nat) (fr : Nat) (x : TxFrame), Acts s ∧ (macOf
      s.dev ↑n).cur = some x ∧ x.slot = none ∧ x.stamp = false ∧ ptpOfs x.bytes = some p ∧ byteAt x.bytes p % 16 = 0 ∧
      p + 44 ≤ x.bytes.length ∧ byteAt x.bytes (p + 6) / 2 % 2 = 0 ∧ flag s.dev (ETHn_CFG ↑n) 8 = true ∧ flag s.dev
      (ETHn_CFG ↑n) 9 = true ∧ flag s.dev NTU_STATUS 9 = false ∧ (sec, ns, fr) = ptpTime s.dev (frameStamp s.dev (↑n)
      t true)) ∧
    (∃ (s : State) (i : Initiator) (n : Fin 2), Acts s ∧ WriteReaches s.dev i (ETHn_MDIO ↑n) ∧ flag s.dev (ETHn_MDIO
      ↑n) 29 = true) ∧
    (∃ (s : State) (i : Initiator) (n : Fin 2) (v : Word) (c : Instr) (rdn : Bool), Acts s ∧ WriteReaches s.dev i
      (ETHn_MDIO ↑n) ∧ flag s.dev (ETHn_MDIO ↑n) 29 = false ∧ (c = Instr.ethMdioRead i n v ∧ rdn = true ∨ c =
      Instr.ethMdioWrite i n v ∧ rdn = false)) ∧
    (∃ (s : State) (n : Fin 2), Acts s ∧ (macOf s.dev ↑n).mdio = none) ∧
    (∃ (s : State) (n : Fin 2) (rdn : Bool), Acts s ∧ (macOf s.dev ↑n).mdio = some rdn) ∧
    (∃ (s : State) (n : Fin 2), Acts s ∧ flag s.dev (ETHn_STATUS ↑n) 0 = false) ∧
    (∃ (s : State) (n : Fin 2), Acts s ∧ flag s.dev (ETHn_STATUS ↑n) 0 = true) ∧
    (∃ (s : State), Acts s) :=
  ⟨⟨up, 0, by unfold Acts; decide +kernel⟩,
   ⟨en, 0, [1,2], by unfold Acts; decide +kernel⟩,
   ⟨en, 0, plain, by unfold Acts; decide +kernel⟩,
   ⟨en, 0, (ufr 47860 [1,2,3] [1,2,3,4,5,6]), 47860, by unfold Acts; decide +kernel⟩,
   ⟨en, 0, (ufr 47860 [1,2,3]), 47860, 12, by unfold Acts; decide +kernel⟩,
   ⟨en, 0, (ufr 0xC000 [1,1,3,4,5,6,7,8,1,0,0,0,9,9,9,9]), 0xC000, 12, by unfold Acts; decide +kernel⟩,
   ⟨(en [] id (Memory.writeBytes [] 0x20002800 [0,0,0,0x80])), 0, plain, 3, 0x20002800,
     by unfold Acts; decide +kernel⟩,
   ⟨(en [C Src.ETH_RXOVF]), 0, plain, 3, 0x20002800, by unfold Acts; decide +kernel⟩,
   ⟨en, 0, (ptp 0), 14, by unfold Acts; decide +kernel⟩,
   ⟨en, .px0, 0, 4, by unfold Acts WriteReaches; decide +kernel⟩,
   ⟨(en [] (fun d => modMac 0 (fun m => {m with taken := 3}) d) w0), .px0, 0, 0,
     by unfold Acts WriteReaches; decide +kernel⟩,
   ⟨en, 0, by unfold Acts; decide +kernel⟩,
   ⟨(en [] (fun d => modMac 0 (fun m =>
     {m with cur := some {pcp := 3, slot := none, bytes := plain}, queue := [{pcp := 2, slot := none, bytes := [1]},{pcp := 4, slot := none, bytes := [2]}, {pcp := 4, slot := none, bytes := [3]}]})
     d)), 0, {pcp := 3, slot := none, bytes := plain}, by unfold Acts; decide +kernel⟩,
   ⟨(en [] (fun d => modMac 0 (fun m => {m with taken := 0, cur := some {pcp := 3, slot := some 3, bytes := plain}})
     d) w0), 0, 3, 0x20011800, {pcp := 3, slot := some 3, bytes := plain}, by unfold Acts; decide +kernel⟩,
   ⟨oneS, 0, 99999000, 14, ((ptpTime oneS.dev (frameStamp oneS.dev 0 99999000 true)).1), ((ptpTime oneS.dev
     (frameStamp oneS.dev 0 99999000 true)).2.1), ((ptpTime oneS.dev (frameStamp oneS.dev 0 99999000 true)).2.2),
     {pcp := 3, slot := none, bytes := ptp 0}, by unfold Acts; decide +kernel⟩,
   ⟨(en [(ETHn_MDIO 0, 0x20000000)]), .px0, 0, by unfold Acts WriteReaches; decide +kernel⟩,
   ⟨en, .px0, 0, 0xC1230005, (.ethMdioRead .px0 0 0xC1230005), true, by unfold Acts WriteReaches; decide +kernel⟩,
   ⟨en, 0, by unfold Acts; decide +kernel⟩,
   ⟨(en [(ETHn_MDIO 0, 0xE1230005)] (fun d => modMac 0 (fun m => {m with mdio := some true}) d)), 0, true,
     by unfold Acts; decide +kernel⟩,
   ⟨en, 1, by unfold Acts; decide +kernel⟩,
   ⟨(en [C Src.ETH_LINK_LOST]), 0, by unfold Acts; decide +kernel⟩,
   ⟨en, by unfold Acts; decide +kernel⟩⟩

/-- The hypotheses of Obligations.NetworkTime can be met. -/
theorem witness_NetworkTime :
    (∃ (s : State), Acts s ∧ s.dev.ntu.set = false) ∧
    (∃ (s : State), Acts s ∧ s.dev.ntu.set = true) ∧
    (∃ (s : State), Acts s ∧ s.dev.ntu.wrapDue = false) ∧
    (∃ (s : State), Acts s ∧ s.dev.ntu.wrapDue = true ∧ flag s.dev NTU_SHD_CTRL 31 = true ∧ fld s.dev NTU_SHD_CTRL 15
      0 = (fld s.dev NTU_WRAPCNT 15 0 + 1) % 65536) ∧
    (∃ (s : State), Acts s ∧ s.dev.ntu.wrapDue = true ∧ (flag s.dev NTU_SHD_CTRL 31 = false ∨ fld s.dev NTU_SHD_CTRL
      15 0 ≠ (fld s.dev NTU_WRAPCNT 15 0 + 1) % 65536)) ∧
    (∃ (s : State) (i : Initiator) (v : Word), Acts s ∧ WriteReaches s.dev i NTU_SHD_CTRL ∧ s.dev.ntu.wrapDue = false
      ∧ bit v 30 = false) ∧
    (∃ (s : State) (i : Initiator) (v : Word), Acts s ∧ WriteReaches s.dev i NTU_SHD_CTRL ∧ s.dev.ntu.wrapDue = false
      ∧ bit v 31 = false) ∧
    (∃ (s : State) (i : Initiator) (v : Word), Acts s ∧ WriteReaches s.dev i NTU_SHD_CTRL ∧ s.dev.ntu.wrapDue = false
      ∧ bit v 31 = true ∧ flag s.dev NTU_STATUS 9 = false) ∧
    (∃ (s : State) (i : Initiator) (v : Word), Acts s ∧ WriteReaches s.dev i NTU_SHD_CTRL ∧ s.dev.ntu.wrapDue = false
      ∧ bit v 31 = true ∧ flag s.dev NTU_STATUS 9 = true) ∧
    (∃ (s : State) (i : Initiator) (v : Word), Acts s ∧ WriteReaches s.dev i NTU_STEP ∧ s.dev.ntu.wrapDue = false ∧
      (1073741824 < (sbits v 31 0).natAbs ∨ flag s.dev NTU_STATUS 8 = true)) ∧
    (∃ (s : State) (i : Initiator) (v : Word), Acts s ∧ WriteReaches s.dev i NTU_STEP ∧ s.dev.ntu.wrapDue = false ∧
      (sbits v 31 0).natAbs ≤ 1073741824 ∧ flag s.dev NTU_STATUS 8 = false ∧ BitVec.toNat (rd s.dev NTU_STEP_LIMIT) <
      (sbits v 31 0).natAbs ∧ flag s.dev NTU_STEP_AUTH 0 = false) ∧
    (∃ (s : State) (i : Initiator) (v : Word), Acts s ∧ WriteReaches s.dev i NTU_STEP ∧ s.dev.ntu.wrapDue = false ∧
      (sbits v 31 0).natAbs ≤ 1073741824 ∧ flag s.dev NTU_STATUS 8 = false ∧ ((sbits v 31 0).natAbs ≤ BitVec.toNat (rd
      s.dev NTU_STEP_LIMIT) ∨ flag s.dev NTU_STEP_AUTH 0 = true) ∧ (↑(ntuTotal s.dev) + ntuInc s.dev +
      ((match s.dev.ntu.step with
          | some y => y
          | none => 0) +
          sbits v 31 0) *
        16777216 <
    0 ∨
  72057594037927936 ≤
    ↑(ntuTotal s.dev) + ntuInc s.dev +
      ((match s.dev.ntu.step with
          | some y => y
          | none => 0) +
          sbits v 31 0) *
        16777216)) ∧
    (∃ (s : State) (i : Initiator) (v : Word), Acts s ∧ WriteReaches s.dev i NTU_STEP ∧ s.dev.ntu.wrapDue = false ∧
      (sbits v 31 0).natAbs ≤ 1073741824 ∧ flag s.dev NTU_STATUS 8 = false ∧ ((sbits v 31 0).natAbs ≤ BitVec.toNat (rd
      s.dev NTU_STEP_LIMIT) ∨ flag s.dev NTU_STEP_AUTH 0 = true) ∧ 0 ≤
  ↑(ntuTotal s.dev) + ntuInc s.dev +
    ((match s.dev.ntu.step with
        | some y => y
        | none => 0) +
        sbits v 31 0) *
      16777216 ∧ ↑(ntuTotal s.dev) + ntuInc s.dev +
    ((match s.dev.ntu.step with
        | some y => y
        | none => 0) +
        sbits v 31 0) *
      16777216 <
  72057594037927936) ∧
    (∃ (s : State) (i : Initiator), Acts s ∧ WriteReaches s.dev i NTU_STEP_AUTH) ∧
    (∃ (s : State) (i : Initiator) (v : Word), Acts s ∧ WriteReaches s.dev i NTU_SET_GO ∧ s.dev.ntu.wrapDue = false ∧
      bit v 0 = true ∧ flag s.dev NTU_STATUS 10 = true ∧ flag s.dev NTU_STEP_AUTH 0 = false) ∧
    (∃ (s : State) (i : Initiator) (v : Word), Acts s ∧ WriteReaches s.dev i NTU_SET_GO ∧ s.dev.ntu.wrapDue = false ∧
      bit v 0 = true ∧ (flag s.dev NTU_STATUS 10 = false ∨ flag s.dev NTU_STEP_AUTH 0 = true)) ∧
    (∃ (s : State) (i : Initiator), Acts s ∧ WriteReaches s.dev i NTU_RATE ∧ flag s.dev NTU_STATUS 8 = true) ∧
    (∃ (s : State) (i : Initiator), Acts s ∧ WriteReaches s.dev i NTU_RATE ∧ flag s.dev NTU_STATUS 8 = false) ∧
    (∃ (s : State) (i : Initiator) (v : Word), Acts s ∧ WriteReaches s.dev i NTU_HOLD_CLR ∧ bit v 0 = false) ∧
    (∃ (s : State) (i : Initiator) (v : Word), Acts s ∧ WriteReaches s.dev i NTU_HOLD_CLR ∧ bit v 0 = true) ∧
    (∃ (s : State), Acts s ∧ (ntuSupervised s.dev = false ∨ flag s.dev NTU_STATUS 8 = true ∨ BitVec.toNat s.dev.ltb <
      s.dev.ntu.lastSync + fld s.dev NTU_CTRL 15 0 * 800000)) ∧
    (∃ (s : State), Acts s ∧ ntuSupervised s.dev = true ∧ flag s.dev NTU_STATUS 8 = false ∧ s.dev.ntu.lastSync + fld
      s.dev NTU_CTRL 15 0 * 800000 ≤ BitVec.toNat s.dev.ltb) ∧
    (∃ (s : State) (i : Initiator) (p : Fin 2) (tx : Bool), Acts s ∧ ReadReaches s.dev i (fifoReg (2 * ↑p + b2n tx) 3)
      ∧ (vget s.dev.ntu.fifos (2 * ↑p + b2n tx)).items = []) ∧
    (∃ (s : State) (i : Initiator) (p : Fin 2) (tx : Bool) (x : Word × Word × Word × Word) (r : List (Word × Word ×
      Word × Word)), Acts s ∧ ReadReaches s.dev i (fifoReg (2 * ↑p + b2n tx) 3) ∧ (vget s.dev.ntu.fifos (2 * ↑p + b2n
      tx)).items = x :: r) ∧
    (∃ (s : State) (i : Initiator) (v : Word), Acts s ∧ WriteReaches s.dev i NTU_XS_REQ ∧ s.dev.ntu.wrapDue = false ∧
      bit v 0 = false) ∧
    (∃ (s : State) (i : Initiator) (v : Word), Acts s ∧ WriteReaches s.dev i NTU_XS_REQ ∧ s.dev.ntu.wrapDue = false ∧
      bit v 0 = true) :=
  ⟨⟨(en [(NTU_CNT, 0xffffffff), (NTU_RATE, 0xfffffff0)] (fun d => {d with ntu.step := some 55, ntu.frac := 3})),
    by unfold Acts; decide +kernel⟩,
   ⟨(en [(NTU_SHD_CTRL, 0x80000003), (NTU_STATUS, 0x200), (NTU_SET_CNT, 9), (NTU_SET_SEC_LO, 8), (NTU_SET_NS, 7)] (fun
     d => {d with ntu.step := some 55, ntu.frac := 3, ntu.set := true})), by unfold Acts; decide +kernel⟩,
   ⟨up, by unfold Acts; decide +kernel⟩,
   ⟨(en [(NTU_SHD_CTRL, 0x80000000), (NTU_WRAPCNT, 0x0001ffff), (NTU_SHD_SEC_LO, 5)] (fun d =>
     {d with ntu.wrapDue := true})), by unfold Acts; decide +kernel⟩,
   ⟨(en [(NTU_SHD_CTRL, 0x80000001), (NTU_WRAPCNT, 0x0001ffff), (NTU_SHD_SEC_LO, 5), C Src.NTU_EPOCH_STALE] (fun d =>
     {d with ntu.wrapDue := true})), by unfold Acts; decide +kernel⟩,
   ⟨en, .px0, 0x80000005, by unfold Acts WriteReaches; decide +kernel⟩,
   ⟨en, .px0, 0x40000005, by unfold Acts WriteReaches; decide +kernel⟩,
   ⟨en, .px0, 0xC0000005, by unfold Acts WriteReaches; decide +kernel⟩,
   ⟨(en [(NTU_STATUS, 0x200), (NTU_SHD_NS, 6)]), .px0, 0xC0000005, by unfold Acts WriteReaches; decide +kernel⟩,
   ⟨(en [(NTU_STEP_AUTH, 1)]), .px0, 0x40000001, by unfold Acts WriteReaches; decide +kernel⟩,
   ⟨(en [(NTU_STEP_LIMIT, 5), C Src.NTU_STEP_REFUSED]), .px0, 0xfffffffa,
     by unfold Acts WriteReaches; decide +kernel⟩,
   ⟨(en [(NTU_STEP_LIMIT, 6), C Src.NTU_STEP_REFUSED]), .px0, 0xfffffffa,
     by unfold Acts WriteReaches; decide +kernel⟩,
   ⟨(en [(NTU_STEP_LIMIT, 6), (NTU_CNT, 0xfffffff0)] (fun d => {d with ntu.step := some 5})), .px0, 0xfffffffa,
     by unfold Acts WriteReaches; decide +kernel⟩,
   ⟨en, .px0, by unfold Acts WriteReaches; decide +kernel⟩,
   ⟨(en [(NTU_STATUS, 0x400), C Src.NTU_STEP_REFUSED]), .px0, 1, by unfold Acts WriteReaches; decide +kernel⟩,
   ⟨(en [(NTU_STATUS, 0x400), (NTU_STEP_AUTH, 1)]), .px0, 1, by unfold Acts WriteReaches; decide +kernel⟩,
   ⟨(en [(NTU_STATUS, 0x100)]), .px0, by unfold Acts WriteReaches; decide +kernel⟩,
   ⟨en, .px0, by unfold Acts WriteReaches; decide +kernel⟩,
   ⟨(en [(NTU_STATUS, 0x100)]), .px0, 2, by unfold Acts WriteReaches; decide +kernel⟩,
   ⟨(en [(NTU_STATUS, 0x100)]), .px0, 1, by unfold Acts WriteReaches; decide +kernel⟩,
   ⟨up, by unfold Acts; decide +kernel⟩,
   ⟨(en [C Src.NTU_HOLDOVER] (fun d => {d with ntu.lastSync := 92000000})), by unfold Acts; decide +kernel⟩,
   ⟨en, .px0, 1, true, by unfold Acts ReadReaches; decide +kernel⟩,
   ⟨(en [] (fun d => {d with ntu.fifos := vset d.ntu.fifos 3 {items := [(0x80000001,2,3,4),(0x80000005,6,7,8)]}})),
     .px0, 1, true, (0x80000001,2,3,4), [(0x80000005,6,7,8)], by unfold Acts ReadReaches; decide +kernel⟩,
   ⟨en, .px0, 2, by unfold Acts WriteReaches; decide +kernel⟩,
   ⟨(en [(NTU_CNT, 5)]), .px0, 1, by unfold Acts WriteReaches; decide +kernel⟩⟩

end Ethernet

namespace Telemetry

def pe : Sender := ⟨0xC0A80105, 5000, 0x020304050607⟩
def macA : List (Nat × Word) := [(ETHn_CFG 0, 0x80000300), (ETHn_CFG 1, 0x80030000), (ETHn_MAC_LO 0, 0x44332211),
  (ETHn_MAC_HI 0, 0x6655), (ETHn_IPADDR 0, 0xC0A80101),
  (TRC_CFG, 0x8000C000), (ETHn_TSLAT 0, 0x00030005), (ETHn_STATUS 0, 1),
  (ETHn_RXR_BASE 0, 0x20001000), (ETHn_RXR_LEN 0, 4), (ETHn_RXR_HEAD 0, 3), (ETHn_TXR_BASE 0, 0x20010000),
    (ETHn_TXR_LEN 0, 4), (ETHn_TXR_HEAD 0, 3), (NTU_CTRL, 0x8000000A), (NTU_GM_ID_LO, 7)]
def trOwn : List (Nat × Owner) := ownOne ++ (List.range 6).map (fun k => (0x0D000000 + k, ⟨0x22, true⟩))
def tr (l : List (Nat × Word) := []) (f : Dev → Dev := id) (o := trOwn) : State := px (macA ++ [(TRC_ALLOW_MASK, 0)]
  ++ l) {} {} {} f #v[{topology := 1, polePairs := 4, nBase := 600000}, {}, {}, {}] o
def subs (x : Subscription) (k : Nat := 0) (d : Dev) : Dev := {d with trc.subs := vset d.trc.subs k x}
def s0 : Subscription := {nonce := 0x11223344, sender := pe, since := 99000000, seq := 5}
def act0 (l : List (Nat × Word) := []) : List (Nat × Word) := [(TRC_SUBs_STATE 0, 0x80000011), (TRC_SUBs_SENT 0, 100),
  (TRC_SUBs_LIMIT 0, 1000), (TRC_SUBs_LEASE 0, 50), (TRC_STATUS, 1)] ++ l
def sq (t : Byte) (k : Byte) (a b : Nat) : List Byte := [1, t, k, 0, 0, 0, 0, 0] ++ toLe32 a ++ toLe32 b
def mk : List (Nat × Word) := [(TRC_RING_CFG, 0), (TRC_SUBs_STATE 0, 0x8000003f), (TRC_SUBs_STATE 1, 0x80000001),
  (TRC_SUBs_STATE 2, 0x80000030)]
def eng (g : Engine → Engine) (d : Dev) : Dev :=
  {d with cea.engines := vset d.cea.engines 2 (g (vget d.cea.engines 2))}
def lm (x : Word) := act0 [(TRC_SUBs_LIMIT 0, x)]

/-- The hypotheses of Obligations.TelemetryService can be met. -/
theorem witness_TelemetryService :
    (∃ (s : State) (n : Fin 2) (peer : Sender) (p : List Byte) (c : Instr), Acts s ∧ (c = Instr.subscribe n peer p ∨ c
      = Instr.grant n peer p ∨ c = Instr.unsubscribe n peer p) ∧ flag s.dev TRC_CFG 31 = false) ∧
    (∃ (s : State) (n : Fin 2) (peer : Sender) (p : List Byte) (c : Instr), Acts s ∧ (c = Instr.subscribe n peer p ∨ c
      = Instr.grant n peer p ∨ c = Instr.unsubscribe n peer p) ∧ flag s.dev TRC_CFG 31 = true ∧ (p.length < 8 ∨ byteAt
      p 0 ≠ 1 ∨ peer.ip &&& rd s.dev TRC_ALLOW_MASK ≠ rd s.dev TRC_ALLOW_NET &&& rd s.dev TRC_ALLOW_MASK)) ∧
    (∃ (s : State) (peer : Sender) (p : List Byte) (k : Fin 32), Acts s ∧ mtsTaken s.dev peer p 16 ∧ subOfSender s.dev
      peer = none ∧ streamsOk s.dev (le32 p 8) = true ∧ subActive s.dev ↑k = false ∧ ownerOf s.dev 13 ↑k = 34 ∧ (∀ (j
      : Fin 32), j < k → subActive s.dev ↑j = true ∨ ownerOf s.dev 13 ↑j ≠ 34)) ∧
    (∃ (s : State) (peer : Sender) (p : List Byte) (reason : Nat), Acts s ∧ mtsTaken s.dev peer p 16 ∧ subOfSender
      s.dev peer = none ∧ (streamsOk s.dev (le32 p 8) = false ∧ reason = 2 ∨ streamsOk s.dev (le32 p 8) = true ∧
      reason = 1 ∧ ∀ (j : Fin 32), subActive s.dev ↑j = true ∨ ownerOf s.dev 13 ↑j ≠ 34)) ∧
    (∃ (s : State) (peer : Sender) (p : List Byte) (k : Fin 32), Acts s ∧ mtsTaken s.dev peer p 16 ∧ subOfSender s.dev
      peer = some ↑k ∧ streamsOk s.dev (le32 p 8) = true ∧ ownerOf s.dev 13 ↑k = 34 ∧ (∀ (j : Fin 32), j < k →
      subActive s.dev ↑j = true ∨ ownerOf s.dev 13 ↑j ≠ 34)) ∧
    (∃ (s : State) (peer : Sender) (p : List Byte), Acts s ∧ mtsTaken s.dev peer p 16 ∧ (subNamed s.dev (byteAt p 2)
      (le32 p 12) peer = false ∨ 2147483648 < (BitVec.ofNat 32 (le32 p 8) - rd s.dev (TRC_SUBs_SENT (byteAt p
      2))).toNat)) ∧
    (∃ (s : State) (peer : Sender) (p : List Byte), Acts s ∧ mtsTaken s.dev peer p 16 ∧ subNamed s.dev (byteAt p 2)
      (le32 p 12) peer = true ∧ (BitVec.ofNat 32 (le32 p 8) - rd s.dev (TRC_SUBs_SENT (byteAt p 2))).toNat ≤
      2147483648) ∧
    (∃ (s : State) (peer : Sender) (p : List Byte), Acts s ∧ mtsTaken s.dev peer p 12 ∧ subNamed s.dev (byteAt p 2)
      (le32 p 8) peer = false) ∧
    (∃ (s : State) (peer : Sender) (p : List Byte), Acts s ∧ mtsTaken s.dev peer p 12 ∧ subNamed s.dev (byteAt p 2)
      (le32 p 8) peer = true) ∧
    (∃ (s : State) (k : Fin 32), Acts s ∧ (subActive s.dev ↑k = false ∨ BitVec.toNat s.dev.ltb < (sub s.dev ↑k).since
      + 1600000000)) ∧
    (∃ (s : State) (k : Fin 32), Acts s ∧ subActive s.dev ↑k = true ∧ (sub s.dev ↑k).since + 1600000000 ≤ BitVec.toNat
      s.dev.ltb) ∧
    (∃ (s : State) (i : Initiator) (k : Fin 32), Acts s ∧ WriteReaches s.dev i (TRC_SUBs_END ↑k) ∧ subActive s.dev ↑k
      = false) ∧
    (∃ (s : State) (i : Initiator) (k : Fin 32) (v : Word), Acts s ∧ WriteReaches s.dev i (TRC_SUBs_END ↑k) ∧
      subActive s.dev ↑k = true ∧ bit v 0 = false) ∧
    (∃ (s : State) (i : Initiator) (k : Fin 32) (v : Word), Acts s ∧ WriteReaches s.dev i (TRC_SUBs_END ↑k) ∧
      subActive s.dev ↑k = true ∧ bit v 0 = true) ∧
    (∃ (s : State) (i : Initiator) (m : Fin 4), Acts s ∧ WriteReaches s.dev i (TRC_MARK ↑m) ∧ s.dev.trc.ringOut = [] ∧
      flag s.dev TRC_CFG 31 = true) ∧
    (∃ (s : State) (i : Initiator) (v : Word), Acts s ∧ WriteReaches s.dev i TRC_FWREC ∧ s.dev.trc.ringOut = [] ∧
      (bits v 23 16 < 128 ∨ 239 < bits v 23 16)) ∧
    (∃ (s : State) (i : Initiator) (v : Word), Acts s ∧ WriteReaches s.dev i TRC_FWREC ∧ s.dev.trc.ringOut = [] ∧ flag
      s.dev TRC_CFG 31 = true ∧ 128 ≤ bits v 23 16 ∧ bits v 23 16 ≤ 239) ∧
    (∃ (s : State) (e : Fin 5), Acts s ∧ (engine s.dev ↑e).staging = [] ∧ (engine s.dev ↑e).shed = 0 ∧
      s.dev.trc.ringOut = []) ∧
    (∃ (s : State) (e : Fin 5) (x : ProbeRec) (q : List ProbeRec), Acts s ∧ (engine s.dev ↑e).staging =
      [StagingItem.sample (x :: q)] ∧ (engine s.dev ↑e).shed = 0 ∧ s.dev.trc.ringOut = [] ∧ flag s.dev TRC_CFG 31 =
      true ∧ flag s.dev TRC_RING_CFG 31 = false) ∧
    (∃ (s : State) (e : Fin 5) (a : Nat) (n : Nat), Acts s ∧ (engine s.dev ↑e).staging = [] ∧ (engine s.dev ↑e).shed =
      n ∧ (engine s.dev ↑e).shedAxis = a ∧ 0 < n ∧ s.dev.trc.ringOut = []) ∧
    (∃ (s : State) (k : Fin 32), Acts s ∧ (subActive s.dev ↑k = false ∨ (sub s.dev ↑k).gap = 0 ∨ 13107 ≤ bufferUsed
      (sub s.dev ↑k))) ∧
    (∃ (s : State) (k : Fin 32), Acts s ∧ subActive s.dev ↑k = true ∧ 0 < (sub s.dev ↑k).gap ∧ bufferUsed (sub s.dev
      ↑k) < 13107) ∧
    (∃ (s : State) (k : Fin 32), Acts s ∧ (subActive s.dev ↑k = false ∨ flag s.dev TRC_CFG 31 = false ∨ (sub s.dev
      ↑k).buffer = [])) ∧
    (∃ (s : State) (k : Fin 32) (r : TrcRec), Acts s ∧ subActive s.dev ↑k = true ∧ flag s.dev TRC_CFG 31 = true ∧ (sub
      s.dev ↑k).buffer = [[r]] ∧ r.delta = false ∧ (BitVec.toNat (rd s.dev (TRC_SUBs_LIMIT ↑k) - rd s.dev
      (TRC_SUBs_SENT ↑k)) < 15 ∨ 2147483648 < BitVec.toNat (rd s.dev (TRC_SUBs_LIMIT ↑k) - rd s.dev (TRC_SUBs_SENT
      ↑k)))) ∧
    (∃ (s : State) (k : Fin 32) (r : TrcRec), Acts s ∧ subActive s.dev ↑k = true ∧ flag s.dev TRC_CFG 31 = true ∧ (sub
      s.dev ↑k).buffer = [[r]] ∧ r.delta = false ∧ 15 ≤ BitVec.toNat (rd s.dev (TRC_SUBs_LIMIT ↑k) - rd s.dev
      (TRC_SUBs_SENT ↑k)) ∧ BitVec.toNat (rd s.dev (TRC_SUBs_LIMIT ↑k) - rd s.dev (TRC_SUBs_SENT ↑k)) ≤ 2147483648) :=
  ⟨⟨(tr [(TRC_CFG, 0)]), 0, pe, (sq 1 0 1 7), (.subscribe 0 pe (sq 1 0 1 7)), by unfold Acts; decide +kernel⟩,
   ⟨tr, 0, pe, [1,2,3], (.subscribe 0 pe [1,2,3]), by unfold Acts; decide +kernel⟩,
   ⟨(tr [(TRC_SUBs_SENT 0, 77)]), pe, (sq 1 0 1 7), 0, by unfold Acts mtsTaken; decide +kernel⟩,
   ⟨tr, pe, (sq 1 0 2 7), 2, by unfold Acts mtsTaken; decide +kernel⟩,
   ⟨(tr act0 (subs s0) (ownOne ++ [(0x0D000000, ⟨0x22, true⟩)])), pe, (sq 1 0 0x11 7), 0,
     by unfold Acts mtsTaken; decide +kernel⟩,
   ⟨(tr act0 (subs s0)), pe, (sq 2 0 2000 0x11223345), by unfold Acts mtsTaken; decide +kernel⟩,
   ⟨(tr act0 (subs s0)), pe, (sq 2 0 2000 0x11223344), by unfold Acts mtsTaken; decide +kernel⟩,
   ⟨(tr act0 (subs s0)), pe, ([1, 3, 0, 0, 0, 0, 0, 0] ++ toLe32 0x11223345),
     by unfold Acts mtsTaken; decide +kernel⟩,
   ⟨(tr act0 (subs s0)), pe, ([1, 3, 0, 0, 0, 0, 0, 0] ++ toLe32 0x11223344),
     by unfold Acts mtsTaken; decide +kernel⟩,
   ⟨tr, 0, by unfold Acts; decide +kernel⟩,
   ⟨(tr act0 (fun d => subs s0 0 {d with ltb := 1700000000})), 0, by unfold Acts; decide +kernel⟩,
   ⟨tr, .px0, 1, by unfold Acts WriteReaches; decide +kernel⟩,
   ⟨(tr act0 (subs s0)), .px0, 0, 2, by unfold Acts WriteReaches; decide +kernel⟩,
   ⟨(tr act0 (subs {s0 with buffer := [[⟨1,2,3,false⟩]]})), .px0, 0, 3, by unfold Acts WriteReaches; decide +kernel⟩,
   ⟨(tr mk), .px0, 2, by unfold Acts WriteReaches; decide +kernel⟩,
   ⟨(tr mk), .px0, 0x7f1234, by unfold Acts WriteReaches; decide +kernel⟩,
   ⟨(tr mk), .px0, 0x801234, by unfold Acts WriteReaches; decide +kernel⟩,
   ⟨(tr mk), 2, by unfold Acts; decide +kernel⟩,
   ⟨(tr mk (eng (fun g => {g with staging := [.sample [⟨3, -7, 99999, false⟩, ⟨4, 8, 99999, true⟩]]}))), 2, ⟨3, -7,
     99999, false⟩, [⟨4, 8, 99999, true⟩], by unfold Acts; decide +kernel⟩,
   ⟨(tr mk (eng (fun g => {g with shed := 9, shedAxis := 0}))), 2, 0, 9, by unfold Acts; decide +kernel⟩,
   ⟨(tr mk), 2, by unfold Acts; decide +kernel⟩,
   ⟨(tr mk (subs {s0 with gap := 70000} 2)), 2, by unfold Acts; decide +kernel⟩,
   ⟨(tr mk), 2, by unfold Acts; decide +kernel⟩,
   ⟨(tr (lm 114) (subs {s0 with buffer := [[⟨0x41, -2, 0x123456789ab, false⟩]]})), 0, ⟨0x41, -2, 0x123456789ab,
     false⟩, by unfold Acts; decide +kernel⟩,
   ⟨(tr (lm 115) (subs {s0 with buffer := [[⟨0x41, -2, 0x123456789ab, false⟩]]})), 0, ⟨0x41, -2, 0x123456789ab,
     false⟩, by unfold Acts; decide +kernel⟩⟩

end Telemetry

namespace CanBus

def cn (l : List (Nat × Word) := []) (f : CanState → CanState := id) (g : Dev → Dev := id) : State := px ([(CAN_CTRL
  1, 0xC0000000)] ++ l) {} {} {} (fun d => g (modCan 1 (fun x => f {x with joined := true}) d))
def S (b : Nat) (v : Word) : Nat × Word := (CAN_TXBb_STATUS 1 b, v)
def I (b : Nat) (v : Word) : Nat × Word := (CAN_TXBb_ID 1 b, v)
def cur (n : Nat) (x : CanState) : CanState := {x with cur := some n}
def bufn (b : Nat) (y : CanBuf) (x : CanState) : CanState := {x with bufs := vset x.bufs b y}
def cc := bufn 2 {tried := 3, cancel := true}
def F1 (fi mask : Word) (n : Nat := 5) : List (Nat × Word) := [(CAN_FLTf_ID 1 n, fi), (CAN_FLTf_MASK 1 n, mask)]
def fr1 : CanFrame := ⟨false, 0x48C1234, true, true, false, true, 10, (List.range 16).map (BitVec.ofNat 8)⟩
def fr2 : CanFrame := ⟨true, 0x48C1234, false, false, true, false, 3, [1,2,3]⟩

/-- The hypotheses of Obligations.CanArbitrationAndCancel can be met. -/
theorem witness_CanArbitrationAndCancel :
    (∃ (s : State) (c : Fin 4), Acts s ∧ ((canOf s.dev ↑c).joined = false ∨ (canOf s.dev ↑c).leaving = true ∨ (canOf
      s.dev ↑c).cur ≠ none ∨ flag s.dev (CAN_STATUS ↑c) 2 = true ∨ fld s.dev (CAN_CTRL ↑c) 29 28 = 1 ∨ (∀ (b : Fin 3),
      txState s.dev ↑c ↑b ≠ 1) ∧ (canOf s.dev ↑c).acks = [])) ∧
    (∃ (s : State) (c : Fin 4) (b : Fin 3), Acts s ∧ (canOf s.dev ↑c).joined = true ∧ (canOf s.dev ↑c).leaving = false
      ∧ (canOf s.dev ↑c).cur = none ∧ flag s.dev (CAN_STATUS ↑c) 2 = false ∧ fld s.dev (CAN_CTRL ↑c) 29 28 ≠ 1 ∧
      selected s.dev c b ∧ (flag s.dev (CAN_CSQACK ↑c) 31 = false ∨ (canOf s.dev ↑c).acks = [] ∨ bufKey s.dev ↑c ↑b ≤
      ackKey s.dev ↑c)) ∧
    (∃ (s : State) (c : Fin 4), Acts s ∧ (canOf s.dev ↑c).joined = true ∧ (canOf s.dev ↑c).leaving = false ∧ (canOf
      s.dev ↑c).cur = none ∧ flag s.dev (CAN_STATUS ↑c) 2 = false ∧ fld s.dev (CAN_CTRL ↑c) 29 28 ≠ 1 ∧ flag s.dev
      (CAN_CSQACK ↑c) 31 = true ∧ (canOf s.dev ↑c).acks ≠ [] ∧ (∀ (b : Fin 3), txState s.dev ↑c ↑b = 1 → ackKey s.dev
      ↑c < bufKey s.dev ↑c ↑b)) ∧
    (∃ (s : State) (i : Initiator) (c : Fin 4) (b : Fin 3) (v : Word), Acts s ∧ WriteReaches s.dev i (CAN_TXBb_REQ ↑c
      ↑b) ∧ bit v 0 = false ∧ txState s.dev ↑c ↑b ≠ 1) ∧
    (∃ (s : State) (i : Initiator) (c : Fin 4) (b : Fin 3) (v : Word), Acts s ∧ WriteReaches s.dev i (CAN_TXBb_REQ ↑c
      ↑b) ∧ bit v 0 = false ∧ txState s.dev ↑c ↑b = 1 ∧ (canOf s.dev ↑c).cur = some ↑b) ∧
    (∃ (s : State) (i : Initiator) (c : Fin 4) (b : Fin 3) (v : Word), Acts s ∧ WriteReaches s.dev i (CAN_TXBb_REQ ↑c
      ↑b) ∧ bit v 0 = false ∧ txState s.dev ↑c ↑b = 1 ∧ (canOf s.dev ↑c).cur ≠ some ↑b) ∧
    (∃ (s : State) (c : Fin 4) (b : Fin 3) (delay : Nat), Acts s ∧ (canOf s.dev ↑c).cur = some ↑b ∧ (canBuf s.dev ↑c
      ↑b).cancel = true ∧ (flag s.dev (CAN_TDC ↑c) 31 = false ∨ flag s.dev (CAN_TXBb_CTRL ↑c ↑b) 10 = false ∨ delay ≤
      127)) ∧
    (∃ (s : State) (c : Fin 4) (b : Fin 3) (r : CanResult), Acts s ∧ (canOf s.dev ↑c).cur = some ↑b ∧ (canBuf s.dev ↑c
      ↑b).cancel = true ∧ r ≠ CanResult.sent) :=
  ⟨⟨up, 0, by unfold Acts; decide +kernel⟩,
   ⟨(cn [S 0 1, I 0 0x80001000, S 2 1, I 2 0x00040000, I 1 0]), 1, 0, by unfold Acts selected; decide +kernel⟩,
   ⟨(cn [S 0 1, I 0 0x00080000, (CAN_CSQACK 1, 0x80040000)] (fun x => {x with acks := [[1]]})), 1,
     by unfold Acts; decide +kernel⟩,
   ⟨(cn [S 0 2]), .px0, 1, 0, 2, by unfold Acts WriteReaches; decide +kernel⟩,
   ⟨(cn [S 0 1] (cur 0)), .px0, 1, 0, 2, by unfold Acts WriteReaches; decide +kernel⟩,
   ⟨(cn [S 0 0x301] (cur 1)), .px0, 1, 0, 2, by unfold Acts WriteReaches; decide +kernel⟩,
   ⟨(cn [S 2 0x301] (fun x => cc (cur 2 x))), 1, 2, 5, by unfold Acts; decide +kernel⟩,
   ⟨(cn [S 2 0x301] (fun x => cc (cur 2 x))), 1, 2, .error, by unfold Acts; decide +kernel⟩⟩

/-- The hypotheses of Obligations.CanTransmission can be met. -/
theorem witness_CanTransmission :
    (∃ (s : State) (i : Initiator) (c : Fin 4) (b : Fin 3) (v : Word), Acts s ∧ WriteReaches s.dev i (CAN_TXBb_REQ ↑c
      ↑b) ∧ bit v 1 = false ∧ (txState s.dev ↑c ↑b = 1 ∨ bit (rd s.dev (CAN_TXBb_CTRL ↑c ↑b)) 10 = true ∧ bit (rd
      s.dev (CAN_TXBb_CTRL ↑c ↑b)) 9 = true ∨ bit (rd s.dev (CAN_TXBb_CTRL ↑c ↑b)) 10 = false ∧ 8 < bits (rd s.dev
      (CAN_TXBb_CTRL ↑c ↑b)) 3 0)) ∧
    (∃ (s : State) (i : Initiator) (c : Fin 4) (b : Fin 3) (v : Word), Acts s ∧ WriteReaches s.dev i (CAN_TXBb_REQ ↑c
      ↑b) ∧ bit v 1 = false ∧ txState s.dev ↑c ↑b ≠ 1 ∧ (bit (rd s.dev (CAN_TXBb_CTRL ↑c ↑b)) 10 = true ∧ bit (rd
      s.dev (CAN_TXBb_CTRL ↑c ↑b)) 9 = false ∨ bit (rd s.dev (CAN_TXBb_CTRL ↑c ↑b)) 10 = false ∧ bits (rd s.dev
      (CAN_TXBb_CTRL ↑c ↑b)) 3 0 ≤ 8)) ∧
    (∃ (s : State) (c : Fin 4), Acts s ∧ (canOf s.dev ↑c).cur = none) ∧
    (∃ (s : State) (c : Fin 4) (b : Fin 3) (tec : Nat) (rec_ : Nat) (delay : Nat), Acts s ∧ (canOf s.dev ↑c).cur =
      some ↑b ∧ tec < 128 ∧ rec_ < 128 ∧ fld s.dev (CAN_CTRL ↑c) 29 28 ≠ 2 ∧ (flag s.dev (CAN_TDC ↑c) 31 = false ∨
      flag s.dev (CAN_TXBb_CTRL ↑c ↑b) 10 = false ∨ delay ≤ 127)) ∧
    (∃ (s : State) (c : Fin 4) (b : Fin 3) (r : CanResult) (tec : Nat) (rec_ : Nat), Acts s ∧ (canOf s.dev ↑c).cur =
      some ↑b ∧ r ≠ CanResult.sent ∧ tec < 128 ∧ rec_ < 128 ∧ flag s.dev (CAN_TDC ↑c) 31 = false ∧ (canBuf s.dev ↑c
      ↑b).cancel = true) ∧
    (∃ (s : State) (c : Fin 4) (b : Fin 3) (r : CanResult) (tec : Nat) (rec_ : Nat), Acts s ∧ (canOf s.dev ↑c).cur =
      some ↑b ∧ r ≠ CanResult.sent ∧ tec < 128 ∧ rec_ < 128 ∧ flag s.dev (CAN_TDC ↑c) 31 = false ∧ (canBuf s.dev ↑c
      ↑b).cancel = false ∧ (fld s.dev (CAN_CTRL ↑c) 11 8 = 0 ∨ (canBuf s.dev ↑c ↑b).tried ≤ fld s.dev (CAN_CTRL ↑c) 11
      8)) ∧
    (∃ (s : State) (c : Fin 4) (b : Fin 3) (r : CanResult) (tec : Nat) (rec_ : Nat), Acts s ∧ (canOf s.dev ↑c).cur =
      some ↑b ∧ r ≠ CanResult.sent ∧ tec < 128 ∧ rec_ < 128 ∧ flag s.dev (CAN_TDC ↑c) 31 = false ∧ (canBuf s.dev ↑c
      ↑b).cancel = false ∧ fld s.dev (CAN_CTRL ↑c) 11 8 ≠ 0 ∧ fld s.dev (CAN_CTRL ↑c) 11 8 < (canBuf s.dev ↑c
      ↑b).tried) ∧
    (∃ (s : State) (c : Fin 4) (tec : Nat) (rec_ : Nat), Acts s ∧ (canOf s.dev ↑c).cur = some 3 ∧ tec < 128 ∧ rec_ <
      128 ∧ fld s.dev (CAN_CTRL ↑c) 29 28 ≠ 2 ∧ flag s.dev (CAN_TDC ↑c) 31 = false) ∧
    (∃ (s : State) (c : Fin 4) (r : CanResult) (tec : Nat) (rec_ : Nat), Acts s ∧ (canOf s.dev ↑c).cur = some 3 ∧ 255
      < tec ∧ tec < 512 ∧ rec_ < 256 ∧ r ≠ CanResult.sent ∧ flag s.dev (CAN_TDC ↑c) 31 = false ∧ flag s.dev
      (CAN_STATUS ↑c) 2 = false) ∧
    (∃ (s : State) (i : Initiator) (c : Fin 4) (v : Word), Acts s ∧ WriteReaches s.dev i (CAN_BO_RECOV ↑c) ∧ bit v 0 =
      false) ∧
    (∃ (s : State) (i : Initiator) (c : Fin 4) (v : Word), Acts s ∧ WriteReaches s.dev i (CAN_BO_RECOV ↑c) ∧ bit v 0 =
      true ∧ flag s.dev (CAN_STATUS ↑c) 2 = false) ∧
    (∃ (s : State) (i : Initiator) (c : Fin 4) (v : Word), Acts s ∧ WriteReaches s.dev i (CAN_BO_RECOV ↑c) ∧ bit v 0 =
      true ∧ flag s.dev (CAN_STATUS ↑c) 2 = true) ∧
    (∃ (s : State) (c : Fin 4), Acts s ∧ (flag s.dev (CAN_STATUS ↑c) 2 = false ∨ flag s.dev (CAN_STATUS ↑c) 3 =
      false)) ∧
    (∃ (s : State) (c : Fin 4), Acts s ∧ flag s.dev (CAN_STATUS ↑c) 2 = true ∧ flag s.dev (CAN_STATUS ↑c) 3 = true) ∧
    (∃ (s : State) (c : Fin 4), Acts s ∧ ((canOf s.dev ↑c).leaving = false ∨ (canOf s.dev ↑c).cur ≠ none)) ∧
    (∃ (s : State) (c : Fin 4), Acts s ∧ (canOf s.dev ↑c).leaving = true ∧ (canOf s.dev ↑c).cur = none) ∧
    (∃ (s : State) (c : Fin 4), Acts s ∧ flag s.dev (CAN_CTRL ↑c) 31 = false) ∧
    (∃ (s : State) (c : Fin 4), Acts s ∧ flag s.dev (CAN_CTRL ↑c) 31 = true) :=
  ⟨⟨(cn [S 0 1]), .px0, 1, 0, 1, by unfold Acts WriteReaches; decide +kernel⟩,
   ⟨(cn [(CAN_TXBb_CTRL 1 0, 0x208), S 0 0x502] (bufn 0 {tried := 3})), .px0, 1, 0, 1,
     by unfold Acts WriteReaches; decide +kernel⟩,
   ⟨cn, 1, by unfold Acts; decide +kernel⟩,
   ⟨(cn [S 2 0x301] (fun x => cc (cur 2 x))), 1, 2, 127, 127, 500, by unfold Acts; decide +kernel⟩,
   ⟨(cn [S 2 0x301] (fun x => cc (cur 2 x))), 1, 2, .error, 95, 0, by unfold Acts; decide +kernel⟩,
   ⟨(cn [S 2 0x301, (CAN_CTRL 1, 0xC0000400)] (fun x => bufn 2 {tried := 4} (cur 2 x))), 1, 2, .error, 95, 0,
     by unfold Acts; decide +kernel⟩,
   ⟨(cn [S 2 0x301, (CAN_CTRL 1, 0xC0000300), C Src.CAN_TX_FAIL] (fun x => bufn 2 {tried := 4} (cur 2 x))), 1, 2,
     .arbitrationLost, 95, 0, by unfold Acts; decide +kernel⟩,
   ⟨(cn [] (fun x => {cur 3 x with acks := [[1],[2]]})), 1, 3, 4, by unfold Acts; decide +kernel⟩,
   ⟨(cn [S 0 1, S 1 3, (CAN_CTRL 1, 0xC0000006)] (fun x => {cur 3 x with acks := [[1],[2]]})), 1, .error, 256, 255,
     by unfold Acts; decide +kernel⟩,
   ⟨cn, .px0, 1, 2, by unfold Acts WriteReaches; decide +kernel⟩,
   ⟨cn, .px0, 1, 3, by unfold Acts WriteReaches; decide +kernel⟩,
   ⟨(cn [(CAN_STATUS 1, 4)]), .px0, 1, 3, by unfold Acts WriteReaches; decide +kernel⟩,
   ⟨(cn [(CAN_STATUS 1, 4)]), 1, by unfold Acts; decide +kernel⟩,
   ⟨(cn [(CAN_STATUS 1, 0x30f), (CAN_ERRCNT 1, 0x110)]), 1, by unfold Acts; decide +kernel⟩,
   ⟨cn, 1, by unfold Acts; decide +kernel⟩,
   ⟨(cn [S 0 1, S 2 3] (fun x => {x with leaving := true, acks := [[1]]})), 1, by unfold Acts; decide +kernel⟩,
   ⟨cn, 2, by unfold Acts; decide +kernel⟩,
   ⟨(cn [(CAN_CTRL 2, 0x80000000)]), 2, by unfold Acts; decide +kernel⟩⟩

/-- The hypotheses of Obligations.CanReception can be met. -/
theorem witness_CanReception :
    (∃ (s : State) (c : Fin 4) (fr : CanFrame), Acts s ∧ fr.data.length ≤ 64 ∧ ((canOf s.dev ↑c).joined = false ∨ flag
      s.dev (CAN_STATUS ↑c) 2 = true ∨ fld s.dev (CAN_CTRL ↑c) 29 28 = 2)) ∧
    (∃ (s : State) (c : Fin 4) (fr : CanFrame) (tec : Nat) (rec_ : Nat), Acts s ∧ fr.data.length ≤ 64 ∧ (canOf s.dev
      ↑c).joined = true ∧ flag s.dev (CAN_STATUS ↑c) 2 = false ∧ fld s.dev (CAN_CTRL ↑c) 29 28 ≠ 2 ∧ tec < 128 ∧ rec_
      < 128 ∧ (fr.fdf = true ∧ flag s.dev (CAN_CTRL ↑c) 30 = false ∨ (∀ (f : Fin 128), filterMatch s.dev (↑c) (↑f) fr
      = false) ∧ flag s.dev (CAN_RXF_CFG ↑c) 0 = false ∨ ∃ (f : Fin 128), decides s.dev c f fr ∧ fld s.dev
      (CAN_FLTf_MASK ↑c ↑f) 31 30 = 0)) ∧
    (∃ (s : State) (c : Fin 4) (fr : CanFrame) (tec : Nat) (rec_ : Nat) (f : Nat), Acts s ∧ fr.data.length ≤ 64 ∧
      (canOf s.dev ↑c).joined = true ∧ flag s.dev (CAN_STATUS ↑c) 2 = false ∧ fld s.dev (CAN_CTRL ↑c) 29 28 ≠ 2 ∧ tec
      < 128 ∧ rec_ < 128 ∧ (fr.fdf = false ∨ flag s.dev (CAN_CTRL ↑c) 30 = true) ∧ ((∀ (x : Fin 128), filterMatch
      s.dev (↑c) (↑x) fr = false) ∧ flag s.dev (CAN_RXF_CFG ↑c) 0 = true ∧ f = 0 ∨ ∃ (x : Fin 128), decides s.dev c x
      fr ∧ fld s.dev (CAN_FLTf_MASK ↑c ↑x) 31 30 = 1 ∧ f = ↑x) ∧ fld s.dev (CAN_RXF_STATUS ↑c) 6 0 < 64) ∧
    (∃ (s : State) (c : Fin 4) (fr : CanFrame) (tec : Nat) (rec_ : Nat) (f : Nat), Acts s ∧ fr.data.length ≤ 64 ∧
      (canOf s.dev ↑c).joined = true ∧ flag s.dev (CAN_STATUS ↑c) 2 = false ∧ fld s.dev (CAN_CTRL ↑c) 29 28 ≠ 2 ∧ tec
      < 128 ∧ rec_ < 128 ∧ (fr.fdf = false ∨ flag s.dev (CAN_CTRL ↑c) 30 = true) ∧ ((∀ (x : Fin 128), filterMatch
      s.dev (↑c) (↑x) fr = false) ∧ flag s.dev (CAN_RXF_CFG ↑c) 0 = true ∧ f = 0 ∨ ∃ (x : Fin 128), decides s.dev c x
      fr ∧ fld s.dev (CAN_FLTf_MASK ↑c ↑x) 31 30 = 1 ∧ f = ↑x) ∧ 64 ≤ fld s.dev (CAN_RXF_STATUS ↑c) 6 0) ∧
    (∃ (s : State) (c : Fin 4) (path : Fin 6) (fr : CanFrame) (tec : Nat) (rec_ : Nat) (f : Fin 128), Acts s ∧
      fr.data.length ≤ 64 ∧ (↑path : Nat) = ↑c ∧ (canOf s.dev ↑c).joined = true ∧ flag s.dev (CAN_STATUS ↑c) 2 = false
      ∧ fld s.dev (CAN_CTRL ↑c) 29 28 ≠ 2 ∧ tec < 128 ∧ rec_ < 128 ∧ (fr.fdf = false ∨ flag s.dev (CAN_CTRL ↑c) 30 =
      true) ∧ decides s.dev c f fr ∧ fld s.dev (CAN_FLTf_MASK ↑c ↑f) 31 30 = 2 ∧ fr.fdf = true ∧ fr.dlc = 10 ∧
      fr.data.length = 16) ∧
    (∃ (s : State) (c : Fin 4) (path : Fin 6) (fr : CanFrame) (tec : Nat) (rec_ : Nat) (f : Fin 128), Acts s ∧
      fr.data.length ≤ 64 ∧ (↑path : Nat) = ↑c ∧ (canOf s.dev ↑c).joined = true ∧ flag s.dev (CAN_STATUS ↑c) 2 = false
      ∧ fld s.dev (CAN_CTRL ↑c) 29 28 ≠ 2 ∧ tec < 128 ∧ rec_ < 128 ∧ (fr.fdf = false ∨ flag s.dev (CAN_CTRL ↑c) 30 =
      true) ∧ decides s.dev c f fr ∧ fld s.dev (CAN_FLTf_MASK ↑c ↑f) 31 30 = 2 ∧ (fr.fdf = false ∨ fr.dlc ≠ 10 ∨
      fr.data.length ≠ 16)) ∧
    (∃ (s : State) (i : Initiator) (c : Fin 4) (v : Word), Acts s ∧ WriteReaches s.dev i (CAN_RXF_POP ↑c) ∧ (bits v 5
      0 ≠ fld s.dev (CAN_RXF_STATUS ↑c) 21 16 ∨ fld s.dev (CAN_RXF_STATUS ↑c) 6 0 = 0)) ∧
    (∃ (s : State) (i : Initiator) (c : Fin 4) (v : Word), Acts s ∧ WriteReaches s.dev i (CAN_RXF_POP ↑c) ∧ bits v 5 0
      = fld s.dev (CAN_RXF_STATUS ↑c) 21 16 ∧ fld s.dev (CAN_RXF_STATUS ↑c) 6 0 ≠ 0) :=
  ⟨⟨up, 1, fr1, by unfold Acts; decide +kernel⟩,
   ⟨cn, 1, fr1, 6, 7, by unfold Acts decides; decide +kernel⟩,
   ⟨(cn [(CAN_RXF_CFG 1, 1)]), 1, fr1, 6, 7, 0, by unfold Acts decides; decide +kernel⟩,
   ⟨(cn [(CAN_RXF_CFG 1, 1), (CAN_RXF_STATUS 1, 0xff3f0040), C Src.CAN_RXOVF]), 1, fr1, 6, 7, 0,
     by unfold Acts decides; decide +kernel⟩,
   ⟨(cn (F1 0x80000000 0x80000000)), 1, 1, fr1, 6, 7, 5, by unfold Acts decides; decide +kernel⟩,
   ⟨(cn (F1 0xC0000000 0x80000000 0)), 1, 1, fr2, 6, 7, 0, by unfold Acts decides; decide +kernel⟩,
   ⟨(cn [(CAN_RXF_STATUS 1, 0x013f0040)]), .px0, 1, 5, by unfold Acts WriteReaches; decide +kernel⟩,
   ⟨(cn [(CAN_RXF_STATUS 1, 0x013f0001), (CAN_RXs_CTRL 1 63, 0xA0000000)]), .px0, 1, 0x3f,
     by unfold Acts WriteReaches; decide +kernel⟩⟩

end CanBus

namespace Fulling

def flOwn : List (Nat × Owner) := (ownOne ++ [(0x0C000003, ⟨0x20, true⟩)] ++ (List.range 6).map (fun k => (0x03000000
  + k, ⟨0x20, true⟩)))
def fl (l : List (Nat × Word) := []) (f : Dev → Dev := id) (o := flOwn): State := px ([(FLS_CTRL, 1), (FLS_CFG, 3)] ++
  (List.range 11).map (fun t => (FLS_TASKt_CFG t, 0x80000005)) ++ l) {} {} {} f
  #v[{topology := 1, polePairs := 4, nBase := 600000}, {}, {}, {}] o
def R (t : Nat) : Nat × Word := (FLS_STATUS, BitVec.ofNat 32 (2^t))
def due (t x : Nat) (d : Dev) : Dev := {d with fls.due := vset d.fls.due t x}

/-- The hypotheses of Obligations.FullingSchedulerAndTasks can be met. -/
theorem witness_FullingSchedulerAndTasks :
    (∃ (c : Instr) (s : State) (t : Fin 11), Acts s ∧ flsTask c = some t ∧ flag s.dev FLS_CTRL 0 = true ∧ flag s.dev
      (FLS_TASKt_CFG ↑t) 31 = true ∧ vget s.dev.fls.due ↑t ≤ BitVec.toNat s.dev.ltb ∧ flag s.dev FLS_STATUS ↑t = true)
      ∧
    (∃ (s : State), Acts s ∧ flsDue s.dev 4 ∧ (fld s.dev CEA_SPARE 2 0 = 7 ∨ ∃ (a : Fin 4), axisInUse s.dev ↑a = true
      ∧ (ceAxis s.dev ↑a).takeover ≠ Takeover.none)) ∧
    (∃ (s : State), Acts s ∧ flsDue s.dev 4 ∧ fld s.dev CEA_SPARE 2 0 < 5 ∧ (∀ (a : Fin 4), axisInUse s.dev ↑a = true
      → (ceAxis s.dev ↑a).takeover = Takeover.none)) ∧
    (∃ (s : State), Acts s ∧ flsDue s.dev 5 ∧ sparePair s.dev = none) ∧
    (∃ (s : State), Acts s ∧ flsDue s.dev 5 ∧ ∃ n ∈ sparePair s.dev, True) ∧
    (∃ (s : State) (t : Fin 11), Acts s ∧ flag s.dev FLS_STATUS ↑t = false) ∧
    (∃ (s : State) (t : Fin 11), Acts s ∧ flag s.dev FLS_STATUS ↑t = true ∧ BitVec.toNat s.dev.ltb ≤ vget
      s.dev.fls.start ↑t + 2 * flsPeriod s.dev ↑t) ∧
    (∃ (s : State) (t : Fin 11), Acts s ∧ flag s.dev FLS_STATUS ↑t = true ∧ vget s.dev.fls.start ↑t + 2 * flsPeriod
      s.dev ↑t < BitVec.toNat s.dev.ltb) ∧
    (∃ (s : State), Acts s ∧ flsDue s.dev 0 ∧ s.dev.icf.badWords = []) ∧
    (∃ (s : State) (a : Word), Acts s ∧ flsDue s.dev 0 ∧ s.dev.icf.badWords = [] ∧ ∃ k ∈ sramIndex (BitVec.toNat a), k
      < 4) ∧
    (∃ (s : State), Acts s ∧ flsDue s.dev 1 ∧ s.dev.icf.badWords = []) ∧
    (∃ (s : State) (a : Word), Acts s ∧ flsDue s.dev 1 ∧ s.dev.icf.badWords = [] ∧ ∃ k ∈ mramPartition (BitVec.toNat
      a), True) ∧
    (∃ (s : State), Acts s ∧ flsDue s.dev 2) ∧
    (∃ (s : State), Acts s ∧ flsDue s.dev 3) ∧
    (∃ (s : State), Acts s ∧ flsDue s.dev 6 ∧ (nextDrvTest s.dev = none ∨ freeEntry s.dev (fld s.dev FLS_CFG 5 0) =
      none)) ∧
    (∃ (s : State) (p : Nat) (item : Nat) (n : Nat) (timed : Bool) (at_ : Nat), Acts s ∧ flsDue s.dev 6 ∧ nextDrvTest
      s.dev = some (p, item) ∧ freeEntry s.dev (fld s.dev FLS_CFG 5 0) = some n ∧ (timed = false ∧ at_ = 0 ∧
      (switchOfPort s.dev p = none ∨ ∃ (l : Nat), ∃ (high : Bool), switchOfPort s.dev p = some (l, high) ∧ (legState
      s.dev l = 2 ∨ (group s.dev (legGroup s.dev l)).running = false)) ∨ timed = true ∧ ∃ (l : Nat), ∃ (high : Bool),
      switchOfPort s.dev p = some (l, high) ∧ legState s.dev l ≠ 2 ∧ (group s.dev (legGroup s.dev l)).running = true ∧
      at_ = offMidpoint s.dev l high) ∧ (evsArmCode s.dev n (BitVec.ofNat 32 at_) 0 (BitVec.ofNat 32 ((2147483648 + if
      timed = true then 1073741824 else 0) + (80 + p) * 4096)) = 0)) ∧
    (∃ (s : State), Acts s ∧ flsDue s.dev 7 ∧ (∀ (r : Fin 9), flag s.dev THM_BROKEN ↑r = true ∨ (sfld s.dev
      (THM_Rr_SENS ↑r) 15 0 - sfld s.dev (THM_Rr_MODEL ↑r) 15 0).natAbs ≤ fld s.dev THM_CHK2 31 16)) ∧
    (∃ (s : State) (r : Fin 9), Acts s ∧ flsDue s.dev 7 ∧ flag s.dev THM_BROKEN ↑r = false ∧ fld s.dev THM_CHK2 31 16
      < (sfld s.dev (THM_Rr_SENS ↑r) 15 0 - sfld s.dev (THM_Rr_MODEL ↑r) 15 0).natAbs) ∧
    (∃ (s : State) (a : Nat) (b : Nat), Acts s ∧ flsDue s.dev 8 ∧ a < 4294967295 ∧ (s.dev.jrn.wrapsA = some a ∧
      s.dev.jrn.wrapsB = some b ∨ s.dev.jrn.wrapsA = some a ∧ s.dev.jrn.wrapsB = none ∧ b = a ∨ s.dev.jrn.wrapsA =
      none ∧ s.dev.jrn.wrapsB = some a ∧ b = a) ∧ a ≠ b) ∧
    (∃ (s : State) (a : Nat) (b : Nat), Acts s ∧ flsDue s.dev 8 ∧ a < 4294967295 ∧ (s.dev.jrn.wrapsA = some a ∧
      s.dev.jrn.wrapsB = some b ∨ s.dev.jrn.wrapsA = some a ∧ s.dev.jrn.wrapsB = none ∧ b = a ∨ s.dev.jrn.wrapsA =
      none ∧ s.dev.jrn.wrapsB = some a ∧ b = a) ∧ a = b ∧ (a < 900000 ∨ flag s.dev JRN_STATUS 1 = true)) ∧
    (∃ (s : State) (a : Nat) (b : Nat), Acts s ∧ flsDue s.dev 8 ∧ a < 4294967295 ∧ (s.dev.jrn.wrapsA = some a ∧
      s.dev.jrn.wrapsB = some b ∨ s.dev.jrn.wrapsA = some a ∧ s.dev.jrn.wrapsB = none ∧ b = a ∨ s.dev.jrn.wrapsA =
      none ∧ s.dev.jrn.wrapsB = some a ∧ b = a) ∧ a = b ∧ 900000 ≤ a ∧ flag s.dev JRN_STATUS 1 = false) ∧
    (∃ (s : State), Acts s ∧ flsDue s.dev 9) ∧
    (∃ (s : State), Acts s ∧ flsDue s.dev 10 ∧ s.dev.bst.key ≠ none) ∧
    (∃ (s : State) (m : Nat) (k : Nat), Acts s ∧ flsDue s.dev 10 ∧ s.dev.bst.key = none ∧ m = fld s.dev BST_MB_POS 31
      29 ∧ k = fld s.dev BST_MB_POS 23 0) ∧
    (∃ (s : State), Acts s ∧ flsDue s.dev 10 ∧ s.dev.bst.key = none) ∧
    (∃ (c : Instr) (s : State) (t : Fin 11), Acts s ∧ flsTask c = some t ∧ (flag s.dev FLS_CTRL 0 = false ∨ flag s.dev
      (FLS_TASKt_CFG ↑t) 31 = false ∨ BitVec.toNat s.dev.ltb < vget s.dev.fls.due ↑t)) :=
  ⟨⟨.cerot, (fl [R 4, (FLS_TASKt_STAT 4, 0x00050006)]), 4, by unfold Acts; decide +kernel⟩,
   ⟨(fl [(CEA_SPARE, 7)]), by unfold Acts flsDue; decide +kernel⟩,
   ⟨(fl [(CEA_SPARE, 2)]), by unfold Acts flsDue; decide +kernel⟩,
   ⟨(fl [] (fun d => (List.range 4).foldl (fun d n => modPp n (fun p => {p with role := .serving}) d) d)),
     by unfold Acts flsDue; decide +kernel⟩,
   ⟨fl, by unfold Acts flsDue; decide +kernel⟩,
   ⟨fl, 3, by unfold Acts; decide +kernel⟩,
   ⟨(fl [R 10] (fun d => {d with fls.start := vset d.fls.start 10 100000000, bst.block := some 5})), 10,
     by unfold Acts; decide +kernel⟩,
   ⟨(fl [R 9]), 9, by unfold Acts; decide +kernel⟩,
   ⟨(fl [(ICF_ECC_CNT, 0x0007fff0)]), by unfold Acts flsDue; decide +kernel⟩,
   ⟨fl, 0x2400000C, by unfold Acts flsDue; decide +kernel⟩,
   ⟨fl, by unfold Acts flsDue; decide +kernel⟩,
   ⟨fl, 0x10E00008, by unfold Acts flsDue; decide +kernel⟩,
   ⟨(fl [(ADS_Pp_CAL_STATUS 3, 0x10000)]), by unfold Acts flsDue; decide +kernel⟩,
   ⟨fl, by unfold Acts flsDue; decide +kernel⟩,
   ⟨(fl ((List.range 64).map (fun p => (GLK_GLnn_STATE p, 0)))), by unfold Acts flsDue; decide +kernel⟩,
   ⟨fl, 0, 0, 192, false, 0, by unfold Acts; decide +kernel, by unfold flsDue; decide +kernel, by decide +kernel,
     by decide +kernel, .inl ⟨rfl, rfl, .inr ⟨0, true, by decide +kernel, by decide +kernel⟩⟩, by decide +kernel⟩,
   ⟨fl, by unfold Acts flsDue; decide +kernel⟩,
   ⟨(fl [(THM_Rr_SENS 2, 500), (THM_CHK2, 0x00800000)]), 2, by unfold Acts flsDue; decide +kernel⟩,
   ⟨(fl [] (fun d => {d with jrn.wrapsA := some 5, jrn.wrapsB := some 6})), 5, 6,
     by unfold Acts flsDue; decide +kernel⟩,
   ⟨(fl [] (fun d => {d with jrn.wrapsA := some 5, jrn.wrapsB := none})), 5, 5,
     by unfold Acts flsDue; decide +kernel⟩,
   ⟨(fl [C Src.JRN_WEAR] (fun d => {d with jrn.wrapsA := some 900000, jrn.wrapsB := some 900000})), 900000, 900000,
     by unfold Acts flsDue; decide +kernel⟩,
   ⟨(fl [(TRC_SUBs_SENT 0, 4), (TRC_SUBs_SENT 1, 4)] (fun d =>
     {d with trc.subs := vset d.trc.subs 1 {ended := true, seq := 5}})), by unfold Acts flsDue; decide +kernel⟩,
   ⟨(fl [] (fun d => {d with bst.key := some true})), by unfold Acts flsDue; decide +kernel⟩,
   ⟨fl, 0, 0, by unfold Acts flsDue; decide +kernel⟩,
   ⟨(fl [(BST_MB_POS, 0x60000000 + 511)]), by unfold Acts flsDue; decide +kernel⟩,
   ⟨.scrub 1 [], fl [(FLS_CTRL, 0)], 0, by unfold Acts; decide +kernel⟩⟩

end Fulling

namespace SelfTest

def bs (l : List (Nat × Word) := []) (f : Dev → Dev := id) (sv : Nat := 0) : State := px ([(BST_CTRL, 1)] ++
  (List.range 5).map (fun n => (CEA_CEn_STATE n, if n = sv then 1 else 0)) ++ [(CEA_SPARE, 4), (CEA_AXa_STATUS 0,
  BitVec.ofNat 32 sv), (SIS_STATE, 1)] ++ l) {} {} {} f
def tt (l : List UnitTest) (run : Option Nat := none) (d : Dev) : Dev := {d with bst := {tests := l, running := run}}
def t3 : UnitTest := {unit := 3, slice := 4, role := 0, waits := 2}
def tp : UnitTest := {unit := 9, slice := 4, role := 3, waits := 7}
def rn (t : UnitTest) (l : List (Nat × Word) := []) (f : Dev → Dev := id) : State := bs ([(CEA_CEn_STATE t.unit,
  0x303), (BST_STATUS, 1)] ++ l) (fun d => f (tt [t, {unit := 1, role := 0}] t.unit d))
def tl : UnitTest := {t3 with slice := 15}
def tl4 : UnitTest := {t3 with unit := 4, slice := 15}
def pl : UnitTest := {tp with slice := 31}
def sp (l : List (Nat × Word) := []) (f : Dev → Dev := id) : State := px ([(SYS_VMON, 0), (SYS_CLK_STATUS, 3)] ++ l)
  {} {} {} f
def rich : Dev → Dev := fun d =>
  {d with jrn.ring := [{}], sis.straps := some 3, glk.ports := vset d.glk.ports 3 {cal := some {}}, glk.orders := []}

/-- The hypotheses of Obligations.LogicAndKeyTests can be met. -/
theorem witness_LogicAndKeyTests :
    (∃ (s : State), Acts s ∧ (flag s.dev BST_CTRL 0 = false ∨ s.dev.bst.key ≠ none ∨ s.dev.bst.running ≠ none)) ∧
    (∃ (s : State) (u : TestUnit) (g : Bool) (h : Bool) (t : UnitTest), Acts s ∧ flag s.dev BST_CTRL 0 = true ∧
      s.dev.bst.key = none ∧ s.dev.bst.running = none ∧ t.slice < 32 ∧ (unitTest s.dev (unitIndex u) = some t ∧
      t.deferred = none ∨ unitTest s.dev (unitIndex u) = none ∧ testable s.dev (unitIndex u) = true ∧ t =
      { unit := unitIndex u, role := unitRole s.dev (unitIndex u) }) ∧ g = true ∧ h = true) ∧
    (∃ (s : State) (u : TestUnit) (g : Bool) (h : Bool) (t : UnitTest), Acts s ∧ flag s.dev BST_CTRL 0 = true ∧
      s.dev.bst.key = none ∧ s.dev.bst.running = none ∧ t.slice < 32 ∧ (unitTest s.dev (unitIndex u) = some t ∧
      t.deferred = none ∨ unitTest s.dev (unitIndex u) = none ∧ testable s.dev (unitIndex u) = true ∧ t =
      { unit := unitIndex u, role := unitRole s.dev (unitIndex u) }) ∧ (g = false ∨ h = false)) ∧
    (∃ (s : State) (u : TestUnit), Acts s ∧ (unitTest s.dev (unitIndex u) = none ∧ testable s.dev (unitIndex u) =
      false ∨ ∃ (t : UnitTest), ∃ (x : Nat), unitTest s.dev (unitIndex u) = some t ∧ t.deferred = some x)) ∧
    (∃ (s : State), Acts s ∧ (∀ (t : UnitTest), t ∈ s.dev.bst.tests → ∀ (x : Nat), t.deferred = some x → BitVec.toNat
      s.dev.ltb < x + 80000)) ∧
    (∃ (s : State) (g : Bool) (h : Bool) (t : UnitTest) (q : List UnitTest) (x : Nat), Acts s ∧ flag s.dev BST_CTRL 0
      = true ∧ s.dev.bst.key = none ∧ s.dev.bst.running = none ∧ s.dev.bst.tests = t :: q ∧ t.deferred = some x ∧ x +
      80000 ≤ BitVec.toNat s.dev.ltb ∧ t.unit < 12 ∧ t.slice < 32 ∧ g = true ∧ h = true) ∧
    (∃ (s : State) (g : Bool) (h : Bool) (t : UnitTest) (q : List UnitTest) (x : Nat), Acts s ∧ flag s.dev BST_CTRL 0
      = true ∧ s.dev.bst.key = none ∧ s.dev.bst.running = none ∧ s.dev.bst.tests = t :: q ∧ t.deferred = some x ∧ x +
      80000 ≤ BitVec.toNat s.dev.ltb ∧ t.unit < 12 ∧ t.slice < 32 ∧ (g = false ∨ h = false)) ∧
    (∃ (s : State), Acts s ∧ s.dev.bst.running = none) ∧
    (∃ (s : State) (t : UnitTest) (n : Nat) (h : Bool) (g : Bool) (c : Instr), Acts s ∧ s.dev.bst.running = some
      t.unit ∧ unitTest s.dev t.unit = some t ∧ (c = Instr.bstSliceAbort ∨ c = Instr.bstSliceDone n h g ∧ (n ≠ 4096 ∨
      h = false))) ∧
    (∃ (s : State) (t : UnitTest), Acts s ∧ s.dev.bst.running = some t.unit ∧ unitTest s.dev t.unit = some t ∧
      (t.slice + 1 < if t.unit < 8 then 16 else 32)) ∧
    (∃ (s : State) (t : UnitTest), Acts s ∧ s.dev.bst.running = some t.unit ∧ unitTest s.dev t.unit = some t ∧ (t.unit
      < 5 ∨ 8 ≤ t.unit ∧ t.unit < 12) ∧ t.slice < 32) ∧
    (∃ (s : State) (t : UnitTest), Acts s ∧ s.dev.bst.running = some t.unit ∧ unitTest s.dev t.unit = some t ∧ t.unit
      < 5 ∧ t.slice = 15 ∧ t.role < 8 ∧ (flag s.dev FLS_STATUS 4 = false ∨ spareEngine s.dev ≠ some t.unit)) ∧
    (∃ (s : State) (t : UnitTest) (a : Fin 4) (n : Nat), Acts s ∧ s.dev.bst.running = some t.unit ∧ unitTest s.dev
      t.unit = some t ∧ t.unit < 5 ∧ t.slice = 15 ∧ t.role < 8 ∧ flag s.dev FLS_STATUS 4 = true ∧ spareEngine s.dev =
      some t.unit ∧ t.role = 0 ∧ s.dev.cea.handover = none ∧ (∀ (x : Fin 4), axisInUse s.dev ↑x = true → (ceAxis s.dev
      ↑x).takeover = Takeover.none) ∧ nextRound 4 s.dev.fls.axis (axisInUse s.dev) = some ↑a ∧ servingEngine s.dev ↑a
      = some n) ∧
    (∃ (s : State) (t : UnitTest) (n : Fin 4), Acts s ∧ s.dev.bst.running = some t.unit ∧ unitTest s.dev t.unit = some
      t ∧ t.unit = 8 + ↑n ∧ t.slice = 31 ∧ flag s.dev FLS_STATUS 5 = false) ∧
    (∃ (s : State) (t : UnitTest) (n : Fin 4) (m : Fin 4), Acts s ∧ s.dev.bst.running = some t.unit ∧ unitTest s.dev
      t.unit = some t ∧ t.unit = 8 + ↑n ∧ t.slice = 31 ∧ flag s.dev FLS_STATUS 5 = true ∧ t.role = 0 ∧ sparePair s.dev
      = some ↑n ∧ m ≠ n ∧ (pair s.dev ↑m).role = PairRole.serving ∧ (pair s.dev ↑m).task = s.dev.fls.task) ∧
    (∃ (s : State) (i : Initiator) (v : Word) (c : Instr) (on : Bool), Acts s ∧ WriteReaches s.dev i BST_KEY ∧ (c =
      Instr.bstKeyOn i v ∧ on = true ∨ c = Instr.bstKeyOff i v ∧ on = false) ∧ bit v 31 = false) ∧
    (∃ (s : State) (i : Initiator) (v : Word) (c : Instr) (on : Bool) (e : Nat), Acts s ∧ WriteReaches s.dev i BST_KEY
      ∧ (c = Instr.bstKeyOn i v ∧ on = true ∨ c = Instr.bstKeyOff i v ∧ on = false) ∧ bit v 31 = true ∧ (s.dev.bst.key
      ≠ none ∧ e = 3 ∨ s.dev.bst.key = none ∧ fld s.dev SIS_STATE 11 8 ≠ 0 ∧ e = 1 ∨ s.dev.bst.key = none ∧ fld s.dev
      SIS_STATE 11 8 = 0 ∧ (∃ (g : Fin 8), (vget s.dev.pwm.groups ↑g).running = true) ∧ e = 2)) ∧
    (∃ (s : State) (i : Initiator) (v : Word) (c : Instr) (on : Bool), Acts s ∧ WriteReaches s.dev i BST_KEY ∧ (c =
      Instr.bstKeyOn i v ∧ on = true ∨ c = Instr.bstKeyOff i v ∧ on = false) ∧ bit v 31 = true ∧ s.dev.bst.key = none
      ∧ fld s.dev SIS_STATE 11 8 = 0 ∧ (∀ (g : Fin 8), (vget s.dev.pwm.groups ↑g).running = false)) ∧
    (∃ (s : State) (r : List CopyResult), Acts s ∧ r.length = 12 ∧ s.dev.bst.key = none) ∧
    (∃ (s : State) (r : List CopyResult) (on : Bool), Acts s ∧ r.length = 12 ∧ s.dev.bst.key = some on ∧
      ¬CopyResult.fail ∈ r) ∧
    (∃ (s : State) (r : List CopyResult) (on : Bool), Acts s ∧ r.length = 12 ∧ s.dev.bst.key = some on ∧
      CopyResult.fail ∈ r) :=
  ⟨⟨(bs [] (tt [] (some 3))), by unfold Acts; decide +kernel⟩,
   ⟨bs, (.engine 3), true, true, {unit := 3, role := 0}, by unfold Acts; decide +kernel⟩,
   ⟨bs, (.engine 3), false, true, {unit := 3, role := 0}, by unfold Acts; decide +kernel⟩,
   ⟨bs, (.engine 0), by unfold Acts; decide +kernel, .inl (by decide +kernel)⟩,
   ⟨bs, by unfold Acts; decide +kernel⟩,
   ⟨(bs [] (tt [{t3 with deferred := some 99920000}, {tp with deferred := some 5}])), true, true,
     {t3 with deferred := some 99920000}, [{tp with deferred := some 5}], 99920000, by unfold Acts; decide +kernel⟩,
   ⟨(bs [] (tt [{t3 with deferred := some 99920000}, {tp with deferred := some 5}])), false, true,
     {t3 with deferred := some 99920000}, [{tp with deferred := some 5}], 99920000, by unfold Acts; decide +kernel⟩,
   ⟨bs, by unfold Acts; decide +kernel⟩,
   ⟨(rn t3), t3, 4095, true, true, .bstSliceAbort, by unfold Acts; decide +kernel⟩,
   ⟨(rn t3), t3, by unfold Acts; decide +kernel⟩,
   ⟨(rn t3), t3, by unfold Acts; decide +kernel⟩,
   ⟨(rn tl), tl, by unfold Acts; decide +kernel⟩,
   ⟨(rn tl4 [(FLS_STATUS, 0x10), (CEA_CEn_STATE 4, 0x303)]), tl4, 0, 0, by unfold Acts; decide +kernel⟩,
   ⟨(rn pl [] (modPp 1 (fun p => {p with role := .underTest}))), pl, 1, by unfold Acts; decide +kernel⟩,
   ⟨(rn {pl with role := 0} [(FLS_STATUS, 0x20)] (fun d => modPp 0 (fun p => {p with role := .serving, task := 2})
     (modPp 1 (fun p => {p with role := .underTest}) {d with fls.task := 2}))), {pl with role := 0}, 1, 0,
     by unfold Acts; decide +kernel⟩,
   ⟨bs, .px0, 1, (.bstKeyOn .px0 1), true, by unfold Acts WriteReaches; decide +kernel⟩,
   ⟨(bs [(SIS_STATE, 0x200)]), .px0, 0x80000000, (.bstKeyOff .px0 0x80000000), false, 1,
     by unfold Acts WriteReaches; decide +kernel⟩,
   ⟨(bs [(BST_KEY_STATUS, 0xe0000003), (BST_KEY_RESULT, 5)]), .px0, 0x80000000, (.bstKeyOff .px0 0x80000000), false,
     by unfold Acts WriteReaches; decide +kernel⟩,
   ⟨bs, (List.replicate 12 .pass), by unfold Acts; decide +kernel⟩,
   ⟨(bs [] (fun d => {d with bst.key := some true})), (List.replicate 12 .pass), true,
     by unfold Acts; decide +kernel⟩,
   ⟨(bs [] (fun d => {d with bst.key := some true})), (List.replicate 11 .pass ++ [.fail]), true,
     by unfold Acts; decide +kernel⟩⟩

/-- The hypotheses of Obligations.SupplyAndClockMonitors can be met. -/
theorem witness_SupplyAndClockMonitors :
    (∃ (s : State) (x : Fin 6), Acts s ∧ (x = 0 ∨ x = 3 ∨ x = 4)) ∧
    (∃ (s : State), Acts s) ∧
    (∃ (s : State) (x : Fin 6), Acts s ∧ (x ≠ 2 ∨ flag s.dev SYS_VMON 2 = false ∨ s.dev.phase ≠ Phase.programmed ∧
      s.dev.phase ≠ Phase.running)) ∧
    (∃ (s : State), Acts s ∧ flag s.dev SYS_VMON 2 = true ∧ (s.dev.phase = Phase.programmed ∨ s.dev.phase =
      Phase.running)) ∧
    (∃ (s : State) (x : Int), Acts s ∧ 3000 < x.natAbs ∧ -32768 ≤ x ∧ x ≤ 32767) ∧
    (∃ (s : State) (x : Int), Acts s ∧ x.natAbs ≤ 3000) ∧
    (∃ (s : State), Acts s ∧ (s.dev.sys.clockReset = true ∨ (∀ (t : Nat), s.dev.sys.refFrom = some t → BitVec.toNat
      s.dev.ltb < t + 16000) ∧ ∀ (t : Nat), s.dev.sys.pllFrom = some t → BitVec.toNat s.dev.ltb < t + 16000)) ∧
    (∃ (s : State) (t : Nat), Acts s ∧ s.dev.sys.clockReset = false ∧ (s.dev.sys.refFrom = some t ∨ s.dev.sys.pllFrom
      = some t) ∧ t + 16000 ≤ BitVec.toNat s.dev.ltb ∧ s.dev.phase ≠ Phase.held ∧ s.dev.phase ≠ Phase.released ∧
      s.dev.phase ≠ Phase.sisUp ∧ s.dev.csq.flushing = none ∧ s.dev.sys.warmWaits = none) :=
  ⟨⟨(sp [] rich), 0, by unfold Acts; decide +kernel⟩,
   ⟨(sp [] rich), by unfold Acts; decide +kernel⟩,
   ⟨(sp [(SYS_VMON, 0xffff)]), 1, by unfold Acts; decide +kernel⟩,
   ⟨(sp [(SYS_VMON, 0xffff), (GLK_GLnn_STATE 2, 0)]), by unfold Acts; decide +kernel⟩,
   ⟨(sp [C Src.SYS_CLK_REF]), (-3001), by unfold Acts; decide +kernel⟩,
   ⟨sp, 3000, by unfold Acts; decide +kernel⟩,
   ⟨(sp [] (fun d => {d with sys.clockReset := true})), by unfold Acts; decide +kernel⟩,
   ⟨(sp [] (fun d => {d with sys.pllFrom := some 99984000})), 99984000, by unfold Acts; decide +kernel⟩⟩

end SelfTest

namespace Reset


/-- The hypotheses of Obligations.ResetValues can be met. -/
theorem witness_ResetValues : (∃ x, x ∈ statedResets) ∧ (∃ a : Nat, 0x20000000 ≤ a ∧ a ≤ 0x2FFFFFFF) ∧
    ∃ a : Nat, 0x10000000 ≤ a ∧ a ≤ 0x10FFFFFF :=
  ⟨⟨(GLK_CTRL, 0x20), by decide⟩, ⟨0x20000000, by decide⟩, 0x10FFFFFF, by decide⟩

end Reset

end Sys2Proof.Tests
end

section
/-! PROOF. Closing debug (R49): what a write of `CFG_DBG_CLOSE` does, and which token checks do not depend on the device. -/

namespace Sys2Proof.Machine

open Reg

/-! ## The register file -/

/-- Setting a field leaves the bits outside it. -/
theorem flag_setFld_outside (a : Nat) {hi lo i : Nat} (v : Nat) (d : Dev) (h : hi < 32) (hl : lo ≤ hi)
    (hd : i < lo ∨ hi < i) : flag (setFld a hi lo v d) a i = flag d a i := by
  simp [flag, bit_setBits_other _ v h hl hd]

/-! ## The write of CFG_DBG_CLOSE -/

theorem specialWrite_dbgClose (i : Initiator) (v : Word) (d : Dev) :
    specialWrite i CFG_DBG_CLOSE v d = some (debugCloseWrite v d) := rfl

theorem debugCloseWrite_of_zero {v : Word} (hv : bit v 0 = false) (d : Dev) : debugCloseWrite v d = d := by
  simp [debugCloseWrite, hv]

theorem debugCloseWrite_of_one {v : Word} (hv : bit v 0 = true) (d : Dev) :
    debugCloseWrite v d = modCfg (fun c => { c with nonceUsed := true })
      (setFlag CFG_DBG_CLOSE 0 true (setFld CFG_DBG_STATUS 15 8 0 (setFlag CFG_DBG_STATUS 0 false d))) := by
  simp [debugCloseWrite, hv]

@[simp] theorem debugCloseWrite_raised (v : Word) (d : Dev) : (debugCloseWrite v d).raised = d.raised := by
  unfold debugCloseWrite
  split <;> rfl

/-- Closing uses up the nonce (log entry 29). -/
theorem debugCloseWrite_nonceUsed {v : Word} (hv : bit v 0 = true) (d : Dev) :
    (debugCloseWrite v d).cfg.nonceUsed = true := by
  rw [debugCloseWrite_of_one hv]
  rfl

/-- After closing, `CFG_DBG_STATUS` is what clearing OPEN and then PERMS leaves. -/
theorem rd_debugCloseWrite_status {v : Word} (hv : bit v 0 = true) (d : Dev) :
    rd (debugCloseWrite v d) CFG_DBG_STATUS =
      rd (setFld CFG_DBG_STATUS 15 8 0 (setFlag CFG_DBG_STATUS 0 false d)) CFG_DBG_STATUS := by
  rw [debugCloseWrite_of_one hv, rd_modCfg, rd_setFlag_other _ _ _ (by decide)]

theorem flag_debugCloseWrite_open {v : Word} (hv : bit v 0 = true) (d : Dev) :
    flag (debugCloseWrite v d) CFG_DBG_STATUS 0 = false := by
  rw [flag, rd_debugCloseWrite_status hv, ← flag,
    flag_setFld_outside _ _ _ (by decide) (by decide) (by decide), flag_setFlag_self _ _ _ (by decide)]

theorem fld_debugCloseWrite_perms {v : Word} (hv : bit v 0 = true) (d : Dev) :
    fld (debugCloseWrite v d) CFG_DBG_STATUS 15 8 = 0 := by
  rw [fld, rd_debugCloseWrite_status hv, ← fld, fld_setFld_self _ _ _ (by decide) (by decide), Nat.zero_mod]

/-- Closing writes no register but the two of debug access. -/
theorem rd_debugCloseWrite_other (v : Word) (d : Dev) {a : Nat} (ha : a ∉ [CFG_DBG_STATUS, CFG_DBG_CLOSE]) :
    rd (debugCloseWrite v d) a = rd d a := by
  obtain ⟨hs, hc⟩ : a ≠ CFG_DBG_STATUS ∧ a ≠ CFG_DBG_CLOSE := by simpa using ha
  by_cases hv : bit v 0 = true
  · rw [debugCloseWrite_of_one hv, rd_modCfg, rd_setFlag_other _ _ _ hc, rd_setFld_other _ _ _ _ hs,
      rd_setFlag_other _ _ _ hs]
  · rw [debugCloseWrite_of_zero (by simpa using hv)]

/-! ## The checks of a token -/

/-- FORMAT and UID are checked first and depend on the token alone; where both pass and the nonce has been used, the
answer is NONCE. -/
theorem tokenErr_of_nonceUsed {d e : Dev} {t : List Byte} (hu : e.cfg.nonceUsed = true) (hFormat : tokenErr d t ≠ 1)
    (hUid : tokenErr d t ≠ 2) : tokenErr e t = 3 := by
  unfold tokenErr at hFormat hUid ⊢
  split at hFormat
  case isTrue => exact absurd rfl hFormat
  case isFalse hf =>
    rw [if_neg hf] at hUid ⊢
    split at hUid
    case isTrue => exact absurd rfl hUid
    case isFalse hd => rw [if_neg hd, if_pos (.inl hu)]

/-! ## The command -/

/-- DEBUG_CLOSE that reaches its register is the normal response and the write; it raises nothing. -/
theorem goes_debugClose {s : State} {i : Initiator} (hs : Acts s) (hw : WriteReaches s.dev i CFG_DBG_CLOSE) (v : Word) :
    Goes (exec (.debugClose i v) s) s (debugCloseWrite v (respOk s.dev)) := by
  have hwrite : regWrite i CFG_DBG_CLOSE v s.dev = debugCloseWrite v (respOk s.dev) :=
    regWrite_special hw (specialWrite_dbgClose i v _)
  have hquiet : (regWrite i CFG_DBG_CLOSE v s.dev).raised = [] := by
    rw [hwrite, debugCloseWrite_raised, respOk_raised]; exact hs.2
  show act s (regWrite i CFG_DBG_CLOSE v) = _
  rw [act_quiet hs hquiet, hwrite]

/-- Settles O9: the write is `debugCloseWrite`, which uses up the nonce, so that the nonce check of any later token fails. -/
theorem debugClose : Obligations.DebugClose := by
  intro s i v hs hw
  have hgo := goes_debugClose hs hw v
  constructor
  · intro hv
    rwa [debugCloseWrite_of_zero hv] at hgo
  · intro hv
    have hUsed := debugCloseWrite_nonceUsed hv (respOk s.dev)
    exact ⟨_, hgo, flag_debugCloseWrite_open hv _, fld_debugCloseWrite_perms hv _, hUsed,
      fun _ ha => rd_debugCloseWrite_other v _ ha, fun _ => tokenErr_of_nonceUsed hUsed⟩

end Sys2Proof.Machine
end

section
/-! PROOF. Reading the Local Timebase (R56): what a read of `ATB_LTB_LO` answers, and whose latch it fills. -/

namespace Sys2Proof.Machine

open Reg

/-! ## Per-initiator copies of a register -/

/-- Copies of one register under different identifiers are different keys of the register file. -/
theorem bank_ne_bank {i j : Initiator} (h : initiatorId j ≠ initiatorId i) (a : Nat) : bank j a ≠ bank i a := by
  unfold bank
  omega

/-! ## The read of ATB_LTB_LO -/

/-- What a read that reaches `ATB_LTB_LO` leaves: the low word answered, the upper word of the same count latched. -/
theorem ltbRead_reaches {i : Initiator} {d : Dev} (h : ReadReaches d i ATB_LTB_LO) :
    ltbRead i d = respData (nowLo d) (wr (bank i ATB_LTB_HI) (wordOf (now d / 4294967296)) (respOk d)) :=
  busRead_reaches h _

theorem ltbRead_raised {i : Initiator} {d : Dev} (h : ReadReaches d i ATB_LTB_LO) :
    (ltbRead i d).raised = d.raised := by
  rw [ltbRead_reaches h, respData_raised, wr_raised, respOk_raised]

theorem ltbRead_response {i : Initiator} {d : Dev} (h : ReadReaches d i ATB_LTB_LO) :
    (ltbRead i d).response = ⟨false, nowLo d⟩ := by
  rw [ltbRead_reaches h, respData_response]

/-- The reader's latch takes the upper word; no other register changes. -/
theorem rd_ltbRead {i : Initiator} {d : Dev} (h : ReadReaches d i ATB_LTB_LO) (a : Nat) :
    rd (ltbRead i d) a = if a = bank i ATB_LTB_HI then wordOf (now d / 4294967296) else rd d a := by
  rw [ltbRead_reaches h, rd_respData, rd_wr, rd_respOk]

theorem rd_ltbRead_latch {i : Initiator} {d : Dev} (h : ReadReaches d i ATB_LTB_LO) :
    rd (ltbRead i d) (bank i ATB_LTB_HI) = wordOf (now d / 4294967296) := by
  rw [rd_ltbRead h, if_pos rfl]

theorem rd_ltbRead_other {i : Initiator} {d : Dev} (h : ReadReaches d i ATB_LTB_LO) {a : Nat}
    (ha : a ≠ bank i ATB_LTB_HI) : rd (ltbRead i d) a = rd d a := by
  rw [rd_ltbRead h, if_neg ha]

/-! ## The command -/

/-- ATB_LTB_LO_READ is the read, which raises nothing. -/
theorem goes_atbLtbLoRead {s : State} {i : Initiator} (hs : Acts s) (hr : ReadReaches s.dev i ATB_LTB_LO) :
    Goes (exec (.atbLtbLoRead i) s) s (ltbRead i s.dev) :=
  goes_act hs rfl ((ltbRead_raised hr).trans hs.2)

/-- Settles O10: the read changes one register, the copy of `ATB_LTB_HI` under the reader's identifier, and the copies under
other identifiers are other registers. -/
theorem localTimebaseRead : Obligations.LocalTimebaseRead := by
  intro s i hs hr
  have hOther : ∀ j, initiatorId j ≠ initiatorId i →
      rd (ltbRead i s.dev) (bank j ATB_LTB_HI) = rd s.dev (bank j ATB_LTB_HI) :=
    fun _ hj => rd_ltbRead_other hr (bank_ne_bank hj _)
  have hFrame : RegsExcept [bank i ATB_LTB_HI] s.dev (ltbRead i s.dev) :=
    fun _ ha => rd_ltbRead_other hr (by simpa using ha)
  exact ⟨ltbRead i s.dev, goes_atbLtbLoRead hs hr, ltbRead_response hr, rd_ltbRead_latch hr, hOther, hFrame⟩

end Sys2Proof.Machine
end

section
/-! PROOF. Ownership changes in a transaction (R424): the write of `CTE_OWNSET`, and the commit of that one entry. -/

namespace Sys2Proof.Machine

open Reg

/-! ## The resource map -/

theorem ownerIn_setOwnerIn_self (l : List (Nat × Owner)) (id : Nat) (o : Owner) :
    ownerIn (setOwnerIn l id o) id = o := by
  induction l with
  | nil => simp [setOwnerIn, ownerIn]
  | cons c r ih =>
    obtain ⟨k, x⟩ := c
    unfold setOwnerIn
    split
    · simp [ownerIn]
    · split
      · simp [ownerIn]
      · simp [ownerIn, *]

/-- The resource of an OWNSET value, by the fields of R33 and as `ownsetApply` computes it. -/
theorem ownset_resource (v : Word) :
    bits v 31 24 * 0x1000000 + bits v 15 0 = v.toNat / 0x1000000 * 0x1000000 + v.toNat % 65536 := by
  have hv : v.toNat < 4294967296 := v.isLt
  simp only [bits, Nat.shiftRight_eq_div_pow]
  omega

/-- An OWNSET value gives the resource it names the owner code it holds. -/
theorem ownerIn_ownsetApply (v : Word) (o : List (Nat × Owner)) :
    (ownerIn (ownsetApply v o) (bits v 31 24 * 0x1000000 + bits v 15 0)).code = bits v 23 16 := by
  rw [ownset_resource, ownsetApply, ownerIn_setOwnerIn_self]

/-! ## The transactions held -/

theorem by_of_txOf {d : Dev} {i : Initiator} {t : Tx} (h : txOf d i = some t) : t.by_ = i := by
  simpa using List.find?_some h

theorem openTx_eq_some {d : Dev} {i : Initiator} {t : Tx} :
    openTx d i = some t ↔ txOf d i = some t ∧ t.phase = .opened := by
  simp [openTx, Option.filter_eq_some_iff]

@[simp] theorem txOf_wr (a : Nat) (v : Word) (d : Dev) (i : Initiator) : txOf (wr a v d) i = txOf d i := rfl
@[simp] theorem txOf_setFld (a hi lo v : Nat) (d : Dev) (i : Initiator) : txOf (setFld a hi lo v d) i = txOf d i := rfl
@[simp] theorem txOf_respErr (d : Dev) (i : Initiator) : txOf (respErr d) i = txOf d i := rfl
@[simp] theorem txOf_journal (k o : Nat) (p : List Byte) (d : Dev) (i : Initiator) :
    txOf (journal k o p d) i = txOf d i := rfl

@[simp] theorem setTx_raised (t : Tx) (d : Dev) : (setTx t d).raised = d.raised := rfl
@[simp] theorem setTx_response (t : Tx) (d : Dev) : (setTx t d).response = d.response := rfl
@[simp] theorem setTx_cfg (t : Tx) (d : Dev) : (setTx t d).cfg = d.cfg := rfl
@[simp] theorem now_setTx (t : Tx) (d : Dev) : now (setTx t d) = now d := rfl

theorem setTx_txs (t : Tx) (d : Dev) :
    (setTx t d).cte.txs = d.cte.txs.map (fun x => if x.by_ = t.by_ then t else x) := rfl

/-- Of the registers, replacing a transaction changes `CTE_OPEN` alone. -/
theorem rd_setTx_other (t : Tx) (d : Dev) {a : Nat} (ha : a ≠ CTE_OPEN) : rd (setTx t d) a = rd d a := by
  rw [setTx, showOpen, rd_setFld_other _ _ _ _ ha, rd_setFld_other _ _ _ _ ha, rd_modCte]

/-- The transaction that replaces the one an initiator holds is the one it holds then. -/
theorem txOf_setTx {d : Dev} {i : Initiator} {x t : Tx} (h : txOf d i = some x) (ht : t.by_ = i) :
    txOf (setTx t d) i = some t := by
  subst ht
  have hkey : ((fun y : Tx => decide (y.by_ = t.by_)) ∘ fun y => if y.by_ = t.by_ then t else y)
      = fun y => decide (y.by_ = t.by_) := by
    funext y
    by_cases hy : y.by_ = t.by_ <;> simp [hy]
  have hx : x.by_ = t.by_ := by_of_txOf h
  unfold txOf at h ⊢
  rw [setTx_txs, List.find?_map, hkey, h]
  simp [hx]

/-- Once its transaction has been dropped an initiator holds none. -/
theorem txOf_dropTx (i : Initiator) (d : Dev) : txOf (dropTx i d) i = none := by
  show (d.cte.txs.filter (fun x => decide (x.by_ ≠ i))).find? (fun t => decide (t.by_ = i)) = none
  simp [List.find?_eq_none]

/-! ## The write of CTE_OWNSET -/

theorem specialWrite_ownset (i : Initiator) (v : Word) (d : Dev) :
    specialWrite i CTE_OWNSET v d = some (cteOwnset i v d) := rfl

theorem adjAt_ownset (d : Dev) : adjAt d CTE_OWNSET = false := rfl

theorem shadowKey_ownset (d : Dev) : shadowKey d CTE_OWNSET = CTE_OWNSET := rfl

/-- The write outside the shadow store is the write of the register's own. -/
theorem registerStore_ownset {i : Initiator} {d : Dev} (hu : regUnused d CTE_OWNSET = false)
    (hl : txLocked d CTE_OWNSET = false) (v : Word) : registerStore i CTE_OWNSET v d = cteOwnset i v d := by
  simp [registerStore, hu, hl, specialWrite_ownset]

/-- With a transaction open or without, a write that arrives is the normal response and `cteOwnset`. -/
theorem regWrite_ownset {i : Initiator} {d : Dev} (h : writeArrives d i CTE_OWNSET) (v : Word) :
    regWrite i CTE_OWNSET v d = cteOwnset i v (respOk d) := by
  obtain ⟨hlive, hdenied, htest, hunused, hlocked⟩ := h
  have hpass : writeDenied d i CTE_OWNSET .w32 = none := by
    simp [writeDenied, adjShadowed, adjAt_ownset, hdenied]
  have htest' : underTestAt (respOk d) CTE_OWNSET = false := htest
  have hstore : registerStore i CTE_OWNSET v (respOk d) = cteOwnset i v (respOk d) :=
    registerStore_ownset (d := respOk d) hunused hlocked v
  simp only [regWrite, hlive, hpass, if_true, registerWrite, htest', Bool.false_eq_true, if_false, hstore,
    shadowKey_ownset]
  cases hopen : openTx (respOk d) i with
  | none => rfl
  | some t => simp [cteOwnset, hopen]

theorem cteOwnset_of_none {i : Initiator} {d : Dev} (h : openTx d i = none) (v : Word) :
    cteOwnset i v d = respErr d := by
  simp [cteOwnset, h]

/-- While the store has room the write takes an entry of its own, whatever entries stand there. -/
theorem cteOwnset_of_room {i : Initiator} {d : Dev} {t : Tx} (h : openTx d i = some t) (hr : shadowUsed d < 1024)
    (v : Word) :
    cteOwnset i v d = wr (bank i CTE_TX_WRITES) (wordOf (t.entries.length + 1))
      (setTx { t with lastWrite := now d, entries := t.entries ++ [⟨CTE_OWNSET, v⟩] } d) := by
  have hby : t.by_ = i := by_of_txOf (openTx_eq_some.1 h).1
  simp [cteOwnset, h, shadowPut, Nat.not_le.2 hr, hby]

/-- A full store refuses the write, and the transaction is marked. -/
theorem cteOwnset_of_full {i : Initiator} {d : Dev} {t : Tx} (h : openTx d i = some t) (hf : 1024 ≤ shadowUsed d)
    (v : Word) :
    cteOwnset i v d = journal 0x03 0x0C (ctePayload 1 5 t.token i)
      (respErr (setTx { t with lastWrite := now d, full := true } d)) := by
  have hby : t.by_ = i := by_of_txOf (openTx_eq_some.1 h).1
  simp [cteOwnset, h, shadowPut, hf, hby]

/-- CTE_OWNSET that arrives is the normal response and `cteOwnset`, where that raises nothing. -/
theorem goes_cteOwnset {s : State} {i : Initiator} {v : Word} {d : Dev} (hs : Acts s)
    (hw : writeArrives s.dev i CTE_OWNSET) (hd : cteOwnset i v (respOk s.dev) = d) (hr : d.raised = s.dev.raised) :
    Goes (exec (.cteOwnset i v) s) s d :=
  goes_act hs ((regWrite_ownset hw v).trans hd) (hr.trans hs.2)

/-- Outside a transaction the write gets an error response. -/
theorem goes_cteOwnset_of_none {s : State} {i : Initiator} (hs : Acts s) (hw : writeArrives s.dev i CTE_OWNSET)
    (h : openTx s.dev i = none) (v : Word) : Goes (exec (.cteOwnset i v) s) s (respErr s.dev) :=
  goes_cteOwnset hs hw (cteOwnset_of_none (d := respOk s.dev) h v) rfl

/-- Inside a transaction, with room in the store, the write takes an entry. -/
theorem goes_cteOwnset_of_room {s : State} {i : Initiator} {t : Tx} (hs : Acts s)
    (hw : writeArrives s.dev i CTE_OWNSET) (h : openTx s.dev i = some t) (hr : shadowUsed s.dev < 1024) (v : Word) :
    ∃ d, Goes (exec (.cteOwnset i v) s) s d ∧ d.response = ⟨false, 0⟩ ∧ d.cfg = s.dev.cfg
      ∧ txOf d i = some { t with lastWrite := s.dev.ltb.toNat, entries := t.entries ++ [⟨CTE_OWNSET, v⟩] }
      ∧ RegsExcept [bank i CTE_TX_WRITES, CTE_OPEN] s.dev d := by
  have htx := (openTx_eq_some.1 h).1
  have hby := by_of_txOf htx
  refine ⟨_, goes_cteOwnset hs hw (cteOwnset_of_room (d := respOk s.dev) h hr v) rfl, rfl, rfl, ?_, ?_⟩
  · rw [txOf_wr]
    exact txOf_setTx (d := respOk s.dev) htx hby
  · intro a ha
    obtain ⟨hwrites, hopen⟩ : a ≠ bank i CTE_TX_WRITES ∧ a ≠ CTE_OPEN := by simpa using ha
    rw [rd_wr_other _ _ hwrites, rd_setTx_other _ _ hopen, rd_respOk]

/-- Inside a transaction, with the store full, the write is refused. -/
theorem goes_cteOwnset_of_full {s : State} {i : Initiator} {t : Tx} (hs : Acts s)
    (hw : writeArrives s.dev i CTE_OWNSET) (h : openTx s.dev i = some t) (hf : 1024 ≤ shadowUsed s.dev) (v : Word) :
    ∃ d, Goes (exec (.cteOwnset i v) s) s d ∧ d.response = ⟨true, 0⟩ ∧ d.cfg = s.dev.cfg
      ∧ txOf d i = some { t with lastWrite := s.dev.ltb.toNat, full := true }
      ∧ RegsExcept [bank i CTE_TX_WRITES, CTE_OPEN] s.dev d := by
  have htx := (openTx_eq_some.1 h).1
  have hby := by_of_txOf htx
  refine ⟨_, goes_cteOwnset hs hw (cteOwnset_of_full (d := respOk s.dev) h hf v) rfl, rfl, rfl, ?_, ?_⟩
  · rw [txOf_journal, txOf_respErr]
    exact txOf_setTx (d := respOk s.dev) htx hby
  · intro a ha
    obtain ⟨-, hopen⟩ : a ≠ bank i CTE_TX_WRITES ∧ a ≠ CTE_OPEN := by simpa using ha
    rw [rd_journal, rd_respErr, rd_setTx_other _ _ hopen, rd_respOk]

/-! ## Application -/

/-- A loop keeps what each of its rounds keeps. -/
theorem forEach_keeps {α : Type} (g : Dev → α) {f : Nat → Dev → Dev} (h : ∀ k d, g (f k d) = g d) (l : List Nat)
    (d : Dev) : g (forEach l f d) = g d := by
  induction l generalizing d with
  | nil => rfl
  | cons k r ih => exact (ih (f k d)).trans (h k d)

@[simp] theorem macNext_cfg (n : Nat) (d : Dev) : (macNext n d).cfg = d.cfg := by
  unfold macNext
  dsimp only
  split
  · rfl
  · split <;> rfl

@[simp] theorem udpSend_cfg (n sport pcp : Nat) (dest : Sender) (p : List Byte) (d : Dev) :
    (udpSend n sport pcp dest p d).cfg = d.cfg := by
  unfold udpSend
  split
  · exact macNext_cfg ..
  · rfl

@[simp] theorem endSub_cfg (k reason : Nat) (d : Dev) : (endSub k reason d).cfg = d.cfg := by
  unfold endSub
  split
  · exact udpSend_cfg ..
  · rfl

/-- The subscriptions that end with a change of owner leave the owners alone. -/
@[simp] theorem subOwners_cfg (d : Dev) : (subOwners d).cfg = d.cfg := by
  refine forEach_keeps (·.cfg) (fun k d => ?_) _ d
  split
  · exact endSub_cfg k 4 d
  · rfl

@[simp] theorem showResOwner_cfg (d : Dev) : (showResOwner d).cfg = d.cfg := by
  unfold showResOwner
  dsimp only
  split <;> rfl

theorem applyEntry_ownset (v : Word) (d : Dev) :
    applyEntry ⟨CTE_OWNSET, v⟩ d = { d with cfg := { d.cfg with owners := ownsetApply v d.cfg.owners } } :=
  if_pos rfl

/-- A commit without PWM registers has no batch. -/
theorem applyPwm_ownset {t : Tx} {v : Word} (h : t.entries = [⟨CTE_OWNSET, v⟩]) (d : Dev) : applyPwm t d = d := by
  have hpwm : isPwm CTE_OWNSET = false := by decide
  simp [applyPwm, h, hpwm]

/-- The transaction that applies is no longer held. -/
theorem txOf_applyTx {t : Tx} {i : Initiator} (h : t.by_ = i) (d : Dev) : txOf (applyTx t d) i = none := by
  rw [applyTx, txOf_wr, txOf_wr, showTx, txOf_setFld, txOf_setFld, h, txOf_dropTx]

/-- A commit of one OWNSET entry makes that one change of owner. -/
theorem applyTx_owners {t : Tx} {v : Word} (h : t.entries = [⟨CTE_OWNSET, v⟩]) (d : Dev) :
    (applyTx t d).cfg.owners = ownsetApply v d.cfg.owners := by
  have hcfg : (applyTx t d).cfg = (showResOwner (subOwners (applyEntry ⟨CTE_OWNSET, v⟩ d))).cfg := by
    simp [applyTx, h, applyPwm_ownset h, showTx, dropTx, showOpen, showOvl]
  rw [hcfg, showResOwner_cfg, subOwners_cfg, applyEntry_ownset]

/-! ## The boundary and the end of validation -/

/-- A pending transaction whose boundary has come, and that waits on none, applies. -/
theorem boundaryApply_due {i : Initiator} {t : Tx} {b : Nat} {d : Dev} (h : txOf d i = some t)
    (hb : t.boundary = some b) (hp : t.phase = .pending) (hnow : b ≤ now d) (hw : waitsOn d t = false) :
    boundaryApply i d = applyTx t d := by
  simp [boundaryApply, h, hb, hp, hnow, hw]

/-- Transaction `t` with its boundary fixed. -/
def withBoundary (t : Tx) (b : Option Nat) : Tx := { t with phase := .pending, boundary := b }

/-- A transaction that waits on none does not begin to wait by becoming pending itself. -/
theorem waitsOn_withBoundary {d : Dev} {t : Tx} (h : waitsOn d t = false) (b : Option Nat) :
    waitsOn (setTx (withBoundary t b) d) (withBoundary t b) = false := by
  simp only [waitsOn, List.any_eq_false] at h ⊢
  intro x hx
  rw [setTx_txs, List.mem_map] at hx
  obtain ⟨y, hy, rfl⟩ := hx
  split
  · simp
  · exact h y hy

@[simp] theorem waitsOn_setFld (a hi lo v : Nat) (d : Dev) (t : Tx) : waitsOn (setFld a hi lo v d) t = waitsOn d t := rfl

/-- A commit of KIND immediate that passes validation applies in the tick in which validation ends. -/
theorem validationDone_immediate {i : Initiator} {t : Tx} {d : Dev} (h : txOf d i = some t)
    (hp : t.phase = .validating) (hf : firstToValidate d t = true) (hok : txFail d t = none) (hk : t.kind = 0)
    (hw : waitsOn d t = false) :
    validationDone i d = applyTx (withBoundary t (some (now d)))
      (setFld (bank i CTE_TX) 2 0 3 (setTx (withBoundary t (some (now d))) d)) := by
  have hboundary : boundaryOf d t = .inr (some (now d)) := by simp [boundaryOf, hk]
  have hdone : validationDone i d
      = boundaryApply i (setFld (bank i CTE_TX) 2 0 3 (setTx (withBoundary t (some (now d))) d)) := by
    simp [validationDone, h, hp, hf, hok, hboundary, hk, withBoundary]
  rw [hdone]
  refine boundaryApply_due (b := now d) ?_ rfl rfl ?_ ?_
  · rw [txOf_setFld]
    exact txOf_setTx h (by_of_txOf (t := t) h)
  · exact Nat.le_of_eq (by rw [now_setFld, now_setTx])
  · rw [waitsOn_setFld, waitsOn_withBoundary hw]

/-! ## The commit -/

/-- FCR's handling of the raisings of a command leaves the configuration and the transactions alone. -/
theorem settle_cfg (d : Dev) : (settle d).cfg = d.cfg := (settle_low d).1.cfg

theorem txOf_settle (d : Dev) (i : Initiator) : txOf (settle d) i = txOf d i := by
  have hcte : (settle d).cte = d.cte := (settle_low d).1.cte
  rw [txOf, hcte, txOf]

/-- A command that applies a transaction of one OWNSET entry ends the transaction and makes the change of owner; FCR's
handling of what has come up leaves both. -/
theorem act_applyTx_ownset {s : State} {i : Initiator} {f : Dev → Dev} {u : Tx} {e : Dev} {v : Word} (hs : Acts s)
    (hf : f s.dev = applyTx u e) (hby : u.by_ = i) (hu : u.entries = [⟨CTE_OWNSET, v⟩]) :
    ∃ z, act s f = .next z ∧ z.pending = s.pending ∧ z.mem = s.mem ∧ txOf z.dev i = none
      ∧ (ownerIn z.dev.cfg.owners (bits v 31 24 * 0x1000000 + bits v 15 0)).code = bits v 23 16 := by
  refine ⟨_, act_of_acts hs f, rfl, rfl, ?_, ?_⟩
  · rw [withDev_dev, hf, txOf_settle, txOf_applyTx hby]
  · rw [withDev_dev, hf, settle_cfg, applyTx_owners hu, ownerIn_ownsetApply]

/-- Settles O48: the three cases of the write, and a commit that applies either in the tick in which its validation ends or
at its boundary. -/
theorem ownershipRequest : Obligations.OwnershipRequest := by
  constructor
  · intro s i v hs hw
    exact ⟨fun h => goes_cteOwnset_of_none hs hw h v, fun _ h hr => goes_cteOwnset_of_room hs hw h hr v,
      fun _ h hf => goes_cteOwnset_of_full hs hw h hf v⟩
  · intro s i t v c hs ht he hw hc
    have hby := by_of_txOf ht
    rcases hc with ⟨rfl, hp, hf, hok, hk⟩ | ⟨rfl, hp, b, hb, hnow⟩
    · exact act_applyTx_ownset hs (validationDone_immediate ht hp hf hok hk hw) hby he
    · exact act_applyTx_ownset hs (boundaryApply_due ht hb hp hnow hw) hby he

end Sys2Proof.Machine
end

section
/-! PROOF. CAN arbitration and the write of CANCEL (R476, R478): which frame enters arbitration, and what becomes of a
buffer on which CANCEL is written. -/

namespace Sys2Proof.Machine

open Reg

/-! ## A controller and its buffers -/

theorem canOf_modCan {c : Nat} (hc : c < 4) (f : CanState → CanState) (d : Dev) :
    canOf (modCan c f d) c = f (canOf d c) :=
  vget_vset_self _ _ hc

theorem canOf_modBuf {c : Nat} (hc : c < 4) (b : Nat) (f : CanBuf → CanBuf) (d : Dev) :
    canOf (modBuf c b f d) c = { canOf d c with bufs := vset (canOf d c).bufs b (f (canBuf d c b)) } :=
  canOf_modCan hc _ d

theorem canBuf_modBuf {c b : Nat} (hc : c < 4) (hb : b < 3) (f : CanBuf → CanBuf) (d : Dev) :
    canBuf (modBuf c b f d) c b = f (canBuf d c b) := by
  rw [canBuf, canOf_modBuf hc]
  exact vget_vset_self _ _ hb

@[simp] theorem canOf_incFld (a hi lo : Nat) (d : Dev) (c : Nat) : canOf (incFld a hi lo d) c = canOf d c := rfl
@[simp] theorem canOf_setTxState (c b v : Nat) (d : Dev) (k : Nat) : canOf (setTxState c b v d) k = canOf d k := rfl
@[simp] theorem canBuf_incFld (a hi lo : Nat) (d : Dev) (c b : Nat) : canBuf (incFld a hi lo d) c b = canBuf d c b := rfl

@[simp] theorem txState_modBuf (k j : Nat) (f : CanBuf → CanBuf) (d : Dev) (c b : Nat) :
    txState (modBuf k j f d) c b = txState d c b := rfl

theorem txState_setTxState {v : Nat} (hv : v < 8) (c b : Nat) (d : Dev) : txState (setTxState c b v d) c b = v := by
  rw [txState, setTxState, fld_setFld_self _ _ _ (by decide) (by decide)]
  exact Nat.mod_eq_of_lt hv

/-- Setting a field leaves the fields outside it. -/
theorem fld_setFld_outside (a : Nat) {hi lo hi' lo' : Nat} (v : Nat) (d : Dev) (h : hi < 32) (hl : lo ≤ hi)
    (hl' : lo' ≤ hi') (hd : hi' < lo ∨ hi < lo') : fld (setFld a hi lo v d) a hi' lo' = fld d a hi' lo' := by
  simp [fld, bits_setBits_other _ v h hl hl' hd]

/-- Counting one up, saturating, is the lesser of the limit and one more. -/
theorem satInc_eq_min {m n : Nat} (h : n ≤ m) : satInc m n = Nat.min m (n + 1) := by
  unfold satInc
  split
  · exact (Nat.min_eq_right (by omega)).symm
  · exact (Nat.min_eq_left (by omega)).symm

/-- ATTEMPTS counts up and saturates at 15. -/
theorem attempts_incFld (a : Nat) (d : Dev) : fld (incFld a 11 8 d) a 11 8 = Nat.min 15 (fld d a 11 8 + 1) := by
  have hlt : fld d a 11 8 < 16 := Nat.mod_lt _ (by decide)
  have hmin : Nat.min 15 (fld d a 11 8 + 1) < 16 := Nat.lt_of_le_of_lt (Nat.min_le_left _ _) (by decide)
  rw [incFld, fld_setFld_self _ _ _ (by decide) (by decide), satInc_eq_min (by omega)]
  exact Nat.mod_eq_of_lt hmin

/-! ## The buffer that PRIO selects (R476) -/

/-- The better of the candidate so far and the buffer `x`: the lower key, and of equal keys the earlier one. -/
def firstLess (key : Nat → Nat) (acc : Option Nat) (x : Nat) : Option Nat :=
  match acc with
  | none => some x
  | some y => if key x < key y then some x else some y

theorem firstLess_cases (key : Nat → Nat) (acc : Option Nat) (x : Nat) :
    firstLess key acc x = some x ∨ firstLess key acc x = acc := by
  unfold firstLess
  split
  · exact .inl rfl
  · split
    · exact .inl rfl
    · exact .inr rfl

/-- With PRIO = 0 the candidate is the first of the least keys among the PENDING buffers. -/
theorem candidate_byKey {d : Dev} {c : Nat} (h : flag d (CAN_CTRL c) 0 = false) :
    candidate d c = (idxWhere 3 (fun x => decide (txState d c x = 1))).foldl (firstLess (bufKey d c)) none := by
  rw [candidate, h]
  rfl

/-- With PRIO = 1 it is the first PENDING buffer. -/
theorem candidate_byNumber {d : Dev} {c : Nat} (h : flag d (CAN_CTRL c) 0 = true) :
    candidate d c = (idxWhere 3 (fun x => decide (txState d c x = 1))).head? := by
  rw [candidate, h]
  rfl

theorem mem_pending {d : Dev} {c x : Nat} :
    x ∈ idxWhere 3 (fun x => decide (txState d c x = 1)) ↔ x < 3 ∧ txState d c x = 1 := by
  simp [idxWhere]

theorem pairwise_pending (d : Dev) (c : Nat) :
    (idxWhere 3 (fun x => decide (txState d c x = 1))).Pairwise (· < ·) :=
  List.pairwise_lt_range.filter _

theorem foldl_firstLess_mem {key : Nat → Nat} {l : List Nat} {acc : Option Nat} {x : Nat}
    (h : l.foldl (firstLess key) acc = some x) : acc = some x ∨ x ∈ l := by
  induction l generalizing acc with
  | nil => exact .inl h
  | cons y r ih =>
    rcases ih h with hy | hr
    · rcases firstLess_cases key acc y with hnew | hold
      · rw [hnew] at hy
        exact .inr (Option.some.inj hy ▸ List.mem_cons_self)
      · exact .inl (hold ▸ hy)
    · exact .inr (List.mem_cons_of_mem _ hr)

/-- A candidate whose key no later one undercuts stays. -/
theorem foldl_firstLess_of_le {key : Nat → Nat} {b : Nat} {l : List Nat} (h : ∀ x ∈ l, key b ≤ key x) :
    l.foldl (firstLess key) (some b) = some b := by
  induction l with
  | nil => rfl
  | cons x r ih =>
    have hx : firstLess key (some b) x = some b := if_neg (Nat.not_lt.2 (h x List.mem_cons_self))
    rw [List.foldl_cons, hx]
    exact ih fun y hy => h y (List.mem_cons_of_mem _ hy)

/-- In a rising list the search ends with `b` where `b` has the least key and is the first with that key. -/
theorem foldl_firstLess_eq {key : Nat → Nat} {b : Nat} {l : List Nat} (hl : l.Pairwise (· < ·)) (hb : b ∈ l)
    (h : ∀ x ∈ l, key b < key x ∨ (key b = key x ∧ b ≤ x)) {acc : Option Nat} (ha : ∀ y ∈ acc, key b < key y) :
    l.foldl (firstLess key) acc = some b := by
  induction l generalizing acc with
  | nil => cases hb
  | cons x r ih =>
    obtain ⟨hxr, hr⟩ := List.pairwise_cons.1 hl
    rw [List.foldl_cons]
    by_cases hx : x = b
    · subst hx
      have hstep : firstLess key acc x = some x := by
        cases acc with
        | none => rfl
        | some y => exact if_pos (ha y rfl)
      rw [hstep]
      exact foldl_firstLess_of_le fun y hy => (h y (List.mem_cons_of_mem _ hy)).elim Nat.le_of_lt fun e => Nat.le_of_eq e.1
    · have hbr : b ∈ r := (List.mem_cons.1 hb).resolve_left (Ne.symm hx)
      have hless : key b < key x :=
        (h x List.mem_cons_self).resolve_right fun e => absurd (hxr b hbr) (Nat.not_lt.2 e.2)
      refine ih hr hbr (fun y hy => h y (List.mem_cons_of_mem _ hy)) fun y hy => ?_
      rcases firstLess_cases key acc x with hnew | hold
      · rw [hnew] at hy
        exact Option.some.inj hy ▸ hless
      · exact ha y (hold ▸ hy)

theorem candidate_pending {d : Dev} {c x : Nat} (h : candidate d c = some x) : x < 3 ∧ txState d c x = 1 := by
  cases hp : flag d (CAN_CTRL c) 0 with
  | true =>
    rw [candidate_byNumber hp] at h
    exact mem_pending.1 (List.mem_of_mem_head? h)
  | false =>
    rw [candidate_byKey hp] at h
    exact mem_pending.1 ((foldl_firstLess_mem h).resolve_left (by simp))

theorem candidate_of_idle {d : Dev} {c : Nat} (h : ∀ b : Fin 3, txState d c b ≠ 1) : candidate d c = none :=
  Option.eq_none_iff_forall_ne_some.2 fun x hx =>
    have ⟨hlt, hpend⟩ := candidate_pending hx
    h ⟨x, hlt⟩ hpend

/-- The buffer that the statement calls selected is the model's candidate. -/
theorem candidate_of_selected {d : Dev} {c : Fin 4} {b : Fin 3} (h : selected d c b) : candidate d c = some b.val := by
  obtain ⟨hpend, hbest⟩ := h
  have hmem : b.val ∈ idxWhere 3 (fun x => decide (txState d c x = 1)) := mem_pending.2 ⟨b.isLt, hpend⟩
  cases hp : flag d (CAN_CTRL c) 0 with
  | true =>
    rw [candidate_byNumber hp, idxWhere, List.head?_filter, List.find?_range_eq_some]
    refine ⟨decide_eq_true hpend, List.mem_range.2 b.isLt, fun j hj => ?_⟩
    rw [Bool.not_eq_true', decide_eq_false_iff_not]
    intro hpj
    have hle := (hbest ⟨j, Nat.lt_trans hj b.isLt⟩ hpj).1 hp
    exact Nat.not_le.2 hj (Fin.le_def.1 hle)
  | false =>
    rw [candidate_byKey hp]
    refine foldl_firstLess_eq (pairwise_pending d c) hmem (fun x hx => ?_) (by simp)
    obtain ⟨hlt, hpx⟩ := mem_pending.1 hx
    exact (hbest ⟨x, hlt⟩ hpx).2 hp

/-! ## What enters arbitration (R476) -/

/-- The buffer that PRIO selects enters where CSQ's slot is disabled, empty or not ahead of it. -/
theorem nextAttempt_selected {d : Dev} {c : Fin 4} {b : Fin 3} (h : selected d c b)
    (ha : flag d (CAN_CSQACK c) 31 = false ∨ (canOf d c).acks = [] ∨ bufKey d c b ≤ ackKey d c) :
    nextAttempt d c = some b.val := by
  rw [nextAttempt, candidate_of_selected h]
  rcases ha with hoff | hempty | hle
  · simp [hoff]
  · simp [hempty]
  · simp [Nat.not_lt.2 hle]

/-- CSQ's slot enters where it is ahead of every PENDING buffer. -/
theorem nextAttempt_ack {d : Dev} {c : Fin 4} (hen : flag d (CAN_CSQACK c) 31 = true) (hacks : (canOf d c).acks ≠ [])
    (h : ∀ b : Fin 3, txState d c b = 1 → ackKey d c < bufKey d c b) : nextAttempt d c = some 3 := by
  rw [nextAttempt]
  cases hcand : candidate d c with
  | none => simp [hen, hacks]
  | some b =>
    obtain ⟨hlt, hpend⟩ := candidate_pending hcand
    simp [hen, hacks, h ⟨b, hlt⟩ hpend]

theorem nextAttempt_of_idle {d : Dev} {c : Nat} (h : ∀ b : Fin 3, txState d c b ≠ 1) (ha : (canOf d c).acks = []) :
    nextAttempt d c = none := by
  simp [nextAttempt, candidate_of_idle h, ha]

/-- The controller may start an attempt: it is on the bus and not about to leave it, nothing is in progress, it is not
bus-off and not listen-only (R471, R476, R480, R481). -/
def mayStart (d : Dev) (c : Nat) : Prop :=
  (canOf d c).joined = true ∧ (canOf d c).leaving = false ∧ (canOf d c).cur = none ∧ flag d (CAN_STATUS c) 2 = false
    ∧ fld d (CAN_CTRL c) 29 28 ≠ 1

/-- SOF of `b`: the attempt is in progress. -/
def startAttempt (c b : Nat) (d : Dev) : Dev := modCan c (fun x => { x with cur := some b, sof := now d }) d

theorem arbitrate_of_not_mayStart {d : Dev} {c : Nat} (h : ¬mayStart d c) : arbitrate c d = d := by
  refine if_pos (Decidable.byContradiction fun hgo => ?_)
  simp only [Bool.or_eq_true, not_or, Bool.not_eq_true, Bool.not_eq_false', Option.isSome_eq_false_iff,
    Option.isNone_iff_eq_none, decide_eq_true_eq] at hgo
  obtain ⟨⟨⟨⟨hj, hl⟩, hc⟩, ho⟩, hm⟩ := hgo
  exact h ⟨hj, hl, hc, ho, hm⟩

theorem arbitrate_of_none {d : Dev} {c : Nat} (h : nextAttempt d c = none) : arbitrate c d = d := by
  unfold arbitrate
  simp only [h, ite_self]

/-- A buffer enters arbitration: SOF, and one more attempt is counted. -/
theorem arbitrate_buffer {d : Dev} {c b : Nat} (h : mayStart d c) (hn : nextAttempt d c = some b) (hb : b < 3) :
    arbitrate c d =
      modBuf c b (fun x => { x with tried := x.tried + 1 }) (incFld (CAN_TXBb_STATUS c b) 11 8 (startAttempt c b d)) := by
  obtain ⟨hj, hl, hc, ho, hm⟩ := h
  simp [arbitrate, hj, hl, hc, ho, hm, hn, hb, startAttempt]

/-- CSQ's slot enters arbitration: SOF alone. -/
theorem arbitrate_slot {d : Dev} {c : Nat} (h : mayStart d c) (hn : nextAttempt d c = some 3) :
    arbitrate c d = startAttempt c 3 d := by
  obtain ⟨hj, hl, hc, ho, hm⟩ := h
  simp [arbitrate, hj, hl, hc, ho, hm, hn, startAttempt]

/-- Where the controller may not start, or nothing waits, CAN_ARBITRATION changes nothing. -/
theorem goes_canArbitration_idle {s : State} {c : Fin 4} (hs : Acts s) (h : ¬mayStart s.dev c ∨ nextAttempt s.dev c = none) :
    Goes (exec (.canArbitration c) s) s s.dev :=
  goes_act hs (h.elim arbitrate_of_not_mayStart arbitrate_of_none) hs.2

/-- The selected buffer starts its attempt. -/
theorem goes_canArbitration_buffer {s : State} {c : Fin 4} {b : Fin 3} (hs : Acts s) (h : mayStart s.dev c)
    (hsel : selected s.dev c b)
    (ha : flag s.dev (CAN_CSQACK c) 31 = false ∨ (canOf s.dev c).acks = [] ∨ bufKey s.dev c b ≤ ackKey s.dev c) :
    ∃ d, Goes (exec (.canArbitration c) s) s d ∧ (canOf d c).cur = some b.val ∧ (canOf d c).sof = s.dev.ltb.toNat
      ∧ (canBuf d c b).tried = (canBuf s.dev c b).tried + 1 ∧ txState d c b = 1
      ∧ fld d (CAN_TXBb_STATUS c b) 11 8 = Nat.min 15 (fld s.dev (CAN_TXBb_STATUS c b) 11 8 + 1)
      ∧ RegsExcept [CAN_TXBb_STATUS c b] s.dev d := by
  have hstart : canOf (startAttempt c b s.dev) c = { canOf s.dev c with cur := some b.val, sof := now s.dev } :=
    canOf_modCan c.isLt _ _
  have hrun := arbitrate_buffer h (nextAttempt_selected hsel ha) b.isLt
  refine ⟨_, goes_act hs hrun hs.2, ?_, ?_, ?_, ?_, ?_, ?_⟩
  · rw [canOf_modBuf c.isLt, canOf_incFld, hstart]
  · rw [canOf_modBuf c.isLt, canOf_incFld, hstart]
    rfl
  · rw [canBuf_modBuf c.isLt b.isLt, canBuf_incFld, canBuf, hstart]
    rfl
  · rw [txState_modBuf, txState, incFld, fld_setFld_outside _ _ _ (by decide) (by decide) (by decide) (by decide)]
    exact hsel.1
  · exact attempts_incFld _ _
  · intro a ha
    exact rd_incFld_other 11 8 _ (by simpa using ha)

/-- CSQ's slot starts its attempt. -/
theorem goes_canArbitration_slot {s : State} {c : Fin 4} (hs : Acts s) (h : mayStart s.dev c)
    (hn : nextAttempt s.dev c = some 3) :
    ∃ d, Goes (exec (.canArbitration c) s) s d ∧ (canOf d c).cur = some 3 ∧ (canOf d c).sof = s.dev.ltb.toNat
      ∧ RegsExcept [] s.dev d := by
  have hstart : canOf (startAttempt c 3 s.dev) c = { canOf s.dev c with cur := some 3, sof := now s.dev } :=
    canOf_modCan c.isLt _ _
  refine ⟨_, goes_act hs (arbitrate_slot h hn) hs.2, ?_, ?_, fun _ _ => rfl⟩
  · rw [hstart]
  · rw [hstart]
    rfl

/-! ## The write of CANCEL (R478) -/

theorem txReqAt_req (c : Fin 4) (b : Fin 3) : txReqAt (CAN_TXBb_REQ c b) = some (c.val, b.val) := by
  revert c b
  decide

/-- A write to CAN's windows is CAN's affair. -/
theorem specialWrite_can {a : Nat} (c : Fin 4) (h : a / 0x10000 = 0x40b0 + c) (i : Initiator) (v : Word) (d : Dev) :
    specialWrite i a v d = canSpecial a v d := by
  unfold specialWrite
  rw [h]
  match c with
  | 0 | 1 | 2 | 3 => rfl

theorem specialWrite_txReq (i : Initiator) (c : Fin 4) (b : Fin 3) (v : Word) (d : Dev) :
    specialWrite i (CAN_TXBb_REQ c b) v d = some (answered (canReq c b v d)) := by
  have hwindow : CAN_TXBb_REQ c b / 0x10000 = 0x40b0 + c := by
    unfold CAN_TXBb_REQ
    omega
  rw [specialWrite_can c hwindow, canSpecial, txReqAt_req]

/-- CANCEL written without GO gets the normal response. -/
theorem canReq_cancel {v : Word} (hv : bit v 0 = false) (c b : Nat) (d : Dev) :
    canReq c b (setBit v 1 true) d = (false, canCancel c b d) := by
  simp [canReq, bit_setBit_self, bit_setBit_other, hv]

/-- CAN_TX_CANCEL that reaches its register is the normal response and the cancel, which raises nothing. -/
theorem goes_canTxCancel {s : State} {i : Initiator} {c : Fin 4} {b : Fin 3} {v : Word} {d : Dev} (hs : Acts s)
    (hw : WriteReaches s.dev i (CAN_TXBb_REQ c b)) (hv : bit v 0 = false) (hd : canCancel c b (respOk s.dev) = d)
    (hr : d.raised = s.dev.raised) : Goes (exec (.canTxCancel i c b v) s) s d := by
  have hwrite : regWrite i (CAN_TXBb_REQ c b) (setBit v 1 true) s.dev = d := by
    rw [regWrite_special hw (specialWrite_txReq i c b _ _), canReq_cancel hv]
    exact hd
  exact goes_act hs hwrite (hr.trans hs.2)

/-- A buffer that waits is CANCELLED at once. -/
theorem goes_canTxCancel_waiting {s : State} {i : Initiator} {c : Fin 4} {b : Fin 3} {v : Word} (hs : Acts s)
    (hw : WriteReaches s.dev i (CAN_TXBb_REQ c b)) (hv : bit v 0 = false) (hp : txState s.dev c b = 1)
    (hcur : (canOf s.dev c).cur ≠ some b.val) :
    ∃ d, Goes (exec (.canTxCancel i c b v) s) s d ∧ txState d c b = 4 ∧ d.can = s.dev.can
      ∧ fld d (CAN_TXBb_STATUS c b) 11 8 = fld s.dev (CAN_TXBb_STATUS c b) 11 8
      ∧ RegsExcept [CAN_TXBb_STATUS c b] s.dev d := by
  have hcancel : canCancel c b (respOk s.dev) = setTxState c b 4 (respOk s.dev) :=
    (if_neg (not_not_intro hp)).trans (if_neg hcur)
  refine ⟨_, goes_canTxCancel hs hw hv hcancel rfl, txState_setTxState (by decide) c b _, rfl, ?_, fun a ha => ?_⟩
  · exact fld_setFld_outside _ _ _ (by decide) (by decide) (by decide) (by decide)
  · exact rd_setFld_other 2 0 4 _ (by simpa using ha)

end Sys2Proof.Machine
end

section
/-! PROOF. What follows the end of a CAN attempt in the same command: the error counters and bus-off (R479, R480), and in
loopback the reception with the path to CSQ (R471, R482–R486). None of it takes back the STATE the buffer ended in. -/

namespace Sys2Proof.Machine

open Reg

/-! ## The relation -/

/-- What the rest of the command keeps once the attempt of buffer `b` of controller `c` has ended: a STATE other than
PENDING, what is in progress, and that every raising names a source and a DETAIL that exist. -/
structure KeepsEnd (c b : Nat) (d e : Dev) : Prop where
  state : txState d c b ≠ 1 → txState e c b = txState d c b
  cur : (canOf e c).cur = (canOf d c).cur
  raised : Bounded d.raised → Bounded e.raised

variable {c b : Nat}

theorem KeepsEnd.refl (d : Dev) : KeepsEnd c b d d := ⟨fun _ => rfl, rfl, id⟩

theorem KeepsEnd.trans {d e f : Dev} (h : KeepsEnd c b d e) (g : KeepsEnd c b e f) : KeepsEnd c b d f := by
  refine ⟨fun hd => ?_, g.cur.trans h.cur, fun hd => g.raised (h.raised hd)⟩
  have he := h.state hd
  exact (g.state (he ▸ hd)).trans he

/-- Units other than CAN change, no register does, and nothing is raised. -/
theorem KeepsEnd.of_unit {d e : Dev} (hregs : e.regs = d.regs) (hcan : e.can = d.can) (hraised : e.raised = d.raised) :
    KeepsEnd c b d e :=
  ⟨fun _ => by simp [txState, fld, rd, hregs], by simp [canOf, hcan], fun h => hraised ▸ h⟩

theorem keepsEnd_wr {a : Nat} (h : a ≠ CAN_TXBb_STATUS c b) (v : Word) (d : Dev) : KeepsEnd c b d (wr a v d) :=
  ⟨fun _ => by rw [txState, fld, rd_wr_other _ _ h.symm]; rfl, rfl, id⟩

theorem keepsEnd_setFld {a : Nat} (h : a ≠ CAN_TXBb_STATUS c b) (hi lo v : Nat) (d : Dev) :
    KeepsEnd c b d (setFld a hi lo v d) := keepsEnd_wr h _ d

theorem keepsEnd_setFlag {a : Nat} (h : a ≠ CAN_TXBb_STATUS c b) (i : Nat) (x : Bool) (d : Dev) :
    KeepsEnd c b d (setFlag a i x d) := keepsEnd_wr h _ d

theorem keepsEnd_incFld {a : Nat} (h : a ≠ CAN_TXBb_STATUS c b) (hi lo : Nat) (d : Dev) :
    KeepsEnd c b d (incFld a hi lo d) := keepsEnd_wr h _ d

/-- The registers of the units below CAN's windows are no transmit buffer's. -/
theorem ne_txStatus_of_lt {a : Nat} (h : a < 0x40b00000) : a ≠ CAN_TXBb_STATUS c b := by
  unfold CAN_TXBb_STATUS
  omega

/-- Nor are the registers of a controller that stand outside its transmit buffers, at offset `o` of its window. -/
theorem ne_txStatus_of_offset {k o : Nat} (hb : b < 3) (ho : o < 0x100 ∨ 0x800 ≤ o) (hw : o < 0x10000) :
    0x40b00000 + o + 0x10000 * k ≠ CAN_TXBb_STATUS c b := by
  unfold CAN_TXBb_STATUS
  intro h
  have hk : k = c := by omega
  omega

theorem keepsEnd_raise {k : Nat} (hk : k < 1024) (x : Nat) (d : Dev) : KeepsEnd c b d (raise k x d) := by
  refine ⟨fun _ => rfl, rfl, fun h r hr => ?_⟩
  rcases List.mem_append.1 hr with hr | hr
  · exact h r hr
  · rw [List.mem_singleton.1 hr]
    exact ⟨hk, Nat.mod_lt _ (by decide)⟩

theorem keepsEnd_modCan (k : Nat) {f : CanState → CanState} (h : ∀ x, (f x).cur = x.cur) (d : Dev) :
    KeepsEnd c b d (modCan k f d) := by
  refine ⟨fun _ => rfl, ?_, id⟩
  by_cases hk : c = k
  · subst hk
    by_cases hc : c < 4
    · rw [canOf_modCan hc, h]
    · simp [canOf, modCan, vset, hc]
  · rw [canOf, modCan, vget_vset_other _ _ hk]
    rfl

theorem KeepsEnd.ite {p : Prop} [Decidable p] {d e f : Dev} (h : KeepsEnd c b d e) (g : KeepsEnd c b d f) :
    KeepsEnd c b d (if p then e else f) := by
  split
  · exact h
  · exact g

theorem KeepsEnd.forEach {l : List Nat} {f : Nat → Dev → Dev} (h : ∀ i ∈ l, ∀ d, KeepsEnd c b d (f i d)) (d : Dev) :
    KeepsEnd c b d (forEach l f d) := by
  induction l generalizing d with
  | nil => exact .refl d
  | cons i r ih =>
    exact (h i List.mem_cons_self d).trans (ih (fun j hj => h j (List.mem_cons_of_mem _ hj)) (f i d))

/-! ## CSQ -/

theorem keepsEnd_modCsq (f : CsqState → CsqState) (d : Dev) : KeepsEnd c b d (modCsq f d) := .of_unit rfl rfl rfl

theorem keepsEnd_retGood (lo hi : Nat) (d : Dev) : KeepsEnd c b d (retGood lo hi d) := .of_unit rfl rfl rfl

theorem keepsEnd_modSlot {s : Nat} (hs : s < 16) (f : CsqSlot → CsqSlot) (d : Dev) : KeepsEnd c b d (modSlot s f d) :=
  (keepsEnd_modCsq _ d).trans (keepsEnd_setFld (ne_txStatus_of_lt (by unfold CSQ_SRCs_STATE; omega)) _ _ _ _)

theorem keepsEnd_setSlotState {s : Nat} (hs : s < 16) (v : Nat) (d : Dev) : KeepsEnd c b d (setSlotState s v d) :=
  keepsEnd_setFld (ne_txStatus_of_lt (by unfold CSQ_SRCs_STATE; omega)) _ _ _ d

theorem keepsEnd_setLastSeq {s : Nat} (hs : s < 16) (v : Word) (d : Dev) : KeepsEnd c b d (wr (CSQ_SRCs_LAST s) v d) :=
  keepsEnd_wr (ne_txStatus_of_lt (by unfold CSQ_SRCs_LAST; omega)) v d

theorem keepsEnd_twoCopies (lo hi dist : Nat) (d : Dev) : KeepsEnd c b d (twoCopies lo hi dist d).2 := by
  unfold twoCopies
  dsimp only
  split
  · exact .refl d
  · split
    · exact ((keepsEnd_retGood _ _ d).trans (keepsEnd_retGood _ _ _)).trans (keepsEnd_raise (by decide) _ _)
    · exact .refl d

theorem keepsEnd_slotResync {s : Nat} (hs : s < 16) (d : Dev) : KeepsEnd c b d (slotResync s d) :=
  (keepsEnd_modSlot hs _ d).trans (keepsEnd_setSlotState hs _ _)

theorem keepsEnd_logRead {s : Nat} (hs : s < 16) (i : Nat) (d : Dev) : KeepsEnd c b d (logRead i s d).2 := by
  unfold logRead
  refine (keepsEnd_twoCopies (0x2C000000 + 16 * i) (0x2C00000F + 16 * i) 0x1C000 d).trans ?_
  dsimp only
  split
  · exact .refl _
  · exact (keepsEnd_raise (by decide) _ _).trans (keepsEnd_slotResync hs _)

theorem keepsEnd_logPut (s path : Nat) (applied : Bool) (r : List Byte) (d : Dev) :
    KeepsEnd c b d (logPut s path applied r d) := by
  unfold logPut
  dsimp only
  exact (((keepsEnd_retGood _ _ d).trans (keepsEnd_retGood _ _ _)).trans (keepsEnd_modCsq _ _)).trans
    (keepsEnd_setFld (ne_txStatus_of_lt (by decide)) _ _ _ _)

theorem keepsEnd_applyRec (r : List Byte) (d : Dev) : KeepsEnd c b d (applyRec r d) := by
  have haxis : byteAt r 1 < 256 := BitVec.isLt _
  have hlast : CSQ_AXa_LAST (byteAt r 1 / 16) < 0x40b00000 := by
    unfold CSQ_AXa_LAST
    omega
  have hput : KeepsEnd c b d (putCmd (byteAt r 1 / 16) (recCmd r) d) := .of_unit rfl rfl rfl
  unfold applyRec
  exact (hput.trans (keepsEnd_wr (ne_txStatus_of_lt hlast) _ _)).trans (keepsEnd_modCsq _ _)

theorem keepsEnd_slotApplied {s : Nat} (hs : s < 16) (d : Dev) : KeepsEnd c b d (slotApplied s d) :=
  keepsEnd_modSlot hs _ d

/-- The log record of a held record is read before the record is applied. -/
def readHeld (s q : Nat) (d : Dev) : Bool × Dev :=
  match logFind d s q with
  | some l => logRead l.index s d
  | none => (true, d)

/-- A held record has been applied: it is held no longer, and the log marks it. -/
def unholdRec (s q : Nat) (d : Dev) : Dev :=
  let d := modSlot s (fun x => { x with held := x.held.filter (fun y => decide (y.1 ≠ q)) }) d
  match logFind d s q with
  | some l => logApplied l.index d
  | none => d

theorem keepsEnd_readHeld {s : Nat} (hs : s < 16) (q : Nat) (d : Dev) : KeepsEnd c b d (readHeld s q d).2 := by
  unfold readHeld
  split
  · exact keepsEnd_logRead hs _ d
  · exact .refl d

theorem keepsEnd_unholdRec {s : Nat} (hs : s < 16) (q : Nat) (d : Dev) : KeepsEnd c b d (unholdRec s q d) := by
  unfold unholdRec
  dsimp only
  split
  · exact (keepsEnd_modSlot hs _ d).trans (keepsEnd_modCsq _ _)
  · exact keepsEnd_modSlot hs _ d

/-- One round of applying held records: the next one, if it is held and its log record can be read, and then the rest. -/
theorem drainHeld_succ (n s : Nat) (d : Dev) :
    drainHeld (n + 1) s d = d ∨ ∃ q r, drainHeld (n + 1) s d = (readHeld s q d).2 ∨
      drainHeld (n + 1) s d =
        drainHeld n s (wr (CSQ_SRCs_LAST s) (wordOf q) (applyRec r (unholdRec s q (readHeld s q d).2))) := by
  cases hfind : (csqSlot d s).held.find? (fun h => decide (h.1 = (rd d (CSQ_SRCs_LAST s) + 1).toNat)) with
  | none => exact .inl (by simp only [drainHeld, hfind])
  | some h =>
    refine .inr ⟨(rd d (CSQ_SRCs_LAST s) + 1).toNat, h.2, ?_⟩
    cases hok : (readHeld s (rd d (CSQ_SRCs_LAST s) + 1).toNat d).1 with
    | false =>
      left
      simp only [drainHeld, hfind]
      exact if_neg (Bool.eq_false_iff.1 hok)
    | true =>
      right
      simp only [drainHeld, hfind]
      exact if_pos hok

theorem keepsEnd_drainHeld {s : Nat} (hs : s < 16) (n : Nat) (d : Dev) : KeepsEnd c b d (drainHeld n s d) := by
  induction n generalizing d with
  | zero => exact .refl d
  | succ n ih =>
    rcases drainHeld_succ n s d with h | ⟨q, r, h | h⟩
    · rw [h]
      exact .refl d
    · rw [h]
      exact keepsEnd_readHeld hs q d
    · rw [h]
      refine ((keepsEnd_readHeld hs q d).trans (keepsEnd_unholdRec hs q _)).trans ?_
      exact ((keepsEnd_applyRec r _).trans (keepsEnd_setLastSeq hs _ _)).trans (ih _)

/-- A record taken in order is logged, applied, and its SEQ is the slot's LAST. -/
theorem keepsEnd_take {s : Nat} (hs : s < 16) (path : Nat) (r : List Byte) (d : Dev) :
    KeepsEnd c b d (wr (CSQ_SRCs_LAST s) (wordOf (recSeq r)) (applyRec r (logPut s path true r d))) :=
  ((keepsEnd_logPut s path true r d).trans (keepsEnd_applyRec r _)).trans (keepsEnd_setLastSeq hs _ _)

theorem keepsEnd_csqSequence {s : Nat} (hs : s < 16) (path : Nat) (r : List Byte) (d : Dev) :
    KeepsEnd c b d (csqSequence s path r d).2 := by
  unfold csqSequence
  dsimp only
  split
  · exact ((keepsEnd_take hs path r d).trans (keepsEnd_setSlotState hs _ _)).trans (keepsEnd_slotApplied hs _)
  split
  · split
    · exact .refl d
    · split
      · exact keepsEnd_logRead hs _ d
      · split <;> exact keepsEnd_logRead hs _ d
  split
  · exact ((keepsEnd_take hs path r d).trans (keepsEnd_drainHeld hs 8 _)).trans (keepsEnd_slotApplied hs _)
  split
  · split
    · exact .refl d
    · dsimp only
      exact (keepsEnd_modSlot hs _ d).trans (keepsEnd_logPut s path false r _)
  · exact .refl d

theorem keepsEnd_countResult (result : Nat) (s : Option Nat) (d : Dev) : KeepsEnd c b d (countResult result s d) := by
  have hcount : ∀ a < 0x40b00000, ∀ hi lo, KeepsEnd c b d (incFld a hi lo d) :=
    fun a ha hi lo => keepsEnd_incFld (ne_txStatus_of_lt ha) hi lo d
  unfold countResult
  refine KeepsEnd.trans ?_ (.ite (keepsEnd_raise (by decide) _ _) (.refl _))
  exact .ite (hcount _ (by decide) _ _) (.ite (hcount _ (by decide) _ _) (.ite (hcount _ (by decide) _ _) (.refl d)))

theorem keepsEnd_answer (s path src result seq : Nat) (sender : Sender) (d : Dev) :
    KeepsEnd c b d (answer s path src result seq sender d).2 := by
  have hdrop : KeepsEnd c b d (dropBatch s path d) := keepsEnd_modCsq _ d
  have hput : ∀ x : AckBatch, KeepsEnd c b d (modCsq (fun q => { q with batches := q.batches ++ [x] }) (dropBatch s path d)) :=
    fun _ => hdrop.trans (keepsEnd_modCsq _ _)
  unfold answer
  dsimp only
  split
  · exact .refl d
  split
  · split
    · exact hdrop
    · exact .refl d
  split
  · split
    · split
      · exact hdrop
      · exact hput _
    · exact hput _
  · exact hput _

theorem slotOf_lt {d : Dev} {id s : Nat} (h : slotOf d id = some s) : s < 16 :=
  List.mem_range.1 (List.mem_of_find?_eq_some h)

theorem keepsEnd_csqRecord (path : Nat) (sender : Sender) (r : List Byte) (d : Dev) :
    KeepsEnd c b d (csqRecord path sender r d).2 := by
  unfold csqRecord
  split
  · exact (keepsEnd_incFld (ne_txStatus_of_lt (by decide)) _ _ d).trans (keepsEnd_raise (by decide) _ _)
  dsimp only
  split
  · exact keepsEnd_countResult 4 none d
  next s hslot =>
    have hs := slotOf_lt hslot
    split
    · exact keepsEnd_countResult 4 none d
    refine KeepsEnd.trans ?_ (keepsEnd_answer _ _ _ _ _ _ _)
    refine KeepsEnd.trans ?_ (keepsEnd_countResult _ _ _)
    split
    · exact .refl d
    split
    · exact .refl d
    split
    · exact .refl d
    · exact keepsEnd_csqSequence hs path r d

/-! ## Reception and the error counters -/

theorem keepsEnd_canAck (hb : b < 3) (k : Nat) (r : List Byte) (d : Dev) : KeepsEnd c b d (canAck k r d) := by
  unfold canAck
  split
  · exact .refl d
  split
  · exact (keepsEnd_incFld (ne_txStatus_of_offset (o := 0x20) hb (by decide) (by decide)) _ _ d).trans
      (keepsEnd_raise (by decide) _ _)
  · exact keepsEnd_modCan k (f := fun x => { x with acks := x.acks ++ [r] }) (fun _ => rfl) d

theorem keepsEnd_sendAcks (hb : b < 3) {path : Nat} (hp : path < 4) (sender : Sender) (acks : List (List Byte)) (d : Dev) :
    KeepsEnd c b d (sendAcks path sender acks d) := by
  rw [sendAcks, if_pos hp]
  induction acks generalizing d with
  | nil => exact .refl d
  | cons r rs ih => exact (keepsEnd_canAck hb path r d).trans (ih _)

theorem keepsEnd_canToCsq (hb : b < 3) {k : Nat} (hk : k < 4) (fr : CanFrame) (d : Dev) :
    KeepsEnd c b d (canToCsq k fr d) := by
  unfold canToCsq
  split
  · unfold axisCommand
    split
    · exact .refl d
    · exact (keepsEnd_csqRecord _ _ _ d).trans (keepsEnd_sendAcks hb hk _ _ _)
  · exact (keepsEnd_incFld (ne_txStatus_of_offset (o := 0x20) hb (by decide) (by decide)) _ _ d).trans
      (keepsEnd_raise (by decide) _ _)

/-- A register of slot `s` of the receive FIFO is written. -/
theorem keepsEnd_wr_slot (hb : b < 3) (k : Nat) {s o : Nat} (hs : s < 64) (ho : o < 0x50) (v : Word) (d : Dev) :
    KeepsEnd c b d (wr (0x40b01000 + o + 0x10000 * k + 0x50 * s) v d) := by
  have ha : 0x40b01000 + o + 0x10000 * k + 0x50 * s = 0x40b00000 + (0x1000 + o + 0x50 * s) + 0x10000 * k := by omega
  rw [ha]
  exact keepsEnd_wr (ne_txStatus_of_offset hb (.inr (by omega)) (by omega)) v d

theorem keepsEnd_fifoStore (hb : b < 3) (k : Nat) {s : Nat} (hs : s < 64) (filter : Nat) (fr : CanFrame) (sof : Nat)
    (d : Dev) : KeepsEnd c b d (fifoStore k s filter fr sof d) := by
  have hdata : ∀ j ∈ List.range 16, ∀ d, KeepsEnd c b d (wr (CAN_RXs_DATA k s j) (wordOf (le32 fr.data (4 * j))) d) := by
    intro j hj d
    have hj16 : j < 16 := List.mem_range.1 hj
    have ha : CAN_RXs_DATA k s j = 0x40b01000 + (0x10 + 4 * j) + 0x10000 * k + 0x50 * s := by
      unfold CAN_RXs_DATA
      omega
    rw [ha]
    exact keepsEnd_wr_slot hb k hs (by omega) _ d
  unfold fifoStore
  refine (KeepsEnd.forEach hdata d).trans ?_
  have hslot : ∀ o < 0x50, ∀ v d, KeepsEnd c b d (wr (0x40b01000 + o + 0x10000 * k + 0x50 * s) v d) :=
    fun o ho v d => keepsEnd_wr_slot hb k hs ho v d
  exact (((hslot 8 (by decide) _ _).trans (hslot 0xC (by decide) _ _)).trans (hslot 4 (by decide) _ _)).trans
    (hslot 0 (by decide) _ _)

theorem keepsEnd_fifoPut (hb : b < 3) (k filter : Nat) (fr : CanFrame) (sof : Nat) (d : Dev) :
    KeepsEnd c b d (fifoPut k filter fr sof d) := by
  have hget : fld d (CAN_RXF_STATUS k) 21 16 < 64 := Nat.mod_lt _ (by decide)
  have hstatus : CAN_RXF_STATUS k ≠ CAN_TXBb_STATUS c b :=
    ne_txStatus_of_offset (o := 0x804) hb (by decide) (by decide)
  have hflags : CAN_STATUS k ≠ CAN_TXBb_STATUS c b := ne_txStatus_of_offset (o := 0x10) hb (by decide) (by decide)
  unfold fifoPut
  dsimp only
  split
  · exact (keepsEnd_fifoStore hb k (Nat.mod_lt _ (by decide)) filter fr sof d).trans (keepsEnd_setFld hstatus _ _ _ _)
  · refine KeepsEnd.trans ?_
      (.ite ((keepsEnd_fifoStore hb k hget filter fr sof _).trans (keepsEnd_setFld hstatus _ _ _ _)) (.refl _))
    exact ((keepsEnd_incFld hstatus _ _ d).trans (keepsEnd_setFlag hflags _ _ _)).trans (keepsEnd_raise (by decide) _ _)

theorem keepsEnd_canAccept (hb : b < 3) {k : Nat} (hk : k < 4) (fr : CanFrame) (sof : Nat) (d : Dev) :
    KeepsEnd c b d (canAccept k fr sof d) := by
  unfold canAccept
  split
  · split
    · exact keepsEnd_fifoPut hb k 0 fr sof d
    · exact .refl d
  · refine KeepsEnd.trans ?_ (.ite (keepsEnd_canToCsq hb hk fr _) (.refl _))
    exact .ite (keepsEnd_fifoPut hb k _ fr sof d) (.refl d)

/-- A flush is of PENDING buffers alone. -/
theorem keepsEnd_canFlush (k : Nat) (d : Dev) : KeepsEnd c b d (canFlush k d) := by
  refine KeepsEnd.forEach (fun j _ d => ?_) d
  split
  next hpend =>
    by_cases hself : CAN_TXBb_STATUS k j = CAN_TXBb_STATUS c b
    · have hpend' : txState d c b = 1 := by rwa [txState, ← hself]
      exact ⟨fun h => absurd hpend' h, rfl, id⟩
    · exact keepsEnd_setFld hself _ _ _ d
  next => exact .refl d

theorem keepsEnd_setErrors (hb : b < 3) (k tec rec_ : Nat) (d : Dev) : KeepsEnd c b d (setErrors k tec rec_ d) := by
  have hcount : CAN_ERRCNT k ≠ CAN_TXBb_STATUS c b := ne_txStatus_of_offset (o := 0x14) hb (by decide) (by decide)
  have hflags : CAN_STATUS k ≠ CAN_TXBb_STATUS c b := ne_txStatus_of_offset (o := 0x10) hb (by decide) (by decide)
  have hbase : ∀ passive warning, KeepsEnd c b d (setFlag (CAN_STATUS k) 0 warning (setFlag (CAN_STATUS k) 1 passive
      (setFld (CAN_ERRCNT k) 23 16 (Nat.min 255 rec_) (setFld (CAN_ERRCNT k) 8 0 (Nat.min 511 tec) d)))) := fun _ _ =>
    (((keepsEnd_setFld hcount _ _ _ d).trans (keepsEnd_setFld hcount _ _ _ _)).trans
      (keepsEnd_setFlag hflags _ _ _)).trans (keepsEnd_setFlag hflags _ _ _)
  unfold setErrors
  refine KeepsEnd.trans ((hbase _ _).trans (.ite (keepsEnd_raise (by decide) k _) (.refl _))) (.ite ?_ (.refl _))
  refine KeepsEnd.trans ?_ (.ite (keepsEnd_setFlag hflags 3 true _) (.refl _))
  refine KeepsEnd.trans ?_ (.ite (keepsEnd_canFlush k _) (.refl _))
  exact ((keepsEnd_setFlag hflags _ _ _).trans (keepsEnd_setFlag hflags _ _ _)).trans (keepsEnd_raise (by decide) _ _)

end Sys2Proof.Machine
end

section
/-! PROOF. The end of a CAN attempt with a cancel outstanding (R473, R477, R478), and the obligation. -/

namespace Sys2Proof.Machine

open Reg

/-! ## The end of an attempt -/

/-- An attempt of `b` is over: a measured transmitter delay is shown, and nothing is in progress. -/
def attemptDone (c b delay : Nat) (d : Dev) : Dev :=
  modCan c (fun x => { x with cur := none })
    (if (attemptFrame d c b).fdf && flag d (CAN_TDC c) 31 then setFld (CAN_TDC c) 22 16 (Nat.min 127 delay) d else d)

theorem canOf_attemptDone {c : Nat} (hc : c < 4) (b delay : Nat) (d : Dev) :
    canOf (attemptDone c b delay d) c = { canOf d c with cur := none } := by
  rw [attemptDone, canOf_modCan hc]
  split <;> rfl

theorem canBuf_attemptDone {c : Nat} (hc : c < 4) (b delay : Nat) (d : Dev) :
    canBuf (attemptDone c b delay d) c b = canBuf d c b := by
  rw [canBuf, canOf_attemptDone hc]
  rfl

theorem attemptDone_raised (c b delay : Nat) (d : Dev) : (attemptDone c b delay d).raised = d.raised := by
  rw [attemptDone, modCan_raised]
  split <;> rfl

/-- The end of an attempt that failed. -/
theorem attemptEnd_failed {d : Dev} {c b : Nat} (hcur : (canOf d c).cur = some b) (hb : b < 3) {r : CanResult}
    (hr : r ≠ .sent) (tec rec_ delay : Nat) :
    attemptEnd c r tec rec_ delay d = setErrors c tec rec_ (attemptFailed c b (attemptDone c b delay d)) := by
  simp [attemptEnd, hcur, hb, hr, attemptDone]

/-- The state after an attempt of buffer `b` that was sent, before a loopback reception: SENT, or SENT_CANCEL_LATE. -/
def attemptSent (c b tec rec_ delay : Nat) (d : Dev) : Dev :=
  setErrors c tec rec_ (setTxState c b (if (canBuf d c b).cancel then 3 else 2) (attemptDone c b delay d))

/-- The end of a buffer's attempt that was sent, the transmitter delay being in order where it is measured. -/
theorem attemptEnd_sent {d : Dev} {c b : Nat} (hc : c < 4) (hcur : (canOf d c).cur = some b) (hb : b < 3) {delay : Nat}
    (h : flag d (CAN_TDC c) 31 = false ∨ flag d (CAN_TXBb_CTRL c b) 10 = false ∨ delay ≤ 127) (tec rec_ : Nat) :
    attemptEnd c .sent tec rec_ delay d =
      if fld (attemptSent c b tec rec_ delay d) (CAN_CTRL c) 29 28 = 2 then
        canAccept c (attemptFrame d c b) (canOf d c).sof (attemptSent c b tec rec_ delay d)
      else attemptSent c b tec rec_ delay d := by
  have hfdf : (attemptFrame d c b).fdf = flag d (CAN_TXBb_CTRL c b) 10 := by
    rw [attemptFrame, if_pos hb]
    rfl
  have hok : ((attemptFrame d c b).fdf && flag d (CAN_TDC c) 31 && decide (127 < delay)) = false := by
    rw [hfdf]
    rcases h with h | h | h
    · simp [h]
    · simp [h]
    · simp [Nat.not_lt.2 h]
  rw [attemptSent, ← canBuf_attemptDone hc b delay d]
  simp [attemptEnd, hcur, hok, hb, attemptDone]

theorem keepsEnd_attemptEnd_sent {d : Dev} {c b : Nat} (hc : c < 4) (hcur : (canOf d c).cur = some b) (hb : b < 3)
    {delay : Nat} (h : flag d (CAN_TDC c) 31 = false ∨ flag d (CAN_TXBb_CTRL c b) 10 = false ∨ delay ≤ 127)
    (tec rec_ : Nat) :
    KeepsEnd c b (setTxState c b (if (canBuf d c b).cancel then 3 else 2) (attemptDone c b delay d))
      (attemptEnd c .sent tec rec_ delay d) := by
  rw [attemptEnd_sent hc hcur hb h]
  exact (keepsEnd_setErrors hb c tec rec_ _).trans (.ite (keepsEnd_canAccept hb hc _ _ _) (.refl _))

/-- A failed attempt with a cancel outstanding ends the buffer, whatever RETRY says. -/
theorem attemptFailed_cancel {d : Dev} {c b : Nat} (h : (canBuf d c b).cancel = true) :
    attemptFailed c b d = setTxState c b 4 (modBuf c b (fun x => { x with cancel := false }) d) :=
  if_pos h

/-! ## FCR's handling of what the command raised -/

theorem canOf_settle (d : Dev) (c : Nat) : canOf (settle d) c = canOf d c := by
  have hcan : (settle d).can = d.can := (settle_low d).1.can
  rw [canOf, hcan, canOf]

theorem reactionTouches_txStatus {c b : Nat} (hc : c < 4) (hb : b < 3) :
    reactionTouches (CAN_TXBb_STATUS c b) = false := by
  have hwindow : CAN_TXBb_STATUS c b / 0x10000 = 0x40b0 + c := by
    unfold CAN_TXBb_STATUS
    omega
  have hlow : CAN_TXBb_STATUS c b < 0x50000000 := by
    unfold CAN_TXBb_STATUS
    omega
  simp only [reactionTouches, decide_eq_false_iff_not, hwindow]
  omega

theorem txState_settle {d : Dev} {c b : Nat} (hc : c < 4) (hb : b < 3) (h : Bounded d.raised) :
    txState (settle d) c b = txState d c b := by
  rw [txState, fld, (settle_frame h).regs _ (reactionTouches_txStatus hc hb)]
  rfl

/-- A command that ends the attempt of buffer `b` in `e`, with STATE `v`, and then keeps that end, answers a state with it. -/
theorem act_of_keepsEnd {s : State} {c b v : Nat} {f : Dev → Dev} {e : Dev} (hs : Acts s) (hc : c < 4) (hb : b < 3)
    (hv : v < 8) (hv1 : v ≠ 1) (hf : KeepsEnd c b (setTxState c b v e) (f s.dev)) (hcur : (canOf e c).cur = none)
    (hr : e.raised = s.dev.raised) :
    ∃ t, act s f = .next t ∧ txState t.dev c b = v ∧ (canOf t.dev c).cur = none := by
  have hv' := txState_setTxState hv c b e
  have hbound : Bounded (f s.dev).raised := by
    refine hf.raised fun r hr' => ?_
    rw [setTxState, setFld_raised, hr, hs.2] at hr'
    cases hr'
  refine ⟨_, act_of_acts hs f, ?_, ?_⟩
  · rw [withDev_dev, txState_settle hc hb hbound, hf.state (hv'.symm ▸ hv1), hv']
  · rw [withDev_dev, canOf_settle, hf.cur, canOf_setTxState, hcur]

/-- With a cancel outstanding an attempt that is sent ends in SENT_CANCEL_LATE. -/
theorem exec_canAttemptEnd_sent_cancel {s : State} {c : Fin 4} {b : Fin 3} {delay : Nat} (hs : Acts s)
    (hcur : (canOf s.dev c).cur = some b.val) (hcancel : (canBuf s.dev c b).cancel = true)
    (h : flag s.dev (CAN_TDC c) 31 = false ∨ flag s.dev (CAN_TXBb_CTRL c b) 10 = false ∨ delay ≤ 127) (tec rec_ : Nat) :
    ∃ t, exec (.canAttemptEnd c .sent tec rec_ delay) s = .next t ∧ txState t.dev c b = 3
      ∧ (canOf t.dev c).cur = none := by
  have hkeep := keepsEnd_attemptEnd_sent c.isLt hcur b.isLt h tec rec_
  rw [hcancel] at hkeep
  refine act_of_keepsEnd hs c.isLt b.isLt (by decide) (by decide) hkeep ?_ (attemptDone_raised ..)
  rw [canOf_attemptDone c.isLt]

/-- With a cancel outstanding an attempt that fails ends in CANCELLED. -/
theorem exec_canAttemptEnd_failed_cancel {s : State} {c : Fin 4} {b : Fin 3} {r : CanResult} (hs : Acts s)
    (hcur : (canOf s.dev c).cur = some b.val) (hcancel : (canBuf s.dev c b).cancel = true) (hr : r ≠ .sent)
    (tec rec_ delay : Nat) :
    ∃ t, exec (.canAttemptEnd c r tec rec_ delay) s = .next t ∧ txState t.dev c b = 4 ∧ (canOf t.dev c).cur = none := by
  have hrun : KeepsEnd c b (setTxState c b 4 (modBuf c b (fun x => { x with cancel := false })
      (attemptDone c b delay s.dev))) (attemptEnd c r tec rec_ delay s.dev) := by
    rw [attemptEnd_failed hcur b.isLt hr, attemptFailed_cancel ((canBuf_attemptDone c.isLt b delay _).symm ▸ hcancel)]
    exact keepsEnd_setErrors b.isLt c tec rec_ _
  refine act_of_keepsEnd hs c.isLt b.isLt (by decide) (by decide) hrun ?_ (attemptDone_raised ..)
  rw [canOf_modBuf c.isLt, canOf_attemptDone c.isLt]

/-! ## The obligation -/

/-- Settles O53: what may start and what is chosen (`nextAttempt`), the write of CANCEL by the buffer's STATE, and that what
follows the end of an attempt keeps the STATE it ended in. -/
theorem canArbitrationAndCancel : Obligations.CanArbitrationAndCancel := by
  refine ⟨?_, ?_, ?_, ?_⟩
  · intro s c hs h
    refine goes_canArbitration_idle hs ?_
    rcases h with h | h | h | h | h | ⟨hidle, hacks⟩
    · exact .inl fun ⟨hj, _⟩ => by simp [hj] at h
    · exact .inl fun ⟨_, hl, _⟩ => by simp [hl] at h
    · exact .inl fun ⟨_, _, hc, _⟩ => h hc
    · exact .inl fun ⟨_, _, _, ho, _⟩ => by simp [ho] at h
    · exact .inl fun ⟨_, _, _, _, hm⟩ => hm h
    · exact .inr (nextAttempt_of_idle hidle hacks)
  · intro s c hs hj hl hc ho hm
    have hmay : mayStart s.dev c := ⟨hj, hl, hc, ho, hm⟩
    exact ⟨fun _ hsel ha => goes_canArbitration_buffer hs hmay hsel ha,
      fun hen hacks hkey => goes_canArbitration_slot hs hmay (nextAttempt_ack hen hacks hkey)⟩
  · intro s i c b v hs hw hv
    exact ⟨fun hp => goes_canTxCancel hs hw hv (if_pos hp) rfl,
      fun hp hcur => goes_canTxCancel hs hw hv ((if_neg (not_not_intro hp)).trans (if_pos hcur)) rfl,
      fun hp hcur => goes_canTxCancel_waiting hs hw hv hp hcur⟩
  · intro s c b tec rec_ delay hs hcur hcancel
    exact ⟨fun h => exec_canAttemptEnd_sent_cancel hs hcur hcancel h tec rec_,
      fun _ hr => exec_canAttemptEnd_failed_cancel hs hcur hcancel hr tec rec_ delay⟩

end Sys2Proof.Machine
end
